-- ==== Sys2Proof/Word.lean ====
section
/-! DEFINITION. The words of the HNV-192: what the manual treats as bits. -/

namespace Sys2Proof

/-- A register, command or instruction word (02 R55). -/
abbrev Word := BitVec 32

/-- One byte; multi-byte quantities are little-endian (00 R11). -/
abbrev Byte := BitVec 8

/-- A vector register of a reduction engine (09 R314). -/
abbrev Vec := BitVec 128

/-- A lease token (03 R95). -/
abbrev Token := BitVec 64

/-- A time stamp: bit 0 is 2^-16 ns (11 R375). It is compared modulo 2^48 only (11 R376). -/
abbrev TS48 := BitVec 48

/-- A master M0 to M7 (00 R14). -/
abbrev Master := Fin 8

end Sys2Proof
end

