-- ==== Sys2Proof/Syntax.lean ====
section
/-! DEFINITION. The commands of the HNV-192: what acts on the part from outside (register accesses, messages, pins, measured
quantities) and the events of its own sequencers, one constructor per row of the opcode table. An operand that the part
measures (a converter code, an interpolator voltage) is what the analogue side presents at that event. -/

namespace Sys2Proof

/-! Numbers of the repeated units (00 R14). -/

abbrev Ch := Fin 192
abbrev Eng := Fin 192
abbrev Isl := Fin 12
abbrev PortN := Fin 4
abbrev LaneN := Fin 16
abbrev EmN := Fin 8
abbrev PfN := Fin 4
abbrev QueueN := Fin 4096
abbrev StrmN := Fin 64
/-- A managed bank (17 R556). -/
abbrev BankN := Fin 208

/-- The Strait that a command names (01 R31): the inbound Strait of an Island, or the input or output Strait of an
engine. -/
inductive StraitSel where
  | inbound (i : Isl)
  | engineIn (e : Eng)
  | engineOut (e : Eng)
  deriving DecidableEq, Repr

/-- A read as a master's bus carries it: address and byte enables (02 R55). -/
structure BusRead where
  addr : BitVec 26
  be : BitVec 4
  deriving DecidableEq, Repr

/-- The voted fields of one copy of Quartz, as the voter sees them (14 R463). -/
structure QCopy where
  sec : BitVec 48
  ns : BitVec 30
  frac : Word
  inc : BitVec 36
  deriving DecidableEq, Repr

/-- The strapped pins (20 R629). -/
structure Straps where
  bootSrc : BitVec 2
  pcieEn : Bool
  domainHead : Bool
  trefSel : BitVec 2
  deriving DecidableEq, Repr

/-- The commands of the HNV-192: one constructor per row of the opcode table. -/
inductive Instr where
  /-- A write to a register that has no row of its own is judged by the checks of R60 and committed, dropped or ignored. (R60) -/
  | registerWrite (m : Master) (a : BitVec 26) (d : Word) (be : BitVec 4)
  /-- A write to a SET, CLR or TGL alias page sets, clears or inverts the matching bits of RW, unlocked RWL and PST fields. (R51) -/
  | aliasWrite (m : Master) (a : BitVec 26) (d : Word) (be : BitVec 4)
  /-- A read of the LO register of a 64-bit pair copies the pair's HI into the master's read latch for the page. (R57) -/
  | pairLoRead (m : Master) (r : BusRead)
  /-- A write to the LO register of a 64-bit pair is staged for its master and changes nothing yet. (R58) -/
  | pairLoWrite (m : Master) (a : BitVec 26) (d : Word)
  /-- A write to the HI register of a 64-bit pair commits the staged LO and the new HI in one cycle. (R58) -/
  | pairHiWrite (m : Master) (a : BitVec 26) (d : Word)
  /-- A write to a SEQ event register clears every flag when its sequence number matches, and is otherwise ignored. (R63) -/
  | eventClear (m : Master) (a : BitVec 26) (d : Word)
  /-- A software write to a CNT register loads the count, adds any coincident increment, and clears ovf unless an overflow coincides. (R72) -/
  | counterWrite (m : Master) (a : BitVec 26) (d : Word)
  /-- The effect of an accepted PST write is in place and the page's busy bit clears. (R66) -/
  | postedWriteDone (a : BitVec 26)
  /-- The first write of a guarded pair becomes the device's one pending guarded write. (R68) -/
  | guardFirstWrite (m : Master) (a : BitVec 26) (d : Word)
  /-- A write to A + 4 commits the pending guarded value when it is its complement from the same master with no intervening write to the block. (R68) -/
  | guardSecondWrite (m : Master) (a : BitVec 26) (d : Word)
  /-- A pending guarded first write with no second write within 100 µs is discarded as a guard failure. (R69) -/
  | guardTimeout
  /-- Writing 1 to bit 0 of a page's lock register locks every RWL field of the page. (R70) -/
  | lockWrite (m : Master) (a : BitVec 26) (d : Word)
  /-- Writing 1 to REGCTL_SNAP.take triggers one Slate snapshot. (R658) -/
  | regctlSnapTake (m : Master) (d : Word)
  /-- A complete management SPI frame performs one 32-bit register read or write as master M4 and returns a status byte. (R75) -/
  | mgmtSpiFrame (mosi : List Byte)
  /-- An SPI access not completed within 256 wait bytes is abandoned with status 0x83 TIMEOUT. (R76) -/
  | spiAccessTimeout (mosi : List Byte)
  /-- A write to CMD_SQ_PORT[m] stores one word into the slot at the tail and advances the word offset. (R81) -/
  | sqPortWrite (m : Master) (q : Master) (d : Word)
  /-- A write to CMD_DOORBELL[m] submits the entries up to the new tail when the tail is acceptable. (R82) -/
  | doorbell (m : Master) (q : Master) (d : Word)
  /-- A write to CMD_RP_HEAD[m] frees reply entries, and a master paused on a full reply ring resumes starting commands. (R85) -/
  | rpHeadWrite (m : Master) (q : Master) (d : Word)
  /-- Command DEV_INFO returns the device identity, revision, ID, lifecycle, flags, firmware version, uptime and serial. (R93) -/
  | devInfo (m : Master)
  /-- Command DEV_RESET replies OK and schedules a warm or cold start 1 ms later. (R647) -/
  | devReset (m : Master)
  /-- 1 ms after the OK of DEV_RESET the requested start begins. (R647) -/
  | devResetStart
  /-- Command SNAP_TAKE triggers a Slate and replies with its tick and number. (R664) -/
  | snapTake (m : Master)
  /-- Command OWN_CLAIM grants ownership when free, renews the owner's lease, refuses, or leaves a waiting claim. (R96) -/
  | ownClaim (m : Master)
  /-- Command OWN_RENEW restarts the owner's lease and returns the remaining lease. (R99) -/
  | ownRenew (m : Master)
  /-- Command OWN_RELEASE frees ownership and sets OWN_EVT.released. (R99) -/
  | ownRelease (m : Master)
  /-- Command OWN_HANDOVER names a successor master that becomes owner at the next command boundary. (R101) -/
  | ownHandover (m : Master)
  /-- Command OWN_QUERY returns the owner, priority, waiting claims, remaining lease, token and change count. (R104) -/
  | ownQuery (m : Master)
  /-- A waiting claim still waiting wait_ms after its PENDING reply is answered TIMEOUT. (R97) -/
  | claimWaitTimeout (m : Master)
  /-- A lease that runs out without renewal frees ownership and sets OWN_EVT.expired. (R100) -/
  | leaseExpiry
  /-- At the first command boundary after ownership becomes free, the highest-priority earliest waiting claim is granted. (R98) -/
  | ownershipGrant
  /-- At the next command boundary after OWN_HANDOVER the successor becomes owner with a new token, or ownership becomes free if it is absent. (R101) -/
  | handoverComplete
  /-- At the next command boundary after M4 commits OWN_FORCE with key 0xA5, M4 becomes owner with a new token. (R102) -/
  | forcedTakeover
  /-- A VC0 COMMAND message is forwarded toward its target or executed there as master M5. (R106) -/
  | command (p : PortN)
  /-- A VC0 REPLY message is forwarded, or at the originating device placed in the submitting master's reply ring. (R108) -/
  | reply (p : PortN)
  /-- A forwarded command without a final reply within CMD_FWD_TIMEOUT gets a TIMEOUT reply for each missing target. (R109) -/
  | forwardTimeout
  /-- Command CH_CONFIGURE writes selected front-end registers of selected channels, optionally at one tick. (R155) -/
  | chConfigure (m : Master)
  /-- Command CH_READ returns a channel's last valid value, flags, settings, excitation measurement and last vibrating-wire result. (R158) -/
  | chRead (m : Master)
  /-- A ball beyond its clamp threshold for 50 ns sets clamp flags and marks samples in the excursion CLAMPED. (R122) -/
  | clampDetect (c : Ch) (ball : Fin 4) (age : BitVec 8)
  /-- A settling window ends after D × (delay + L) ticks and channel outputs become valid again. (R127) -/
  | settleEnd (c : Ch)
  /-- A write of CH_EXC_CTRL.enable = 1 starts excitation, or is held as ENABLE_PENDING during a discharge. (R138) -/
  | excEnable (c : Ch)
  /-- A write of CH_EXC_CTRL.enable = 0 ends a running pulse at once and discharges to OFF, or cancels a pending enable. (R137) -/
  | excDisable (c : Ch)
  /-- An excitation pulse starts at its period, applying pending settings and the governor stretch. (R132) -/
  | excPulseStart (c : Ch)
  /-- At the trailing edge of a pulse the driver discharges the excitation pair toward 0 V. (R133) -/
  | excPulseEnd (c : Ch) (mv : BitVec 16) (ua : BitVec 16)
  /-- The discharge completes and the excitation state goes to OFF, IDLE, or takes a pending enable. (R138) -/
  | excDischargeDone (c : Ch)
  /-- A channel-timer event starts a conversion run under TIMER after CH_CONV_DELAY ticks. (R134) -/
  | channelTimer (c : Ch)
  /-- A conversion run starts, restarting the decimator and ending any run in progress with overlap. (R135) -/
  | convRunStart (c : Ch)
  /-- 2 µs after a leading edge the monitor compares the sensed excitation sign with the pulse polarity and flags reversed wiring. (R140) -/
  | reversedCheck (c : Ch) (sense : BitVec 17)
  /-- The vibrating-wire drive sweep ends and the driver releases to high impedance. (R141) -/
  | vwSweepEnd (c : Ch) (mv : BitVec 16) (ua : BitVec 16)
  /-- After the listen delay the listen gate opens and the LO discriminator counts the coil signal. (R141) -/
  | vwListenStart (c : Ch)
  /-- At the end of the listen gate the channel emits one FREQ record with the wire's frequency and period. (R142) -/
  | vwGateEnd (c : Ch)
  /-- Driver current at the 30 mA limit is detected as a short, limiting current and marking results SUSPECT. (R144) -/
  | excShortDetect (c : Ch)
  /-- After 10 µs at the current limit the driver folds back to 5 mA for the rest of the pulse. (R144) -/
  | excShortFoldback (c : Ch)
  /-- Excitation current too low for the mode is detected as an open and marks results. (R144) -/
  | excOpenDetect (c : Ch)
  /-- An input in the rail band for 1 µs with rail detection enabled is detected as an open wire. (R144) -/
  | railDetect (c : Ch)
  /-- An open-test step switches the channel to OPEN_TEST for 4 µs every interval × 100 µs. (R146) -/
  | openTestStep (c : Ch)
  /-- The open-test step ends, judges the mean of the last 2 µs and returns to the previous source. (R146) -/
  | openTestReturn (c : Ch) (bad : Bool)
  /-- Every 10 ms the excitation governor computes P_req and sets the period stretch factor. (R150) -/
  | excGovernor
  /-- A group of D converter samples completes and its corrected output sample leaves the format stage to its consumers. (R160) -/
  | groupOutput (c : Ch) (codes : List (BitVec 12))
  /-- A change of divider or decimation takes effect at a multiple of the new D and restarts the divider and decimator. (R161) -/
  | dividerRestart (c : Ch)
  /-- Every 2^20 converter samples the background calibration updates its stage weights, or pauses. (R164) -/
  | bgcalUpdate (c : Ch) (first : BitVec 16) (rest : List (BitVec 16))
  /-- Writing 1 to CH_BGCAL_CTRL.restart restarts convergence from the stored start-up weights. (R184) -/
  | bgcalRestart (c : Ch)
  /-- The decimation chain produces a SLOW output, discarded when inside a window or restart. (R175) -/
  | slowOutput (c : Ch)
  /-- Command CH_CALIBRATE starts offset and gain calibration on selected channels and gains and replies PENDING. (R187) -/
  | chCalibrate (m : Master)
  /-- A calibration measurement completes its average and the next measurement or gain step follows. (R189) -/
  | calMeasureDone (c : Ch) (ph : Fin 4)
  /-- Calibration ends, the channel restores its source and gain, and the final reply is written. (R192) -/
  | chCalibrateDone
  /-- Writing 1 to HK_CTRL.sw_start with src 3 triggers a housekeeping scan. (R195) -/
  | hkSwStart (m : Master) (d : Word)
  /-- The housekeeping timer expires and triggers a scan. (R195) -/
  | hkTimerExpiry
  /-- A housekeeping trigger is accepted, queued or dropped as an overrun. (R196) -/
  | hkTrigger
  /-- A scan starts HK_DELAY after its trigger or after the current scan or system conversion. (R195) -/
  | hkScanStart
  /-- One housekeeping input conversion of a scan completes after 1 µs. (R194) -/
  | hkConversion (code : BitVec 12)
  /-- A scan ends, writes HK_DATA, checks limits and emits an HK record when enabled. (R198) -/
  | hkScanEnd
  /-- Every 20 µs the converter takes one system conversion of HK0–HK23 in rotation. (R197) -/
  | hkSystemConversion (code : BitVec 12)
  /-- A discriminator switch changes and the edge is assigned to an interpolator for timestamping. (R203) -/
  | discEdge (c : Ch) (k : Fin 2) (lead : Bool) (frac : BitVec 10)
  /-- Three ticks after an edge the qualifier joins pulses, marks runts or passes the edge. (R207) -/
  | edgeQualify (c : Ch) (k : Fin 2)
  /-- An interpolator's fine code is ready and its re-arm sequence begins. (R211) -/
  | micaMeasureDone (c : Ch) (k : Fin 4) (v : BitVec 10)
  /-- A re-arm sequence ends and the interpolator is ARMED, repeats, or enters FAULT after four span failures. (R213) -/
  | micaRearmDone (c : Ch) (k : Fin 4) (v1 : BitVec 10) (v2 : BitVec 10)
  /-- An ARMED interpolator whose V2 is 256 ticks old runs its re-arm sequence again. (R214) -/
  | micaRefresh (c : Ch) (k : Fin 4)
  /-- A HIT record is built once its fine time, runt decision and amplitude sample are available. (R218) -/
  | hitBuild (c : Ch)
  /-- A PULSE record is emitted when its trailing edge has been timed. (R219) -/
  | pulseEmit (c : Ch)
  /-- A pulse with no trailing edge 65,535 ns after its leading edge is emitted with LONG. (R208) -/
  | pulseLongTimeout (c : Ch) (k : Fin 2)
  /-- A frequency gate closes and the channel emits a FREQ record with count, span, frequency and period. (R223) -/
  | freqGateClose (c : Ch)
  /-- win_ns after a NEAREST start the unit pairs it with the nearest stop and emits an INTERVAL, or counts NOSTOP. (R228) -/
  | intervalDecide (c : Ch)
  /-- A NEXT interval with no stop within 2^31 ns reports OVERFLOW. (R229) -/
  | intervalOverflow (c : Ch)
  /-- A test-pulse repetition is launched at its period with its fine step. (R230) -/
  | testPulseLaunch (c : Ch)
  /-- A write changing the TREF frequency in effect puts the PLL into HOLDOVER and sets the new divider. (R231) -/
  | refSelectWrite (m : Master) (d : Word)
  /-- A TREF window closes with or without an edge, advancing the loss and relock counts. (R232) -/
  | trefWindowClose (edge : Bool)
  /-- Frequency acquisition completes, the divider reseats and the state becomes LOCKED with TIME_EVENT REF_BACK. (R234) -/
  | refBack (shift : TS48)
  /-- A PPS_IN rising edge is timestamped and produces a TIME_EVENT PPS_IN, and PPS_BACK when due. (R235) -/
  | ppsInEdge
  /-- No PPS_IN edge twice running within 1 s ± 100 µs emits PPS_LOST. (R235) -/
  | ppsLost
  /-- Command TDC_CONFIGURE writes discriminator, hit, skew and test-pulse registers of selected channels. (R239) -/
  | tdcConfigure (m : Master)
  /-- Command TDC_CHARACTERISE starts the test-pulse characterisation of selected channels and replies PENDING. (R240) -/
  | tdcCharacterise (m : Master)
  /-- Characterisation ends, skews are updated, registers restored and PARTIAL and final replies written. (R242) -/
  | tdcCharacteriseDone
  /-- Command FREQ_CONFIGURE writes CH_FREQ_CTRL of selected channels and starts a new gate sequence. (R243) -/
  | freqConfigure (m : Master)
  /-- Command INTERVAL_CONFIGURE writes the interval unit settings of selected channels. (R244) -/
  | intervalConfigure (m : Master)
  /-- The sample packer closes a live sample item 64 ticks after its first sample or at an earlier boundary. (R22) -/
  | sampleItemClose (c : Ch)
  /-- An item reaches a Strait's write port and is stored, or dropped into the pending marker when full. (R35) -/
  | straitPush (isl : Isl)
  /-- The reader pops a complete item from a Strait and delivers it. (R35) -/
  | straitPop (x : StraitSel)
  /-- A Strait flush empties the reader and discards entries until the flush token. (R40) -/
  | straitFlush (x : StraitSel) (cause : Byte)
  /-- The flush request reaches the writer, which discards its item in progress and writes the flush token, later replaced by a FLUSH record. (R40) -/
  | straitFlushToken (x : StraitSel)
  /-- Command CAPTURE_CONFIGURE writes zero-suppression and capture registers and starts or stops raw export. (R268) -/
  | captureConfigure (m : Master)
  /-- A write of arm = 1 in state OFF with mode SINGLE or CONTINUOUS enters FILLING or ARMED. (R267) -/
  | captureArm (c : Ch)
  /-- A write of mode 0 returns the capture to OFF at once or after the running capture finishes. (R267) -/
  | captureModeOff (c : Ch)
  /-- A freeze reaches the ring and starts, extends, misses or is refused according to the capture state. (R253) -/
  | captureFreeze (c : Ch)
  /-- Read-out ends with the CAPTURE record, the fill resets and the state follows the mode. (R257) -/
  | readoutDone (c : Ch)
  /-- HOLDOFF lasts CH_CAP_HOLDOFF ticks and ends in FILLING. (R257) -/
  | captureHoldoffEnd (c : Ch)
  /-- A stopped spill drain resumes when its queue has room again. (R402) -/
  | spillDrainResume (c : Ch)
  /-- A spill drain completes with the CAPTURE record written and the state follows the mode. (R258) -/
  | spillDrainDone (c : Ch)
  /-- Unread spill samples reaching 65,536 stop the ring, read out the rest and emit GAP and TRUNCATED CAPTURE. (R259) -/
  | spillTruncate (c : Ch)
  /-- Command FLINT_LOAD loads one program, group or channel-set section. (R296) -/
  | flintLoad (m : Master)
  /-- Command FLINT_ARM arms or disarms selected sequencers, optionally at one tick. (R297) -/
  | flintArm (m : Master)
  /-- Command FLINT_FORCE makes selected sequencers emit one forced trigger at one tick. (R298) -/
  | flintForce (m : Master)
  /-- Writing 1 to FLINT_CTRL[f].arm arms the sequencer in its initial state. (R297) -/
  | flintCtrlArm (f : Fin 8)
  /-- Writing 1 to FLINT_CTRL[f].disarm stops evaluation at once. (R297) -/
  | flintCtrlDisarm (f : Fin 8)
  /-- An armed sequencer's slot condition holds and its action is taken: next state, counters, timers, TRIG_OUT and emission. (R276) -/
  | flintTransition (f : Fin 8)
  /-- A running sequencer timer reaches 0, stops and raises its line. (R279) -/
  | flintTimerZero (f : Fin 8) (k : Fin 2)
  /-- A trigger hold-off of FLINT_HOLDOFF ticks ends. (R280) -/
  | flintHoldoffEnd (f : Fin 8)
  /-- An armed sequencer with no trigger for FLINT_AUTO ticks emits an auto trigger, or counts it suppressed. (R284) -/
  | flintAutoTrigger (f : Fin 8)
  /-- A trigger's time is complete and its TRIGGER record, freezes and remote message leave. (R283) -/
  | triggerComplete (f : Fin 8)
  /-- A group member's mark expires w ticks after its last leading edge. (R271) -/
  | groupMarkExpiry
  /-- A TRIG_IN level change stable for filt ticks is accepted as an event with its TS48. (R273) -/
  | trigInChange (k : Fin 4) (level : Bool)
  /-- A TRIG_OUT pulse of FLINT_TOUT width ticks ends. (R281) -/
  | trigOutPulseEnd (k : Fin 4)
  /-- A VC1 TRIGGER message is received, deduplicated, queued for its class and forwarded when flooding. (R290) -/
  | trigger (p : PortN)
  /-- A queued remote trigger is delivered to Flint, pulsing its RC line and freezing or marking when configured. (R290) -/
  | rcDeliver (cls : Fin 16)
  /-- Instruction ADD adds two registers, wrapping. (R322) -/
  | add (e : Eng)
  /-- Instruction SUB subtracts two registers, wrapping. (R322) -/
  | sub (e : Eng)
  /-- Instruction AND takes the bitwise and of two registers. (R322) -/
  | and (e : Eng)
  /-- Instruction OR takes the bitwise or of two registers. (R322) -/
  | or (e : Eng)
  /-- Instruction XOR takes the bitwise exclusive or of two registers. (R322) -/
  | xor (e : Eng)
  /-- Instruction SLL shifts left by a register amount. (R322) -/
  | sll (e : Eng)
  /-- Instruction SRL shifts right logically by a register amount. (R322) -/
  | srl (e : Eng)
  /-- Instruction SRA shifts right arithmetically by a register amount. (R322) -/
  | sra (e : Eng)
  /-- Instruction SLT sets 1 when ra is below rb, signed. (R322) -/
  | slt (e : Eng)
  /-- Instruction SLTU sets 1 when ra is below rb, unsigned. (R322) -/
  | sltu (e : Eng)
  /-- Instruction MIN takes the signed minimum. (R322) -/
  | min (e : Eng)
  /-- Instruction MAX takes the signed maximum. (R322) -/
  | max (e : Eng)
  /-- Instruction MINU takes the unsigned minimum. (R322) -/
  | minu (e : Eng)
  /-- Instruction MAXU takes the unsigned maximum. (R322) -/
  | maxu (e : Eng)
  /-- Instruction ADDS adds with signed saturation, setting sat. (R322) -/
  | adds (e : Eng)
  /-- Instruction SUBS subtracts with signed saturation, setting sat. (R322) -/
  | subs (e : Eng)
  /-- Instruction ABS takes the absolute value, saturating at 2^31 − 1. (R322) -/
  | abs (e : Eng)
  /-- Instruction CLZ counts leading zeros. (R322) -/
  | clz (e : Eng)
  /-- Instruction ADDI adds a sign-extended immediate. (R322) -/
  | addi (e : Eng)
  /-- Instruction ANDI ands a zero-extended immediate. (R322) -/
  | andi (e : Eng)
  /-- Instruction ORI ors a zero-extended immediate. (R322) -/
  | ori (e : Eng)
  /-- Instruction XORI exclusive-ors a zero-extended immediate. (R322) -/
  | xori (e : Eng)
  /-- Instruction SLLI shifts left by an immediate amount. (R322) -/
  | slli (e : Eng)
  /-- Instruction SRLI shifts right logically by an immediate amount. (R322) -/
  | srli (e : Eng)
  /-- Instruction SRAI shifts right arithmetically by an immediate amount. (R322) -/
  | srai (e : Eng)
  /-- Instruction LUI loads an immediate into the upper 16 bits. (R322) -/
  | lui (e : Eng)
  /-- Instruction MUL gives the low 32 bits of a product. (R323) -/
  | mul (e : Eng)
  /-- Instruction MULH gives the signed high 32 bits of a product. (R323) -/
  | mulh (e : Eng)
  /-- Instruction MULHU gives the unsigned high 32 bits of a product. (R323) -/
  | mulhu (e : Eng)
  /-- Instruction MAC adds the low product to rd, wrapping. (R323) -/
  | mac (e : Eng)
  /-- Instruction DIV divides signed, rounding toward zero, setting div0 on zero. (R323) -/
  | div (e : Eng)
  /-- Instruction DIVU divides unsigned. (R323) -/
  | divu (e : Eng)
  /-- Instruction REM gives the signed remainder. (R323) -/
  | rem (e : Eng)
  /-- Instruction REMU gives the unsigned remainder. (R323) -/
  | remu (e : Eng)
  /-- Instruction CMP compares two registers under a condition into a predicate. (R324) -/
  | cmp (e : Eng)
  /-- Instruction CMPI compares a register with an immediate into a predicate. (R324) -/
  | cmpi (e : Eng)
  /-- Instruction GETSR reads a special register. (R316) -/
  | getsr (e : Eng)
  /-- Instruction SETSR clears STICKY bits written as 1; any other index is ILLEGAL. (R317) -/
  | setsr (e : Eng)
  /-- Instruction PAND ands two predicates. (R324) -/
  | pand (e : Eng)
  /-- Instruction POR ors two predicates. (R324) -/
  | por (e : Eng)
  /-- Instruction PXOR exclusive-ors two predicates. (R324) -/
  | pxor (e : Eng)
  /-- Instruction PANDN ands a predicate with the complement of another. (R324) -/
  | pandn (e : Eng)
  /-- Instruction LDB loads a sign-extended byte. (R325) -/
  | ldb (e : Eng)
  /-- Instruction LDBU loads a zero-extended byte. (R325) -/
  | ldbu (e : Eng)
  /-- Instruction LDH loads a sign-extended halfword. (R325) -/
  | ldh (e : Eng)
  /-- Instruction LDHU loads a zero-extended halfword. (R325) -/
  | ldhu (e : Eng)
  /-- Instruction LDW loads a word. (R325) -/
  | ldw (e : Eng)
  /-- Instruction STB stores the low byte of rd. (R325) -/
  | stb (e : Eng)
  /-- Instruction STH stores the low halfword of rd. (R325) -/
  | sth (e : Eng)
  /-- Instruction STW stores a word. (R325) -/
  | stw (e : Eng)
  /-- Instruction LDV loads 16 bytes into a vector register. (R325) -/
  | ldv (e : Eng)
  /-- Instruction STV stores a vector register as 16 bytes. (R325) -/
  | stv (e : Eng)
  /-- Instruction AADD atomically adds to a shared-memory word and returns the old value. (R301) -/
  | aadd (e : Eng)
  /-- Instruction ASWP atomically swaps a shared-memory word and returns the old value. (R301) -/
  | aswp (e : Eng)
  /-- A shared bank serves a queued engine access round-robin, completing the load, store or atomic. (R300) -/
  | shAccessServed (isl : Isl) (b : Fin 8)
  /-- Instruction VADD adds vector lanes. (R326) -/
  | vadd (e : Eng)
  /-- Instruction VSUB subtracts vector lanes. (R326) -/
  | vsub (e : Eng)
  /-- Instruction VADDS adds vector lanes with saturation. (R326) -/
  | vadds (e : Eng)
  /-- Instruction VSUBS subtracts vector lanes with saturation. (R326) -/
  | vsubs (e : Eng)
  /-- Instruction VMUL gives the low half of lane products. (R326) -/
  | vmul (e : Eng)
  /-- Instruction VMULH gives the signed high half of lane products. (R326) -/
  | vmulh (e : Eng)
  /-- Instruction VMAC performs eight saturating 16-bit multiply-accumulates into 32-bit lanes. (R326) -/
  | vmac (e : Eng)
  /-- Instruction VMIN takes signed lane minima. (R326) -/
  | vmin (e : Eng)
  /-- Instruction VMAX takes signed lane maxima. (R326) -/
  | vmax (e : Eng)
  /-- Instruction VAND ands vectors bitwise. (R326) -/
  | vand (e : Eng)
  /-- Instruction VOR ors vectors bitwise. (R326) -/
  | vor (e : Eng)
  /-- Instruction VXOR exclusive-ors vectors bitwise. (R326) -/
  | vxor (e : Eng)
  /-- Instruction VSRA shifts lanes right arithmetically by an immediate. (R326) -/
  | vsra (e : Eng)
  /-- Instruction VSRL shifts lanes right logically by an immediate. (R326) -/
  | vsrl (e : Eng)
  /-- Instruction VSLL shifts lanes left by an immediate. (R326) -/
  | vsll (e : Eng)
  /-- Instruction VSEL selects lanes from two vectors by a predicate. (R326) -/
  | vsel (e : Eng)
  /-- Instruction VCMP compares lanes into a predicate. (R326) -/
  | vcmp (e : Eng)
  /-- Instruction VABS takes signed lane absolute values with saturation. (R326) -/
  | vabs (e : Eng)
  /-- Instruction VSPLAT copies a scalar into every lane. (R327) -/
  | vsplat (e : Eng)
  /-- Instruction VINS inserts a scalar into one lane. (R327) -/
  | vins (e : Eng)
  /-- Instruction VEXT extracts a lane sign-extended. (R327) -/
  | vext (e : Eng)
  /-- Instruction VEXTU extracts a lane zero-extended. (R327) -/
  | vextu (e : Eng)
  /-- Instruction VRSUM sums the lanes into a scalar. (R327) -/
  | vrsum (e : Eng)
  /-- Instruction VRMAX gives the largest lane and its index. (R327) -/
  | vrmax (e : Eng)
  /-- Instruction VRMIN gives the smallest lane and its index. (R327) -/
  | vrmin (e : Eng)
  /-- Instruction POP makes the next item of the current period current, or reports none. (R328) -/
  | pop (e : Eng)
  /-- Instruction FWD copies the current input record unchanged into the outbound FIFO. (R328) -/
  | fwd (e : Eng)
  /-- Instruction PUSH copies the FEATURE or CONTEXT record in OUT into the outbound FIFO, completing its header. (R329) -/
  | push (e : Eng)
  /-- Instruction CTXLD requests a context into a buffer, failing for a foreign, mismatched or unreliable context. (R330) -/
  | ctxld (e : Eng)
  /-- A context load completes at the context port and the buffer becomes usable. (R321) -/
  | ctxldDone (e : Eng)
  /-- Instruction CTXST stages a buffer as its context's update for the period. (R331) -/
  | ctxst (e : Eng)
  /-- Instruction EVT raises an engine event line toward Flint with a TS48. (R332) -/
  | evt (e : Eng)
  /-- Instruction BR branches. (R333) -/
  | br (e : Eng)
  /-- Instruction BP branches when a predicate meets its condition. (R333) -/
  | bp (e : Eng)
  /-- Instruction JAL saves the return address and branches. (R333) -/
  | jal (e : Eng)
  /-- Instruction JR jumps to a register address. (R333) -/
  | jr (e : Eng)
  /-- Instruction LOOP decrements a register and branches while it is non-zero. (R333) -/
  | loop (e : Eng)
  /-- Instruction YIELD consumes the current item, ends the invocation and enters WAIT. (R308) -/
  | yield (e : Eng)
  /-- Instruction EOP ends the invocation and enters DONE for the period. (R308) -/
  | eop (e : Eng)
  /-- An undefined instruction word faults with cause ILLEGAL. (R320) -/
  | illegalInstruction (e : Eng)
  /-- In WAIT an item of the current period reaches the FIFO head, becomes current and the item entry runs. (R310) -/
  | itemEntry (e : Eng)
  /-- In DONE an item of the current period reaching the FIFO head is discarded and counted in ISL_ENG_EOPDROP. (R311) -/
  | doneItemDiscard (e : Eng)
  /-- Command KERNEL_LOAD checks its parameters and starts copying and verifying a kernel image into selected engines. (R338) -/
  | kernelLoad (m : Master)
  /-- The kernel copy and verification complete with OK, BAD_PARAM, LOCKED or SIG_INVALID. (R338) -/
  | kernelLoadDone
  /-- Command KERNEL_START binds channels and sets start_pend on selected engines. (R339) -/
  | kernelStart (m : Master)
  /-- Command KERNEL_STOP stops selected engines at the next period start, or at once with NOW. (R341) -/
  | kernelStop (m : Master)
  /-- At each boundary tick the sense die sends the Island a boundary mark. (R349) -/
  | periodBoundaryTick (isl : Isl)
  /-- At each deadline tick the sense die sends the Island a deadline mark. (R349) -/
  | deadlineTick (isl : Isl)
  /-- The Island takes its boundary mark and commits early once every engine has finished. (R350) -/
  | boundaryMark (isl : Isl)
  /-- The Island takes its deadline mark and forces the commit if it has not happened. (R350) -/
  | deadlineMark (isl : Isl)
  /-- Under EARLY, the first island cycle after the boundary mark in which every running engine has finished starts the commit. (R350) -/
  | enginesFinished (isl : Isl)
  /-- A commit aborts unfinished engines, applies surviving updates, publishes outbound records and sends PERIOD_DROP records. (R351) -/
  | periodCommit (isl : Isl)
  /-- A commit finishes after 64 ns plus 2 ns per update, releasing waiting context reads. (R353) -/
  | commitDone (isl : Isl)
  /-- At a period start engines join or stop, zero scratch and registers and run the period-start entry, after any planner change. (R307) -/
  | periodStart (isl : Isl)
  /-- Command CTX_WRITE writes contexts at once or stages them for the owning Island's next commit. (R363) -/
  | ctxWrite (m : Master)
  /-- Command CTX_READ returns up to 15 contexts from one commit state. (R364) -/
  | ctxRead (m : Master)
  /-- Command CTX_ASSIGN changes the owning Island and kind of a range of contexts. (R365) -/
  | ctxAssign (m : Master)
  /-- Command PERIOD_CONFIGURE schedules a new period, grace and commit mode for selected Islands at an anchor. (R366) -/
  | periodConfigure (m : Master)
  /-- At the anchor tick the running period ends and the new period settings apply. (R366) -/
  | periodAnchor (isl : Isl)
  /-- A record at an ingress port is routed to its queue and accepted, dropped into a pending GAP, or discarded as unrouted. (R393) -/
  | lagoonIngress (port : Fin 17)
  /-- A queue's watermark advances by hb_us and the port writes a WATERMARK into it. (R408) -/
  | portWatermark (q : QueueN)
  /-- A record becomes readable by its consumer 4 cycles after enough of it is written. (R403) -/
  | cutThroughReady (q : QueueN)
  /-- Writing 1 to LAG_Q_CTRL.flush flushes the selected queue with cause 0. (R406) -/
  | queueFlushWrite (m : Master) (d : Word)
  /-- A queue flush completes by writing its FLUSH record and returning to ENABLED or DISABLED. (R404) -/
  | queueFlushDone (q : QueueN)
  /-- The merge reads a record or WATERMARK from an input head, updating watermarks and releasing entries below R_s. (R410) -/
  | mergeRead (k : StrmN)
  /-- An input with no WATERMARK for wm_timeout_ms becomes stalled. (R410) -/
  | mergeInputStall (k : StrmN)
  /-- An egress arbiter serves one ready record by effective priority. (R417) -/
  | egressServe (up : Bool)
  /-- Command QUEUE_CONFIGURE sets a queue's port, limits, timing and routes. (R420) -/
  | queueConfigure (m : Master)
  /-- Command QUEUE_FLUSH flushes a range of queues, and optionally engine outbound Straits. (R422) -/
  | queueFlush (m : Master)
  /-- Command STREAM_OPEN opens a MERGED or PRIORITY stream over its input queues. (R423) -/
  | streamOpen (m : Master)
  /-- Command STREAM_CLOSE disables a stream's inputs and drains or flushes them. (R425) -/
  | streamClose (m : Master)
  /-- The last record and descriptor of a closing stream are delivered and the stream becomes CLOSED. (R425) -/
  | streamCloseDone (k : StrmN)
  /-- A compressor block closes on size, block time or a WATERMARK and goes to verification. (R430) -/
  | compressBlockClose (k : StrmN)
  /-- The shadow verifier decodes a block and releases it as CBLOCK, or as UBLOCK on mismatch. (R442) -/
  | blockVerify (k : StrmN) (good : Bool)
  /-- A decompressor decodes an arriving CBLOCK or UBLOCK and passes its records to Lagoon ingress. (R444) -/
  | decompressBlock (p : PortN)
  /-- Command DICT_LOAD loads or unloads a static dictionary. (R450) -/
  | dictLoad (m : Master)
  /-- The dictionary copy and check complete with OK or BAD_PARAM. (R450) -/
  | dictLoadDone
  /-- Quartz sends a time beacon to every Island every 64 ticks. (R20) -/
  | timeBeacon
  /-- An increment carries ns past 10^9, pulsing SEC, emitting EPOCH, driving PPS_OUT and reloading voted copies. (R453) -/
  | secondBoundary
  /-- An increment carries TS48 [47:16] from 0xFFFF_FFFF to 0 and an EPOCH with reason WRAP is emitted. (R377) -/
  | ts48Wrap
  /-- The PPS_OUT pulse ends after width_ms. (R454) -/
  | ppsOutEnd
  /-- A committed QTZ_INC write is clamped to ± 500 ppm and awaits its apply tick. (R455) -/
  | qtzIncWrite (m : Master) (d : Word)
  /-- At the apply tick the new INC is used and TIME_EVENT INCREMENT is emitted. (R456) -/
  | incApply
  /-- A guarded commit of QTZ_STEP pends a step, or is discarded with chg_busy. (R457) -/
  | qtzStepCommit (m : Master) (d : Word)
  /-- At the apply tick a set or step is applied to all copies with TIME_EVENT and EPOCH, or refused. (R458) -/
  | changeApply
  /-- A Quartz copy differing from the vote is marked, or all three are reloaded with ALARM 0x0A02. (R463) -/
  | quartzVoteMismatch (a : QCopy) (b : QCopy) (c : QCopy)
  /-- A read of QTZ_NOW_FRAC latches NS, SEC_LO and SEC_HI for that master. (R464) -/
  | qtzNowFracRead (m : Master)
  /-- A read of QTZ_MSG_INFO removes the oldest stamp and latches its TS48. (R471) -/
  | qtzMsgInfoRead (m : Master)
  /-- Every probe_us a delay probe is sent on the active and standby UP ports. (R466) -/
  | probeSend (p : PortN)
  /-- A PROBE arriving on a DOWN port is answered with an ECHO carrying t2 and t3. (R466) -/
  | probe (p : PortN)
  /-- An ECHO completes an exchange whose delay and offset update the means. (R468) -/
  | echo (p : PortN)
  /-- A probe without an echo within 200 µs is an invalid exchange counted in QTZ_PROBE_FAIL. (R469) -/
  | probeTimeout (p : PortN)
  /-- Once per 16 valid exchanges the firmware servo writes INC and steps as needed. (R473) -/
  | servoUpdate
  /-- No valid exchange for 256 × probe_us puts the servo in HOLD with ALARM 0x0A01. (R474) -/
  | followLost
  /-- Command TOD_SET sets the time at a reference TS48 at the next apply tick. (R479) -/
  | todSet (m : Master)
  /-- Command TOD_STEP steps the time by J at the next apply tick. (R480) -/
  | todStep (m : Master)
  /-- Command TOD_SET_INCREMENT writes INC and replies after its apply tick. (R481) -/
  | todSetIncrement (m : Master)
  /-- Every interval_ms a PTM dialog is started. (R544) -/
  | ptmDialogStart
  /-- Writing 1 to HOSTIF_PTM_CTRL.trigger runs one PTM dialog at once. (R544) -/
  | ptmTrigger (m : Master) (d : Word)
  /-- A PTM ResponseD is stamped and its master time, delay, t1 and round trip are held. (R472) -/
  | ptmResponse (mt : BitVec 64) (pd : Word) (ago : TS48)
  /-- A dialog without ResponseD within 1 ms counts in HOSTIF_PTM_FAIL. (R544) -/
  | ptmTimeout
  /-- 64 consecutive valid sync headers bring a lane into lock and measure its gearbox latency. (R484) -/
  | laneLock (l : LaneN) (gearbox : BitVec 16)
  /-- A window of 64 blocks with 16 invalid headers ends lock and hunting resumes. (R484) -/
  | laneLockLost (l : LaneN)
  /-- Every 1 ms a lane computes its figure of merit, raising MERIT_LOW when its mean falls below threshold. (R485) -/
  | laneMeritUpdate (l : LaneN) (merit : Byte)
  /-- A non-timing lane with no frame for 10 µs enters electrical idle. (R487) -/
  | laneIdleEnter (l : LaneN)
  /-- A training burst of 78 TRAIN blocks completes and the lane leaves idle. (R487) -/
  | laneIdleExit (l : LaneN)
  /-- A write of a lane or port enable starts shutdown, or holds an enable as ENABLE_PENDING. (R488) -/
  | laneEnableWrite (m : Master) (a : BitVec 26) (d : Word)
  /-- A lane shutdown completes and any pending enable takes effect. (R488) -/
  | laneShutdownDone (l : LaneN)
  /-- An ACK control block releases acknowledged frames from the retry buffer. (R493) -/
  | ack (p : PortN) (blk : BitVec 64)
  /-- A NAK control block makes the sender resend every unacknowledged frame from the named number. (R494) -/
  | nak (p : PortN) (blk : BitVec 64)
  /-- A CREDIT control block updates the credits available to a VC. (R497) -/
  | credit (p : PortN) (blk : BitVec 64)
  /-- A TRAIN control block reports the far lane's ADAPT or READY phase. (R505) -/
  | train (l : LaneN) (blk : BitVec 64)
  /-- A control block with an unlisted type or failed CRC-8 is discarded and counted. (R489) -/
  | badControlBlock (p : PortN) (blk : BitVec 64)
  /-- A received frame is CRC-checked, ordered and delivered by VC and message kind. (R492) -/
  | frame (p : PortN) (bytes : List Byte) (ago : TS48)
  /-- Within 1 µs of a delivery the receiver sends an ACK. (R493) -/
  | ackTimer (p : PortN)
  /-- A missing frame number after 1 µs, and every 2 µs thereafter, causes a NAK. (R494) -/
  | nakTimer (p : PortN)
  /-- No ACK advance for LINK_RETRY_TMO starts a resend from the oldest unacknowledged frame. (R494) -/
  | retryTimeout (p : PortN)
  /-- Every 100 µs the receiver repeats each VC's cumulative credit count. (R497) -/
  | creditRepeat (p : PortN)
  /-- A REG_ACCESS message is forwarded or executed as master M5 and answered with REG_RESULT. (R78) -/
  | regAccess (p : PortN)
  /-- A REG_RESULT message completes a remote register access at its origin. (R519) -/
  | regResult (p : PortN)
  /-- A HELLO message makes a port ACTIVE and keeps or clears its role. (R506) -/
  | hello (p : PortN)
  /-- An ENUM of a new number clears the device's ID, roles and routes, makes its arrival port UP and is forwarded. (R507) -/
  | enum (p : PortN)
  /-- A CLAIM UP or STANDBY message makes the receiving port DOWN. (R507) -/
  | claim (p : PortN)
  /-- A REPORT message is passed toward the root with its path extended. (R508) -/
  | report (p : PortN)
  /-- An ASSIGN message sets a device's ID, or is forwarded while recording the route. (R508) -/
  | assign (p : PortN)
  /-- An SB_START message makes a head send SB on its ports of role NONE. (R509) -/
  | sbStart (p : PortN)
  /-- An SB message makes a port STANDBY, is answered CLAIM STANDBY and forwarded. (R509) -/
  | sb (p : PortN)
  /-- 2 ms without a new REPORT makes the root assign IDs and send ASSIGNs. (R508) -/
  | enumReportTimeout
  /-- Enumeration ends 2 ms after the last SB and each device raises ENUMERATED. (R509) -/
  | enumEnd
  /-- A TIME_MSG frame enters the port's receive FIFO, stamped when requested. (R503) -/
  | timeMsg (p : PortN)
  /-- A write of LINK_TMSG_SEND sends a TIME_MSG to the neighbour. (R503) -/
  | tmsgSend (m : Master) (p : PortN) (d : Word)
  /-- A read of LINK_TMSG_RXS removes a received TIME_MSG from the FIFO. (R503) -/
  | tmsgRxRead (m : Master) (p : PortN)
  /-- Writing LINK_RACC_CTRL.go sends a REG_ACCESS to a remote device. (R519) -/
  | raccGo (m : Master) (d : Word)
  /-- A ROOT_LOST arriving on the active UP unroots the device and is forwarded. (R513) -/
  | rootLost (p : PortN)
  /-- A ROOTED message makes the device rooted, forwarded downward with announcements upward. (R512) -/
  | rooted (p : PortN)
  /-- An ANNOUNCE records routes for the IDs named and is forwarded upward when rooted. (R514) -/
  | announce (p : PortN)
  /-- A STREAM frame's record bytes are reassembled and passed to the decompressor or Lagoon. (R500) -/
  | stream (p : PortN)
  /-- All lanes READY, or 2 ms after the first, lead to HELLO exchange and the port becomes ACTIVE. (R505) -/
  | portTrained (p : PortN)
  /-- No lane in lock for down_us takes the port DOWN. (R505) -/
  | portDownTimeout (p : PortN)
  /-- After UP loss the device takes its standby, becomes root, waits, or is orphaned. (R513) -/
  | failover
  /-- Command LINK_TRAIN retrains selected ports with the widths given. (R521) -/
  | linkTrain (m : Master)
  /-- The retraining completes or times out and the final reply reports each port. (R521) -/
  | linkTrainDone
  /-- Command LINK_ENUMERATE makes this head the root and runs enumeration. (R522) -/
  | linkEnumerate (m : Master)
  /-- Command LINK_STATUS returns port states, roles, merits and counters. (R523) -/
  | linkStatus (m : Master)
  /-- A BULK WRITE message is written into a DMA-owned bank, or the transfer is refused with DONE. (R575) -/
  | bulkWrite (p : PortN)
  /-- A BULK DONE message ends a transfer at its origin with its status. (R575) -/
  | bulkDone (p : PortN)
  /-- Writing 1 to MEMCTL_DMA_CTRL.go starts a bulk transfer to another device. (R573) -/
  | dmaGo (m : Master) (d : Word)
  /-- No DONE within CMD_FWD_TIMEOUT ends the transfer with TIMEOUT. (R575) -/
  | dmaTimeout
  /-- Power applied brings the device into a cold start once every supply is in its limits. (R626) -/
  | powerOn (straps : Straps)
  /-- A supply outside its check limits for 2 µs resets the device for a cold start. (R668) -/
  | supplyFault
  /-- PERST_N asserted on a powered device with PCIE_EN high causes a warm start. (R530) -/
  | perstAssert
  /-- A PCIe hot reset or DL_Down performs an FLR of all four functions. (R530) -/
  | hotReset
  /-- A Function Level Reset closes the function's streams, disables its rings, discards queued commands and frees its ownership. (R531) -/
  | flr (pf : PfN)
  /-- Configuration space becomes ready and requests stop getting retry status. (R529) -/
  | configReady
  /-- A write of RPR_CTRL.en sets up the reply ring, starting it empty. (R535) -/
  | rprEnable (pf : PfN) (d : Word)
  /-- A BAR2 write is checked and written to a queue, the boot window or a host-owned bank, or dropped. (R527) -/
  | bar2Write (pf : PfN) (off : BitVec 28) (bytes : List Byte)
  /-- A BAR2 read waits for its bank, aborts on an OFF bank, or completes with EP on an uncorrectable error. (R528) -/
  | bar2Read (pf : PfN) (off : BitVec 28) (len : BitVec 13)
  /-- A write of en = 1 to a stream or dump ring reads descriptor 0 and starts the ring. (R537) -/
  | ringEnable (m : Master) (ring : Fin 68) (d : Word)
  /-- A descriptor read completes, opening a buffer when READY or entering STALL when not. (R537) -/
  | descriptorReadDone (ring : Fin 68) (bytes : List Byte)
  /-- A stalled ring re-reads its descriptor every HOSTIF_POLL.us. (R537) -/
  | ringPoll (ring : Fin 68)
  /-- A descriptor read timing out or completing with an error puts the ring in ERROR. (R539) -/
  | ringError (ring : Fin 68)
  /-- A host buffer closes on padding, close_us or the stream's end, and its descriptor is written DONE. (R538) -/
  | bufferClose (ring : Fin 68)
  /-- A stream ring's mod_us interval ends and one message signals its closed buffers. (R541) -/
  | msixModeration (k : StrmN)
  /-- A change of PCIe link speed or width sets HOSTIF_EVT.link_change. (R542) -/
  | pcieLinkChange (up : Bool) (speed : BitVec 3) (width : BitVec 5)
  /-- A scrub agent reads and checks one line in an idle cycle, correcting or poisoning bytes. (R565) -/
  | scrubLine (a : Fin 15) (region : Fin 7) (unit : Byte) (line : BitVec 16) (errs : List (Fin 64 × Bool))
  /-- A lap running longer than MEMCTL_SCRUB_URGENT_LAP makes the agent take one cycle in 64. (R566) -/
  | scrubUrgent (a : Fin 15)
  /-- An agent tests one line with March C− through its save buffer and writes it back. (R569) -/
  | marchTestLine (a : Fin 15) (region : Fin 7) (unit : Byte) (line : BitVec 16) (errs : List (Fin 64 × Bool)) (fail : Bool) (vmin : BitVec 10)
  /-- A bank completes its entry into RETENTION. (R557) -/
  | bankRetentionEntered (n : BankN)
  /-- A waking bank reaches ON from RETENTION or CLEARING from OFF. (R557) -/
  | bankWakeDone (n : BankN)
  /-- A clearing bank reads as 0, returns to ON and its default owner. (R559) -/
  | bankClearDone (n : BankN)
  /-- A shutting-down bank reaches OFF, or wakes for a pending enable. (R557) -/
  | bankShutdownDone (n : BankN)
  /-- A PST write of MEMCTL_BANK_OWNER hands a shared bank to a new owner after old accesses drain. (R563) -/
  | bankOwnerHandover
  /-- Command MEM_ASSIGN hands shared banks to a new owner. (R578) -/
  | memAssign (m : Master)
  /-- Command MEM_RETAIN moves banks to ON, RETENTION or OFF and sets or clears KEEP. (R579) -/
  | memRetain (m : Master)
  /-- Command MEM_TEST stops, starts background, or runs one pass of the march test. (R580) -/
  | memTest (m : Master)
  /-- A MEM_TEST pass completes and reports lines, failures and repairs. (R580) -/
  | memTestPassDone
  /-- A voting member's outputs or writes differ, leading to fencing or a two-member test. (R584) -/
  | triadDisagreement (n : Fin 3) (cause : Fin 3)
  /-- Each ms the voting members run a 50 µs self-test slice whose signatures are compared. (R585) -/
  | selftestSlice (bad : BitVec 3) (voterFail : Option (Fin 3))
  /-- A fenced member's full self-test ends, leading to re-admission, retest or retirement. (R588) -/
  | fencedSelftestDone (n : Fin 3) (pass : Bool)
  /-- A failed member is retested every 100 ms. (R588) -/
  | memberRetest (n : Fin 3)
  /-- The re-admission copy ends, the target joins and the mode returns to TRIPLEX. (R589) -/
  | copyDone
  /-- A donor fault during the copy abandons it and the non-donor self-tests. (R590) -/
  | donorFail
  /-- After a two-member disagreement the self-tests end in SIMPLEX, RESTART or HALTED. (R592) -/
  | twoMemberTestDone (pass : BitVec 3)
  /-- Every 10 ms at a command boundary the members take a voted checkpoint. (R593) -/
  | checkpoint (bad : Option (Fin 3))
  /-- Restoring the checkpoint completes and the triad resumes in DUPLEX. (R593) -/
  | restartDone
  /-- 100 ms after HALTED with halt_reset = 1 a warm start follows. (R594) -/
  | haltResetTimeout
  /-- Writing 1 to TRIAD_ALARM.ack releases ALARM_N except in HALTED. (R598) -/
  | alarmAck (m : Master) (d : Word)
  /-- Every period_s a Touchstone report runs, emits its record and the margin planner plans from it. (R599) -/
  | touchstoneReport (counts : List (BitVec 24 × BitVec 24))
  /-- A service Island's regulator moves one 5 mV step every 10 µs toward its target. (R605) -/
  | serviceVoltStep (isl : Fin 6)
  /-- Command HEALTH_REPORT runs a report and returns its sections. (R609) -/
  | healthReport (m : Master)
  /-- Command MARGIN_POLICY sets the policy, guard and hours offset, optionally planning at once. (R610) -/
  | marginPolicy (m : Master)
  /-- A write of EM_CTRL.en = 1 enters TEST, or ENABLE_PENDING during a ramp-down. (R612) -/
  | emEnable (n : EmN)
  /-- A write of EM_CTRL.en = 0 enters RAMPDOWN, or cancels a pending enable. (R612) -/
  | emDisable (n : EmN)
  /-- The 20 µs pin-pair test ends in RUN, or in FAULT with ALARM 0x0E01. (R620) -/
  | emTestDone (n : EmN) (short : Option (Fin 9))
  /-- The 20 µs ramp-down ends in OFF, or in TEST for a pending enable. (R612) -/
  | emRampdownDone (n : EmN)
  /-- Cross-sensing detects a short in RUN and the emitter enters FAULT with ALARM 0x0E01. (R620) -/
  | emShortRun (n : EmN) (short : Fin 9)
  /-- An emitter pulse is placed on its schedule, driving PULSE, FOLLOW and housekeeping edges. (R618) -/
  | emPulse (n : EmN)
  /-- At a spread-period boundary pending level, on-count, slot and factors are applied. (R616) -/
  | spreadBoundary (n : EmN)
  /-- Every 10 ms the emitter governor computes P_req and sets g. (R622) -/
  | emGovernor (meas : List (BitVec 10 × BitVec 16))
  /-- Command EMIT_CONFIGURE writes selected emitter registers, optionally synchronised. (R625) -/
  | emitConfigure (m : Master)
  /-- The watchdog not restarted within DEV_WDOG.ms causes a warm start. (R628) -/
  | watchdogExpiry
  /-- A step of the start sequence completes and the next step begins. (R630) -/
  | startStepDone (pass : BitVec 3)
  /-- At cold start the PLL locks once TREF is present and Quartz time is set to 0. (R631) -/
  | pllLock (since : BitVec 27)
  /-- Writing 1 to DEV_BOOT_GO closes the boot window and verifies the pushed image. (R637) -/
  | devBootGo (m : Master) (d : Word)
  /-- A start ends, DEV_START is recorded and ALARM START is raised. (R634) -/
  | startComplete
  /-- Command FW_UPDATE verifies and programs a firmware image into a slot, or only activates a slot. (R648) -/
  | fwUpdate (m : Master)
  /-- Programming, directory update and floor burn complete and the final reply is written. (R648) -/
  | fwUpdateDone (good : Bool)
  /-- Command ATTEST signs a report over the challenge and device state. (R649) -/
  | attest (m : Master)
  /-- The signature completes and the report, key and signature are returned in PARTIAL and final replies. (R649) -/
  | attestDone
  /-- Command KEY_REVOKE burns the revocation fuse of an owner slot. (R650) -/
  | keyRevoke (m : Master)
  /-- A guarded commit of SEC_PROG_SLOT with key 0x5C burns a key hash into an unprogrammed slot. (R640) -/
  | secProgSlot (m : Master) (d : Word)
  /-- A guarded commit of SEC_LC_ADVANCE with key 0xC3 burns the next lifecycle state. (R641) -/
  | lifecycleAdvance (m : Master) (d : Word)
  /-- A 20 ms fuse burn completes and SEC_EVT.fuse_done sets. (R640) -/
  | fuseBurnDone
  /-- A write of PERF_SEL[k] zeroes the counter and selects a new event. (R652) -/
  | perfSelWrite (m : Master) (k : Fin 1024) (d : Word)
  /-- A bandwidth window ends and each meter shows its MB/s. (R655) -/
  | bwWindowEnd
  /-- Every PERF_DUMP_PER µs an enabled dump group latches its counters and builds a COUNTERS record. (R656) -/
  | dumpPeriodic (g : Fin 16)
  /-- A SNAP_IN rising edge is accepted as a Slate trigger and pulses the SNAP line. (R658) -/
  | snapInEdge
  /-- At the Slate tick every block latches its status and counter registers and slate-linked dumps are made. (R659) -/
  | slateLatch
  /-- A ball returns inside its clamp threshold, CH_STATUS.clamp_now clears and the 1.0 µs recovery of CLAMPED samples begins. (R122) -/
  | clampEnd (c : Ch) (ball : Fin 4)
  /-- With open-test steps disabled, the rail band stays absent for 100 µs and the open_wire condition clears. (R144) -/
  | railAbsent (c : Ch)
  /-- An emitter sink cannot reach its applied current because it is out of compliance, and EM_EVT[n].open sets. (R617) -/
  | emSinkOutOfCompliance (n : EmN)
  /-- A submitted command entry whose opcode is not in the index is answered UNKNOWN_OPCODE and changes nothing. (R90) -/
  | unknownOpcode (m : Master)
  /-- PERST_N is released, the PCIe endpoint leaves reset and the readiness count of R529 starts. (R627) -/
  | perstRelease
  /-- A configuration write changes a function's power state or Bus Master Enable, stalling or resuming its rings and replies. (R532) -/
  | configWrite (pf : PfN) (off : BitVec 12) (d : Word)
  /-- A write to a BAR4 MSI-X table entry masks or unmasks a vector, and unmasking sends its pending message. (R540) -/
  | msixTableWrite (pf : PfN) (k : Fin 256) (w : Fin 4) (d : Word)
  /-- The non-donor's 1 ms self-test after a donor failure ends and the triad enters SIMPLEX with ALARM 0x0C13, or HALTED. (R590) -/
  | nonDonorSelftestDone (pass : Bool)
  /-- A training lane finishes adapting its equaliser and starts sending TRAIN READY. (R486) -/
  | laneAdaptDone (l : LaneN) (eq : Word)
  deriving DecidableEq, Repr

end Sys2Proof
end

