-- ==== Sys2Proof/Machine/Bits.lean ====
section
/-! DEFINITION. Bit fields and small arithmetic: field [lo + len - 1 : lo] of a word as a number, saturation, signed readings. -/

namespace Sys2Proof.Machine

/-- Field of `len` bits from bit `lo` of a word, as a number. -/
def fld (w : Word) (lo len : Nat) : Nat := (w.toNat >>> lo) % 2 ^ len

/-- Bit `i` of a word. -/
def bit (w : Word) (i : Nat) : Bool := w.getLsbD i

/-- The word with a one in bit `i` alone. -/
def bitMask (i : Nat) : Word := BitVec.ofNat 32 (2 ^ i)

/-- The mask of `len` ones from bit `lo`. -/
def fldMask (lo len : Nat) : Word := BitVec.ofNat 32 ((2 ^ len - 1) * 2 ^ lo)

/-- `w` with its field of `len` bits from bit `lo` replaced by the low bits of `v`. -/
def setFld (w : Word) (lo len v : Nat) : Word :=
  (w &&& ~~~ (fldMask lo len)) ||| BitVec.ofNat 32 (v % 2 ^ len * 2 ^ lo)

/-- `w` with bit `i` equal to `b`. -/
def setBit (w : Word) (i : Nat) (b : Bool) : Word := setFld w i 1 (if b then 1 else 0)

/-- 1 for true, 0 for false. -/
def b2n (b : Bool) : Nat := if b then 1 else 0

/-- A field value `v` placed at bit `lo`. -/
def at_ (lo v : Nat) : Nat := v * 2 ^ lo

/-- A word of the given number (higher bits dropped). -/
def word (n : Nat) : Word := BitVec.ofNat 32 n

/-- `n` limited to `hi`. -/
def satNat (hi n : Nat) : Nat := if hi < n then hi else n

/-- `n` limited to the range `lo` to `hi`. -/
def clampNat (lo hi n : Nat) : Nat := if n < lo then lo else if hi < n then hi else n

/-- `n` limited to the range `lo` to `hi`. -/
def clampInt (lo hi n : Int) : Int := if n < lo then lo else if hi < n then hi else n

/-- The signed reading of an `n`-bit number (two's complement, 00 R11). -/
def signedOf (n v : Nat) : Int := if v % 2 ^ n < 2 ^ (n - 1) then (v % 2 ^ n : Nat) else (v % 2 ^ n : Nat) - (2 ^ n : Nat)

/-- The two's complement of `v` in `n` bits. -/
def unsignedOf (n : Nat) (v : Int) : Nat := (v % (2 ^ n : Nat)).toNat

/-- ceil(a / b). -/
def ceilDiv (a b : Nat) : Nat := (a + b - 1) / b

/-- The number of ones among the low `n` bits of `v`. -/
def popCount : Nat → Nat → Nat
  | 0, _ => 0
  | n + 1, v => v % 2 + popCount n (v / 2)

/-- The numbers below `n` whose bits are set in `v`, rising. -/
def bitsOf (n v : Nat) : List Nat := (List.range n).filter (fun i => v.testBit i)

/-- The signed difference of two TS48 values in units of 2^-16 ns (11 R376). -/
def tsDiff (a b : TS48) : Int := (a - b).toInt

/-- `a` is earlier than `b` (11 R376). -/
def tsLt (a b : TS48) : Bool := decide (tsDiff a b < 0)

end Sys2Proof.Machine
end

