-- ==== Sys2Proof/Machine/Flags.lean ====
section
/-! DEFINITION. Flag and event bits by name: bits of the event registers and of STICKY, and the flag computations that
several commands share. -/

namespace Sys2Proof.Machine

/-! REGCTL_EVT (02 R74). -/
def rcBUS_ERR : Nat := 1
def rcNOT_OWNER : Nat := 2
def rcGUARD_FAIL : Nat := 4
def rcLOCK_VIOL : Nat := 8
def rcWRITE_LOST : Nat := 16
def rcSTALE_CLEAR : Nat := 32

/-! STICKY (09 R316). -/
def skSAT : Nat := 1
def skDIV0 : Nat := 2
def skOOB : Nat := 4
def skPOISON : Nat := 8
def skINGAP : Nat := 16

/-- Signed saturation to `n` bits: the value and whether it was limited (09 R322, R326). -/
def satSigned (n : Nat) (v : Int) : Int × Bool :=
  let hi : Int := 2 ^ (n - 1) - 1
  let lo : Int := -(2 ^ (n - 1))
  if v < lo then (lo, true) else if hi < v then (hi, true) else (v, false)

end Sys2Proof.Machine
end

