-- ==== Sys2Proof/Config.lean ====
section
/-! DEFINITION. What the manual leaves open: constants without a body, of which no value can be proved. A free value is one of
them applied to the state's counter of free values, or to what it depends on. -/

namespace Sys2Proof.Config

/-- A fresh lease token (03 R95): the manual gives no generator (log entry 22). -/
opaque token : Nat → BitVec 64

/-- Whether the self-check of a command executed in SIMPLEX fails (03 R117): a fault of the part, which the manual does not foresee
(log entry 26). -/
opaque selfCheckFails : Nat → Bool

/-- SHAKE256 (FIPS 202): the first `n` bytes of the hash of a byte string. The manual names the function and does not give
it (log entry 23). -/
opaque shake256 : List (BitVec 8) → Nat → List (BitVec 8)

/-- SLH-DSA verification (FIPS 205): context string, public key, message, signature. -/
opaque slhVerify : String → List (BitVec 8) → List (BitVec 8) → List (BitVec 8) → Bool

/-- SLH-DSA signing (FIPS 205): private key as SK.seed, SK.prf and PK.seed, context string, message. -/
opaque slhSign : List (BitVec 8) → String → List (BitVec 8) → List (BitVec 8)

/-- PK.root of the key pair that SK.seed, SK.prf and PK.seed give (FIPS 205). -/
opaque slhRoot : List (BitVec 8) → List (BitVec 8)

/-- Taps 0 to 30 of the decimation filter of exponent `k`, in units of 2^-(firPlaces k + 1): the manual gives no coefficients (05
R175). Tap 31 makes the DC gain exactly 1, and the filter is symmetric (log entry 25). -/
opaque firTap : Nat → Nat → Int
opaque firPlaces : Nat → Nat

/-- A value that the manual does not state, of 32 bits (log entry 26). -/
opaque freeWord : Nat → BitVec 32

/-- Fused fresh-silicon voltage of Island `i` at the `k`-th fused point, in 1/100 mV (18 R602). -/
opaque vFuse : Nat → Nat → Nat

/-- Fused ratio r0 of Island `i`, in 2^-32 (18 R601). -/
opaque r0 : Nat → Nat

/-- Fused trim t of the internal reference (05 R189), in 2^-32; the reader keeps it within 1 ± 0.0002. -/
opaque refTrim : Nat

/-- Whether a quotient whose rounding the manual does not state is rounded up, by the place that forms it. -/
opaque roundUp : Nat → Int → Int → Bool

/-- A signed 16-bit field whose value does not fit (18 R600): the manual does not say what it holds (log entry 26). -/
opaque outOfRange16 : Int → BitVec 16

/-- Least-squares fit of m = a - b ln h (18 R606) over points (h in ticks, m in mV): a in 0.01 mV, b in 0.001 mV, and tenths of
years to exhaustion at hours h, rounded down. The manual gives the formulae over the reals and no arithmetic. -/
opaque fitA : List (Nat × Int) → Int
opaque fitB : List (Nat × Int) → Int
opaque fitYears : List (Nat × Int) → Nat → Nat

/-- Fused skew of discriminator `d` of channel `c`, CH_TDC_SKEW at its fused value (06 R237, R239). -/
opaque fusedSkew : Nat → Nat → BitVec 32

/-- Fused delay from the test injector to the comparator of channel `c`, in TS48 LSB (06 R230). -/
opaque injDelay : Nat → Int

/-- Fused delay of the strobe wire of a lane, and of the PTM strobe as number 16 (01 R19), in TS48 LSB (log entry 27). -/
opaque strobeDelay : Nat → BitVec 48

/-- Fused serialiser and deserialiser latency of a lane, and of the PTM path as number 16 (14 R467), in TS48 LSB (log entry 27). -/
opaque serLatency : Nat → BitVec 48
opaque desLatency : Nat → BitVec 48

end Sys2Proof.Config
end

