-- ==== Sys2Proof/Machine/RegAddr.lean ====
section
/-! DEFINITION. BAR0 byte addresses of the registers by name (02 R50 and the register tables of each chapter).
The first argument is the unit that owns the page (channel, lane, port, Island) where the page is repeated, the second
the index of a register array. -/

namespace Sys2Proof.Machine.Reg

def DEV_ID : Nat := 0x0000000
def DEV_EVT : Nat := 0x0000004
def DEV_STATUS : Nat := 0x0000008
def DEV_RESET_CAUSE : Nat := 0x000000C
def DEV_START : Nat := 0x0000010
def DEV_WDOG : Nat := 0x0000014
def DEV_CTRL : Nat := 0x0000018
def DEV_WARM_CNT : Nat := 0x000001C
def DEV_BOOT_LEN : Nat := 0x0000020
def DEV_BOOT_GO : Nat := 0x0000024
def DEV_SERIAL_LO : Nat := 0x0000028
def DEV_SERIAL_HI : Nat := 0x000002C
def DEV_FW_VER : Nat := 0x0000030
def DEV_LOCK : Nat := 0x0000FF8
def OWN_STATE : Nat := 0x0004000
def OWN_EVT : Nat := 0x0004004
def OWN_CHANGES : Nat := 0x0004008
def OWN_TOKEN_LO : Nat := 0x0004010
def OWN_TOKEN_HI : Nat := 0x0004014
def OWN_FORCE : Nat := 0x0004020
def OWN_LEASE_DEFAULT : Nat := 0x0004028
def OWN_LOCK : Nat := 0x0004FF8
def CMD_DOORBELL (k : Nat) : Nat := 0x0008000 + k * 64
def CMD_SQ_HEAD (k : Nat) : Nat := 0x0008004 + k * 64
def CMD_SQ_PORT (k : Nat) : Nat := 0x0008008 + k * 64
def CMD_RP_TAIL (k : Nat) : Nat := 0x000800C + k * 64
def CMD_RP_HEAD (k : Nat) : Nat := 0x0008010 + k * 64
def CMD_RP_ADDR (k : Nat) : Nat := 0x0008014 + k * 64
def CMD_RP_DATA (k : Nat) : Nat := 0x0008018 + k * 64
def CMD_EVT (k : Nat) : Nat := 0x000801C + k * 64
def CMD_STAT (k : Nat) : Nat := 0x0008020 + k * 64
def CMD_FWD_TIMEOUT : Nat := 0x0008400
def CMD_FWD_LATE : Nat := 0x0008408
def REGCTL_EVT : Nat := 0x0010000
def REGCTL_GUARD : Nat := 0x0010004
def REGCTL_LOG_CNT : Nat := 0x0010008
def REGCTL_SNAP : Nat := 0x0010010
def REGCTL_SNAP_TS_LO : Nat := 0x0010018
def REGCTL_SNAP_TS_HI : Nat := 0x001001C
def REGCTL_LOG (k : Nat) : Nat := 0x0010100 + k * 16
def REGCTL_LOG_W1 (k : Nat) : Nat := 0x0010104 + k * 16
def REGCTL_LOG_W2 (k : Nat) : Nat := 0x0010108 + k * 16
def REGCTL_LOG_W3 (k : Nat) : Nat := 0x001010C + k * 16
def QTZ_EVT : Nat := 0x0020000
def QTZ_CTRL : Nat := 0x0020004
def QTZ_STATUS : Nat := 0x0020008
def QTZ_NOW_FRAC : Nat := 0x002000C
def QTZ_NOW_NS : Nat := 0x0020010
def QTZ_NOW_SEC_LO : Nat := 0x0020014
def QTZ_NOW_SEC_HI : Nat := 0x0020018
def QTZ_INC_LO : Nat := 0x002001C
def QTZ_INC_HI : Nat := 0x0020020
def QTZ_STEP : Nat := 0x0020024
def QTZ_JUMP_LIMIT : Nat := 0x002002C
def QTZ_CHG_TS_LO : Nat := 0x0020034
def QTZ_CHG_TS_HI : Nat := 0x0020038
def QTZ_REFUSE_CNT : Nat := 0x002003C
def QTZ_PPS_OUT : Nat := 0x0020040
def QTZ_PORT_SEL : Nat := 0x0020044
def QTZ_DELAY : Nat := 0x0020048
def QTZ_OFFSET : Nat := 0x002004C
def QTZ_ASYM : Nat := 0x0020050
def QTZ_PROBE_CNT : Nat := 0x0020054
def QTZ_PROBE_FAIL : Nat := 0x0020058
def QTZ_MSG_INFO : Nat := 0x002005C
def QTZ_MSG_TS_LO : Nat := 0x0020060
def QTZ_MSG_TS_HI : Nat := 0x0020064
def QTZ_PTM_T1_LO : Nat := 0x0020068
def QTZ_PTM_T1_HI : Nat := 0x002006C
def QTZ_PTM_RTT : Nat := 0x0020070
def QTZ_REF_CTRL : Nat := 0x0020074
def QTZ_REF_STATUS : Nat := 0x0020078
def QTZ_REF_EVT : Nat := 0x002007C
def FLINT_EVT : Nat := 0x0030000
def FLINT_TRIGIN : Nat := 0x0030004
def FLINT_TOUT (k : Nat) : Nat := 0x0030010 + k * 4
def FLINT_RC_DUP : Nat := 0x0030020
def FLINT_RC_OVF : Nat := 0x0030024
def FLINT_EV_MERGE : Nat := 0x0030028
def FLINT_PROG_ADDR : Nat := 0x0030040
def FLINT_PROG_DATA : Nat := 0x0030044
def FLINT_STAT (k : Nat) : Nat := 0x0030100 + k * 64
def FLINT_CTRL (k : Nat) : Nat := 0x0030104 + k * 64
def FLINT_HOLDOFF (k : Nat) : Nat := 0x0030108 + k * 64
def FLINT_AUTO_LO (k : Nat) : Nat := 0x003010C + k * 64
def FLINT_AUTO_HI (k : Nat) : Nat := 0x0030110 + k * 64
def FLINT_AUTO_ACT (k : Nat) : Nat := 0x0030114 + k * 64
def FLINT_TRIG_CNT (k : Nat) : Nat := 0x0030118 + k * 64
def FLINT_SUPP_CNT (k : Nat) : Nat := 0x003011C + k * 64
def FLINT_FORCED_CNT (k : Nat) : Nat := 0x0030120 + k * 64
def FLINT_CNT0 (k : Nat) : Nat := 0x0030124 + k * 64
def FLINT_CNT1 (k : Nat) : Nat := 0x0030128 + k * 64
def FLINT_TMR0_LO (k : Nat) : Nat := 0x003012C + k * 64
def FLINT_TMR0_HI (k : Nat) : Nat := 0x0030130 + k * 64
def FLINT_TMR1_LO (k : Nat) : Nat := 0x0030134 + k * 64
def FLINT_TMR1_HI (k : Nat) : Nat := 0x0030138 + k * 64
def FLINT_LAST_TS (k : Nat) : Nat := 0x003013C + k * 64
def FLINT_RC (k : Nat) : Nat := 0x0030400 + k * 4
def FLINT_POSTED : Nat := 0x0030FFC
def HK_EVT : Nat := 0x0040000
def HK_CTRL : Nat := 0x0040004
def HK_STATUS : Nat := 0x0040008
def HK_TIMER : Nat := 0x004000C
def HK_DELAY : Nat := 0x0040010
def HK_SCAN_LO : Nat := 0x0040014
def HK_OVR_CNT : Nat := 0x0040018
def HK_SCAN_HI : Nat := 0x004001C
def HK_DATA (k : Nat) : Nat := 0x0040040 + k * 4
def HK_DATA_B (k : Nat) : Nat := 0x0040080 + k * 4
def HK_LIM (k : Nat) : Nat := 0x00400C0 + k * 4
def HK_LIM_B (k : Nat) : Nat := 0x0040100 + k * 4
def HK_LIM_STAT : Nat := 0x0040140
def EMIT_EVT : Nat := 0x0050000
def EMIT_GOV : Nat := 0x0050004
def EM_EVT (k : Nat) : Nat := 0x0050100 + k * 64
def EM_CTRL (k : Nat) : Nat := 0x0050104 + k * 64
def EM_STATUS (k : Nat) : Nat := 0x0050108 + k * 64
def EM_LEVEL (k : Nat) : Nat := 0x005010C + k * 64
def EM_ONCOUNT (k : Nat) : Nat := 0x0050110 + k * 64
def EM_SLOT (k : Nat) : Nat := 0x0050114 + k * 64
def EM_PERIOD (k : Nat) : Nat := 0x0050118 + k * 64
def EM_PHASE (k : Nat) : Nat := 0x005011C + k * 64
def EM_WIDTH (k : Nat) : Nat := 0x0050120 + k * 64
def EM_TDERATE (k : Nat) : Nat := 0x0050124 + k * 64
def EM_TOFF (k : Nat) : Nat := 0x0050128 + k * 64
def EM_LAST_TS_LO (k : Nat) : Nat := 0x005012C + k * 64
def EM_LAST_TS_HI (k : Nat) : Nat := 0x0050130 + k * 64
def EM_PULSES (k : Nat) : Nat := 0x0050134 + k * 64
def EM_IMEAS (k : Nat) : Nat := 0x0050138 + k * 64
def EM_IMAX (k : Nat) : Nat := 0x005013C + k * 64
def EMIT_LOCK : Nat := 0x0050FF8
def EMIT_POSTED : Nat := 0x0050FFC
def TRIAD_EVT : Nat := 0x0060000
def TRIAD_STATUS : Nat := 0x0060004
def TRIAD_MEMBER (k : Nat) : Nat := 0x0060008 + k * 4
def TRIAD_SWITCHES : Nat := 0x0060014
def TRIAD_PAUSE_MAX : Nat := 0x0060018
def TRIAD_CKPT_NUM : Nat := 0x006001C
def TRIAD_ST_FAIL : Nat := 0x0060020
def TRIAD_VOTE_DIS : Nat := 0x0060024
def TRIAD_CTRL : Nat := 0x0060028
def TRIAD_ALARM : Nat := 0x0060030
def TRIAD_TS_CTRL : Nat := 0x0060040
def TRIAD_TS_NUM : Nat := 0x0060044
def TRIAD_TS_TS_LO : Nat := 0x0060048
def TRIAD_TS_TS_HI : Nat := 0x006004C
def TRIAD_MARGIN : Nat := 0x0060050
def TRIAD_HOURS_OFFSET : Nat := 0x0060054
def TRIAD_MARGIN_EXH : Nat := 0x0060058
def TRIAD_ISL_PLAN (k : Nat) : Nat := 0x0060080 + k * 4
def TRIAD_ISL_YEARS (k : Nat) : Nat := 0x00600D0 + k * 4
def TRIAD_RO_DRIFT (k : Nat) : Nat := 0x0060100 + k * 4
def TRIAD_LOCK : Nat := 0x0060FF8
def PERF_EVT : Nat := 0x0070000
def PERF_BW_WIN : Nat := 0x0070004
def PERF_SNAP_CTRL : Nat := 0x0070008
def PERF_SNAP_PER : Nat := 0x007000C
def PERF_SNAP_STAT : Nat := 0x0070010
def PERF_SNAP_DROP : Nat := 0x0070014
def PERF_SNAP_ADDR : Nat := 0x0070018
def PERF_SNAP_DATA : Nat := 0x007001C
def PERF_DUMP_SKIP : Nat := 0x0070024
def PERF_RANGE_LO (k : Nat) : Nat := 0x0070040 + k * 8
def PERF_RANGE_HI (k : Nat) : Nat := 0x0070044 + k * 8
def PERF_BW (k : Nat) : Nat := 0x0070100 + k * 4
def PERF_DUMP_CFG (k : Nat) : Nat := 0x0070200 + k * 16
def PERF_DUMP_N (k : Nat) : Nat := 0x0070204 + k * 16
def PERF_DUMP_PER (k : Nat) : Nat := 0x0070208 + k * 16
def PERF_DUMP_NUM (k : Nat) : Nat := 0x007020C + k * 16
def PERF_CNT_LO (k : Nat) : Nat := 0x0074000 + k / 512 * 0x4000 + k % 512 * 8
def PERF_CNT_HI (k : Nat) : Nat := 0x0074004 + k / 512 * 0x4000 + k % 512 * 8
def PERF_SEL (k : Nat) : Nat := 0x007C000 + k * 4
def MEMCTL_EVT : Nat := 0x0080000
def MEMCTL_CE : Nat := 0x0080004
def MEMCTL_UE : Nat := 0x0080008
def MEMCTL_UE_LOC : Nat := 0x008000C
def MEMCTL_UE_OFF : Nat := 0x0080010
def MEMCTL_UE_TS_LO : Nat := 0x0080014
def MEMCTL_UE_TS_HI : Nat := 0x0080018
def MEMCTL_SCRUB_URGENT_LAP : Nat := 0x0080020
def MEMCTL_SCRUB_STAT : Nat := 0x0080024
def MEMCTL_ENG_ECC (k : Nat) : Nat := 0x0080060 + k * 4
def MEMCTL_BANK_OWNER : Nat := 0x0080080
def MEMCTL_MT_CTRL : Nat := 0x0080090
def MEMCTL_MT_LINES : Nat := 0x0080094
def MEMCTL_MT_FAIL : Nat := 0x0080098
def MEMCTL_MT_REPAIR : Nat := 0x008009C
def MEMCTL_MT_POS : Nat := 0x00800A0
def MEMCTL_MT_VMIN : Nat := 0x00800A4
def MEMCTL_DMA_SRC : Nat := 0x00800C0
def MEMCTL_DMA_DST : Nat := 0x00800C4
def MEMCTL_DMA_DEV : Nat := 0x00800C8
def MEMCTL_DMA_LEN : Nat := 0x00800CC
def MEMCTL_DMA_CTRL : Nat := 0x00800D0
def MEMCTL_DMA_STATUS : Nat := 0x00800D4
def MEMCTL_SCRUB_LAP (k : Nat) : Nat := 0x0080100 + k * 4
def MEMCTL_BANK (k : Nat) : Nat := 0x0080400 + k * 4
def MEMCTL_LOCK : Nat := 0x0080FF8
def MEMCTL_POSTED : Nat := 0x0080FFC
def LAG_EVT : Nat := 0x0090000
def LAG_POOL : Nat := 0x0090004
def LAG_RESERVE : Nat := 0x0090008
def LAG_POOL_MIN : Nat := 0x009000C
def LAG_POOL_LOW : Nat := 0x0090010
def LAG_UNROUTED : Nat := 0x0090014
def LAG_LATE : Nat := 0x0090018
def LAG_FORCED : Nat := 0x009001C
def LAG_PARITY : Nat := 0x0090020
def LAG_ROUTES : Nat := 0x0090024
def LAG_STORE : Nat := 0x0090028
def LAG_Q_SEL : Nat := 0x0090080
def LAG_Q_CFG : Nat := 0x0090084
def LAG_Q_QUOTA : Nat := 0x0090088
def LAG_Q_GUAR : Nat := 0x009008C
def LAG_Q_OCC : Nat := 0x0090090
def LAG_Q_TIME : Nat := 0x0090094
def LAG_Q_LAG : Nat := 0x0090098
def LAG_Q_WM_LO : Nat := 0x009009C
def LAG_Q_WM_HI : Nat := 0x00900A0
def LAG_Q_DROP : Nat := 0x00900A4
def LAG_Q_ACCEPT : Nat := 0x00900A8
def LAG_Q_CTRL : Nat := 0x00900AC
def LAG_S_STAT (k : Nat) : Nat := 0x0090400 + k * 16
def LAG_S_REL_LO (k : Nat) : Nat := 0x0090404 + k * 16
def LAG_S_REL_HI (k : Nat) : Nat := 0x0090408 + k * 16
def LAG_S_LATE (k : Nat) : Nat := 0x009040C + k * 16
def COMP_EVT : Nat := 0x00A0000
def COMP_BLOCK : Nat := 0x00A0004
def COMP_RATIO : Nat := 0x00A0008
def COMP_RESYNC : Nat := 0x00A000C
def COMP_VFAIL : Nat := 0x00A0010
def COMP_DEC_DISC : Nat := 0x00A0014
def COMP_UBLK : Nat := 0x00A0018
def COMP_SLOTS : Nat := 0x00A001C
def COMP_SDICT (k : Nat) : Nat := 0x00A0100 + k * 8
def COMP_SDICT_HASH (k : Nat) : Nat := 0x00A0104 + k * 8
def COMP_CMP_STAT (k : Nat) : Nat := 0x00A0200 + k * 16
def COMP_CMP_IN (k : Nat) : Nat := 0x00A0204 + k * 16
def COMP_CMP_OUT (k : Nat) : Nat := 0x00A0208 + k * 16
def COMP_DEC_STAT (k : Nat) : Nat := 0x00A0300 + k * 16
def COMP_DEC_OUT (k : Nat) : Nat := 0x00A0304 + k * 16
def COMP_DSLOT (k : Nat) : Nat := 0x00A0400 + k * 4
def HOSTIF_EVT : Nat := 0x00B0000
def HOSTIF_LINK : Nat := 0x00B0004
def HOSTIF_STATUS : Nat := 0x00B0008
def HOSTIF_RECOV : Nat := 0x00B000C
def HOSTIF_CORR_ERR : Nat := 0x00B0010
def HOSTIF_POSTED_DROP : Nat := 0x00B0014
def HOSTIF_CPL_ABORT : Nat := 0x00B0018
def HOSTIF_POLL : Nat := 0x00B001C
def HOSTIF_PTM_CTRL : Nat := 0x00B0040
def HOSTIF_PTM_MT_LO : Nat := 0x00B0044
def HOSTIF_PTM_MT_HI : Nat := 0x00B0048
def HOSTIF_PTM_PD : Nat := 0x00B004C
def HOSTIF_PTM_FAIL : Nat := 0x00B0050
def HOSTIF_DR_BASE_LO (k : Nat) : Nat := 0x00B0100 + k * 32
def HOSTIF_DR_BASE_HI (k : Nat) : Nat := 0x00B0104 + k * 32
def HOSTIF_DR_CFG (k : Nat) : Nat := 0x00B0108 + k * 32
def HOSTIF_DR_STAT (k : Nat) : Nat := 0x00B010C + k * 32
def HOSTIF_SR_BASE_LO (k : Nat) : Nat := 0x00B0400 + k * 32
def HOSTIF_SR_BASE_HI (k : Nat) : Nat := 0x00B0404 + k * 32
def HOSTIF_SR_CFG (k : Nat) : Nat := 0x00B0408 + k * 32
def HOSTIF_SR_IRQ (k : Nat) : Nat := 0x00B040C + k * 32
def HOSTIF_SR_STAT (k : Nat) : Nat := 0x00B0410 + k * 32
def HOSTIF_SR_STALL (k : Nat) : Nat := 0x00B0414 + k * 32
def HOSTIF_SR_UNITS (k : Nat) : Nat := 0x00B0418 + k * 32
def SEC_EVT : Nat := 0x00C0000
def SEC_LIFECYCLE : Nat := 0x00C0004
def SEC_SLOTS : Nat := 0x00C0008
def SEC_FW_SLOT : Nat := 0x00C000C
def SEC_SVN_FLOOR : Nat := 0x00C0010
def SEC_PROG_STATUS : Nat := 0x00C0014
def SEC_FW_MEAS (k : Nat) : Nat := 0x00C0020 + k * 4
def SEC_KERN_MEAS (k : Nat) : Nat := 0x00C0040 + k * 4
def SEC_ROOT_HASH (k : Nat) : Nat := 0x00C0080 + k * 4
def SEC_SLOT_HASH (k : Nat) : Nat := 0x00C0100 + k * 4
def SEC_PROG_SLOT : Nat := 0x00C0200
def SEC_PROG_DATA (k : Nat) : Nat := 0x00C0210 + k * 4
def SEC_LC_ADVANCE : Nat := 0x00C0240
def CH_EVT (c : Nat) : Nat := 0x0100000 + c * 0x4000 + 0x000
def CH_STATUS (c : Nat) : Nat := 0x0100000 + c * 0x4000 + 0x004
def CH_MUX (c : Nat) : Nat := 0x0100000 + c * 0x4000 + 0x008
def CH_GAIN (c : Nat) : Nat := 0x0100000 + c * 0x4000 + 0x00C
def CH_SETTLE (c : Nat) : Nat := 0x0100000 + c * 0x4000 + 0x010
def CH_EXC_CTRL (c : Nat) : Nat := 0x0100000 + c * 0x4000 + 0x014
def CH_EXC_LEVEL (c : Nat) : Nat := 0x0100000 + c * 0x4000 + 0x018
def CH_EXC_WIDTH (c : Nat) : Nat := 0x0100000 + c * 0x4000 + 0x01C
def CH_EXC_PERIOD (c : Nat) : Nat := 0x0100000 + c * 0x4000 + 0x020
def CH_CONV_DELAY (c : Nat) : Nat := 0x0100000 + c * 0x4000 + 0x024
def CH_CONV_COUNT (c : Nat) : Nat := 0x0100000 + c * 0x4000 + 0x028
def CH_TIMER (c : Nat) : Nat := 0x0100000 + c * 0x4000 + 0x02C
def CH_OPEN_TEST (c : Nat) : Nat := 0x0100000 + c * 0x4000 + 0x030
def CH_VW_DRIVE (c : Nat) : Nat := 0x0100000 + c * 0x4000 + 0x034
def CH_VW_SWEEP (c : Nat) : Nat := 0x0100000 + c * 0x4000 + 0x038
def CH_VW_LISTEN (c : Nat) : Nat := 0x0100000 + c * 0x4000 + 0x03C
def CH_EXC_MAX (c : Nat) : Nat := 0x0100000 + c * 0x4000 + 0x040
def CH_EXC_MEAS (c : Nat) : Nat := 0x0100000 + c * 0x4000 + 0x044
def CH_LAST_LO (c : Nat) : Nat := 0x0100000 + c * 0x4000 + 0x048
def CH_LAST_HI (c : Nat) : Nat := 0x0100000 + c * 0x4000 + 0x04C
def CH_SETTLE_DISC (c : Nat) : Nat := 0x0100000 + c * 0x4000 + 0x050
def CH_LAST_TS (c : Nat) : Nat := 0x0100000 + c * 0x4000 + 0x054
def CH_GOV (c : Nat) : Nat := 0x0100000 + c * 0x4000 + 0x0F0
def CH_CONV (c : Nat) : Nat := 0x0100000 + c * 0x4000 + 0x100
def CH_BGCAL_CTRL (c : Nat) : Nat := 0x0100000 + c * 0x4000 + 0x104
def CH_BGCAL_STAT (c : Nat) : Nat := 0x0100000 + c * 0x4000 + 0x108
def CH_SAT_CNT (c : Nat) : Nat := 0x0100000 + c * 0x4000 + 0x10C
def CH_DEC_DISC (c : Nat) : Nat := 0x0100000 + c * 0x4000 + 0x110
def CH_CAL_STATE (c : Nat) : Nat := 0x0100000 + c * 0x4000 + 0x114
def CH_GROUP_DELAY_LO (c : Nat) : Nat := 0x0100000 + c * 0x4000 + 0x118
def CH_GROUP_DELAY_HI (c : Nat) : Nat := 0x0100000 + c * 0x4000 + 0x11C
def CH_CORR (c k : Nat) : Nat := 0x0100000 + c * 0x4000 + 0x140 + k * 4
def CH_DISC (c k : Nat) : Nat := 0x0100000 + c * 0x4000 + 0x200 + k * 4
def CH_HIT (c : Nat) : Nat := 0x0100000 + c * 0x4000 + 0x208
def CH_TDC_STATUS (c : Nat) : Nat := 0x0100000 + c * 0x4000 + 0x20C
def CH_MICA_MISS (c : Nat) : Nat := 0x0100000 + c * 0x4000 + 0x210
def CH_RUNT_CNT (c : Nat) : Nat := 0x0100000 + c * 0x4000 + 0x214
def CH_TDC_SKEW (c k : Nat) : Nat := 0x0100000 + c * 0x4000 + 0x218 + k * 4
def CH_MICA_STAT (c k : Nat) : Nat := 0x0100000 + c * 0x4000 + 0x220 + k * 4
def CH_MICA_LIMIT (c : Nat) : Nat := 0x0100000 + c * 0x4000 + 0x230
def CH_FREQ_CTRL (c : Nat) : Nat := 0x0100000 + c * 0x4000 + 0x240
def CH_FREQ_MHZ_LO (c : Nat) : Nat := 0x0100000 + c * 0x4000 + 0x248
def CH_FREQ_MHZ_HI (c : Nat) : Nat := 0x0100000 + c * 0x4000 + 0x24C
def CH_FREQ_PERIOD (c : Nat) : Nat := 0x0100000 + c * 0x4000 + 0x250
def CH_IVL_CTRL (c : Nat) : Nat := 0x0100000 + c * 0x4000 + 0x260
def CH_IVL_WIN (c : Nat) : Nat := 0x0100000 + c * 0x4000 + 0x264
def CH_IVL_NOSTOP (c : Nat) : Nat := 0x0100000 + c * 0x4000 + 0x268
def CH_TP (c : Nat) : Nat := 0x0100000 + c * 0x4000 + 0x270
def CH_TP_PERIOD (c : Nat) : Nat := 0x0100000 + c * 0x4000 + 0x274
def CH_ZS_CTRL (c : Nat) : Nat := 0x0100000 + c * 0x4000 + 0x300
def CH_ZS_THR (c : Nat) : Nat := 0x0100000 + c * 0x4000 + 0x304
def CH_ZS_CNT (c : Nat) : Nat := 0x0100000 + c * 0x4000 + 0x308
def CH_ZS_STATUS (c : Nat) : Nat := 0x0100000 + c * 0x4000 + 0x30C
def CH_CAP_CTRL (c : Nat) : Nat := 0x0100000 + c * 0x4000 + 0x320
def CH_CAP_PRE (c : Nat) : Nat := 0x0100000 + c * 0x4000 + 0x324
def CH_CAP_POST (c : Nat) : Nat := 0x0100000 + c * 0x4000 + 0x328
def CH_CAP_HOLDOFF (c : Nat) : Nat := 0x0100000 + c * 0x4000 + 0x32C
def CH_CAP_SPILL (c : Nat) : Nat := 0x0100000 + c * 0x4000 + 0x330
def CH_CAP_STATUS (c : Nat) : Nat := 0x0100000 + c * 0x4000 + 0x334
def CH_CAP_COUNT (c : Nat) : Nat := 0x0100000 + c * 0x4000 + 0x338
def CH_CAP_MISSED (c : Nat) : Nat := 0x0100000 + c * 0x4000 + 0x33C
def CH_CAP_EXTRA (c : Nat) : Nat := 0x0100000 + c * 0x4000 + 0x340
def CH_CAP_LATE (c : Nat) : Nat := 0x0100000 + c * 0x4000 + 0x344
def CH_CAP_LAST_TS_LO (c : Nat) : Nat := 0x0100000 + c * 0x4000 + 0x348
def CH_CAP_LAST_TS_HI (c : Nat) : Nat := 0x0100000 + c * 0x4000 + 0x34C
def CH_EXPORT_BUDGET (c : Nat) : Nat := 0x0100000 + c * 0x4000 + 0x3F0
def CH_EXPORT_USED (c : Nat) : Nat := 0x0100000 + c * 0x4000 + 0x3F4
def CH_LOCK (c : Nat) : Nat := 0x0100000 + c * 0x4000 + 0xFF8
def CH_POSTED (c : Nat) : Nat := 0x0100000 + c * 0x4000 + 0xFFC
def LANE_EVT (l : Nat) : Nat := 0x0400000 + l * 0x4000 + 0x000
def LANE_CTRL (l : Nat) : Nat := 0x0400000 + l * 0x4000 + 0x004
def LANE_STATUS (l : Nat) : Nat := 0x0400000 + l * 0x4000 + 0x008
def LANE_MERIT (l : Nat) : Nat := 0x0400000 + l * 0x4000 + 0x00C
def LANE_MERIT_LOW (l : Nat) : Nat := 0x0400000 + l * 0x4000 + 0x010
def LANE_EQ (l : Nat) : Nat := 0x0400000 + l * 0x4000 + 0x014
def LANE_EQ_STORED (l : Nat) : Nat := 0x0400000 + l * 0x4000 + 0x018
def LANE_TX (l : Nat) : Nat := 0x0400000 + l * 0x4000 + 0x01C
def LANE_GEARBOX (l : Nat) : Nat := 0x0400000 + l * 0x4000 + 0x020
def LANE_LOCK_CNT (l : Nat) : Nat := 0x0400000 + l * 0x4000 + 0x024
def LANE_LOSS_CNT (l : Nat) : Nat := 0x0400000 + l * 0x4000 + 0x028
def LANE_BAD_SH (l : Nat) : Nat := 0x0400000 + l * 0x4000 + 0x02C
def LANE_PRBS_ERR (l : Nat) : Nat := 0x0400000 + l * 0x4000 + 0x030
def LINK_EVT (p : Nat) : Nat := 0x0440000 + p * 0x4000 + 0x000
def LINK_CTRL (p : Nat) : Nat := 0x0440000 + p * 0x4000 + 0x004
def LINK_STATUS (p : Nat) : Nat := 0x0440000 + p * 0x4000 + 0x008
def LINK_NEIGH_LO (p : Nat) : Nat := 0x0440000 + p * 0x4000 + 0x00C
def LINK_NEIGH_HI (p : Nat) : Nat := 0x0440000 + p * 0x4000 + 0x010
def LINK_RETRY_TMO (p : Nat) : Nat := 0x0440000 + p * 0x4000 + 0x014
def LINK_FRAMES_TX (p : Nat) : Nat := 0x0440000 + p * 0x4000 + 0x018
def LINK_FRAMES_RX (p : Nat) : Nat := 0x0440000 + p * 0x4000 + 0x01C
def LINK_CRC_ERR (p : Nat) : Nat := 0x0440000 + p * 0x4000 + 0x020
def LINK_RESENT (p : Nat) : Nat := 0x0440000 + p * 0x4000 + 0x024
def LINK_FAILOVERS (p : Nat) : Nat := 0x0440000 + p * 0x4000 + 0x028
def LINK_CREDIT (p k : Nat) : Nat := 0x0440000 + p * 0x4000 + 0x030 + k * 4
def LINK_TMSG_TXD (p : Nat) : Nat := 0x0440000 + p * 0x4000 + 0x040
def LINK_TMSG_SEND (p : Nat) : Nat := 0x0440000 + p * 0x4000 + 0x044
def LINK_TMSG_RXS (p : Nat) : Nat := 0x0440000 + p * 0x4000 + 0x048
def LINK_TMSG_RXD (p : Nat) : Nat := 0x0440000 + p * 0x4000 + 0x04C
def LINK_DEV : Nat := 0x0440200
def LINK_ENUM_NUM : Nat := 0x0440204
def LINK_ROUTE_SEL : Nat := 0x0440208
def LINK_ROUTE : Nat := 0x044020C
def LINK_RACC_TARGET : Nat := 0x0440210
def LINK_RACC_ADDR : Nat := 0x0440214
def LINK_RACC_DATA : Nat := 0x0440218
def LINK_RACC_CTRL : Nat := 0x044021C
def LINK_RACC_STATUS : Nat := 0x0440220
def ISL_EVT (i : Nat) : Nat := 0x0500000 + i * 0x10000 + 0x000
def ISL_STATUS (i : Nat) : Nat := 0x0500000 + i * 0x10000 + 0x004
def ISL_CLK (i : Nat) : Nat := 0x0500000 + i * 0x10000 + 0x008
def ISL_FREQ_REQ (i : Nat) : Nat := 0x0500000 + i * 0x10000 + 0x00C
def ISL_CTX_CONFLICT (i : Nat) : Nat := 0x0500000 + i * 0x10000 + 0x010
def ISL_STAGE_FULL (i : Nat) : Nat := 0x0500000 + i * 0x10000 + 0x014
def ISL_LATE_IN (i : Nat) : Nat := 0x0500000 + i * 0x10000 + 0x018
def ISL_PER_EVT (i : Nat) : Nat := 0x0500000 + i * 0x10000 + 0x100
def ISL_PER_CTRL (i : Nat) : Nat := 0x0500000 + i * 0x10000 + 0x104
def ISL_PER_TICKS_LO (i : Nat) : Nat := 0x0500000 + i * 0x10000 + 0x108
def ISL_PER_TICKS_HI (i : Nat) : Nat := 0x0500000 + i * 0x10000 + 0x10C
def ISL_PER_ANCHOR_LO (i : Nat) : Nat := 0x0500000 + i * 0x10000 + 0x110
def ISL_PER_ANCHOR_HI (i : Nat) : Nat := 0x0500000 + i * 0x10000 + 0x114
def ISL_PER_NUM (i : Nat) : Nat := 0x0500000 + i * 0x10000 + 0x118
def ISL_COMMIT_LAST (i : Nat) : Nat := 0x0500000 + i * 0x10000 + 0x11C
def ISL_STAGED (i : Nat) : Nat := 0x0500000 + i * 0x10000 + 0x120
def ISL_DEADLINE_CNT (i : Nat) : Nat := 0x0500000 + i * 0x10000 + 0x124
def ISL_CTX_SKIP (i : Nat) : Nat := 0x0500000 + i * 0x10000 + 0x128
def ISL_OVER_BUDGET (i : Nat) : Nat := 0x0500000 + i * 0x10000 + 0x12C
def ISL_CTX_OWNED (i : Nat) : Nat := 0x0500000 + i * 0x10000 + 0x130
def ISL_COMMIT_TS_LO (i : Nat) : Nat := 0x0500000 + i * 0x10000 + 0x134
def ISL_COMMIT_TS_HI (i : Nat) : Nat := 0x0500000 + i * 0x10000 + 0x138
def ISL_ENG_STAT (i k : Nat) : Nat := 0x0504000 + i * 0x10000 + 0x000 + k * 256
def ISL_ENG_BIND (i k : Nat) : Nat := 0x0504000 + i * 0x10000 + 0x004 + k * 256
def ISL_ENG_KID (i k : Nat) : Nat := 0x0504000 + i * 0x10000 + 0x008 + k * 256
def ISL_ENG_KVER (i k : Nat) : Nat := 0x0504000 + i * 0x10000 + 0x00C + k * 256
def ISL_ENG_FAULT (i k : Nat) : Nat := 0x0504000 + i * 0x10000 + 0x010 + k * 256
def ISL_ENG_ITEMS (i k : Nat) : Nat := 0x0504000 + i * 0x10000 + 0x014 + k * 256
def ISL_ENG_PUSHED (i k : Nat) : Nat := 0x0504000 + i * 0x10000 + 0x018 + k * 256
def ISL_ENG_ABORTS (i k : Nat) : Nat := 0x0504000 + i * 0x10000 + 0x01C + k * 256
def ISL_ENG_EOPDROP (i k : Nat) : Nat := 0x0504000 + i * 0x10000 + 0x020 + k * 256
def ISL_ENG_HOLDDROP (i k : Nat) : Nat := 0x0504000 + i * 0x10000 + 0x024 + k * 256
def ISL_ENG_INGAP (i k : Nat) : Nat := 0x0504000 + i * 0x10000 + 0x028 + k * 256
def ISL_ENG_MAXCYC (i k : Nat) : Nat := 0x0504000 + i * 0x10000 + 0x02C + k * 256
def ISL_ENG_BUDGET_START (i k : Nat) : Nat := 0x0504000 + i * 0x10000 + 0x030 + k * 256
def ISL_ENG_BUDGET_ITEM (i k : Nat) : Nat := 0x0504000 + i * 0x10000 + 0x034 + k * 256
def ISL_ENG_ITEMS_MAX (i k : Nat) : Nat := 0x0504000 + i * 0x10000 + 0x038 + k * 256
def ISL_ENG_CYC_LAST (i k : Nat) : Nat := 0x0504000 + i * 0x10000 + 0x03C + k * 256

end Sys2Proof.Machine.Reg
end

