-- ==== Sys2Proof/Machine/RegKind.lean ====
section
/-! DEFINITION. Register descriptors: the type codes of 00 R13 and the pages of 02 R50. -/

namespace Sys2Proof.Machine

/-- How a register judges a write: the type codes of 00 R13. `cntLo` and `cntHi` are the halves of a 48-bit counter
(02 R72) and `grdC` the complement address of a guarded register (02 R68). -/
inductive RegKind where
  | ro | rw | rwl | wo | wo1 | seq | cnt | cntLo | cntHi | grd | grdC | pst
  deriving DecidableEq, Repr

/-- The half of a 64-bit pair that a register is (02 R57). -/
inductive PairSide where
  | none | lo | hi
  deriving DecidableEq, Repr

/-- A field whose written value is limited when it is stored ("below n stores n"). -/
structure Clamp where
  lo : Nat
  len : Nat
  min : Nat
  max : Nat
  deriving DecidableEq, Repr

/-- One register or register array of a page. -/
structure RegDesc where
  name : String
  off : Nat
  stride : Nat
  num : Nat
  kind : RegKind
  wmask : Word
  reset : Word
  clamps : List Clamp
  side : PairSide
  deriving DecidableEq, Repr

/-- A written word as it is stored: reserved bits 0, fields limited. -/
def RegDesc.limited (d : RegDesc) (w : Word) : Word :=
  d.clamps.foldl (fun w c => setFld w c.lo c.len (clampNat c.min c.max (fld w c.lo c.len))) (w &&& d.wmask)

/-- The register pages (02 R50, 02 R51). `perfCnt` and `perfSel` are the counter and select pages of PERF (21 R662) and
`islEng` the engine page of an Island (09 R342). -/
inductive Page where
  | dev | own | cmd | regctl | qtz | flint | hk | emit | triad | perf | perfCnt | perfSel
  | memctl | lagoon | comp | hostif | sec | ch | lane | link | isl | islEng
  deriving DecidableEq, Repr

/-- A register's place: its page, the number of the unit that owns the page, and the byte offset in the page. -/
structure Loc where
  page : Page
  idx : Nat
  off : Nat
  deriving DecidableEq, Repr

end Sys2Proof.Machine
end

