-- ==== Sys2Proof/Machine/RegTable.lean ====
section
/-! DEFINITION. The register pages of BAR0, one descriptor per register, as the register tables of each
chapter list them: 02 R74, 03 (OWN, CMD), 04 R153, 05 R184 and R200, 06 R236 and R237, 07 R266, 08 R294, 09 R342,
10 R367, 12 R419, 13 R448, 14 R477, 15 (LANE, LINK), 16 R546, 17 R577, 18 (TRIAD), 19 (EMIT), 20 (DEV, SEC), 21 R662.
A descriptor's write mask covers its RW, RWL, PST or GRD bits; its clamps are the table's `below n stores n` remarks. -/

namespace Sys2Proof.Machine

/-- Registers of page DEV. -/
def regsDev : List RegDesc := [
  ⟨"DEV_ID", 0x000, 0, 1, .ro, 0x00000000, 0x0192E1B0, [], .none⟩,
  ⟨"DEV_EVT", 0x004, 0, 1, .seq, 0x00000000, 0x00000000, [], .none⟩,
  ⟨"DEV_STATUS", 0x008, 0, 1, .ro, 0x00000000, 0x08000000, [], .none⟩,
  ⟨"DEV_RESET_CAUSE", 0x00C, 0, 1, .ro, 0x00000000, 0x00000000, [], .none⟩,
  ⟨"DEV_START", 0x010, 0, 1, .ro, 0x00000000, 0x00000000, [], .none⟩,
  ⟨"DEV_WDOG", 0x014, 0, 1, .rwl, 0x0000FFFF, 0x000003E8, [⟨0, 16, 100, 65535⟩], .none⟩,
  ⟨"DEV_CTRL", 0x018, 0, 1, .rw, 0x00000001, 0x00000000, [], .none⟩,
  ⟨"DEV_WARM_CNT", 0x01C, 0, 1, .cnt, 0x00000000, 0x00000000, [], .none⟩,
  ⟨"DEV_BOOT_LEN", 0x020, 0, 1, .rw, 0x007FFFFF, 0x00000000, [⟨0, 23, 0, 4194304⟩], .none⟩,
  ⟨"DEV_BOOT_GO", 0x024, 0, 1, .wo, 0x00000000, 0x00000000, [], .none⟩,
  ⟨"DEV_SERIAL_LO", 0x028, 0, 1, .ro, 0x00000000, 0x00000000, [], .lo⟩,
  ⟨"DEV_SERIAL_HI", 0x02C, 0, 1, .ro, 0x00000000, 0x00000000, [], .hi⟩,
  ⟨"DEV_FW_VER", 0x030, 0, 1, .ro, 0x00000000, 0x00000000, [], .none⟩,
  ⟨"DEV_LOCK", 0xFF8, 0, 1, .wo1, 0x00000000, 0x00000000, [], .none⟩]

/-- Registers of page OWN. -/
def regsOwn : List RegDesc := [
  ⟨"OWN_STATE", 0x000, 0, 1, .ro, 0x00000000, 0x00000000, [], .none⟩,
  ⟨"OWN_EVT", 0x004, 0, 1, .seq, 0x00000000, 0x00000000, [], .none⟩,
  ⟨"OWN_CHANGES", 0x008, 0, 1, .cnt, 0x00000000, 0x00000000, [], .none⟩,
  ⟨"OWN_TOKEN_LO", 0x010, 0, 1, .ro, 0x00000000, 0x00000000, [], .lo⟩,
  ⟨"OWN_TOKEN_HI", 0x014, 0, 1, .ro, 0x00000000, 0x00000000, [], .hi⟩,
  ⟨"OWN_FORCE", 0x020, 0, 1, .grd, 0x0000FF0F, 0x00000000, [], .none⟩,
  ⟨"OWN_FORCE_C", 0x024, 0, 1, .grdC, 0x0000FF0F, 0xFFFFFFFF, [], .none⟩,
  ⟨"OWN_LEASE_DEFAULT", 0x028, 0, 1, .rwl, 0x000FFFFF, 0x000007D0, [⟨0, 20, 50, 600000⟩], .none⟩,
  ⟨"OWN_LOCK", 0xFF8, 0, 1, .wo1, 0x00000000, 0x00000000, [], .none⟩]

/-- Registers of page CMD. -/
def regsCmd : List RegDesc := [
  ⟨"CMD_DOORBELL", 0x000, 64, 8, .wo, 0x00000000, 0x00000000, [], .none⟩,
  ⟨"CMD_SQ_HEAD", 0x004, 64, 8, .ro, 0x00000000, 0x00000000, [], .none⟩,
  ⟨"CMD_SQ_PORT", 0x008, 64, 8, .wo, 0x00000000, 0x00000000, [], .none⟩,
  ⟨"CMD_RP_TAIL", 0x00C, 64, 8, .ro, 0x00000000, 0x00000000, [], .none⟩,
  ⟨"CMD_RP_HEAD", 0x010, 64, 8, .rw, 0x0000001F, 0x00000000, [], .none⟩,
  ⟨"CMD_RP_ADDR", 0x014, 64, 8, .rw, 0x00001FFF, 0x00000000, [], .none⟩,
  ⟨"CMD_RP_DATA", 0x018, 64, 8, .ro, 0x00000000, 0x00000000, [], .none⟩,
  ⟨"CMD_EVT", 0x01C, 64, 8, .seq, 0x00000000, 0x00000000, [], .none⟩,
  ⟨"CMD_STAT", 0x020, 64, 8, .ro, 0x00000000, 0x00000000, [], .none⟩,
  ⟨"CMD_FWD_TIMEOUT", 0x400, 0, 1, .rw, 0x0000FFFF, 0x00000064, [⟨0, 16, 1, 65535⟩], .none⟩,
  ⟨"CMD_FWD_LATE", 0x408, 0, 1, .cnt, 0x00000000, 0x00000000, [], .none⟩]

/-- Registers of page REGCTL. -/
def regsRegctl : List RegDesc := [
  ⟨"REGCTL_EVT", 0x000, 0, 1, .seq, 0x00000000, 0x00000000, [], .none⟩,
  ⟨"REGCTL_GUARD", 0x004, 0, 1, .ro, 0x00000000, 0x00000000, [], .none⟩,
  ⟨"REGCTL_LOG_CNT", 0x008, 0, 1, .cnt, 0x00000000, 0x00000000, [], .none⟩,
  ⟨"REGCTL_SNAP", 0x010, 0, 1, .wo, 0x00000000, 0x00000000, [], .none⟩,
  ⟨"REGCTL_SNAP_TS_LO", 0x018, 0, 1, .ro, 0x00000000, 0x00000000, [], .lo⟩,
  ⟨"REGCTL_SNAP_TS_HI", 0x01C, 0, 1, .ro, 0x00000000, 0x00000000, [], .hi⟩,
  ⟨"REGCTL_LOG", 0x100, 16, 16, .ro, 0x00000000, 0x00000000, [], .none⟩,
  ⟨"REGCTL_LOG_W1", 0x104, 16, 16, .ro, 0x00000000, 0x00000000, [], .none⟩,
  ⟨"REGCTL_LOG_W2", 0x108, 16, 16, .ro, 0x00000000, 0x00000000, [], .none⟩,
  ⟨"REGCTL_LOG_W3", 0x10C, 16, 16, .ro, 0x00000000, 0x00000000, [], .none⟩]

/-- Registers of page QTZ. -/
def regsQtz : List RegDesc := [
  ⟨"QTZ_EVT", 0x000, 0, 1, .seq, 0x00000000, 0x00000000, [], .none⟩,
  ⟨"QTZ_CTRL", 0x004, 0, 1, .rw, 0xE000FFFF, 0x200003E8, [⟨0, 16, 50, 65535⟩], .none⟩,
  ⟨"QTZ_STATUS", 0x008, 0, 1, .ro, 0x00000000, 0x40000000, [], .none⟩,
  ⟨"QTZ_NOW_FRAC", 0x00C, 0, 1, .ro, 0x00000000, 0x00000000, [], .none⟩,
  ⟨"QTZ_NOW_NS", 0x010, 0, 1, .ro, 0x00000000, 0x00000000, [], .none⟩,
  ⟨"QTZ_NOW_SEC_LO", 0x014, 0, 1, .ro, 0x00000000, 0x00000000, [], .lo⟩,
  ⟨"QTZ_NOW_SEC_HI", 0x018, 0, 1, .ro, 0x00000000, 0x00000000, [], .hi⟩,
  ⟨"QTZ_INC_LO", 0x01C, 0, 1, .rw, 0xFFFFFFFF, 0xAAAAAAAB, [], .lo⟩,
  ⟨"QTZ_INC_HI", 0x020, 0, 1, .rw, 0x0000000F, 0x00000000, [], .hi⟩,
  ⟨"QTZ_STEP", 0x024, 0, 1, .grd, 0xFFFFFFFF, 0x00000000, [], .none⟩,
  ⟨"QTZ_STEP_C", 0x028, 0, 1, .grdC, 0xFFFFFFFF, 0xFFFFFFFF, [], .none⟩,
  ⟨"QTZ_JUMP_LIMIT", 0x02C, 0, 1, .grd, 0xFFFFFFFF, 0x000003E8, [], .none⟩,
  ⟨"QTZ_JUMP_LIMIT_C", 0x030, 0, 1, .grdC, 0xFFFFFFFF, 0xFFFFFC17, [], .none⟩,
  ⟨"QTZ_CHG_TS_LO", 0x034, 0, 1, .ro, 0x00000000, 0x00000000, [], .lo⟩,
  ⟨"QTZ_CHG_TS_HI", 0x038, 0, 1, .ro, 0x00000000, 0x00000000, [], .hi⟩,
  ⟨"QTZ_REFUSE_CNT", 0x03C, 0, 1, .cnt, 0x00000000, 0x00000000, [], .none⟩,
  ⟨"QTZ_PPS_OUT", 0x040, 0, 1, .rw, 0xC00003FF, 0x00000064, [⟨0, 10, 1, 999⟩], .none⟩,
  ⟨"QTZ_PORT_SEL", 0x044, 0, 1, .rw, 0x00000003, 0x00000000, [], .none⟩,
  ⟨"QTZ_DELAY", 0x048, 0, 1, .ro, 0x00000000, 0x00000000, [], .none⟩,
  ⟨"QTZ_OFFSET", 0x04C, 0, 1, .ro, 0x00000000, 0x00000000, [], .none⟩,
  ⟨"QTZ_ASYM", 0x050, 0, 1, .rw, 0xFFFFFFFF, 0x00000000, [], .none⟩,
  ⟨"QTZ_PROBE_CNT", 0x054, 0, 1, .cnt, 0x00000000, 0x00000000, [], .none⟩,
  ⟨"QTZ_PROBE_FAIL", 0x058, 0, 1, .cnt, 0x00000000, 0x00000000, [], .none⟩,
  ⟨"QTZ_MSG_INFO", 0x05C, 0, 1, .ro, 0x00000000, 0x00000000, [], .none⟩,
  ⟨"QTZ_MSG_TS_LO", 0x060, 0, 1, .ro, 0x00000000, 0x00000000, [], .lo⟩,
  ⟨"QTZ_MSG_TS_HI", 0x064, 0, 1, .ro, 0x00000000, 0x00000000, [], .hi⟩,
  ⟨"QTZ_PTM_T1_LO", 0x068, 0, 1, .ro, 0x00000000, 0x00000000, [], .lo⟩,
  ⟨"QTZ_PTM_T1_HI", 0x06C, 0, 1, .ro, 0x00000000, 0x00000000, [], .hi⟩,
  ⟨"QTZ_PTM_RTT", 0x070, 0, 1, .ro, 0x00000000, 0x00000000, [], .none⟩,
  ⟨"QTZ_REF_CTRL", 0x074, 0, 1, .rw, 0x00000007, 0x00000000, [], .none⟩,
  ⟨"QTZ_REF_STATUS", 0x078, 0, 1, .ro, 0x00000000, 0xC0000000, [], .none⟩,
  ⟨"QTZ_REF_EVT", 0x07C, 0, 1, .seq, 0x00000000, 0x00000000, [], .none⟩]

/-- Registers of page FLINT. -/
def regsFlint : List RegDesc := [
  ⟨"FLINT_EVT", 0x000, 0, 1, .seq, 0x00000000, 0x00000000, [], .none⟩,
  ⟨"FLINT_TRIGIN", 0x004, 0, 1, .pst, 0x00000FFF, 0x00000020, [], .none⟩,
  ⟨"FLINT_TOUT", 0x010, 4, 4, .pst, 0xE03FFFFF, 0x000005DC, [], .none⟩,
  ⟨"FLINT_RC_DUP", 0x020, 0, 1, .cnt, 0x00000000, 0x00000000, [], .none⟩,
  ⟨"FLINT_RC_OVF", 0x024, 0, 1, .cnt, 0x00000000, 0x00000000, [], .none⟩,
  ⟨"FLINT_EV_MERGE", 0x028, 0, 1, .cnt, 0x00000000, 0x00000000, [], .none⟩,
  ⟨"FLINT_PROG_ADDR", 0x040, 0, 1, .rw, 0x00000FFF, 0x00000000, [], .none⟩,
  ⟨"FLINT_PROG_DATA", 0x044, 0, 1, .ro, 0x00000000, 0x00000000, [], .none⟩,
  ⟨"FLINT_STAT", 0x100, 64, 8, .ro, 0x00000000, 0x00000000, [], .none⟩,
  ⟨"FLINT_CTRL", 0x104, 64, 8, .pst, 0x00000003, 0x00000000, [], .none⟩,
  ⟨"FLINT_HOLDOFF", 0x108, 64, 8, .pst, 0x00FFFFFF, 0x00000096, [⟨0, 24, 150, 16777215⟩], .none⟩,
  ⟨"FLINT_AUTO_LO", 0x10C, 64, 8, .pst, 0xFFFFFFFF, 0x00000000, [], .lo⟩,
  ⟨"FLINT_AUTO_HI", 0x110, 64, 8, .pst, 0x0000FFFF, 0x00000000, [], .hi⟩,
  ⟨"FLINT_AUTO_ACT", 0x114, 64, 8, .pst, 0xFFFFFFFF, 0x00000000, [], .none⟩,
  ⟨"FLINT_TRIG_CNT", 0x118, 64, 8, .cnt, 0x00000000, 0x00000000, [], .none⟩,
  ⟨"FLINT_SUPP_CNT", 0x11C, 64, 8, .cnt, 0x00000000, 0x00000000, [], .none⟩,
  ⟨"FLINT_FORCED_CNT", 0x120, 64, 8, .cnt, 0x00000000, 0x00000000, [], .none⟩,
  ⟨"FLINT_CNT0", 0x124, 64, 8, .ro, 0x00000000, 0x00000000, [], .none⟩,
  ⟨"FLINT_CNT1", 0x128, 64, 8, .ro, 0x00000000, 0x00000000, [], .none⟩,
  ⟨"FLINT_TMR0_LO", 0x12C, 64, 8, .ro, 0x00000000, 0x00000000, [], .lo⟩,
  ⟨"FLINT_TMR0_HI", 0x130, 64, 8, .ro, 0x00000000, 0x00000000, [], .hi⟩,
  ⟨"FLINT_TMR1_LO", 0x134, 64, 8, .ro, 0x00000000, 0x00000000, [], .lo⟩,
  ⟨"FLINT_TMR1_HI", 0x138, 64, 8, .ro, 0x00000000, 0x00000000, [], .hi⟩,
  ⟨"FLINT_LAST_TS", 0x13C, 64, 8, .ro, 0x00000000, 0x00000000, [], .none⟩,
  ⟨"FLINT_RC", 0x400, 4, 16, .pst, 0xE70F0000, 0xC0000000, [], .none⟩,
  ⟨"FLINT_POSTED", 0xFFC, 0, 1, .seq, 0x00000000, 0x00000000, [], .none⟩]

/-- Registers of page HK. -/
def regsHk : List RegDesc := [
  ⟨"HK_EVT", 0x000, 0, 1, .seq, 0x00000000, 0x00000000, [], .none⟩,
  ⟨"HK_CTRL", 0x004, 0, 1, .rw, 0x801E0003, 0x00000000, [], .none⟩,
  ⟨"HK_STATUS", 0x008, 0, 1, .ro, 0x00000000, 0x00000000, [], .none⟩,
  ⟨"HK_TIMER", 0x00C, 0, 1, .rw, 0x00FFFFFF, 0x000003E8, [⟨0, 24, 1, 16777215⟩], .none⟩,
  ⟨"HK_DELAY", 0x010, 0, 1, .rw, 0x0000FFFF, 0x00000000, [], .none⟩,
  ⟨"HK_SCAN_LO", 0x014, 0, 1, .rw, 0x0000FFFF, 0x00000000, [], .none⟩,
  ⟨"HK_OVR_CNT", 0x018, 0, 1, .cnt, 0x00000000, 0x00000000, [], .none⟩,
  ⟨"HK_SCAN_HI", 0x01C, 0, 1, .rw, 0x0000FFFF, 0x00000000, [], .none⟩,
  ⟨"HK_DATA", 0x040, 4, 16, .ro, 0x00000000, 0x00000000, [], .none⟩,
  ⟨"HK_DATA_B", 0x080, 4, 16, .ro, 0x00000000, 0x00000000, [], .none⟩,
  ⟨"HK_LIM", 0x0C0, 4, 16, .rw, 0x0FFF0FFF, 0x0FFF0000, [], .none⟩,
  ⟨"HK_LIM_B", 0x100, 4, 16, .rw, 0x0FFF0FFF, 0x0FFF0000, [], .none⟩,
  ⟨"HK_LIM_STAT", 0x140, 0, 1, .ro, 0x00000000, 0x00000000, [], .none⟩]

/-- Registers of page EMIT. -/
def regsEmit : List RegDesc := [
  ⟨"EMIT_EVT", 0x000, 0, 1, .seq, 0x00000000, 0x00000000, [], .none⟩,
  ⟨"EMIT_GOV", 0x004, 0, 1, .ro, 0x00000000, 0x00000100, [], .none⟩,
  ⟨"EM_EVT", 0x100, 64, 8, .seq, 0x00000000, 0x00000000, [], .none⟩,
  ⟨"EM_CTRL", 0x104, 64, 8, .pst, 0xF10F0000, 0x00000000, [⟨16, 4, 0, 11⟩], .none⟩,
  ⟨"EM_STATUS", 0x108, 64, 8, .ro, 0x00000000, 0x00010000, [], .none⟩,
  ⟨"EM_LEVEL", 0x10C, 64, 8, .pst, 0x000003FF, 0x00000000, [], .none⟩,
  ⟨"EM_ONCOUNT", 0x110, 64, 8, .pst, 0x0001FFFF, 0x00000000, [⟨0, 17, 0, 65536⟩], .none⟩,
  ⟨"EM_SLOT", 0x114, 64, 8, .pst, 0x00000FFF, 0x00000010, [⟨0, 12, 16, 4095⟩], .none⟩,
  ⟨"EM_PERIOD", 0x118, 64, 8, .pst, 0xFFFFFFFF, 0x000124F8, [⟨0, 32, 256, 4294967295⟩], .none⟩,
  ⟨"EM_PHASE", 0x11C, 64, 8, .pst, 0xFFFFFFFF, 0x00000000, [], .none⟩,
  ⟨"EM_WIDTH", 0x120, 64, 8, .pst, 0x0003FFFF, 0x00000C00, [⟨0, 18, 768, 153600⟩], .none⟩,
  ⟨"EM_TDERATE", 0x124, 64, 8, .pst, 0x00000FFF, 0x000002E5, [], .none⟩,
  ⟨"EM_TOFF", 0x128, 64, 8, .pst, 0x00000FFF, 0x00000207, [], .none⟩,
  ⟨"EM_LAST_TS_LO", 0x12C, 64, 8, .ro, 0x00000000, 0x00000000, [], .lo⟩,
  ⟨"EM_LAST_TS_HI", 0x130, 64, 8, .ro, 0x00000000, 0x00000000, [], .hi⟩,
  ⟨"EM_PULSES", 0x134, 64, 8, .cnt, 0x00000000, 0x00000000, [], .none⟩,
  ⟨"EM_IMEAS", 0x138, 64, 8, .ro, 0x00000000, 0x00000000, [], .none⟩,
  ⟨"EM_IMAX", 0x13C, 64, 8, .rwl, 0x000003FF, 0x000003FF, [], .none⟩,
  ⟨"EMIT_LOCK", 0xFF8, 0, 1, .wo1, 0x00000000, 0x00000000, [], .none⟩,
  ⟨"EMIT_POSTED", 0xFFC, 0, 1, .seq, 0x00000000, 0x00000000, [], .none⟩]

/-- Registers of page TRIAD. -/
def regsTriad : List RegDesc := [
  ⟨"TRIAD_EVT", 0x000, 0, 1, .seq, 0x00000000, 0x00000000, [], .none⟩,
  ⟨"TRIAD_STATUS", 0x004, 0, 1, .ro, 0x00000000, 0x00000000, [], .none⟩,
  ⟨"TRIAD_MEMBER", 0x008, 4, 3, .ro, 0x00000000, 0x00000000, [], .none⟩,
  ⟨"TRIAD_SWITCHES", 0x014, 0, 1, .cnt, 0x00000000, 0x00000000, [], .none⟩,
  ⟨"TRIAD_PAUSE_MAX", 0x018, 0, 1, .ro, 0x00000000, 0x00000000, [], .none⟩,
  ⟨"TRIAD_CKPT_NUM", 0x01C, 0, 1, .ro, 0x00000000, 0x00000000, [], .none⟩,
  ⟨"TRIAD_ST_FAIL", 0x020, 0, 1, .cnt, 0x00000000, 0x00000000, [], .none⟩,
  ⟨"TRIAD_VOTE_DIS", 0x024, 0, 1, .cnt, 0x00000000, 0x00000000, [], .none⟩,
  ⟨"TRIAD_CTRL", 0x028, 0, 1, .rwl, 0x00000001, 0x00000001, [], .none⟩,
  ⟨"TRIAD_ALARM", 0x030, 0, 1, .rwl, 0x00000003, 0x80000002, [], .none⟩,
  ⟨"TRIAD_TS_CTRL", 0x040, 0, 1, .rw, 0x80FFFFFF, 0x80000E10, [⟨0, 24, 60, 16777215⟩], .none⟩,
  ⟨"TRIAD_TS_NUM", 0x044, 0, 1, .ro, 0x00000000, 0x00000000, [], .none⟩,
  ⟨"TRIAD_TS_TS_LO", 0x048, 0, 1, .ro, 0x00000000, 0x00000000, [], .lo⟩,
  ⟨"TRIAD_TS_TS_HI", 0x04C, 0, 1, .ro, 0x00000000, 0x00000000, [], .hi⟩,
  ⟨"TRIAD_MARGIN", 0x050, 0, 1, .ro, 0x00000000, 0x00000019, [], .none⟩,
  ⟨"TRIAD_HOURS_OFFSET", 0x054, 0, 1, .ro, 0x00000000, 0x00000000, [], .none⟩,
  ⟨"TRIAD_MARGIN_EXH", 0x058, 0, 1, .ro, 0x00000000, 0x00000000, [], .none⟩,
  ⟨"TRIAD_ISL_PLAN", 0x080, 4, 18, .ro, 0x00000000, 0x00000000, [], .none⟩,
  ⟨"TRIAD_ISL_YEARS", 0x0D0, 4, 12, .ro, 0x00000000, 0x0000FFFE, [], .none⟩,
  ⟨"TRIAD_RO_DRIFT", 0x100, 4, 18, .ro, 0x00000000, 0x00000000, [], .none⟩,
  ⟨"TRIAD_LOCK", 0xFF8, 0, 1, .wo1, 0x00000000, 0x00000000, [], .none⟩]

/-- Registers of page PERF. -/
def regsPerf : List RegDesc := [
  ⟨"PERF_EVT", 0x000, 0, 1, .seq, 0x00000000, 0x00000000, [], .none⟩,
  ⟨"PERF_BW_WIN", 0x004, 0, 1, .rw, 0x000FFFFF, 0x000003E8, [⟨0, 20, 1, 1048575⟩], .none⟩,
  ⟨"PERF_SNAP_CTRL", 0x008, 0, 1, .rw, 0x800F7007, 0x00000000, [⟨16, 4, 0, 11⟩], .none⟩,
  ⟨"PERF_SNAP_PER", 0x00C, 0, 1, .rw, 0x0000FFFF, 0x00000001, [⟨0, 16, 1, 65535⟩], .none⟩,
  ⟨"PERF_SNAP_STAT", 0x010, 0, 1, .ro, 0x00000000, 0x00000000, [], .none⟩,
  ⟨"PERF_SNAP_DROP", 0x014, 0, 1, .cnt, 0x00000000, 0x00000000, [], .none⟩,
  ⟨"PERF_SNAP_ADDR", 0x018, 0, 1, .rw, 0x03FFFFFC, 0x00000000, [], .none⟩,
  ⟨"PERF_SNAP_DATA", 0x01C, 0, 1, .ro, 0x00000000, 0x00000000, [], .none⟩,
  ⟨"PERF_DUMP_SKIP", 0x024, 0, 1, .cnt, 0x00000000, 0x00000000, [], .none⟩,
  ⟨"PERF_RANGE_LO", 0x040, 8, 8, .rw, 0x0FFFFFFF, 0x00000000, [], .none⟩,
  ⟨"PERF_RANGE_HI", 0x044, 8, 8, .rw, 0x0FFFFFFF, 0x00000000, [], .none⟩,
  ⟨"PERF_BW", 0x100, 4, 20, .ro, 0x00000000, 0x00000000, [], .none⟩,
  ⟨"PERF_DUMP_CFG", 0x200, 16, 16, .rw, 0xF30003FF, 0x00000000, [], .none⟩,
  ⟨"PERF_DUMP_N", 0x204, 16, 16, .rw, 0x000007FF, 0x00000001, [⟨0, 11, 1, 1024⟩], .none⟩,
  ⟨"PERF_DUMP_PER", 0x208, 16, 16, .rw, 0x00FFFFFF, 0x000003E8, [⟨0, 24, 10, 16777215⟩], .none⟩,
  ⟨"PERF_DUMP_NUM", 0x20C, 16, 16, .ro, 0x00000000, 0x00000000, [], .none⟩]

/-- Registers of page PERFC. -/
def regsPerfCnt : List RegDesc := [
  ⟨"PERF_CNT_LO", 0x000, 8, 512, .cntLo, 0x00000000, 0x00000000, [], .lo⟩,
  ⟨"PERF_CNT_HI", 0x004, 8, 512, .cntHi, 0x00000000, 0x00000000, [], .hi⟩]

/-- Registers of page PERFS. -/
def regsPerfSel : List RegDesc := [
  ⟨"PERF_SEL", 0x000, 4, 1024, .rw, 0xFFFFFFFF, 0x00000000, [], .none⟩]

/-- Registers of page MEMCTL. -/
def regsMemctl : List RegDesc := [
  ⟨"MEMCTL_EVT", 0x000, 0, 1, .seq, 0x00000000, 0x00000000, [], .none⟩,
  ⟨"MEMCTL_CE", 0x004, 0, 1, .cnt, 0x00000000, 0x00000000, [], .none⟩,
  ⟨"MEMCTL_UE", 0x008, 0, 1, .cnt, 0x00000000, 0x00000000, [], .none⟩,
  ⟨"MEMCTL_UE_LOC", 0x00C, 0, 1, .ro, 0x00000000, 0x00000000, [], .none⟩,
  ⟨"MEMCTL_UE_OFF", 0x010, 0, 1, .ro, 0x00000000, 0x00000000, [], .none⟩,
  ⟨"MEMCTL_UE_TS_LO", 0x014, 0, 1, .ro, 0x00000000, 0x00000000, [], .lo⟩,
  ⟨"MEMCTL_UE_TS_HI", 0x018, 0, 1, .ro, 0x00000000, 0x00000000, [], .hi⟩,
  ⟨"MEMCTL_SCRUB_URGENT_LAP", 0x020, 0, 1, .rwl, 0xFFFFFFFF, 0x00989680, [⟨0, 32, 1000, 4294967295⟩], .none⟩,
  ⟨"MEMCTL_SCRUB_STAT", 0x024, 0, 1, .ro, 0x00000000, 0x00000000, [], .none⟩,
  ⟨"MEMCTL_ENG_ECC", 0x060, 4, 6, .rw, 0xFFFFFFFF, 0x00000000, [], .none⟩,
  ⟨"MEMCTL_BANK_OWNER", 0x080, 0, 1, .pst, 0x7F0700FF, 0x00000000, [], .none⟩,
  ⟨"MEMCTL_MT_CTRL", 0x090, 0, 1, .rw, 0xC000FFFF, 0x00000040, [⟨0, 16, 1, 65535⟩], .none⟩,
  ⟨"MEMCTL_MT_LINES", 0x094, 0, 1, .cnt, 0x00000000, 0x00000000, [], .none⟩,
  ⟨"MEMCTL_MT_FAIL", 0x098, 0, 1, .cnt, 0x00000000, 0x00000000, [], .none⟩,
  ⟨"MEMCTL_MT_REPAIR", 0x09C, 0, 1, .cnt, 0x00000000, 0x00000000, [], .none⟩,
  ⟨"MEMCTL_MT_POS", 0x0A0, 0, 1, .ro, 0x00000000, 0x00000000, [], .none⟩,
  ⟨"MEMCTL_MT_VMIN", 0x0A4, 0, 1, .ro, 0x00000000, 0x00000000, [], .none⟩,
  ⟨"MEMCTL_DMA_SRC", 0x0C0, 0, 1, .rw, 0x7F03FFFF, 0x00000000, [], .none⟩,
  ⟨"MEMCTL_DMA_DST", 0x0C4, 0, 1, .rw, 0x7F03FFFF, 0x00000000, [], .none⟩,
  ⟨"MEMCTL_DMA_DEV", 0x0C8, 0, 1, .rw, 0x000000FF, 0x00000000, [], .none⟩,
  ⟨"MEMCTL_DMA_LEN", 0x0CC, 0, 1, .rw, 0x0007FFFF, 0x00000010, [], .none⟩,
  ⟨"MEMCTL_DMA_CTRL", 0x0D0, 0, 1, .wo, 0x00000000, 0x00000000, [], .none⟩,
  ⟨"MEMCTL_DMA_STATUS", 0x0D4, 0, 1, .ro, 0x00000000, 0x00000000, [], .none⟩,
  ⟨"MEMCTL_SCRUB_LAP", 0x100, 4, 15, .ro, 0x00000000, 0x00000000, [], .none⟩,
  ⟨"MEMCTL_BANK", 0x400, 4, 208, .ro, 0x00000000, 0x00000000, [], .none⟩,
  ⟨"MEMCTL_LOCK", 0xFF8, 0, 1, .wo1, 0x00000000, 0x00000000, [], .none⟩,
  ⟨"MEMCTL_POSTED", 0xFFC, 0, 1, .seq, 0x00000000, 0x00000000, [], .none⟩]

/-- Registers of page LAGOON. -/
def regsLagoon : List RegDesc := [
  ⟨"LAG_EVT", 0x000, 0, 1, .seq, 0x00000000, 0x00000000, [], .none⟩,
  ⟨"LAG_POOL", 0x004, 0, 1, .ro, 0x00000000, 0x00020000, [], .none⟩,
  ⟨"LAG_RESERVE", 0x008, 0, 1, .ro, 0x00000000, 0x00000000, [], .none⟩,
  ⟨"LAG_POOL_MIN", 0x00C, 0, 1, .ro, 0x00000000, 0x00020000, [], .none⟩,
  ⟨"LAG_POOL_LOW", 0x010, 0, 1, .rw, 0x0003FFFF, 0x00001000, [], .none⟩,
  ⟨"LAG_UNROUTED", 0x014, 0, 1, .cnt, 0x00000000, 0x00000000, [], .none⟩,
  ⟨"LAG_LATE", 0x018, 0, 1, .cnt, 0x00000000, 0x00000000, [], .none⟩,
  ⟨"LAG_FORCED", 0x01C, 0, 1, .cnt, 0x00000000, 0x00000000, [], .none⟩,
  ⟨"LAG_PARITY", 0x020, 0, 1, .cnt, 0x00000000, 0x00000000, [], .none⟩,
  ⟨"LAG_ROUTES", 0x024, 0, 1, .ro, 0x00000000, 0x00000000, [], .none⟩,
  ⟨"LAG_STORE", 0x028, 0, 1, .ro, 0x00000000, 0x00000000, [], .none⟩,
  ⟨"LAG_Q_SEL", 0x080, 0, 1, .rw, 0x00000FFF, 0x00000000, [], .none⟩,
  ⟨"LAG_Q_CFG", 0x084, 0, 1, .ro, 0x00000000, 0x0000007F, [], .none⟩,
  ⟨"LAG_Q_QUOTA", 0x088, 0, 1, .ro, 0x00000000, 0x00000000, [], .none⟩,
  ⟨"LAG_Q_GUAR", 0x08C, 0, 1, .ro, 0x00000000, 0x00000000, [], .none⟩,
  ⟨"LAG_Q_OCC", 0x090, 0, 1, .ro, 0x00000000, 0x00000000, [], .none⟩,
  ⟨"LAG_Q_TIME", 0x094, 0, 1, .ro, 0x00000000, 0x000A0000, [], .none⟩,
  ⟨"LAG_Q_LAG", 0x098, 0, 1, .ro, 0x00000000, 0x00000000, [], .none⟩,
  ⟨"LAG_Q_WM_LO", 0x09C, 0, 1, .ro, 0x00000000, 0x00000000, [], .lo⟩,
  ⟨"LAG_Q_WM_HI", 0x0A0, 0, 1, .ro, 0x00000000, 0x00000000, [], .hi⟩,
  ⟨"LAG_Q_DROP", 0x0A4, 0, 1, .cnt, 0x00000000, 0x00000000, [], .none⟩,
  ⟨"LAG_Q_ACCEPT", 0x0A8, 0, 1, .cnt, 0x00000000, 0x00000000, [], .none⟩,
  ⟨"LAG_Q_CTRL", 0x0AC, 0, 1, .wo, 0x00000000, 0x00000000, [], .none⟩,
  ⟨"LAG_S_STAT", 0x400, 16, 64, .ro, 0x00000000, 0x00000000, [], .none⟩,
  ⟨"LAG_S_REL_LO", 0x404, 16, 64, .ro, 0x00000000, 0x00000000, [], .lo⟩,
  ⟨"LAG_S_REL_HI", 0x408, 16, 64, .ro, 0x00000000, 0x00000000, [], .hi⟩,
  ⟨"LAG_S_LATE", 0x40C, 16, 64, .cnt, 0x00000000, 0x00000000, [], .none⟩]

/-- Registers of page COMP. -/
def regsComp : List RegDesc := [
  ⟨"COMP_EVT", 0x000, 0, 1, .seq, 0x00000000, 0x00000000, [], .none⟩,
  ⟨"COMP_BLOCK", 0x004, 0, 1, .rw, 0x8000FFFF, 0x80000014, [⟨0, 16, 1, 65535⟩], .none⟩,
  ⟨"COMP_RATIO", 0x008, 0, 1, .rw, 0x000000FF, 0x00000040, [⟨0, 8, 2, 255⟩], .none⟩,
  ⟨"COMP_RESYNC", 0x00C, 0, 1, .rw, 0x0000FFFF, 0x00000100, [], .none⟩,
  ⟨"COMP_VFAIL", 0x010, 0, 1, .cnt, 0x00000000, 0x00000000, [], .none⟩,
  ⟨"COMP_DEC_DISC", 0x014, 0, 1, .cnt, 0x00000000, 0x00000000, [], .none⟩,
  ⟨"COMP_UBLK", 0x018, 0, 1, .cnt, 0x00000000, 0x00000000, [], .none⟩,
  ⟨"COMP_SLOTS", 0x01C, 0, 1, .ro, 0x00000000, 0x00000040, [], .none⟩,
  ⟨"COMP_SDICT", 0x100, 8, 16, .ro, 0x00000000, 0x00000000, [], .none⟩,
  ⟨"COMP_SDICT_HASH", 0x104, 8, 16, .ro, 0x00000000, 0x00000000, [], .none⟩,
  ⟨"COMP_CMP_STAT", 0x200, 16, 8, .ro, 0x00000000, 0x00000000, [], .none⟩,
  ⟨"COMP_CMP_IN", 0x204, 16, 8, .cnt, 0x00000000, 0x00000000, [], .none⟩,
  ⟨"COMP_CMP_OUT", 0x208, 16, 8, .cnt, 0x00000000, 0x00000000, [], .none⟩,
  ⟨"COMP_DEC_STAT", 0x300, 16, 8, .ro, 0x00000000, 0x00000000, [], .none⟩,
  ⟨"COMP_DEC_OUT", 0x304, 16, 8, .cnt, 0x00000000, 0x00000000, [], .none⟩,
  ⟨"COMP_DSLOT", 0x400, 4, 64, .ro, 0x00000000, 0x00000000, [], .none⟩]

/-- Registers of page HOSTIF. -/
def regsHostif : List RegDesc := [
  ⟨"HOSTIF_EVT", 0x000, 0, 1, .seq, 0x00000000, 0x00000000, [], .none⟩,
  ⟨"HOSTIF_LINK", 0x004, 0, 1, .ro, 0x00000000, 0x00000000, [], .none⟩,
  ⟨"HOSTIF_STATUS", 0x008, 0, 1, .ro, 0x00000000, 0x00000000, [], .none⟩,
  ⟨"HOSTIF_RECOV", 0x00C, 0, 1, .cnt, 0x00000000, 0x00000000, [], .none⟩,
  ⟨"HOSTIF_CORR_ERR", 0x010, 0, 1, .cnt, 0x00000000, 0x00000000, [], .none⟩,
  ⟨"HOSTIF_POSTED_DROP", 0x014, 0, 1, .cnt, 0x00000000, 0x00000000, [], .none⟩,
  ⟨"HOSTIF_CPL_ABORT", 0x018, 0, 1, .cnt, 0x00000000, 0x00000000, [], .none⟩,
  ⟨"HOSTIF_POLL", 0x01C, 0, 1, .rw, 0x000000FF, 0x00000002, [⟨0, 8, 1, 255⟩], .none⟩,
  ⟨"HOSTIF_PTM_CTRL", 0x040, 0, 1, .rw, 0x8000FFFF, 0x0000000A, [], .none⟩,
  ⟨"HOSTIF_PTM_MT_LO", 0x044, 0, 1, .ro, 0x00000000, 0x00000000, [], .lo⟩,
  ⟨"HOSTIF_PTM_MT_HI", 0x048, 0, 1, .ro, 0x00000000, 0x00000000, [], .hi⟩,
  ⟨"HOSTIF_PTM_PD", 0x04C, 0, 1, .ro, 0x00000000, 0x00000000, [], .none⟩,
  ⟨"HOSTIF_PTM_FAIL", 0x050, 0, 1, .cnt, 0x00000000, 0x00000000, [], .none⟩,
  ⟨"HOSTIF_DR_BASE_LO", 0x100, 32, 4, .rw, 0xFFFFFFC0, 0x00000000, [], .lo⟩,
  ⟨"HOSTIF_DR_BASE_HI", 0x104, 32, 4, .rw, 0xFFFFFFFF, 0x00000000, [], .hi⟩,
  ⟨"HOSTIF_DR_CFG", 0x108, 32, 4, .rw, 0xCF0FFFFF, 0x000003E8, [⟨24, 4, 0, 9⟩, ⟨16, 4, 0, 9⟩, ⟨0, 16, 1, 65535⟩], .none⟩,
  ⟨"HOSTIF_DR_STAT", 0x10C, 32, 4, .ro, 0x00000000, 0x00000000, [], .none⟩,
  ⟨"HOSTIF_SR_BASE_LO", 0x400, 32, 64, .rw, 0xFFFFFFC0, 0x00000000, [], .lo⟩,
  ⟨"HOSTIF_SR_BASE_HI", 0x404, 32, 64, .rw, 0xFFFFFFFF, 0x00000000, [], .hi⟩,
  ⟨"HOSTIF_SR_CFG", 0x408, 32, 64, .rw, 0xBF0FFFFF, 0x000003E8, [⟨24, 4, 0, 9⟩, ⟨16, 4, 0, 9⟩, ⟨0, 16, 1, 65535⟩], .none⟩,
  ⟨"HOSTIF_SR_IRQ", 0x40C, 32, 64, .rw, 0x8000FFFF, 0x00000000, [], .none⟩,
  ⟨"HOSTIF_SR_STAT", 0x410, 32, 64, .ro, 0x00000000, 0x00000000, [], .none⟩,
  ⟨"HOSTIF_SR_STALL", 0x414, 32, 64, .cnt, 0x00000000, 0x00000000, [], .none⟩,
  ⟨"HOSTIF_SR_UNITS", 0x418, 32, 64, .cnt, 0x00000000, 0x00000000, [], .none⟩]

/-- Registers of page SEC. -/
def regsSec : List RegDesc := [
  ⟨"SEC_EVT", 0x000, 0, 1, .seq, 0x00000000, 0x00000000, [], .none⟩,
  ⟨"SEC_LIFECYCLE", 0x004, 0, 1, .ro, 0x00000000, 0x00000000, [], .none⟩,
  ⟨"SEC_SLOTS", 0x008, 0, 1, .ro, 0x00000000, 0x00000000, [], .none⟩,
  ⟨"SEC_FW_SLOT", 0x00C, 0, 1, .ro, 0x00000000, 0x00000000, [], .none⟩,
  ⟨"SEC_SVN_FLOOR", 0x010, 0, 1, .ro, 0x00000000, 0x00000000, [], .none⟩,
  ⟨"SEC_PROG_STATUS", 0x014, 0, 1, .ro, 0x00000000, 0x00000000, [], .none⟩,
  ⟨"SEC_FW_MEAS", 0x020, 4, 8, .ro, 0x00000000, 0x00000000, [], .none⟩,
  ⟨"SEC_KERN_MEAS", 0x040, 4, 8, .ro, 0x00000000, 0x00000000, [], .none⟩,
  ⟨"SEC_ROOT_HASH", 0x080, 4, 8, .ro, 0x00000000, 0x00000000, [], .none⟩,
  ⟨"SEC_SLOT_HASH", 0x100, 4, 32, .ro, 0x00000000, 0x00000000, [], .none⟩,
  ⟨"SEC_PROG_SLOT", 0x200, 0, 1, .grd, 0xFF000003, 0x00000000, [], .none⟩,
  ⟨"SEC_PROG_SLOT_C", 0x204, 0, 1, .grdC, 0xFF000003, 0xFFFFFFFF, [], .none⟩,
  ⟨"SEC_PROG_DATA", 0x210, 4, 8, .rw, 0xFFFFFFFF, 0x00000000, [], .none⟩,
  ⟨"SEC_LC_ADVANCE", 0x240, 0, 1, .grd, 0xFF000003, 0x00000000, [], .none⟩,
  ⟨"SEC_LC_ADVANCE_C", 0x244, 0, 1, .grdC, 0xFF000003, 0xFFFFFFFF, [], .none⟩]

/-- Registers of page CH. -/
def regsCh : List RegDesc := [
  ⟨"CH_EVT", 0x000, 0, 1, .seq, 0x00000000, 0x00000000, [], .none⟩,
  ⟨"CH_STATUS", 0x004, 0, 1, .ro, 0x00000000, 0x00000000, [], .none⟩,
  ⟨"CH_MUX", 0x008, 0, 1, .pst, 0x0000030F, 0x00000000, [], .none⟩,
  ⟨"CH_GAIN", 0x00C, 0, 1, .pst, 0x00000007, 0x00000000, [], .none⟩,
  ⟨"CH_SETTLE", 0x010, 0, 1, .pst, 0x0000FFFF, 0x00000010, [], .none⟩,
  ⟨"CH_EXC_CTRL", 0x014, 0, 1, .pst, 0x000001FF, 0x00000080, [], .none⟩,
  ⟨"CH_EXC_LEVEL", 0x018, 0, 1, .pst, 0x00007FFF, 0x000000FA, [], .none⟩,
  ⟨"CH_EXC_WIDTH", 0x01C, 0, 1, .pst, 0x0000FFFF, 0x000003E8, [⟨0, 16, 1, 65535⟩], .none⟩,
  ⟨"CH_EXC_PERIOD", 0x020, 0, 1, .pst, 0x03FFFFFF, 0x000F4240, [], .none⟩,
  ⟨"CH_CONV_DELAY", 0x024, 0, 1, .pst, 0xFFFFFFFF, 0x00000000, [], .none⟩,
  ⟨"CH_CONV_COUNT", 0x028, 0, 1, .pst, 0x0000FFFF, 0x00000000, [], .none⟩,
  ⟨"CH_TIMER", 0x02C, 0, 1, .pst, 0x03FFFFFF, 0x000F4240, [⟨0, 26, 1, 67108863⟩], .none⟩,
  ⟨"CH_OPEN_TEST", 0x030, 0, 1, .pst, 0x0003FFFF, 0x00020000, [], .none⟩,
  ⟨"CH_VW_DRIVE", 0x034, 0, 1, .pst, 0x1FFF1FFF, 0x17700190, [⟨16, 13, 400, 6000⟩, ⟨0, 13, 400, 6000⟩], .none⟩,
  ⟨"CH_VW_SWEEP", 0x038, 0, 1, .pst, 0x0000FFFF, 0x00004E20, [⟨0, 16, 1, 65535⟩], .none⟩,
  ⟨"CH_VW_LISTEN", 0x03C, 0, 1, .pst, 0xFFFFFFFF, 0x00FA2710, [⟨16, 16, 1, 1000⟩], .none⟩,
  ⟨"CH_EXC_MAX", 0x040, 0, 1, .rwl, 0x7FFF7FFF, 0x61A82710, [], .none⟩,
  ⟨"CH_EXC_MEAS", 0x044, 0, 1, .ro, 0x00000000, 0x00000000, [], .none⟩,
  ⟨"CH_LAST_LO", 0x048, 0, 1, .ro, 0x00000000, 0x00000000, [], .lo⟩,
  ⟨"CH_LAST_HI", 0x04C, 0, 1, .ro, 0x00000000, 0x00000000, [], .hi⟩,
  ⟨"CH_SETTLE_DISC", 0x050, 0, 1, .cnt, 0x00000000, 0x00000000, [], .none⟩,
  ⟨"CH_LAST_TS", 0x054, 0, 1, .ro, 0x00000000, 0x00000000, [], .none⟩,
  ⟨"CH_GOV", 0x0F0, 0, 1, .ro, 0x00000000, 0x00000100, [], .none⟩,
  ⟨"CH_CONV", 0x100, 0, 1, .pst, 0x1F131FFF, 0x04000001, [⟨0, 13, 1, 4096⟩, ⟨24, 5, 4, 20⟩], .none⟩,
  ⟨"CH_BGCAL_CTRL", 0x104, 0, 1, .pst, 0x00000003, 0x00000000, [], .none⟩,
  ⟨"CH_BGCAL_STAT", 0x108, 0, 1, .ro, 0x00000000, 0x00000000, [], .none⟩,
  ⟨"CH_SAT_CNT", 0x10C, 0, 1, .cnt, 0x00000000, 0x00000000, [], .none⟩,
  ⟨"CH_DEC_DISC", 0x110, 0, 1, .cnt, 0x00000000, 0x00000000, [], .none⟩,
  ⟨"CH_CAL_STATE", 0x114, 0, 1, .ro, 0x00000000, 0x00000000, [], .none⟩,
  ⟨"CH_GROUP_DELAY_LO", 0x118, 0, 1, .ro, 0x00000000, 0x00000000, [], .lo⟩,
  ⟨"CH_GROUP_DELAY_HI", 0x11C, 0, 1, .ro, 0x00000000, 0x00000000, [], .hi⟩,
  ⟨"CH_CORR", 0x140, 4, 8, .pst, 0xFFFFFFFF, 0x40000000, [], .none⟩,
  ⟨"CH_DISC", 0x200, 4, 2, .pst, 0xFF3F03FF, 0x00040080, [⟨24, 4, 0, 10⟩], .none⟩,
  ⟨"CH_HIT", 0x208, 0, 1, .pst, 0x013F0000, 0x00040000, [], .none⟩,
  ⟨"CH_TDC_STATUS", 0x20C, 0, 1, .ro, 0x00000000, 0x00000000, [], .none⟩,
  ⟨"CH_MICA_MISS", 0x210, 0, 1, .cnt, 0x00000000, 0x00000000, [], .none⟩,
  ⟨"CH_RUNT_CNT", 0x214, 0, 1, .cnt, 0x00000000, 0x00000000, [], .none⟩,
  ⟨"CH_TDC_SKEW", 0x218, 4, 2, .pst, 0xFFFFFFFF, 0x00000000, [], .none⟩,
  ⟨"CH_MICA_STAT", 0x220, 4, 4, .ro, 0x00000000, 0x00000000, [], .none⟩,
  ⟨"CH_MICA_LIMIT", 0x230, 0, 1, .rwl, 0x03FF03FF, 0x03840190, [], .none⟩,
  ⟨"CH_FREQ_CTRL", 0x240, 0, 1, .pst, 0xC01FFFFF, 0x000186A0, [⟨0, 21, 1, 2000000⟩], .none⟩,
  ⟨"CH_FREQ_MHZ_LO", 0x248, 0, 1, .ro, 0x00000000, 0x00000000, [], .lo⟩,
  ⟨"CH_FREQ_MHZ_HI", 0x24C, 0, 1, .ro, 0x00000000, 0x00000000, [], .hi⟩,
  ⟨"CH_FREQ_PERIOD", 0x250, 0, 1, .ro, 0x00000000, 0x00000000, [], .none⟩,
  ⟨"CH_IVL_CTRL", 0x260, 0, 1, .pst, 0xFCFF0000, 0x00000000, [], .none⟩,
  ⟨"CH_IVL_WIN", 0x264, 0, 1, .pst, 0xFFFFFFFF, 0x03E80000, [⟨16, 16, 1, 65535⟩], .none⟩,
  ⟨"CH_IVL_NOSTOP", 0x268, 0, 1, .cnt, 0x00000000, 0x00000000, [], .none⟩,
  ⟨"CH_TP", 0x270, 0, 1, .pst, 0x03FF00FF, 0x01000002, [⟨0, 8, 1, 255⟩], .none⟩,
  ⟨"CH_TP_PERIOD", 0x274, 0, 1, .pst, 0x03FFFFFF, 0x00000050, [⟨0, 16, 16, 65535⟩], .none⟩,
  ⟨"CH_ZS_CTRL", 0x300, 0, 1, .pst, 0xE0FFFFFF, 0x60081010, [], .none⟩,
  ⟨"CH_ZS_THR", 0x304, 0, 1, .pst, 0x0FFF0FFF, 0x00640F9C, [], .none⟩,
  ⟨"CH_ZS_CNT", 0x308, 0, 1, .cnt, 0x00000000, 0x00000000, [], .none⟩,
  ⟨"CH_ZS_STATUS", 0x30C, 0, 1, .ro, 0x00000000, 0x00000000, [], .none⟩,
  ⟨"CH_CAP_CTRL", 0x320, 0, 1, .pst, 0xF0FF0000, 0x00000000, [], .none⟩,
  ⟨"CH_CAP_PRE", 0x324, 0, 1, .pst, 0x0000FFFF, 0x00000400, [], .none⟩,
  ⟨"CH_CAP_POST", 0x328, 0, 1, .pst, 0xFFFFFFFF, 0x00000400, [⟨0, 32, 1, 4294967295⟩], .none⟩,
  ⟨"CH_CAP_HOLDOFF", 0x32C, 0, 1, .pst, 0x00FFFFFF, 0x00000000, [], .none⟩,
  ⟨"CH_CAP_SPILL", 0x330, 0, 1, .pst, 0x80000FFF, 0x00000000, [], .none⟩,
  ⟨"CH_CAP_STATUS", 0x334, 0, 1, .ro, 0x00000000, 0x00000000, [], .none⟩,
  ⟨"CH_CAP_COUNT", 0x338, 0, 1, .cnt, 0x00000000, 0x00000000, [], .none⟩,
  ⟨"CH_CAP_MISSED", 0x33C, 0, 1, .cnt, 0x00000000, 0x00000000, [], .none⟩,
  ⟨"CH_CAP_EXTRA", 0x340, 0, 1, .cnt, 0x00000000, 0x00000000, [], .none⟩,
  ⟨"CH_CAP_LATE", 0x344, 0, 1, .cnt, 0x00000000, 0x00000000, [], .none⟩,
  ⟨"CH_CAP_LAST_TS_LO", 0x348, 0, 1, .ro, 0x00000000, 0x00000000, [], .lo⟩,
  ⟨"CH_CAP_LAST_TS_HI", 0x34C, 0, 1, .ro, 0x00000000, 0x00000000, [], .hi⟩,
  ⟨"CH_EXPORT_BUDGET", 0x3F0, 0, 1, .rwl, 0x000FFFFF, 0x0000D2F0, [], .none⟩,
  ⟨"CH_EXPORT_USED", 0x3F4, 0, 1, .ro, 0x00000000, 0x00000000, [], .none⟩,
  ⟨"CH_LOCK", 0xFF8, 0, 1, .wo1, 0x00000000, 0x00000000, [], .none⟩,
  ⟨"CH_POSTED", 0xFFC, 0, 1, .seq, 0x00000000, 0x00000000, [], .none⟩]

/-- Registers of page LANE. -/
def regsLane : List RegDesc := [
  ⟨"LANE_EVT", 0x000, 0, 1, .seq, 0x00000000, 0x00000000, [], .none⟩,
  ⟨"LANE_CTRL", 0x004, 0, 1, .rw, 0xFE000000, 0x80000000, [], .none⟩,
  ⟨"LANE_STATUS", 0x008, 0, 1, .ro, 0x00000000, 0x00000000, [], .none⟩,
  ⟨"LANE_MERIT", 0x00C, 0, 1, .ro, 0x00000000, 0x00000000, [], .none⟩,
  ⟨"LANE_MERIT_LOW", 0x010, 0, 1, .rw, 0x000000FF, 0x00000030, [], .none⟩,
  ⟨"LANE_EQ", 0x014, 0, 1, .ro, 0x00000000, 0x00000000, [], .none⟩,
  ⟨"LANE_EQ_STORED", 0x018, 0, 1, .ro, 0x00000000, 0x00000000, [], .none⟩,
  ⟨"LANE_TX", 0x01C, 0, 1, .rw, 0x00001F1F, 0x00000414, [], .none⟩,
  ⟨"LANE_GEARBOX", 0x020, 0, 1, .ro, 0x00000000, 0x00000000, [], .none⟩,
  ⟨"LANE_LOCK_CNT", 0x024, 0, 1, .cnt, 0x00000000, 0x00000000, [], .none⟩,
  ⟨"LANE_LOSS_CNT", 0x028, 0, 1, .cnt, 0x00000000, 0x00000000, [], .none⟩,
  ⟨"LANE_BAD_SH", 0x02C, 0, 1, .cnt, 0x00000000, 0x00000000, [], .none⟩,
  ⟨"LANE_PRBS_ERR", 0x030, 0, 1, .cnt, 0x00000000, 0x00000000, [], .none⟩,
  ⟨"LANE_RES", 0x034, 4, 19, .ro, 0x00000000, 0x00000000, [], .none⟩]

/-- Registers of page LINK. -/
def regsLink : List RegDesc := [
  ⟨"LINK_EVT", 0x000, 0, 1, .seq, 0x00000000, 0x00000000, [], .none⟩,
  ⟨"LINK_CTRL", 0x004, 0, 1, .rw, 0xB000FFFF, 0xA00001F4, [⟨0, 16, 50, 1000⟩], .none⟩,
  ⟨"LINK_STATUS", 0x008, 0, 1, .ro, 0x00000000, 0x00000000, [], .none⟩,
  ⟨"LINK_NEIGH_LO", 0x00C, 0, 1, .ro, 0x00000000, 0x00000000, [], .lo⟩,
  ⟨"LINK_NEIGH_HI", 0x010, 0, 1, .ro, 0x00000000, 0x00000000, [], .hi⟩,
  ⟨"LINK_RETRY_TMO", 0x014, 0, 1, .rw, 0x0000FFFF, 0x000000C8, [⟨0, 16, 1, 65535⟩], .none⟩,
  ⟨"LINK_FRAMES_TX", 0x018, 0, 1, .cnt, 0x00000000, 0x00000000, [], .none⟩,
  ⟨"LINK_FRAMES_RX", 0x01C, 0, 1, .cnt, 0x00000000, 0x00000000, [], .none⟩,
  ⟨"LINK_CRC_ERR", 0x020, 0, 1, .cnt, 0x00000000, 0x00000000, [], .none⟩,
  ⟨"LINK_RESENT", 0x024, 0, 1, .cnt, 0x00000000, 0x00000000, [], .none⟩,
  ⟨"LINK_FAILOVERS", 0x028, 0, 1, .cnt, 0x00000000, 0x00000000, [], .none⟩,
  ⟨"LINK_CREDIT", 0x030, 4, 4, .ro, 0x00000000, 0x00000000, [], .none⟩,
  ⟨"LINK_TMSG_TXD", 0x040, 0, 1, .wo, 0x00000000, 0x00000000, [], .none⟩,
  ⟨"LINK_TMSG_SEND", 0x044, 0, 1, .wo, 0x00000000, 0x00000000, [], .none⟩,
  ⟨"LINK_TMSG_RXS", 0x048, 0, 1, .ro, 0x00000000, 0x00000000, [], .none⟩,
  ⟨"LINK_TMSG_RXD", 0x04C, 0, 1, .ro, 0x00000000, 0x00000000, [], .none⟩,
  ⟨"LINK_DEV", 0x200, 0, 1, .ro, 0x00000000, 0x00000000, [], .none⟩,
  ⟨"LINK_ENUM_NUM", 0x204, 0, 1, .ro, 0x00000000, 0x00000000, [], .none⟩,
  ⟨"LINK_ROUTE_SEL", 0x208, 0, 1, .rw, 0x000000FF, 0x00000000, [], .none⟩,
  ⟨"LINK_ROUTE", 0x20C, 0, 1, .ro, 0x00000000, 0x00000000, [], .none⟩,
  ⟨"LINK_RACC_TARGET", 0x210, 0, 1, .rw, 0x000000FF, 0x00000000, [], .none⟩,
  ⟨"LINK_RACC_ADDR", 0x214, 0, 1, .rw, 0x03FFFFFF, 0x00000000, [], .none⟩,
  ⟨"LINK_RACC_DATA", 0x218, 0, 1, .rw, 0xFFFFFFFF, 0x00000000, [], .none⟩,
  ⟨"LINK_RACC_CTRL", 0x21C, 0, 1, .wo, 0x00000000, 0x00000000, [], .none⟩,
  ⟨"LINK_RACC_STATUS", 0x220, 0, 1, .ro, 0x00000000, 0x00000000, [], .none⟩]

/-- Registers of page ISL. -/
def regsIsl : List RegDesc := [
  ⟨"ISL_EVT", 0x000, 0, 1, .seq, 0x00000000, 0x00000000, [], .none⟩,
  ⟨"ISL_STATUS", 0x004, 0, 1, .ro, 0x00000000, 0x00000000, [], .none⟩,
  ⟨"ISL_CLK", 0x008, 0, 1, .ro, 0x00000000, 0x03C002EE, [], .none⟩,
  ⟨"ISL_FREQ_REQ", 0x00C, 0, 1, .ro, 0x00000000, 0x03C00000, [], .none⟩,
  ⟨"ISL_CTX_CONFLICT", 0x010, 0, 1, .cnt, 0x00000000, 0x00000000, [], .none⟩,
  ⟨"ISL_STAGE_FULL", 0x014, 0, 1, .cnt, 0x00000000, 0x00000000, [], .none⟩,
  ⟨"ISL_LATE_IN", 0x018, 0, 1, .cnt, 0x00000000, 0x00000000, [], .none⟩,
  ⟨"ISL_PER_EVT", 0x100, 0, 1, .seq, 0x00000000, 0x00000000, [], .none⟩,
  ⟨"ISL_PER_CTRL", 0x104, 0, 1, .ro, 0x00000000, 0x00000000, [], .none⟩,
  ⟨"ISL_PER_TICKS_LO", 0x108, 0, 1, .ro, 0x00000000, 0x00000000, [], .lo⟩,
  ⟨"ISL_PER_TICKS_HI", 0x10C, 0, 1, .ro, 0x00000000, 0x00000000, [], .hi⟩,
  ⟨"ISL_PER_ANCHOR_LO", 0x110, 0, 1, .ro, 0x00000000, 0x00000000, [], .lo⟩,
  ⟨"ISL_PER_ANCHOR_HI", 0x114, 0, 1, .ro, 0x00000000, 0x00000000, [], .hi⟩,
  ⟨"ISL_PER_NUM", 0x118, 0, 1, .ro, 0x00000000, 0x00000000, [], .none⟩,
  ⟨"ISL_COMMIT_LAST", 0x11C, 0, 1, .ro, 0x00000000, 0x00000000, [], .none⟩,
  ⟨"ISL_STAGED", 0x120, 0, 1, .ro, 0x00000000, 0x00000000, [], .none⟩,
  ⟨"ISL_DEADLINE_CNT", 0x124, 0, 1, .cnt, 0x00000000, 0x00000000, [], .none⟩,
  ⟨"ISL_CTX_SKIP", 0x128, 0, 1, .cnt, 0x00000000, 0x00000000, [], .none⟩,
  ⟨"ISL_OVER_BUDGET", 0x12C, 0, 1, .cnt, 0x00000000, 0x00000000, [], .none⟩,
  ⟨"ISL_CTX_OWNED", 0x130, 0, 1, .ro, 0x00000000, 0x00000000, [], .none⟩,
  ⟨"ISL_COMMIT_TS_LO", 0x134, 0, 1, .ro, 0x00000000, 0x00000000, [], .lo⟩,
  ⟨"ISL_COMMIT_TS_HI", 0x138, 0, 1, .ro, 0x00000000, 0x00000000, [], .hi⟩]

/-- Registers of page ISLE. -/
def regsIslEng : List RegDesc := [
  ⟨"ISL_ENG_STAT", 0x000, 256, 16, .ro, 0x00000000, 0x00000000, [], .none⟩,
  ⟨"ISL_ENG_BIND", 0x004, 256, 16, .ro, 0x00000000, 0x00000000, [], .none⟩,
  ⟨"ISL_ENG_KID", 0x008, 256, 16, .ro, 0x00000000, 0x00000000, [], .none⟩,
  ⟨"ISL_ENG_KVER", 0x00C, 256, 16, .ro, 0x00000000, 0x00000000, [], .none⟩,
  ⟨"ISL_ENG_FAULT", 0x010, 256, 16, .ro, 0x00000000, 0x00000000, [], .none⟩,
  ⟨"ISL_ENG_ITEMS", 0x014, 256, 16, .cnt, 0x00000000, 0x00000000, [], .none⟩,
  ⟨"ISL_ENG_PUSHED", 0x018, 256, 16, .cnt, 0x00000000, 0x00000000, [], .none⟩,
  ⟨"ISL_ENG_ABORTS", 0x01C, 256, 16, .cnt, 0x00000000, 0x00000000, [], .none⟩,
  ⟨"ISL_ENG_EOPDROP", 0x020, 256, 16, .cnt, 0x00000000, 0x00000000, [], .none⟩,
  ⟨"ISL_ENG_HOLDDROP", 0x024, 256, 16, .cnt, 0x00000000, 0x00000000, [], .none⟩,
  ⟨"ISL_ENG_INGAP", 0x028, 256, 16, .cnt, 0x00000000, 0x00000000, [], .none⟩,
  ⟨"ISL_ENG_MAXCYC", 0x02C, 256, 16, .ro, 0x00000000, 0x00000000, [], .none⟩,
  ⟨"ISL_ENG_BUDGET_START", 0x030, 256, 16, .ro, 0x00000000, 0x00000000, [], .none⟩,
  ⟨"ISL_ENG_BUDGET_ITEM", 0x034, 256, 16, .ro, 0x00000000, 0x00000000, [], .none⟩,
  ⟨"ISL_ENG_ITEMS_MAX", 0x038, 256, 16, .ro, 0x00000000, 0x00000000, [], .none⟩,
  ⟨"ISL_ENG_CYC_LAST", 0x03C, 256, 16, .ro, 0x00000000, 0x00000000, [], .none⟩]

/-- The descriptors of a page. -/
def pageRegs : Page → List RegDesc
  | .dev => regsDev
  | .own => regsOwn
  | .cmd => regsCmd
  | .regctl => regsRegctl
  | .qtz => regsQtz
  | .flint => regsFlint
  | .hk => regsHk
  | .emit => regsEmit
  | .triad => regsTriad
  | .perf => regsPerf
  | .perfCnt => regsPerfCnt
  | .perfSel => regsPerfSel
  | .memctl => regsMemctl
  | .lagoon => regsLagoon
  | .comp => regsComp
  | .hostif => regsHostif
  | .sec => regsSec
  | .ch => regsCh
  | .lane => regsLane
  | .link => regsLink
  | .isl => regsIsl
  | .islEng => regsIslEng

end Sys2Proof.Machine
end

