-- ==== Sys2Proof/Machine/Map.lean ====
section
/-! DEFINITION. Sparse maps: the form in which the state holds repeated units, registers and memories.
A map lists (key, value) pairs; a key that is not listed reads as the unit's reset value. Keys rise strictly and no
listed value equals the reset value, so equal contents are equal data (`SMap.wf`, kept by `SMap.put`). -/

namespace Sys2Proof.Machine

/-- A sparse map from unit numbers or addresses. -/
abbrev SMap (α : Type) := List (Nat × α)

variable {α : Type}

/-- The value at key `k`; `d` is what an unlisted key reads as. -/
def mget (d : α) : SMap α → Nat → α
  | [], _ => d
  | (k', v) :: m, k => if k = k' then v else mget d m k

/-- List `v` at key `k`, keeping keys in rising order. -/
def minsert (k : Nat) (v : α) : SMap α → SMap α
  | [] => [(k, v)]
  | (k', v') :: m =>
    if k < k' then (k, v) :: (k', v') :: m
    else if k = k' then (k, v) :: m
    else (k', v') :: minsert k v m

/-- Unlist key `k`. -/
def merase (k : Nat) (m : SMap α) : SMap α := m.filter (fun p => p.1 != k)

/-- Store `v` at key `k`, where an unlisted key reads as `d`. -/
def mput [DecidableEq α] (d : α) (m : SMap α) (k : Nat) (v : α) : SMap α :=
  if v = d then merase k m else minsert k v m

/-- Apply `f` to the value at key `k`. -/
def mupd [DecidableEq α] (d : α) (m : SMap α) (k : Nat) (f : α → α) : SMap α := mput d m k (f (mget d m k))

/-- The canonical form of a map whose unlisted keys read as `d`. -/
def mwf [DecidableEq α] (d : Nat → α) (m : SMap α) : Prop :=
  m.Pairwise (fun p q => p.1 < q.1) ∧ ∀ p ∈ m, p.2 ≠ d p.1

/-- The canonical form of a memory whose unlisted bytes read as 0: rising addresses, no byte listed that is 0. -/
abbrev Memory.wf (m : SMap (BitVec 8)) : Prop := m.Pairwise (fun p q => p.1 < q.1) ∧ ∀ p ∈ m, p.2 ≠ 0

/-- The bytes at `a`, `a + 1`, … `a + n - 1` of a memory whose unlisted bytes read as 0. -/
def bytesAt (m : SMap (BitVec 8)) (a : Nat) : Nat → List (BitVec 8)
  | 0 => []
  | n + 1 => mget 0 m a :: bytesAt m (a + 1) n

/-- Write the bytes of `l` from address `a` upward. -/
def putBytes (m : SMap (BitVec 8)) (a : Nat) : List (BitVec 8) → SMap (BitVec 8)
  | [] => m
  | b :: l => putBytes (mput 0 m a b) (a + 1) l

/-- Write 0 to the `n` bytes from address `a`: unlist them. -/
def zeroBytes (m : SMap (BitVec 8)) (a n : Nat) : SMap (BitVec 8) :=
  m.filter (fun p => p.1 < a || a + n ≤ p.1)

/-- The value of a little-endian byte string (00 R11). -/
def leNat : List (BitVec 8) → Nat
  | [] => 0
  | b :: l => b.toNat + 256 * leNat l

/-- `n` bytes of `v`, little-endian (00 R11); higher bits are dropped. -/
def leBytes : Nat → Nat → List (BitVec 8)
  | 0, _ => []
  | n + 1, v => BitVec.ofNat 8 v :: leBytes n (v / 256)

/-- `n` bytes of the two's complement of `v`, little-endian. -/
def leBytesInt (n : Nat) (v : Int) : List (BitVec 8) := leBytes n (v % (2 ^ (8 * n) : Nat)).toNat

/-- Field of `len` bytes at byte `off` of a byte string, little-endian; bytes beyond the string read as 0. -/
def fieldAt (l : List (BitVec 8)) (off len : Nat) : Nat := leNat ((l.drop off).take len)

/-- A byte string cut or padded with 0 to exactly `n` bytes. -/
def fitBytes (n : Nat) (l : List (BitVec 8)) : List (BitVec 8) :=
  l.take n ++ List.replicate (n - l.length) 0

/-- `l` with `v` written over it from byte `off`; `l` is extended with 0 when `v` reaches beyond its end. -/
def overBytes (l : List (BitVec 8)) (off : Nat) (v : List (BitVec 8)) : List (BitVec 8) :=
  fitBytes off l ++ v ++ l.drop (off + v.length)

end Sys2Proof.Machine
end

