-- ==== Sys2Proof/Machine/Record.lean ====
section
/-! DEFINITION. Stream records (11 R369 to R386): the header as named fields and the body as the bytes from byte 16 on. -/

namespace Sys2Proof.Machine

/-- A record (11 R369). `body` holds bytes 16 onward; the length in units is `Rec.units`. -/
structure Rec where
  typ : Nat
  flags : Nat
  dev : Nat
  cls : Nat
  idx : Nat
  ts : TS48
  seq : Nat
  body : List Byte
  deriving DecidableEq, Repr

/-- The kind of a record on its link: type and index. -/
def Rec.key (r : Rec) : Nat × Nat := (r.typ, r.idx)

/-- Length in 16-byte units, header included (11 R369). -/
def Rec.units (r : Rec) : Nat := 1 + ceilDiv r.body.length 16

/-- The record as bytes (11 R369). -/
def Rec.bytes (r : Rec) : List Byte :=
  leBytes 1 r.typ ++ leBytes 1 r.flags ++ leBytes 2 r.units ++ leBytes 1 r.dev ++ leBytes 1 r.cls ++ leBytes 2 r.idx
    ++ leBytes 6 r.ts.toNat ++ leBytes 2 r.seq ++ fitBytes (16 * (r.units - 1)) r.body

/-- The record that a byte string of whole units spells. -/
def Rec.ofBytes (l : List Byte) : Rec :=
  { typ := fieldAt l 0 1, flags := fieldAt l 1 1, dev := fieldAt l 4 1, cls := fieldAt l 5 1, idx := fieldAt l 6 2,
    ts := BitVec.ofNat 48 (fieldAt l 8 6), seq := fieldAt l 14 2, body := l.drop 16 }

/-- Split a byte string into the whole records it holds (11 R385): `fuel` bounds the number of records. A length of 0 or
one beyond the string ends the walk, as in the parser of 11 R386. -/
def recsOf : Nat → List Byte → List Rec
  | 0, _ => []
  | fuel + 1, l =>
    let n := 16 * fieldAt l 2 2
    if n = 0 ∨ l.length < n then [] else Rec.ofBytes (l.take n) :: recsOf fuel (l.drop n)

/-- The bytes of a list of records. -/
def recsBytes (l : List Rec) : List Byte := l.flatMap Rec.bytes

/-! Record type codes (11 R373). -/
def tHIT : Nat := 0x01
def tPULSE : Nat := 0x02
def tWINDOW : Nat := 0x03
def tCAPTURE : Nat := 0x04
def tSAMPLES : Nat := 0x05
def tSLOW : Nat := 0x06
def tFREQ : Nat := 0x07
def tINTERVAL : Nat := 0x08
def tHK : Nat := 0x09
def tFEATURE : Nat := 0x10
def tCONTEXT : Nat := 0x11
def tPERIOD_DROP : Nat := 0x12
def tTRIGGER : Nat := 0x20
def tEPOCH : Nat := 0x21
def tWATERMARK : Nat := 0x22
def tGAP : Nat := 0x23
def tFLUSH : Nat := 0x24
def tLINK_EVENT : Nat := 0x25
def tTIME_EVENT : Nat := 0x26
def tCOUNTERS : Nat := 0x30
def tTOUCHSTONE : Nat := 0x31
def tALARM : Nat := 0x32
def tPAD : Nat := 0x3F
def tCBLOCK : Nat := 0x40
def tUBLOCK : Nat := 0x41

/-! Header flags (11 R371). -/
def fLATE : Nat := 1
def fSUSPECT : Nat := 2
def fOPEN : Nat := 4
def fCLAMPED : Nat := 8
def fUNSETTLED : Nat := 16
def fSHORT : Nat := 32
def fPOISON : Nat := 64
def fEXT : Nat := 128

/-! Bits of the ext word (11 R372). -/
def xRUNT : Nat := 1
def xJOINED : Nat := 2
def xLONG : Nat := 4
def xCOARSE : Nat := 8
def xORDER : Nat := 16
def xOVERFLOW : Nat := 32
def xCUT : Nat := 64
def xEXTENDED : Nat := 128
def xSPILL : Nat := 256
def xTRUNCATED : Nat := 512
def xFORCED : Nat := 1024
def xREMOTE : Nat := 2048
def xHOLDOVER : Nat := 4096

/-- Lay little-endian fields (byte offset in the record, length, value) over a zero body of `units - 1` units
(11 R374: bytes beyond the last field are 0). -/
def layout (units : Nat) (fs : List (Nat × Nat × Nat)) : List Byte :=
  fs.foldl (fun b f => overBytes b (f.1 - 16) (leBytes f.2.1 f.2.2)) (List.replicate (16 * (units - 1)) 0)

/-- Build a record: flags, ext word and EXT flag (11 R371, R372), body fields by record byte offset (11 R382). The device
and the sequence number are written where it is numbered. -/
def mkRec (typ cls idx : Nat) (ts : TS48) (flags ext units : Nat) (fs : List (Nat × Nat × Nat)) : Rec :=
  { typ := typ, flags := flags ||| (if ext = 0 then 0 else fEXT), dev := 0, cls := cls, idx := idx, ts := ts, seq := 0,
    body := layout units ((16, 4, ext) :: fs) }

/-- A signed body field: its two's complement in `len` bytes. -/
def sfield (off len : Nat) (v : Int) : Nat × Nat × Nat := (off, len, unsignedOf (8 * len) v)

/-- The ext word of a record (11 R372). -/
def Rec.ext (r : Rec) : Nat := fieldAt r.body 0 4

/-- The 16-bit sequence counters of 11 R379 are kept per class, index and type under this key; CBLOCK and UBLOCK of one
stream share one counter. -/
def seqKey (cls idx typ : Nat) : Nat := cls * 2 ^ 24 + idx * 2 ^ 8 + (if typ = tUBLOCK then tCBLOCK else typ)

/-- A GAP record (11 R382): class and index of its place, count, first and last stamps, unit, place and the dropped
source (`0xFF`, `0xFF`, `0xFFFF` when mixed). -/
def gapRec (cls idx count : Nat) (first last : TS48) (unit place dcls dtyp didx : Nat) : Rec :=
  mkRec tGAP cls idx first 0 0 3
    [(20, 4, satNat 0xFFFFFFFF count), (24, 6, first.toNat), (32, 6, last.toNat), (38, 1, unit), (39, 1, place),
     (40, 1, dcls), (41, 1, dtyp), (42, 2, didx)]

/-- A FLUSH record (11 R382). -/
def flushRec (idx whole part held : Nat) (ts : TS48) (cause : Nat) : Rec :=
  mkRec tFLUSH 4 idx ts 0 0 3 [(20, 4, whole), (24, 4, part), (28, 4, held), (32, 1, cause)]

/-- A WATERMARK record (11 R382): kind 0 DATA, 1 HEARTBEAT. -/
def watermarkRec (idx : Nat) (w : TS48) (kind : Nat) : Rec := mkRec tWATERMARK 4 idx w 0 0 2 [(20, 1, kind)]

/-- What a pending marker or pending GAP holds (01 R36, 12 R400): the count, the first and last stamps and the dropped
source, `none` when mixed. -/
structure Dropped where
  count : Nat
  first : TS48
  last : TS48
  src : Option (Nat × Nat × Nat)
  deriving DecidableEq, Repr

/-- Add `n` drops of one record to a pending marker (01 R36, 12 R400). -/
def Dropped.add (d : Option Dropped) (r : Rec) (n : Nat) : Dropped :=
  match d with
  | none => ⟨n, r.ts, r.ts, some (r.cls, r.typ, r.idx)⟩
  | some d => ⟨d.count + n, d.first, r.ts, if d.src = some (r.cls, r.typ, r.idx) then d.src else none⟩

/-- The GAP record that a pending marker gives (01 R37, 12 R401). -/
def Dropped.gap (d : Dropped) (idx place : Nat) : Rec :=
  match d.src with
  | some (c, t, i) => gapRec 4 idx d.count d.first d.last 0 place c t i
  | none => gapRec 4 idx d.count d.first d.last 0 place 0xFF 0xFF 0xFFFF

end Sys2Proof.Machine
end

