-- ==== Sys2Proof/Machine/StBase.lean ====
section
/-! DEFINITION. State of the parts that every block uses: the time base (14), register access (02), ownership and
commands (03), and what leaves the part. Each structure has its reset value beside it. -/

namespace Sys2Proof.Machine

/-! ## Time of day (14 R452) -/

/-- A full time: seconds, ns below 10^9, fraction in 2^-32 ns (14 R452). -/
structure QTime where
  sec : BitVec 48
  ns : BitVec 30
  frac : Word
  deriving DecidableEq, Repr

/-- What a reply needs to know of the command it answers (03 R86, R88). -/
structure Ticket where
  /-- Master that submitted the command. -/
  m : Nat
  opcode : Nat
  tag : Nat
  /-- The reply-required flag (03 R87). -/
  req : Bool
  /-- Origin device and master of a command that arrived as M5 (15 R499). -/
  odev : Nat
  omaster : Nat
  deriving DecidableEq, Repr

/-- What a pending change of the time does: a set carries the target time (in 2^-32 ns) and the reference TS48, a step its
size in TS48 LSB (14 R458, R459). -/
inductive ChgKind where
  | set (target : Int) (ref : TS48)
  | step (j : Int)
  deriving DecidableEq, Repr

/-- A pending set or step, its apply tick and the command that waits for it (14 R456, R457). -/
structure Chg where
  kind : ChgKind
  tick : Nat
  tk : Option Ticket
  deriving DecidableEq, Repr

/-- A committed INC that awaits its apply tick (14 R456). `old` is the INC that it has replaced: the apply tick's increment
has used it, and its TIME_EVENT has not been made yet. -/
structure IncPend where
  inc : BitVec 36
  tick : Nat
  tks : List Ticket
  old : Option (BitVec 36)
  deriving DecidableEq, Repr

/-- One copy of the voted fields (14 R463). -/
structure QCopyS where
  t : QTime
  inc : BitVec 36
  deriving DecidableEq, Repr

/-- Probe state of one port (14 R466 to R469). Means are over the last 16 valid exchanges. -/
structure ProbePort where
  out : Option (Nat × TS48 × Nat × Nat)   -- number, t1, tick sent, sets and steps applied so far
  num : Nat
  nextTick : Nat
  delays : List Int
  offsets : List Int
  /-- The outstanding probe was resent by link-level retry. -/
  resent : Bool
  deriving DecidableEq, Repr

def ProbePort.reset : ProbePort := ⟨none, 0, 0, [], [], false⟩

/-- A message stamp of the FIFO of 14 R471. -/
structure Stamp where
  rx : Bool
  port : Nat
  seq : Nat
  ts : TS48
  deriving DecidableEq, Repr

/-- Servo state (14 R473, R474). `follow`: 1 ACQUIRE, 2 LOCKED, 3 HOLD; `pi`: the loop has written its step and runs its
proportional and integral part. -/
structure Servo where
  follow : Nat
  pi : Bool
  prev : Option Int
  incLock : Int
  integ : Int
  good : Nat
  exchanges : Nat
  written : List Nat
  lastValid : Nat
  deriving DecidableEq, Repr

/-- PTM dialogs (14 R472, 16 R544). -/
structure Ptm where
  out : Option (TS48 × Nat)
  dialog : Nat
  t1 : TS48
  rtt : Word
  nextTick : Nat
  latch : SMap (Option (Word × Word))
  deriving DecidableEq, Repr

/-- A scale of time that has ended: its first tick, a tick of it with its time in 2^-32 ns, and its INC. -/
structure Scale where
  since : Nat
  tick : Nat
  full : Int
  inc : Nat
  deriving DecidableEq, Repr

/-- The device's time: tick count, Quartz, beacons and time transfer (14). -/
structure Quartz where
  /-- Ticks since the last cold start began, and the one of its PLL lock: the device tick count of 05 R160 is `now - pll`. -/
  now : Nat
  pll : Nat
  a : QCopyS
  b : QCopyS
  c : QCopyS
  /-- First tick of the scale in effect, and the latest 64 scales before it, newest first: a datum is stamped on the sense die at its own
  instant (01 R18), whatever changes before it is processed. -/
  since : Nat
  past : List Scale
  /-- Mask of marked copies and the tick of the first disagreement (14 R463). -/
  voteBad : Nat
  badTick : Nat
  /-- The INC last applied (14 R463). -/
  lastInc : BitVec 36
  timeValid : Bool
  incPend : Option IncPend
  chg : Option Chg
  /-- Sets and steps applied (14 R469). -/
  changes : Nat
  /-- A second boundary or wrap whose event has not been taken, and the EPOCH reasons held with its time (11 R377). -/
  secDue : Bool
  wrapDue : Bool
  reasons : Nat
  reasonTime : QTime
  /-- Latest beacon, and the one due (01 R20). -/
  beacon : QTime
  beaconDue : Option QTime
  /-- PPS_OUT is active until this tick, and the place of its latest edge within the boundary tick, in T/1024 (14 R454). -/
  ppsUntil : Option Nat
  ppsPhase : Nat
  nowLatch : SMap (Option QTime)
  msgFifo : List Stamp
  msgLatch : SMap TS48
  probes : SMap ProbePort
  servo : Servo
  ptm : Ptm
  deriving DecidableEq, Repr

/-- Nominal INC (14 R455). -/
def incNominal : BitVec 36 := 0x0AAAAAAAB#36
def incMin : BitVec 36 := 0x0AA94D243#36
def incMax : BitVec 36 := 0x0AAC08313#36

def QTime.zero : QTime := ⟨0, 0, 0⟩
def QCopyS.reset : QCopyS := ⟨QTime.zero, incNominal⟩
def Servo.reset : Servo := ⟨1, false, none, incNominal.toNat, 0, 0, 0, [], 0⟩
def Ptm.reset : Ptm := ⟨none, 0, 0, 0, 0, []⟩

def Quartz.reset : Quartz :=
  { now := 0, pll := 0, a := QCopyS.reset, b := QCopyS.reset, c := QCopyS.reset, since := 0, past := [], voteBad := 0, badTick := 0, lastInc := incNominal,
    timeValid := false, incPend := none, chg := none, changes := 0, secDue := false, wrapDue := false, reasons := 0,
    reasonTime := QTime.zero, beacon := QTime.zero, beaconDue := none, ppsUntil := none, ppsPhase := 0, nowLatch := [], msgFifo := [],
    msgLatch := [], probes := [], servo := Servo.reset, ptm := Ptm.reset }

/-! ## Register access (02) -/

/-- The current cycle of an event register or counter: the flags of the events so far, the counts so far, and whether one of them
carried out of the count's top bit (02 R62, R63, R73). -/
structure Cyc where
  flags : Nat
  incs : Nat
  ovf : Bool
  deriving DecidableEq, Repr

def Cyc.none : Cyc := ⟨0, 0, false⟩

/-- The one pending guarded first write (02 R69). -/
structure Guard where
  m : Nat
  addr : Nat
  value : Word
  tick : Nat
  deriving DecidableEq, Repr

/-- A posted write whose effect is not yet in place (02 R66). -/
structure Posted where
  m : Nat
  addr : Nat
  value : Word
  due : Nat
  /-- The staged LO that a write of HI commits with it (02 R58). -/
  lo : Option Word
  deriving DecidableEq, Repr

/-- A read latch or a staged LO write: the LO address of its pair and the word held (02 R57, R58). -/
structure Held where
  addr : Nat
  value : Word
  deriving DecidableEq, Repr

/-- The response of a master's last access (02 R54, R76, R78). -/
inductive Resp where
  | none
  | data (w : Word)
  | written
  | busError
  | notOwner
  | timeout
  deriving DecidableEq, Repr

structure Bus where
  /-- Keyed by master and page (`latchKey`). -/
  latch : SMap (Option Held)
  staged : SMap (Option Held)
  guard : Option Guard
  /-- Keyed by page base. -/
  posted : SMap (Option Posted)
  /-- WO1 registers written since reset, by address (02 R70). -/
  wo1 : List Nat
  /-- Per master. -/
  resp : SMap Resp
  /-- Bytes the device drove on MISO in the last management SPI frame (02 R76). -/
  miso : List Byte
  deriving DecidableEq, Repr

def Bus.reset : Bus := ⟨[], [], none, [], [], [], []⟩

/-! ## Ownership and commands (03) -/

/-- A waiting claim (03 R96, R97). -/
structure Claim where
  m : Nat
  prio : Nat
  leaseMs : Nat
  deadline : Nat
  tk : Ticket
  deriving DecidableEq, Repr

/-- A hand-over that waits for the next command boundary (03 R101). -/
structure Handover where
  succ : Nat
  prio : Nat
  leaseMs : Nat
  /-- The successor function had an FLR since the hand-over was accepted. -/
  flr : Bool
  deriving DecidableEq, Repr

structure Own where
  owner : Option Nat
  prio : Nat
  token : Token
  leaseMs : Nat
  /-- Tick at which the lease ends. -/
  leaseEnd : Nat
  lastForced : Bool
  waiting : List Claim
  handover : Option Handover
  /-- Priority of a committed forced takeover (03 R102). -/
  force : Option Nat
  /-- Tokens issued since the last cold start (03 R95). -/
  issued : List Token
  deriving DecidableEq, Repr

def Own.reset : Own := ⟨none, 0, 0, 0, 0, false, [], none, none, []⟩

/-- A reply (03 R88): `ts` is chosen by 03 R113, and with `stamp` it is the beacon that is latest when the reply is written; the
ring's sequence number is given when it is written. -/
structure Reply where
  tk : Ticket
  status : Nat
  result : List Byte
  ts : TS48
  stamp : Bool
  dev : Nat
  deriving DecidableEq, Repr

/-- The queue of one master (03 R81 to R85). `tail` and `head` count modulo 128, `rpTail` modulo 32. -/
structure CmdQ where
  tail : Nat
  head : Nat
  woff : Nat
  rpTail : Nat
  rpSeq : Nat
  /-- Replies that wait for a free ring entry. -/
  held : List Reply
  /-- Origin device and master by slot, M5 only. -/
  orig : SMap (Nat × Nat)
  deriving DecidableEq, Repr

def CmdQ.reset : CmdQ := ⟨0, 0, 0, 0, 0, [], []⟩

/-- A forwarded command (03 R108): the devices that have given no final reply and the tick of its TIMEOUT. -/
structure Fwd where
  tk : Ticket
  missing : List Nat
  deadline : Nat
  bcast : Bool
  deriving DecidableEq, Repr

structure Cmd where
  q : SMap CmdQ
  /-- Command SRAM, 1 MiB (03 R79). -/
  sram : SMap Byte
  /-- On-chip reply rings of M4 and M6: byte 0x8000 × m upward (03 R84). -/
  rp : SMap Byte
  /-- Replies to M7, internal to the firmware (03 R84), as their entries read. -/
  internal : List (List Byte)
  /-- OK replies of commands with an effect, waiting for the next beacon (03 R113). -/
  atBeacon : List Reply
  fwd : List Fwd
  /-- Opcode, tag and device of the answers that a TIMEOUT has replaced (03 R109). -/
  lateFwd : List (Nat × Nat × Nat)
  /-- The master served last (03 R111). -/
  last : Nat
  /-- The command taken last, whose turn goes on while its work goes on without a PENDING reply (03 R89, R111, R113). -/
  running : Option Ticket
  deriving DecidableEq, Repr

def Cmd.reset : Cmd := ⟨[], [], [], [], [], [], [], 6, none⟩

/-! ## What leaves the part -/

/-- An output of the part. The state keeps the outputs of a run in order; nothing in the device reads them. -/
inductive Out where
  /-- A write to the host's memory by PF `pf` (16). -/
  | hostWrite (pf : Nat) (addr : Nat) (bytes : List Byte)
  /-- A read of the host's memory that the device requests (16 R537). -/
  | hostRead (pf : Nat) (addr : Nat) (len : Nat)
  /-- An MSI-X message of PF `pf` (16 R540). -/
  | msix (pf : Nat) (vector : Nat)
  /-- A completion of a PCIe read: data, or a Completer Abort, or data with EP (16 R528). -/
  | completion (pf : Nat) (data : List Byte) (abort ep : Bool)
  /-- A non-fatal error that PF `pf` reports under AER (02 R54). -/
  | aerNonFatal (pf : Nat)
  /-- A fatal error that PF `pf` reports under AER: a malformed request (PCI Express Base 5.0). -/
  | aerFatal (pf : Nat)
  /-- A PTM Request (16 R544). -/
  | ptmRequest
  /-- A frame on a port (15 R490). -/
  | frame (port : Nat) (bytes : List Byte)
  /-- A control block on a port (15 R489). -/
  | block (port : Nat) (blk : BitVec 64)
  /-- A lane of a port sends its training pattern (15 R505). -/
  | train (lane : Nat) (ready : Bool)
  deriving DecidableEq, Repr

end Sys2Proof.Machine
end

