-- ==== Sys2Proof/Machine/StChan.lean ====
section
/-! DEFINITION. State of a channel: front end (04), conversion (05), time measurement (06), zero suppression and capture
(07). -/

namespace Sys2Proof.Machine

/-- Ticks from `a` up to, but not including, `b`; without `b` the span has not ended. -/
structure Span where
  a : Nat
  b : Option Nat
  deriving DecidableEq, Repr

/-! ## Front end (04) -/

/-- Excitation state (04 R153, CH_STATUS.exc_state). -/
inductive ExcState where
  | off | idle | pulse | discharge | enablePending | fault | vwDrive | vwListen
  deriving DecidableEq, Repr

/-- The code of CH_STATUS.exc_state (04 R153). -/
def ExcState.code : ExcState → Nat
  | .off => 0 | .idle => 1 | .pulse => 2 | .discharge => 3 | .enablePending => 4 | .fault => 5 | .vwDrive => 6 | .vwListen => 7

/-- A conversion run under EXC_EDGE or TIMER (04 R135): its first tick, outputs asked for (0: until the pulse or the timer
ends it) and delivered, and the first tick after it, once known. Samples are judged by the tick at which they were taken. -/
structure ConvRun where
  start : Nat
  want : Nat
  outputs : Nat
  stop : Option Nat
  deriving DecidableEq, Repr

structure Front where
  /-- Source, partner and gain in effect (CH_STATUS). -/
  src : Nat
  partner : Nat
  gain : Nat
  /-- Settling windows (04 R126 to R129), calibrations among them (05 R191). -/
  settles : List Span
  settling : Bool
  exc : ExcState
  /-- Mode and level that the current or last pulse uses (04 R136). -/
  mode : Nat
  level : Nat
  /-- Start and end of the current or last pulse, when it is to end, and when the next pulse starts. -/
  pulseStart : Nat
  pulseStop : Option Nat
  pulseEnd : Option Nat
  nextPulse : Option Nat
  firstPulse : Bool
  neg : Bool
  /-- A short in this pulse: when found; consecutive pulses with one (04 R144, R148). -/
  shortAt : Option Nat
  folded : Bool
  shortRun : Nat
  excShort : Bool
  excOpen : Bool
  /-- The open detector's latest assertion. -/
  openAt : Option Nat
  reversed : Bool
  revDone : Bool
  /-- The driver regulates at its own balls for the rest of the pulse (04 R140). -/
  ownBalls : Bool
  openWire : Bool
  /-- Spans in which results are SUSPECT or OPEN (04 R144, R145): shorts, excitation opens, input opens. -/
  shorts : List Span
  excOpens : List Span
  wireOpens : List Span
  /-- Balls beyond their clamp threshold (bit 0 INP, 1 INN, 2 EXP, 3 EXN), and the spans of CLAMPED samples (04 R122). -/
  clampBalls : Nat
  clamps : List Span
  /-- Next open-test step and the end of the step in progress (04 R146). -/
  testNext : Option Nat
  testEnd : Option Nat
  testPrev : Nat
  /-- Samples of the step that have come, and the sum of their corrected values in 1/16 LSB. -/
  testN : Nat
  testSum : Int
  timerNext : Option Nat
  /-- Starts of conversion runs that are due, earliest first; the run in progress, and runs whose samples are still in the converter. -/
  convDue : List Nat
  runs : List ConvRun
  /-- Vibrating wire (04 R141, R142): end of the drive, start of the listen gate, last frequency and pulse width. -/
  sweepEnd : Option Nat
  listenAt : Option Nat
  vwMhz : Nat
  vwNs : Nat
  /-- Governor stretch in 1/256 that the current period uses (04 R150). -/
  stretch : Nat
  deriving DecidableEq, Repr

def Front.reset : Front :=
  { src := 0, partner := 0, gain := 0, settles := [], settling := false, exc := .off, mode := 0, level := 250,
    pulseStart := 0, pulseStop := none, pulseEnd := none, nextPulse := none, firstPulse := false, neg := false,
    shortAt := none, folded := false, shortRun := 0, excShort := false, excOpen := false, openAt := none, reversed := false,
    revDone := true, ownBalls := false, openWire := false, shorts := [], excOpens := [], wireOpens := [], clampBalls := 0,
    clamps := [], testNext := none, testEnd := none, testPrev := 0, testN := 0, testSum := 0, timerNext := none, convDue := [], runs := [],
    sweepEnd := none, listenAt := none, vwMhz := 0, vwNs := 0, stretch := 256 }

/-! ## Conversion (05) -/

/-- A calibration of one channel (05 R189): mode, n, gains left, phase 0 ZERO, 1 CAL_POS, 2 CAL_NEG, 3 MAIN, the sums of the gain
step's ZERO (or MAIN) and CAL_POS, the tick after which values count, the values taken and their sum, and the end of the measurement. -/
structure CalJob where
  mode : Nat
  n : Nat
  gains : List Nat
  phase : Nat
  zero : Int
  pos : Int
  open_ : Nat
  cnt : Nat
  sum : Int
  due : Nat
  deriving DecidableEq, Repr

/-- The divider and decimation in effect (05 R161). -/
structure ConvSet where
  div : Nat
  decEn : Bool
  k : Nat
  deriving DecidableEq, Repr

/-- The decimation filter (05 R175): the five integrators and the last inputs of the five combs, modulo 2^(24 + 5 (k - 1)), and the
64 newest outputs of the combs, newest first. -/
structure Filter where
  integ : List Nat
  comb : List Nat
  taps : List Int
  deriving DecidableEq, Repr

def Filter.reset : Filter := ⟨List.replicate 5 0, List.replicate 5 0, []⟩

/-- A value that CH_LAST can show (05 R173, 04 R129): with its time and flags; `stale` while a window holds it. -/
structure Last where
  v : Int
  ts : TS48
  flags : Nat
  stale : Bool
  deriving DecidableEq, Repr

def Last.reset : Last := ⟨0, 0, 0, false⟩

/-- A decimator output (05 R178): its value and its instant's distance from tick 0 in half ticks, its index since the chain's restart,
the newest group's tick range and settling, the oldest contributing tick, and whether its impulse response reaches before the restart. -/
structure Slow where
  v : Int
  half : Int
  index : Nat
  newest : Nat
  oldest : Nat
  inside : Bool
  discard : Bool
  deriving DecidableEq, Repr

structure Conv where
  set : ConvSet
  /-- A change that takes effect at the tick given (05 R161). -/
  restart : Option (ConvSet × Nat)
  /-- The settings before the last restart, and its tick. -/
  prev : ConvSet
  since : Nat
  /-- The first sample after the last restart has not come. -/
  fresh : Bool
  /-- Tick at which the next group begins. -/
  nextG : Nat
  /-- Correction words used before the tick given, oldest first (05 R168, R169). -/
  corrs : List (Nat × Word)
  /-- Ticks of interval starts that the sample stream has not reached (07 R248, R263). -/
  marks : List Nat
  /-- The latest sample lay in a settling window. -/
  inside : Bool
  /-- The chain restarts with the first sample taken at this tick or later (04 R135). -/
  chainNext : Option Nat
  /-- First tick of the decimation chain's samples, and samples since (05 R179). -/
  chainFrom : Nat
  count : Nat
  filt : Filter
  slow : Option Slow
  /-- The latest valid v, and the latest valid SLOW output (05 R173). -/
  last : Last
  lastSlow : Last
  /-- Background calibration (05 R164 to R166): the stage weights as their distance from the start-up values in 0.01 LSB; update
  intervals that have ended; ticks of the last 2^20 samples at code 0 or 4095, newest first; whether a pause condition has held in
  this interval. -/
  weights : List Int
  bgDone : Nat
  bgEdges : List Nat
  bgBad : Bool
  bgQuiet : Nat
  converged : Bool
  paused : Bool
  updates : Nat
  cal : Option CalJob
  /-- Gains written and failed by the last CH_CALIBRATE. -/
  calW : Nat
  calF : Nat
  deriving DecidableEq, Repr

def ConvSet.reset : ConvSet := ⟨1, false, 4⟩
def Conv.reset : Conv :=
  { set := ConvSet.reset, restart := none, prev := ConvSet.reset, since := 0, fresh := false, nextG := 0, corrs := [],
    marks := [], inside := false, chainNext := none, chainFrom := 0, count := 0, filt := Filter.reset, slow := none, last := Last.reset,
    lastSlow := Last.reset, weights := List.replicate 15 0, bgDone := 0, bgEdges := [], bgBad := false, bgQuiet := 0,
    converged := false, paused := false, updates := 0, cal := none, calW := 0, calF := 0 }

/-- The largest drift of a stage weight (05 R166). -/
def Conv.drift (v : Conv) : Nat := satNat 255 ((v.weights.map Int.natAbs).foldl max 0)

/-! ## Time measurement (06) -/

/-- State of an interpolator (06 R210). `fresh` is an interpolator that has run no re-arm sequence since reset: it reads
as code 0 (the reset value of CH_MICA_STAT) and is not armed (the reset value of CH_TDC_STATUS.armed). -/
inductive MicaState where
  | fresh | armed | measure | calibrate | fault
  deriving DecidableEq, Repr

def MicaState.code : MicaState → Nat
  | .fresh => 0 | .armed => 0 | .measure => 1 | .calibrate => 2 | .fault => 3

structure Mica where
  st : MicaState
  v1 : Nat
  v2 : Nat
  /-- Spans of the last 256 sequences, newest first (06 R237). -/
  spans : List Int
  fails : Nat
  /-- Tick at which the measurement or sequence in progress ends. -/
  due : Nat
  /-- Tick at which V2 was taken last. -/
  v2Tick : Nat
  /-- The edge being measured, by number. -/
  edge : Option Nat
  /-- The sequence in progress is a refresh (06 R214). -/
  refresh : Bool
  deriving DecidableEq, Repr

def Mica.reset : Mica := ⟨.fresh, 0, 0, [], 0, 0, 0, none, false⟩

/-- A discriminator edge on its way through timing and qualification (06 R207 to R216). -/
structure Edge where
  id : Nat
  disc : Nat
  lead : Bool
  /-- The leading edge of its pulse. -/
  of_ : Nat
  tick : Nat
  mica : Option Nat
  /-- It is timestamped (06 R206). -/
  timed : Bool
  coarse : Bool
  /-- Fine code and time, once known. -/
  fine : Nat
  ts : Option TS48
  /-- Within 1.2 ns of its pulse's leading edge (trailing edges, 06 R207). -/
  runt : Bool
  dropped : Bool
  decided : Bool
  /-- It goes to the frequency and interval units (06 R222). -/
  pass : Bool
  flags : Nat
  /-- It belongs to a characterisation (06 R241). -/
  char : Bool
  deriving DecidableEq, Repr

/-- A HIT or PULSE that is being built (06 R218, R219): its discriminator and leading edge, the ticks over which its extreme
value runs (`to_` none while the pulse lasts), the extreme so far, and what is known of its edges. -/
structure RecWait where
  disc : Nat
  lead : Nat
  pulse : Bool
  tick : Nat
  from_ : Nat
  to_ : Option Nat
  neg : Bool
  amp : Option Int
  flags : Nat
  ext : Nat
  leadTs : Option TS48
  fine : Nat
  mica : Nat
  /-- The trailing edge awaited, and its time. -/
  trail : Option Nat
  trailTs : Option TS48
  /-- First and last tick of the edges and samples that have contributed (04 R145). -/
  lo : Nat
  hi : Nat
  deriving DecidableEq, Repr

/-- One discriminator (06 R203 to R206). -/
structure Disc where
  s : Bool
  /-- Leading edges since the divider passed one (06 R222). -/
  presc : Nat
  /-- Last edge: number, kind, and instant in 1/1024 tick (06 R207). -/
  prev : Option (Nat × Bool × Nat)
  /-- Leading edge of the pulse in progress, likewise. -/
  cur : Option (Nat × Nat)
  /-- Edges before this tick carry UNSETTLED (06 R204). -/
  unsetUntil : Nat
  deriving DecidableEq, Repr

def Disc.reset : Disc := ⟨false, 0, none, none, 0⟩

/-- An edge as the frequency and interval units keep it. -/
structure FEdge where
  id : Nat
  tick : Nat
  ts : TS48
  coarse : Bool
  flags : Nat
  deriving DecidableEq, Repr

/-- The frequency unit (06 R223): its gate, the last edge of the previous gate, edges of this gate, and the divider of the
gate's edges. -/
structure FreqU where
  on : Bool
  vw : Bool
  disc : Nat
  gateStart : Nat
  gateEnd : Nat
  first : Option FEdge
  edges : List FEdge
  deriving DecidableEq, Repr

def FreqU.reset : FreqU := ⟨false, false, 0, 0, 0, none, []⟩

/-- The interval unit (06 R226 to R229): armed start of NEXT, waiting starts of NEAREST, the last eight stops, the tick from which its
configuration holds, and start edges of earlier configurations that are still being timed (06 R244). -/
structure IvlU where
  on : Bool
  armed : Option FEdge
  overflow : Bool
  starts : List FEdge
  stops : List FEdge
  since : Nat
  old : List Nat
  deriving DecidableEq, Repr

def IvlU.reset : IvlU := ⟨false, none, false, [], [], 0, []⟩

/-- A running characterisation (06 R241): sum and count of the errors of each discriminator, and the code histogram by
1024 × interpolator + n − 1024. -/
structure CharJob where
  n : Nat
  skew : Bool
  due : Nat
  sum0 : Int
  cnt0 : Nat
  sum1 : Int
  cnt1 : Nat
  hist : SMap Nat
  deriving DecidableEq, Repr

/-- A launched test pulse (06 R230): launch tick, distance of its leading edge from it in T/1024, amplitude in threshold codes, and
width in ticks. -/
structure TpPulse where
  tick : Nat
  offset : Nat
  amp : Int
  width : Nat
  deriving DecidableEq, Repr

structure Tdc where
  discs : SMap Disc
  micas : SMap Mica
  /-- The interpolator that took the latest edge (06 R210). -/
  rot : Nat
  nextEdge : Nat
  edges : List Edge
  recs : List RecWait
  freq : FreqU
  ivl : IvlU
  char : Option CharJob
  /-- Test pulse: t0 and repetitions launched (06 R230). -/
  tp0 : Nat
  tpM : Nat
  tpLast : Option TpPulse
  deriving DecidableEq, Repr

def Tdc.reset : Tdc := ⟨[], [], 3, 0, [], [], FreqU.reset, IvlU.reset, none, 0, 0, none⟩

/-! ## Zero suppression and capture (07) -/

/-- One output sample as the consumers see it (05 R171): its word and value, the first tick and length of its group, its
flags, and whether it lies in a settling window. -/
structure Samp where
  w : BitVec 16
  v : Int
  ts : TS48
  g : Nat
  d : Nat
  flags : Nat
  inside : Bool
  deriving DecidableEq, Repr

/-- An open zero-suppression window (07 R246 to R249): the pre count kept, the samples of the current part, newest first, the
part's number, and the non-excursion samples since the last excursion sample, newest first; `keep` of them belong to the window. -/
structure ZsWin where
  pre : Nat
  samps : List Samp
  part : Nat
  quiet : List Samp
  deriving DecidableEq, Repr

structure Zs where
  hi : Bool
  lo : Bool
  win : Option ZsWin
  /-- Latest samples outside a window, newest first, for the pre count. -/
  pre : List Samp
  deriving DecidableEq, Repr

def Zs.reset : Zs := ⟨false, false, none, []⟩

/-- Capture state (07 R252). -/
inductive CapState where
  | off | filling | armed | post | readout | holdoff | spill
  deriving DecidableEq, Repr

def CapState.code : CapState → Nat
  | .off => 0 | .filling => 1 | .armed => 2 | .post => 3 | .readout => 4 | .holdoff => 5 | .spill => 6

/-- A capture in progress. Samples are numbered in the order in which they are written. -/
structure CapRun where
  k : Nat
  first : Nat
  /-- One past the last sample of the window. -/
  stop : Nat
  trunc : Bool
  short : Bool
  ext : Nat
  forced : Bool
  ts : TS48
  flint : Nat
  /-- Settings at the start (07 R267): spill queue, post count, extension. -/
  spillQ : Option Nat
  post : Nat
  extend : Bool
  /-- The capture spills (07 R258). -/
  spill : Bool
  /-- Window samples that have not left, oldest first (read-out or spill). -/
  buf : List Samp
  /-- TS48 of the first window sample and flags of the samples, as they have left; the sample written last; D at the start. -/
  firstTs : Option TS48
  flags : Nat
  lastS : Option Samp
  div : Nat
  /-- One past the planned last sample, when the spill was cut short: its GAP still has to be written (07 R259). -/
  planned : Option Nat
  /-- End of the read-out, and whether its items have been given out. -/
  due : Nat
  out : Bool
  deriving DecidableEq, Repr

structure Cap where
  st : CapState
  /-- Valid samples of the ring, newest first, at most 65,536 (the fill, 07 R250). -/
  ring : List Samp
  /-- Number of the newest sample plus one. -/
  written : Nat
  /-- The gap of the divider restart that reset the fill (05 R161): the end of the old rate's last group, and the number of the first
  sample at the new rate. -/
  gap : Option (Nat × Nat)
  run : Option CapRun
  holdEnd : Nat
  /-- A mode 0 write awaits the end of the capture (07 R267). -/
  offPend : Bool
  /-- The spill's drain has stopped for want of room. -/
  stalled : Bool
  /-- Raw export runs, from the sample of this tick on (07 R269). -/
  raw : Bool
  rawFrom : Nat
  rawBuf : List Samp
  deriving DecidableEq, Repr

def Cap.reset : Cap := ⟨.off, [], 0, none, none, 0, false, false, false, 0, []⟩

/-- The sample packer's open item (01 R22): stamp of its first sample, tick of that sample, samples, their flags, and the
records that end in it. -/
structure Pack where
  ts : TS48
  tick : Nat
  n : Nat
  flags : Nat
  inside : Bool
  recs : List Rec
  deriving DecidableEq, Repr

/-- A channel. -/
structure Chan where
  fe : Front
  cv : Conv
  td : Tdc
  zs : Zs
  cap : Cap
  pack : Option Pack
  deriving DecidableEq, Repr

def Chan.reset : Chan := ⟨Front.reset, Conv.reset, Tdc.reset, Zs.reset, Cap.reset, none⟩

end Sys2Proof.Machine
end

