-- ==== Sys2Proof/Machine/StCtl.lean ====
section
/-! DEFINITION. State of the triad, Touchstone and the planner (18), the emitters (19), start-up and security (20), and the
counters and Slates (21). -/

namespace Sys2Proof.Machine

/-! ## Triad (18) -/

/-- A member (18 R607). `st`: 0 VOTING, 1 FENCED, 2 SELFTEST, 3 COPY_TARGET, 4 RETIRED. -/
structure Member where
  st : Nat
  fails : Nat
  cause : Nat
  /-- End of its self-test, or tick of its next test. -/
  due : Nat
  /-- Its memory of 4 MiB: working region, with the completion log at its end, and checkpoint region (18 R581). -/
  mem : SMap Byte
  deriving DecidableEq, Repr

def Member.reset : Member := ⟨0, 0, 0, 0, []⟩

/-- A HEALTH_REPORT in progress (18 R609): its sections and RECORD flag. -/
structure ReportJob where
  tk : Ticket
  mask : Nat
  record : Bool
  deriving DecidableEq, Repr

/-- One change that the planner has ordered for a service Island (18 R605): target in mV and next step's tick. -/
structure VoltStep where
  target : Nat
  due : Nat
  deriving DecidableEq, Repr

structure Triad where
  /-- 18 R583. -/
  mode : Nat
  members : SMap Member
  donor : Nat
  /-- End of a copy, a two-member test, a restart or a halt; start of the pause and the longest one since the last start. -/
  due : Nat
  pauseFrom : Nat
  pauseMaxUs : Nat
  nextSlice : Nat
  nextCkpt : Nat
  ckptNum : Nat
  alarm : Bool
  /-- The triad has reached TRIPLEX or DUPLEX since reset (18 R598). -/
  reached : Bool
  /-- After a donor failure the named non-donor tests itself (18 R590). -/
  donorTest : Option Nat
  /-- Commands completed since the last checkpoint (18 R597, detail word 1 of 0x0C14). -/
  replay : Nat
  /-- Touchstone: next periodic report, number of the last, and a HEALTH_REPORT in progress. -/
  nextReport : Nat
  num : Nat
  job : Option ReportJob
  policy : Nat
  guard : Nat
  hoursOff : Nat
  vHold : SMap Nat
  /-- Fit points of each compute Island, newest first: h in ticks, and m (18 R606). -/
  fits : SMap (List (Nat × Int))
  exhausted : SMap Bool
  /-- Service Islands 12 to 17: supply in mV. -/
  svcVdd : SMap Nat
  svcStep : SMap (Option VoltStep)
  /-- MARGIN_POLICY RUN commands that wait for their last change. -/
  runJobs : List Ticket
  /-- Sum of the four spans of each channel when the start ended (18 R600). -/
  micaStart : SMap Int
  deriving DecidableEq, Repr

/-- Supply of every Island at reset: 750 mV. -/
def vddReset : Nat := 750

def Triad.reset : Triad :=
  { mode := 0, members := [], donor := 0, due := 0, pauseFrom := 0, pauseMaxUs := 0, nextSlice := 1500000,
    nextCkpt := 15000000, ckptNum := 0, alarm := true, reached := false, donorTest := none, replay := 0,
    nextReport := 5400000000000, num := 0, job := none, policy := 0, guard := 25, hoursOff := 0, vHold := [], fits := [],
    exhausted := [], svcVdd := [], svcStep := [], runJobs := [], micaStart := [] }

/-! ## Emitters (19) -/

/-- A pulse schedule (19 R618): `isl` is the Island whose boundaries place the pulses, or none in schedule FREE. -/
structure EmSched where
  period : Nat
  coarse : Nat
  fine : Nat
  width : Nat
  isl : Option Nat
  deriving DecidableEq, Repr

def EmSched.reset : EmSched := ⟨75000, 0, 0, 3072, none⟩

/-- An emitter (19 R612). `st`: 0 OFF, 1 TEST, 2 RUN, 3 RAMPDOWN, 4 ENABLE_PENDING, 5 FAULT. -/
structure Emitter where
  st : Nat
  /-- End of TEST or of the ramp-down; in RUN, the tick that entered it. -/
  due : Nat
  /-- Code, on-count and slot in effect, and the factor min(g, d) in use (19 R616, R617). -/
  code : Nat
  onCount : Nat
  slot : Nat
  factor : Nat
  /-- Values written whose boundary has not come: they apply at the first boundary after `pendTick`. -/
  levelPend : Option Nat
  onPend : Option Nat
  slotPend : Option Nat
  pendTick : Nat
  /-- The spread-period boundary taken last. -/
  bound : Nat
  /-- Schedules with the tick from which each is in effect, newest first (19 R619). -/
  scheds : List (Nat × EmSched)
  /-- Tick of the pulse placed last, and boundaries of Islands: Island and tick. -/
  lastPulse : Option Nat
  bounds : List (Nat × Nat)
  /-- Thermal factor and the range of 19 R621 it stems from: 0 full, 1 derating, 2 off, 3 open. -/
  d : Nat
  zone : Nat
  shortEm : Nat
  shortGnd : Bool
  deriving DecidableEq, Repr

def Emitter.reset : Emitter :=
  { st := 0, due := 0, code := 0, onCount := 0, slot := 16, factor := 256, levelPend := none, onPend := none,
    slotPend := none, pendTick := 0, bound := 0, scheds := [], lastPulse := none, bounds := [], d := 256, zone := 0,
    shortEm := 0, shortGnd := false }

structure Emit where
  ems : SMap Emitter
  g : Nat
  /-- P_req in mW as EMIT_GOV shows it. -/
  preq : Nat
  govNext : Nat
  deriving DecidableEq, Repr

def Emit.reset : Emit := ⟨[], 256, 0, 15000000⟩

/-! ## Start-up and security (20) -/

/-- What the fuses and ROM hold (20 R640, R641, R646). -/
structure Fuses where
  lifecycle : Nat
  /-- State in effect, and a state burnt that takes effect at the next cold start. -/
  state : Nat
  serial : BitVec 64
  programmed : BitVec 4
  revoked : BitVec 4
  /-- Slot k's hash at k, the vendor root hash. -/
  slots : SMap (List Byte)
  root : List Byte
  svnFloor : Nat
  revision : Byte
  /-- The fused 64-byte seed of the identity key, which no master can read (20 R643). -/
  seed : List Byte
  deriving DecidableEq, Repr

/-- The firmware image that runs (20 R638). `slot`: 0 A, 1 B, 2 push. -/
structure FwImage where
  slot : Nat
  ver : Word
  svn : Nat
  keySlot : Nat
  meas : List Byte
  deriving DecidableEq, Repr

/-- A DEV_RESET that has been accepted (20 R647). -/
structure ResetPend where
  tick : Nat
  cold : Bool
  bist : Bool
  full : Bool
  deriving DecidableEq, Repr

structure Start where
  /-- DEV_STATUS.step: 0 RUNNING, 1 to 10, 16 AWAIT_TREF, 17 AWAIT_PUSH, 18 BOOT_FAIL. -/
  step : Nat
  warm : Bool
  cause : Nat
  /-- Counted ticks of the start, and the tick from which the current stretch counts (20 R630). -/
  acc : Nat
  since : Nat
  /-- Steps skipped, bit s - 1 for step s. -/
  skipped : Nat
  bist : Bool
  full : Bool
  /-- Step 6 of a warm start hashes the retained copy (20 R632). -/
  hashing : Bool
  /-- Slots tried in this start, and the image in work. -/
  tried : List Nat
  cand : Option FwImage
  fw : FwImage
  endTick : Nat
  resetPend : Option ResetPend
  /-- Tick of the last characterisation, and the sum of the codes of HK0 and HK1 at it (20 R633). -/
  charTick : Option Nat
  charTemp : Nat
  deriving DecidableEq, Repr

/-- FW_UPDATE in progress (20 R648). -/
structure FwJob where
  tk : Ticket
  target : Nat
  flags : Nat
  /-- The image; none when the source does not decompress. -/
  image : Option (List Byte)
  deriving DecidableEq, Repr

/-- A fuse burn in progress (20 R640, R650): what it burns and the command that waits. -/
inductive BurnWhat where
  | slot (k : Nat) (hash : List Byte)
  | revoke (k : Nat)
  deriving DecidableEq, Repr

structure Burn where
  what : BurnWhat
  due : Nat
  tk : Option Ticket
  deriving DecidableEq, Repr

structure Sec where
  straps : Straps
  fuses : Fuses
  start : Start
  /-- Boot flash (20 R635), whose unlisted bytes are erased, and the boot window (16 R526). -/
  flash : SMap Byte
  bootWin : SMap Byte
  fwJob : Option FwJob
  attest : Option (Ticket × List Byte)
  burns : List Burn
  /-- Measurement of each engine's loaded kernel (20 R644). -/
  kern : SMap (Option (List Byte))
  /-- The identity key that step 8 generates: SK.seed, SK.prf and PK.seed (20 R643). -/
  idKey : List Byte
  deriving DecidableEq, Repr

def strapsReset : Straps := ⟨0, false, false, 0⟩
def Fuses.reset : Fuses := ⟨0, 0, 0, 0, 0, [], List.replicate 32 0, 0, 0xB0, List.replicate 64 0⟩
def FwImage.reset : FwImage := ⟨0, 0, 0, 0, List.replicate 32 0⟩
def Start.reset : Start :=
  { step := 1, warm := false, cause := 0, acc := 0, since := 0, skipped := 0, bist := false, full := false, hashing := false,
    tried := [], cand := none, fw := FwImage.reset, endTick := 0, resetPend := none, charTick := none, charTemp := 0 }
def Sec.reset : Sec := ⟨strapsReset, Fuses.reset, Start.reset, [], [], none, none, [], [], []⟩

/-! ## Counters and Slates (21) -/

/-- A pending Slate (21 R658 to R660): its tick, sources and the SNAP_TAKE commands that wait. -/
structure SlatePend where
  tick : Nat
  /-- Tick at which it was accepted (21 R658). -/
  acc : Nat
  src : Nat
  tks : List Ticket
  /-- From its tick on: the Islands in a planner pause, which have not latched yet (21 R659). -/
  rest : Option (List Nat)
  deriving DecidableEq, Repr

structure Perf where
  /-- Bytes of each meter in the current window, and its start; none before PERF_BW_WIN is written (21 R655). -/
  bytes : SMap Nat
  winStart : Option Nat
  /-- Next periodic dump of each group (21 R656). -/
  dumpNext : SMap (Option Nat)
  slate : Option SlatePend
  /-- Period boundaries counted toward PERF_SNAP_PER. -/
  perCount : Nat
  num : Nat
  srcLast : Nat
  late : Bool
  /-- Snapshot copies by address; a copy that reads 0 is not listed. `valid` when a Slate has been taken since reset. -/
  copies : SMap Word
  valid : Bool
  deriving DecidableEq, Repr

def Perf.reset : Perf := ⟨[], none, [], none, 0, 0, 0, false, [], false⟩

end Sys2Proof.Machine
end

