-- ==== Sys2Proof/Machine/StFlint.lean ====
section
/-! DEFINITION. State of the Flint trigger sequencers (08), the reference monitor and PPS (06 R231 to R236) and the
housekeeping converter (05 R193 to R202). -/

namespace Sys2Proof.Machine

/-- A time that an event carries (08 R270): its line (0xFF when none), whether it is COARSE, and the discriminator edge,
by channel and number, whose fine time it awaits; `ts` is that of the tick until then. -/
structure Cand where
  line : Nat
  ts : TS48
  coarse : Bool
  ref : Option (Nat × Nat)
  deriving DecidableEq, Repr

/-- An event on a line (08 R270) and the tick in which sequencers see it. -/
structure LineEvt where
  c : Cand
  tick : Nat
  deriving DecidableEq, Repr

/-- A remote trigger message (08 R288, 15 R499). -/
structure RcMsg where
  origin : Nat
  seq : Nat
  cls : Nat
  num : Nat
  ts : TS48
  /-- Port of arrival. -/
  port : Nat
  deriving DecidableEq, Repr

/-- A trigger that waits for its time to be complete (08 R283): the sequencer, fields of the TRIGGER record, what it
freezes and what it sends. -/
structure TrigWait where
  f : Nat
  cls : Nat
  stateLeft : Nat
  set : Option Nat
  num : Nat
  send : Bool
  forced : Bool
  /-- The events among which the latest gives the trigger time (08 R282). -/
  cands : List Cand
  deriving DecidableEq, Repr

/-- One sequencer (08 R275 to R285). A timer holds its value, or the tick at which it reaches 0 while it runs. -/
structure Seqr where
  armed : Bool
  loaded : Bool
  state : Nat
  prev : Nat
  c0 : Nat
  c1 : Nat
  t0 : Nat
  t1 : Nat
  t0run : Bool
  t1run : Bool
  t0end : Nat
  t1end : Nat
  holdEnd : Option Nat
  /-- Tick from which the auto interval counts (08 R284). -/
  autoBase : Nat
  /-- Trigger time of the transition that entered the state (08 R282). -/
  entry : List Cand
  /-- Tick of the last transition. -/
  moved : Nat
  num : Nat
  deriving DecidableEq, Repr

def Seqr.reset : Seqr :=
  ⟨false, false, 0, 0, 0, 0, 0, 0, false, false, 0, 0, none, 0, [], 0, 0⟩

/-- A level line (08 R270, R276): its value before the changes held, and its latest changes, newest first, each with the first tick
that shows it. -/
structure Level where
  base : Bool
  chg : List (Nat × Bool)
  deriving DecidableEq, Repr

/-- The value that the line takes last. -/
def Level.now (v : Level) : Bool := ((v.chg.head?).map Prod.snd).getD v.base

/-- The value that tick `t` shows. -/
def Level.at_ (v : Level) (t : Nat) : Bool := ((v.chg.find? (fun e => decide (e.1 ≤ t))).map Prod.snd).getD v.base

/-- A change shown from tick `t` on; of a tick the last value stands. Ticks before the previous one are not looked at again. -/
def Level.change (b : Bool) (t : Nat) (v : Level) : Level :=
  let w := { v with chg := v.chg.dropWhile (fun e => e.1 == t) }
  if w.now = b then w else { w with chg := ((t, b) :: w.chg).take 3 }

/-- Counter and timer lines are 1 at reset, as their values are 0; other levels are 0 (08 R278, R279). -/
def Level.resetOf (l : Nat) : Level := ⟨decide (148 ≤ l) && decide (l < 180), []⟩

/-- A freeze on its way to the rings (08 R283, 07 R253). -/
structure Freeze where
  ch : Nat
  flint : Nat
  ts : TS48
  forced : Bool
  due : Nat
  deriving DecidableEq, Repr

/-- A TRIG_OUT ball (08 R281): its SET level, the end of its pulse, and the ticks of the last SET and PULSE. -/
structure Tout where
  level : Bool
  until_ : Option Nat
  setAt : Option Nat
  pulseAt : Option Nat
  deriving DecidableEq, Repr

structure Flint where
  seqs : SMap Seqr
  /-- The loaded image, by 32-bit index (08 R294). -/
  image : SMap Word
  groupLoaded : SMap Bool
  setLoaded : SMap Bool
  /-- Level of each line, and the events of the latest ticks. -/
  levels : SMap Level
  events : List LineEvt
  /-- Marks of group members: member number (c for LO, 192 + c for HI) and expiry tick, per group. -/
  marks : SMap (List (Nat × Nat))
  touts : SMap Tout
  waits : List TrigWait
  freezes : List Freeze
  /-- Remote messages queued per class, and the last 64 delivered. -/
  rcq : SMap (List RcMsg)
  rcSeen : List (Nat × Nat × Nat)
  /-- One past the tick of the last delivery per class. -/
  rcLast : SMap Nat
  /-- The message that pulsed each RC line last (08 R291). -/
  rcMsg : SMap (Option RcMsg)
  /-- TRIG_IN levels at the balls as accepted last (08 R273). -/
  trigRaw : SMap Bool
  deriving DecidableEq, Repr

def Tout.reset : Tout := ⟨false, none, none, none⟩
def Flint.reset : Flint := ⟨[], [], [], [], [], [], [], [], [], [], [], [], [], [], []⟩

/-! ## Reference clock and PPS (06 R231 to R236) -/

/-- `st`: 0 LOCKED, 1 HOLDOVER, 2 RELOCK, 3 FREE. -/
structure RefMon where
  st : Nat
  sel : Nat
  pllLocked : Bool
  miss : Nat
  good : Nat
  holdFrom : Nat
  holdS : Nat
  nextWin : Nat
  relockAt : Nat
  ppsOk : Bool
  ppsLast : Option Nat
  ppsBad : Nat
  /-- The latest interval between PPS edges lay in its window. -/
  ppsGood : Bool
  ppsLost : Bool
  deriving DecidableEq, Repr

def RefMon.reset : RefMon := ⟨3, 3, false, 0, 0, 0, 0, 0, 0, false, none, 0, false, false⟩

/-! ## Housekeeping converter (05 R193 to R202) -/

/-- A scan with the settings it started with (05 R201): the tick from which it may start, the inputs that are left, those
converted (index, tick of the sampling instant, code), the time of the first sampling instant, and HK_CTRL.rec_en. -/
structure Scan where
  start : Nat
  left : List Nat
  done : List (Nat × Nat × Nat)
  ts : TS48
  record : Bool
  running : Bool
  deriving DecidableEq, Repr

/-- A trigger of the housekeeping converter that has not been judged (05 R195, R196): its tick, and for an emitter's edge the emitter and
whether it is the trailing one. -/
structure HkTrig where
  tick : Nat
  edge : Option (Nat × Bool)
  deriving DecidableEq, Repr

structure Hk where
  /-- The scan of the trigger accepted last, and the one of the queued trigger. -/
  scan : Option Scan
  queued : Option Scan
  /-- End of the scan conversion in progress. -/
  conv : Option Nat
  /-- Tick from which the converter is free of the latest system conversion. -/
  free : Nat
  /-- Triggers, and edges that may be triggers, that have not been judged. -/
  trigs : List HkTrig
  timerNext : Option Nat
  /-- Tick at which the next system conversion falls due, and its input. -/
  sysNext : Option Nat
  sysInput : Nat
  scanNum : Nat
  /-- Latest system conversion of each input. -/
  sys : SMap Nat
  /-- Inputs whose HK_LIM_STAT bit is set. -/
  beyond : Nat
  /-- Consecutive readings at 120 °C, and over-temperature excursions reported, per sensor; the trip holds (22 R683). -/
  hot : SMap Nat
  warned : SMap Bool
  tripped : Bool
  deriving DecidableEq, Repr

def Hk.reset : Hk :=
  { scan := none, queued := none, conv := none, free := 0, trigs := [], timerNext := none, sysNext := none, sysInput := 0,
    scanNum := 0, sys := [], beyond := 0, hot := [], warned := [], tripped := false }

end Sys2Proof.Machine
end

