-- ==== Sys2Proof/Machine/StHost.lean ====
section
/-! DEFINITION. State of the PCI Express host interface (16) and of the on-chip memory (17). -/

namespace Sys2Proof.Machine

/-! ## Host interface (16) -/

/-- An MSI-X table entry (16 R525, R540): address, data, vector control; `pend` is its pending bit. -/
structure MsixEnt where
  addr : Nat
  data : Word
  masked : Bool
  pend : Bool
  deriving DecidableEq, Repr

def MsixEnt.reset : MsixEnt := ⟨0, 0, true, false⟩

/-- A physical function (16 R524 to R535). -/
structure Pf where
  d3hot : Bool
  busMaster : Bool
  /-- MSI-X Enable of its MSI-X capability, and the Function Mask. -/
  msixEn : Bool
  msixMask : Bool
  msix : SMap MsixEnt
  /-- Reply ring (16 R533). -/
  rprBase : Nat
  rprWb : Nat
  rprEn : Bool
  rprIrq : Bool
  /-- PTM Requester enabled (PF0 only, 16 R691). -/
  ptmEn : Bool
  /-- Base Address Registers, word k at configuration offset 0x010 + 4k (16 R525). -/
  bars : SMap Word
  deriving DecidableEq, Repr

def Pf.reset : Pf := ⟨false, false, false, false, [], 0, 0, false, false, false, []⟩

/-- A host buffer in use (16 R538). -/
structure HBuf where
  addr : Nat
  used : Nat
  firstTick : Option Nat
  deriving DecidableEq, Repr

/-- A descriptor as last read (16 R536). -/
structure Desc where
  index : Nat
  addr : Nat
  ready : Bool
  deriving DecidableEq, Repr

/-- A descriptor ring (16 R536 to R541): streams 0 to 63 and the dump rings of PF0 to PF3 at 64 to 67. `st`: 0 OFF, 1 RUN,
2 STALL, 3 ERROR. -/
structure HRing where
  st : Nat
  /-- Descriptor in use, and the next buffer's. -/
  next : Nat
  buf : Option HBuf
  copy : Option Desc
  /-- A descriptor read in flight: its index, tick, and whether it is the second read of 16 R537 step 3. -/
  reading : Option (Nat × Nat × Bool)
  /-- A stalled ring polls at this tick. -/
  pollAt : Nat
  seq : Nat
  /-- Records waiting for a buffer, oldest first. -/
  recs : List Rec
  /-- The stream's last record has been given (16 R538). -/
  last : Bool
  /-- The descriptor with bit1 has been written. -/
  ended : Bool
  /-- Interrupt moderation (16 R541): end of the interval and a closed buffer that waits for it. -/
  modEnd : Option Nat
  modPend : Bool
  /-- It has been in ERROR and has not been started again (16 R539, R546). -/
  err : Bool
  deriving DecidableEq, Repr

def HRing.reset : HRing := ⟨0, 0, none, none, none, 0, 0, [], false, false, none, false, false⟩

/-- A BAR2 access that waits (16 R528, 17 R558): function, offset, length, and the bytes of a write. -/
structure BarWait where
  pf : Nat
  off : Nat
  n : Nat
  data : Option (List Byte)
  deriving DecidableEq, Repr

structure HostIf where
  pfs : SMap Pf
  rings : SMap HRing
  /-- Link state (HOSTIF_LINK). -/
  up : Bool
  speed : Nat
  width : Nat
  /-- Configuration requests complete without retry status (16 R529). -/
  cfgReady : Bool
  /-- PERST_N is low. -/
  perst : Bool
  /-- BAR2 accesses that wait for their bank or for a commit (10 R353, 16 R528, 17 R558), oldest first. -/
  waits : List BarWait
  deriving DecidableEq, Repr

def HostIf.reset : HostIf := ⟨[], [], false, 0, 0, false, false, []⟩

/-! ## On-chip memory (17) -/

/-- A managed bank (17 R557). `st`: 0 ON, 1 RETENTION, 2 OFF, 3 CLEARING, 4 WAKING, 5 SHUTDOWN, 6 ENABLE_PENDING. -/
structure Bank where
  st : Nat
  keep : Bool
  owner : Nat
  index : Nat
  due : Nat
  /-- WAKING came from OFF; RETENTION is being entered. -/
  fromOff : Bool
  entering : Bool
  retFrom : Nat
  /-- The owner that takes it once the accesses of the old one are served (17 R563). -/
  hand : Option (Nat × Nat)
  deriving DecidableEq, Repr

/-- The default owner of a bank (17 R556): kinds of 17 R577. -/
def bankOwner (n : Nat) : Nat := if n < 96 then 2 else if n < 128 then 6 else 7

def Bank.reset (n : Nat) : Bank := ⟨0, false, bankOwner n, if n < 96 then n / 8 else 0, 0, false, false, 0, none⟩

/-- A scrub agent (17 R564 to R567): start of its lap, lines visited in it (`lineKey`), urgency, and banks to scrub next with the lines
visited of each; and its march test: when the current ms began and the lines tested in it (17 R569). -/
structure Scrub where
  start : Nat
  seen : SMap Bool
  urgent : Bool
  next : List (Nat × SMap Bool)
  mtFrom : Nat
  mtCount : Nat
  deriving DecidableEq, Repr

def Scrub.reset : Scrub := ⟨0, [], false, [], 0, 0⟩

/-- The running bulk transfer (17 R573), and the incoming ones of which the target has refused a WRITE: origin and tag (17 R575). -/
structure Dma where
  busy : Bool
  tag : Nat
  deadline : Nat
  uncorr : Bool
  status : Nat
  refused : List (Nat × Nat)
  deriving DecidableEq, Repr

def Dma.reset : Dma := ⟨false, 0, 0, false, 0, []⟩

/-- A MEM_ASSIGN or MEM_RETAIN in progress (17 R578, R579): banks that have not reached what was asked, the state asked of
them, the owner to hand to, and the banks whose hand-over has begun. -/
structure MemJob where
  tk : Ticket
  banks : List Nat
  state : Option Nat
  owner : Option (Nat × Nat)
  begun : List Nat
  deriving DecidableEq, Repr

/-- A MEM_TEST PASS in progress (17 R580): margin, rate, the lines tested (`lineKey`) and what they showed. -/
structure PassJob where
  tk : Ticket
  margin : Bool
  rate : Nat
  seen : SMap Bool
  fails : Nat
  repairs : Nat
  spareOut : Bool
  deriving DecidableEq, Repr

structure Mem where
  banks : SMap Bank
  /-- Spares used by each array (17 R571). -/
  spares : SMap Nat
  /-- Poisoned bytes (17 R553), keyed by region, unit and offset (`memKey`). -/
  poison : SMap Bool
  /-- Engines whose data memory carries the strong code (17 R551). -/
  strong : SMap Bool
  scrub : SMap Scrub
  dma : Dma
  jobs : List MemJob
  pass : Option PassJob
  /-- Highest Vmin of each agent's memories in the current pass (17 R572). -/
  vmin : SMap Nat
  deriving DecidableEq, Repr

def Mem.reset : Mem := ⟨[], [], [], [], [], Dma.reset, [], none, []⟩

end Sys2Proof.Machine
end

