-- ==== Sys2Proof/Machine/StIsland.lean ====
section
/-! DEFINITION. State of the island links and Straits (01), the reduction engines (09) and the point contexts and periods
(10). -/

namespace Sys2Proof.Machine

/-! ## Island links and Straits (01) -/

/-- An item of an island link (01 R22, R23). `cls`: 0 event, 1 live sample, 2 read-out or spill. It carries the records
that it completes; `part` names, by type and index, the records of which it holds an earlier segment (01 R32); `mask` is its
consumer mask, of the `mk…` bits; `spillQ` is the queue that a spill item's records go to (12 R397). -/
structure Item where
  ch : Nat
  cls : Nat
  words : Nat
  ts : TS48
  /-- On the link, the tick at which its builder gave it out (01 R26); in a Strait, the tick from which its reader sees it (01 R34). -/
  tick : Nat
  recs : List Rec
  part : List (Nat × Nat)
  mask : Nat
  spillQ : Option Nat
  deriving DecidableEq, Repr

/-! Consumers of a sample item (01 R22). -/
def mkRAW : Nat := 1
def mkWINDOW : Nat := 2
def mkSPILL : Nat := 4
def mkREADOUT : Nat := 8

/-- An entry of a Strait (01 R31, R37, R40); the flush token carries the FLUSH record that replaces it. -/
inductive SEnt where
  | item (it : Item)
  | gap (r : Rec)
  | token (r : Rec)
  deriving DecidableEq, Repr

/-- A flush whose token the writer has not written: the reader discards (01 R40). `cut`: records counted as partial of which
the last segment has not come. -/
structure SFlush where
  cause : Nat
  whole : Nat
  part : Nat
  cut : List (Nat × Nat)
  deriving DecidableEq, Repr

/-- A Strait (01 R31 to R41). `torn`: records, by type and index, of which a segment is lost and the rest has not come.
`wr` and `rd` are the words written and read, modulo 2N: each side's pointer before its Gray code. `freed` holds the words of pops
that the writer does not see yet, each with the tick from which it does (01 R33, R34). -/
structure Strait where
  ents : List SEnt
  pend : Option Dropped
  torn : List (Nat × Nat)
  flush : Option SFlush
  wr : Nat
  rd : Nat
  freed : List (Nat × Nat)
  deriving DecidableEq, Repr

def Strait.reset : Strait := ⟨[], none, [], none, 0, 0, []⟩

/-- Words that an entry takes in the N slots. -/
def SEnt.words : SEnt → Nat
  | .item it => it.words
  | .gap _ => 0
  | .token _ => 1

/-- An entry that its reader sees from tick `t` on. -/
def SEnt.seen (t : Nat) : SEnt → SEnt
  | .item it => .item { it with tick := t }
  | h => h

def SEnt.isGap : SEnt → Bool
  | .gap _ => true
  | _ => false

def SEnt.isToken : SEnt → Bool
  | .token _ => true
  | _ => false

/-- Words in use. -/
def entWords (l : List SEnt) : Nat := (l.map SEnt.words).sum

/-! ## Engines (09) -/

/-- Engine state (09 R306). -/
inductive EngState where
  | stopped | wait | run | done | fault
  deriving DecidableEq, Repr

def EngState.code : EngState → Nat
  | .stopped => 0 | .wait => 1 | .run => 2 | .done => 3 | .fault => 4

/-- The running states (09 R304). -/
def EngState.runs : EngState → Bool
  | .wait | .run | .done => true
  | .stopped | .fault => false

/-- What the header of a loaded image gives (09 R336). -/
structure Image where
  kid : Word
  kver : Word
  codeWords : Nat
  scratchBase : Nat
  scratchLen : Nat
  entryStart : Nat
  entryItem : Nat
  inTypes : Nat
  ctxKind : Nat
  budgetStart : Nat
  budgetItem : Nat
  deriving DecidableEq, Repr

def Image.none : Image := ⟨0, 0, 0, 0, 0, 0, 0, 0, 0, 0, 0⟩

/-- A CTXLD that has not completed: its context, the predicate that shows its success and the tick of its end (09 R321,
R330). -/
structure CtxReq where
  id : Nat
  pd : Nat
  due : Nat
  deriving DecidableEq, Repr

/-- A context buffer: the context it holds from this period, its 128 bytes, and the load in progress (09 R299, R330). -/
structure CtxBuf where
  id : Option Nat
  bytes : List Byte
  req : Option CtxReq
  deriving DecidableEq, Repr

def CtxBuf.reset : CtxBuf := ⟨none, List.replicate 128 0, none⟩

/-- What a shared-memory access does when its bank serves it (09 R300, R301). -/
inductive ShOp where
  | load (rd size : Nat) (sgn : Bool)
  | loadV (vd : Nat)
  | store (bytes : List Byte)
  | aadd (rd : Nat) (v : Word)
  | aswp (rd : Nat) (v : Word)
  deriving DecidableEq, Repr

/-- The program-visible state of an engine (09 R314, R315). -/
structure EngRegs where
  s : SMap Word
  v : SMap Vec
  p : SMap Byte
  pc : Nat
  sticky : Word
  out : SMap Byte
  c0 : CtxBuf
  c1 : CtxBuf
  cur : Option Rec
  deriving DecidableEq, Repr

def EngRegs.reset : EngRegs := ⟨[], [], [], 0, 0, [], CtxBuf.reset, CtxBuf.reset, none⟩

/-- What the engine has done in the current period, for commits and PERIOD_DROP (10 R357). -/
structure EngPeriod where
  /-- Cause of an abort in this period, `none` while it is not aborted. -/
  aborted : Option Nat
  itemsDone : Nat
  unread : Nat
  withdrawn : Nat
  updates : Nat
  cycles : Nat
  pc : Nat
  /-- Entries of the outbound FIFO that await the commit, oldest first. -/
  held : List SEnt
  /-- Pending marker and sequence counters of FEATURE and CONTEXT at the last commit (09 R313). -/
  pend : Option Dropped
  seqF : Nat
  seqC : Nat
  deriving DecidableEq, Repr

def EngPeriod.reset : EngPeriod := ⟨none, 0, 0, 0, 0, 0, 0, [], none, 0, 0⟩

structure Eng where
  st : EngState
  loaded : Bool
  startPend : Bool
  stopPend : Bool
  bind : Nat
  img : Image
  itemsMax : Nat
  imem : SMap Word
  dmem : SMap Byte
  r : EngRegs
  per : EngPeriod
  input : Strait
  output : Strait
  /-- STICKY.ingap sets at the next entry (09 R305). -/
  ingap : Bool
  cause : Nat
  faultPc : Nat
  consec : Nat
  perNum : Nat
  maxCyc : Nat
  cycLast : Nat
  /-- Shared accesses in program order, with their byte address (09 R300). -/
  sh : List (ShOp × Nat)
  /-- Island cycle of the period at which the next instruction may issue, that at which the present invocation began, and
  those at which results are ready, by `rk…` key (09 R321). -/
  busy : Nat
  runFrom : Nat
  rdy : SMap Nat
  /-- The instruction issued last. -/
  issued : Nat
  deriving DecidableEq, Repr

def Eng.reset (j : Nat) : Eng :=
  { st := .stopped, loaded := false, startPend := false, stopPend := false, bind := 2 ^ j, img := Image.none,
    itemsMax := 0, imem := [], dmem := [], r := EngRegs.reset, per := EngPeriod.reset, input := Strait.reset,
    output := Strait.reset, ingap := false, cause := 0, faultPc := 0, consec := 0, perNum := 0, maxCyc := 0, cycLast := 0,
    sh := [], busy := 0, runFrom := 0, rdy := [], issued := 0 }

/-! ## Contexts and periods (10) -/

/-- A point context: the header fields of 10 R345 and bytes 16 to 127. -/
structure Ctx where
  kind : Nat
  island : Nat
  unrel : Bool
  host : Bool
  commits : Nat
  ts : TS48
  state : List Byte
  deriving DecidableEq, Repr

def Ctx.reset : Ctx := ⟨0, 0xFF, false, false, 0, 0, List.replicate 112 0⟩

/-- A context of a bank that has been cleared: the assignment table keeps kind and Island, the store reads as 0 (10 R344, 17 R559). A
context that reads as at reset is not listed. -/
def Ctx.zeroed (c : Ctx) : Option Ctx :=
  let z : Ctx := { Ctx.reset with kind := c.kind, island := c.island }
  if z = Ctx.reset then none else some z

/-- A staged update (09 R331, 10 R352, R363): `eng` is the engine that staged it, `none` for a CTX_WRITE. -/
structure Upd where
  eng : Option Nat
  id : Nat
  state : List Byte
  poisoned : Bool
  clear : Bool
  deriving DecidableEq, Repr

/-- A period configuration (10 R347, R348, R366). -/
structure PerCfg where
  ticks : Nat
  frac : Nat
  deadlineMode : Bool
  unconf : Bool
  anchor : TS48
  deriving DecidableEq, Repr

/-- The point of an Island's period cycle: `run` while a period runs, `ready` when its commit is to begin, `commit` while
the commit runs until the tick, `start` when the period start is due, `pause` while the planner's pause lasts (09 R307, 10 R351, R353). -/
inductive PerPhase where
  | run | ready | commit (due : Nat) | start | pause (due : Nat)
  deriving DecidableEq, Repr

/-- A mark in the mark FIFO: of a boundary, of a deadline, or of both (10 R349); `b` is the tick of the boundary that it belongs to. -/
structure Mark where
  bnd : Bool
  dl : Bool
  b : Nat
  ts : TS48
  deriving DecidableEq, Repr

structure Island where
  evq : List Item
  smq : List Item
  roq : List Item
  /-- Channel served last in each class (01 R23). -/
  rrEv : Nat
  rrSm : Nat
  rrRo : Nat
  /-- Word slot of the link, 7 a tick, from which the next item may cross (01 R21). -/
  linkAt : Nat
  strait : Strait
  marks : List Mark
  cfg : Option PerCfg
  pend : List PerCfg
  num : Nat
  /-- Tick at which the engines' period began (09 R307), and TS48 of its boundary. -/
  startTick : Nat
  startTs : TS48
  /-- Tick of the next boundary, and the deadlines to come: tick, and tick of the boundary. -/
  nextB : Nat
  deadlines : List (Nat × Nat)
  /-- The boundary mark taken for the period that ends (10 R350). -/
  marked : Option Mark
  phase : PerPhase
  /-- The period that follows is the first of a new configuration, or the Island becomes unconfigured (10 R366). -/
  renew : Bool
  /-- A planner pause preceded the period (10 R357). -/
  replan : Bool
  staged : List Upd
  applied : Nat
  /-- Updates of the running commit that wait for their bank (17 R558). -/
  late : List Upd
  commitNs : Nat
  commitTs : TS48
  freq : Nat
  vdd : Nat
  fmax : Nat
  /-- A clock and voltage ordered by the planner, applied at the next period start (10 R359). -/
  plan : Option (Nat × Nat)
  shmem : SMap Byte
  /-- Engine served last by each shared bank. -/
  bankLast : SMap Nat
  /-- One past the tick of each bank's latest access. -/
  bankAt : SMap Nat
  deriving DecidableEq, Repr

def Island.reset : Island :=
  { evq := [], smq := [], roq := [], rrEv := 16, rrSm := 16, rrRo := 16, linkAt := 0, strait := Strait.reset, marks := [], cfg := none,
    pend := [], num := 0, startTick := 0, startTs := 0, nextB := 0, deadlines := [], marked := none,
    phase := .run, renew := false, replan := false, staged := [], applied := 0, late := [], commitNs := 0, commitTs := 0, freq := 960, vdd := 750,
    fmax := 960, plan := none, shmem := [], bankLast := [], bankAt := [] }

/-- Contexts of a range that wait to change hands after the next commit of their owner `fromIsl` (10 R365). -/
structure AssignPend where
  first : Nat
  count : Nat
  fromIsl : Nat
  island : Nat
  kind : Nat
  clear : Bool
  /-- A commit of the owner ran when the command executed: the next commit is the one after it. -/
  late : Bool
  deriving DecidableEq, Repr

/-- A command that waits for Islands (10 R363, R365, R366, 09 R339, R341): its final OK follows the last of them and
carries that commit's or start's TS48. `late`: Islands whose commit ran when the command executed, which does not serve it. -/
structure IslJob where
  tk : Ticket
  islands : List Nat
  ts : TS48
  late : List Nat
  deriving DecidableEq, Repr

/-- A KERNEL_LOAD in progress (09 R338). -/
structure KLoad where
  tk : Ticket
  island : Nat
  bank : Nat
  off : Nat
  len : Nat
  mask : Nat
  deriving DecidableEq, Repr

/-- The context store and the work that waits on Islands. -/
structure CtxStore where
  ctx : SMap Ctx
  assign : List AssignPend
  writeJobs : List IslJob
  assignJobs : List IslJob
  perJobs : List IslJob
  startJobs : List IslJob
  stopJobs : List IslJob
  loads : List KLoad
  deriving DecidableEq, Repr

def CtxStore.reset : CtxStore := ⟨[], [], [], [], [], [], [], []⟩

end Sys2Proof.Machine
end

