-- ==== Sys2Proof/Machine/StLagoon.lean ====
section
/-! DEFINITION. State of the Lagoon queues, the merge and egress (12) and of compression (13). -/

namespace Sys2Proof.Machine

/-! ## Lagoon (12) -/

/-- A route entry (12 R393): the local form with its type mask, or the ORIGIN form (`origin`). -/
structure Route where
  q : Nat
  port : Nat
  origin : Bool
  cls : Nat
  first : Nat
  last : Nat
  mask : Nat
  deriving DecidableEq, Repr

/-- A record waiting at an ingress port; `spill` names the queue of 12 R397, and `origin` the origin stream of a link
port. -/
structure Arrival where
  r : Rec
  spill : Option Nat
  origin : Option Nat
  deriving DecidableEq, Repr

/-- A record in a queue (12 R388): the unit of the queue at which it begins, the tick at which it was written, whether its consumer may read
it (12 R403), and whether it stands in a merge store. -/
structure QEnt where
  r : Rec
  pos : Nat
  written : Nat
  ready : Bool
  stored : Bool
  deriving DecidableEq, Repr

/-- A flush in progress (12 R404): cause, items counted, the state that follows, and whether an unread FLUSH record has taken the
counts, so that no second one is written (12 R405). -/
structure QFlush where
  cause : Nat
  whole : Nat
  part : Nat
  held : Nat
  disable : Bool
  into : Bool
  deriving DecidableEq, Repr

/-- A queue (12 R389, R420). `st`: 0 DISABLED, 1 ENABLED, 2 FLUSHING. -/
structure LQueue where
  st : Nat
  prio : Nat
  port : Nat
  cut : Nat
  hbUs : Nat
  quota : Nat
  guar : Nat
  lagUs : Nat
  ageUs : Nat
  stream : Option Nat
  ents : List QEnt
  /-- Units ever written: the place of the next unit. -/
  tail : Nat
  pend : Option Dropped
  /-- Held WATERMARK: its W and kind (12 R399). -/
  heldWm : Option (TS48 × Nat)
  /-- W of each routed origin stream at a link port (12 R407). -/
  wmIn : SMap TS48
  /-- Last watermark written, whether there is one since the queue was enabled, and whether a record has entered since (12 R408). -/
  wmLast : TS48
  wmSet : Bool
  dataSince : Bool
  flush : Option QFlush
  /-- Tick at which the present head became the head (12 R417). -/
  headTick : Nat
  deriving DecidableEq, Repr

def LQueue.reset : LQueue :=
  { st := 0, prio := 0, port := 0, cut := 0, hbUs := 10, quota := 0, guar := 0, lagUs := 0, ageUs := 0, stream := none,
    ents := [], tail := 0, pend := none, heldWm := none, wmIn := [], wmLast := 0, wmSet := false, dataSince := false, flush := none,
    headTick := 0 }

/-- An input of a stream (12 R409, R410). -/
structure MInput where
  q : Nat
  w : TS48
  /-- Tick of the last WATERMARK read, or of the open. -/
  lastTick : Nat
  stalled : Bool
  deriving DecidableEq, Repr

/-- A store entry (12 R409), or a released record: the input it came from and the order in which it was read. -/
structure MEnt where
  r : Rec
  input : Nat
  order : Nat
  pos : Nat
  /-- Tick at which the record became ready (12 R417). -/
  tick : Nat
  deriving DecidableEq, Repr

/-- A closing stream (12 R425): the command that waits, `none` when an FLR closes it (16 R531). -/
structure SClose where
  drain : Bool
  tk : Option Ticket
  deriving DecidableEq, Repr

/-- A stream (12 R423). `st`: 0 CLOSED, 1 OPEN, 2 CLOSING. -/
structure LStream where
  st : Nat
  prioMode : Bool
  up : Bool
  compress : Bool
  dict : Nat
  pf : Nat
  sortMax : Nat
  wmOutUs : Nat
  charge : Nat
  timeoutMs : Nat
  inputs : List MInput
  store : List MEnt
  order : Nat
  rel : TS48
  /-- Last watermark emitted, and whether a record has been released since (12 R415). -/
  wmOut : TS48
  dataSince : Bool
  /-- Input read last (12 R410). -/
  rr : Nat
  /-- Released records not yet served (12 R417), oldest first. -/
  out : List MEnt
  close : Option SClose
  /-- Records handed to the destination and not yet there: compressed streams (13 R430). -/
  ended : Bool
  deriving DecidableEq, Repr

def LStream.reset : LStream :=
  { st := 0, prioMode := false, up := false, compress := false, dict := 0, pf := 0, sortMax := 0, wmOutUs := 0, charge := 0,
    timeoutMs := 0, inputs := [], store := [], order := 0, rel := 0, wmOut := 0, dataSince := false, rr := 0, out := [],
    close := none, ended := false }

/-- A QUEUE_FLUSH in progress (12 R422). -/
structure FlushJob where
  tk : Ticket
  queues : List Nat
  /-- Engines whose outbound Strait has not given its FLUSH record. -/
  engs : List Nat
  whole : Nat
  part : Nat
  deriving DecidableEq, Repr

structure Lagoon where
  queues : SMap LQueue
  streams : SMap LStream
  routes : List Route
  /-- Records waiting at each ingress port, oldest first (12 R392). -/
  ports : SMap (List Arrival)
  poolMin : Nat
  /-- Free cells were below LAG_POOL_LOW at the last change. -/
  poolLow : Bool
  /-- Stream served last by each egress arbiter: 0 host, 1 UP (12 R417). -/
  rr : SMap Nat
  jobs : List FlushJob
  deriving DecidableEq, Repr

/-- Cells of the pool (12 R388). -/
def poolCells : Nat := 131072

def Lagoon.reset : Lagoon := ⟨[], [], [], [], poolCells, false, [], []⟩

/-! ## Compression (13) -/

/-- A dictionary: entry 258 + m at index m (13 R434). -/
abbrev Dict := List (Nat × Byte)

/-- A block that has closed and awaits its verifier (13 R442). -/
structure CBlk where
  bytes : List Byte
  ts : TS48
  deriving DecidableEq, Repr

/-- Block time in µs, wm_close and COMP_RESYNC.blocks as a block begins (13 R448). -/
structure BlkSet where
  us : Nat
  wm : Bool
  resync : Nat
  deriving DecidableEq, Repr

/-- The compressor's side of a stream (13 R428, R430, R439). -/
structure CStream where
  cmp : Nat
  dyn : Bool
  idx : Nat
  slot : Option Nat
  block : List Byte
  ts : TS48
  firstTick : Nat
  wmSeen : Bool
  dict : Dict
  /-- The next CBLOCK carries the reset bit. -/
  resetNext : Bool
  /-- Blocks since the last reset (13 R439). -/
  since : Nat
  closed : Option CBlk
  /-- Settings in effect for the block in progress (13 R448). -/
  set : BlkSet
  deriving DecidableEq, Repr

/-- A static dictionary (13 R449, R450). -/
structure SDict where
  loaded : Bool
  id : Word
  hash : Word
  entries : Dict
  deriving DecidableEq, Repr

def SDict.reset : SDict := ⟨false, 0, 0, []⟩

/-- Decoding state of an origin stream at a port (13 R441). -/
structure DOrigin where
  slot : Option Nat
  dict : Dict
  /-- Sequence number of the last CBLOCK or UBLOCK (11 R379). -/
  lastSeq : Option Nat
  /-- The dictionary state is good: no block has been discarded since the last reset bit. -/
  synced : Bool
  deriving DecidableEq, Repr

def DOrigin.reset : DOrigin := ⟨none, [], none, false⟩

/-- A CBLOCK or UBLOCK that has arrived at a port and awaits its decompressor (13 R429). -/
structure LinkBlk where
  port : Nat
  origin : Nat
  r : Rec
  deriving DecidableEq, Repr

/-- A DICT_LOAD in progress (13 R450). -/
structure DLoad where
  tk : Ticket
  idx : Nat
  island : Nat
  bank : Nat
  off : Nat
  len : Nat
  comp : Bool
  deriving DecidableEq, Repr

structure Comp where
  streams : SMap (Option CStream)
  sdicts : SMap SDict
  /-- Use of the 64 dynamic slots: 0 free, 1 encode, 2 decode, with stream or origin and port (13 R447). -/
  slots : SMap (Nat × Nat × Nat)
  /-- Decoding state, keyed by port × 64 + origin. -/
  origins : SMap DOrigin
  blocks : List LinkBlk
  loads : List DLoad
  deriving DecidableEq, Repr

def Comp.reset : Comp := ⟨[], [], [], [], [], []⟩

end Sys2Proof.Machine
end

