-- ==== Sys2Proof/Machine/StLink.lean ====
section
/-! DEFINITION. State of the serial lanes and the Volvex link (15). -/

namespace Sys2Proof.Machine

/-- A lane (15 R484 to R488). `st`: 0 OFF, 1 HUNT, 2 LOCK, 3 IDLE, 4 SHUTDOWN, 5 ENABLE_PENDING, 6 TRAIN. -/
structure Lane where
  st : Nat
  /-- This end has adapted its equaliser and sends TRAIN READY (15 R505). -/
  ready : Bool
  /-- The far end has reported READY. -/
  farReady : Bool
  /-- Tick at which the lane locked last, and tick of its last frame. -/
  lockTick : Nat
  frameTick : Nat
  /-- Tick at which a shut-down or a training burst ends. -/
  due : Nat
  merit : Nat
  meritMin : Nat
  meritMean : Nat
  /-- The one-second window of 15 R485: sum and number of figures of merit. -/
  meritSum : Nat
  meritN : Nat
  /-- MERIT_LOW may be raised again (15 R485). -/
  meritArmed : Bool
  gearbox : Nat
  /-- Equaliser settings, and those stored at the last training (LANE_EQ, LANE_EQ_STORED). -/
  eq : Word
  eqStored : Word
  /-- The next training starts from scratch (15 R486, R521). -/
  full : Bool
  deriving DecidableEq, Repr

def Lane.reset : Lane := ⟨0, false, false, 0, 0, 0, 0, 0, 0, 0, 0, true, 0, 0, 0, true⟩

/-- A frame in a retry or reorder buffer (15 R490, R493). -/
structure Frame where
  seq : Nat
  vc : Nat
  kind : Nat
  payload : List Byte
  /-- Frames of the same run that follow it (15 R501). -/
  run : Nat
  /-- The number has been given to the frame before its transmission, as part of a run. -/
  pre : Bool
  /-- TS48 of the record whose bytes a STREAM frame carries (15 R515). -/
  ts : Option TS48
  deriving DecidableEq, Repr

/-- The blocks of a frame: the header block and its data blocks (15 R490). -/
def Frame.blocks (f : Frame) : Nat := 1 + ceilDiv f.payload.length 8

/-- Credits a frame costs (15 R496). -/
def Frame.cost (f : Frame) : Nat := ceilDiv f.blocks 8

/-- A message that has arrived whole, with the stamp of its first block (15 R499, R501, 14 R467). -/
structure Msg where
  vc : Nat
  kind : Nat
  payload : List Byte
  ts : TS48
  /-- Credits the message's frames hold until it is passed on (15 R497). -/
  cost : Nat
  /-- A frame of the message carried R (14 R469). -/
  resent : Bool
  /-- Sets and steps applied when it arrived (14 R469). -/
  changes : Nat
  deriving DecidableEq, Repr

/-- A received TIME_MSG (15 R503). -/
structure TMsg where
  seq : Nat
  len : Nat
  bytes : List Byte
  deriving DecidableEq, Repr

/-- The sending side of a port (15 R493 to R497). -/
structure PortTx where
  next : Nat
  unacked : List Frame
  waiting : List Frame
  /-- Credits available per VC (LINK_CREDIT). -/
  avail : SMap Nat
  /-- Cumulative credits announced by the far end per VC, modulo 65,536. -/
  granted : SMap Nat
  /-- Tick of the last advance of the acknowledged number, or of the oldest frame's transmission (15 R494). -/
  lastAck : Nat
  episodes : Nat
  resentSince : Nat
  lastRetryEvt : Option Nat
  /-- VC2 frames sent since the last VC3 frame (15 R498). -/
  vc2run : Nat
  deriving DecidableEq, Repr

/-- The receiving side of a port (15 R492 to R501). -/
structure PortRx where
  expected : Nat
  reorder : List (Frame × TS48 × Bool)
  sinceAck : Nat
  ackDue : Option Nat
  nakDue : Option Nat
  /-- Credits released per VC, cumulative modulo 65,536. -/
  released : SMap Nat
  creditDue : Nat
  /-- A VC0 message in assembly: its kind, bytes so far, stamp, cost and resend mark. -/
  part : Option Msg
  inbox : List Msg
  /-- Record bytes of each origin stream not yet a whole record (15 R500). -/
  streams : SMap (List Byte)
  tmsg : List TMsg
  /-- The TIME_MSG removed last, of which LINK_TMSG_RXD reads the next word. -/
  tmsgOut : List Byte
  deriving DecidableEq, Repr

/-- A port (15 R505 to R509). `st`: 0 OFF, 1 TRAINING, 2 ACTIVE, 3 DOWN, 4 SHUTDOWN, 5 ENABLE_PENDING. `role`: 0 NONE,
1 UP, 2 STANDBY, 3 DOWN. -/
structure Port where
  st : Nat
  role : Nat
  neighSerial : BitVec 64
  neighId : Nat
  neighPort : Nat
  neighKnown : Bool
  /-- Tick at which the first lane was READY, and tick of the last loss of lock. -/
  firstReady : Option Nat
  lostTick : Nat
  /-- HELLO sent in this training, and the shut-down's end. -/
  hello : Bool
  due : Nat
  /-- Words written to LINK_TMSG_TXD for the next TIME_MSG. -/
  tmsgTx : List Byte
  tx : PortTx
  rx : PortRx
  deriving DecidableEq, Repr

def PortTx.reset : PortTx := ⟨0, [], [], [], [], 0, 0, 0, none, 0⟩
def PortRx.reset : PortRx := ⟨0, [], 0, none, none, [], 0, none, [], [], [], []⟩
def Port.reset : Port := ⟨0, 0, 0, 0, 0, false, none, 0, false, 0, [], PortTx.reset, PortRx.reset⟩

/-- A REPORT received at the root (15 R508): serial, DOMAIN_HEAD, path length and path. -/
structure Report where
  serial : BitVec 64
  head : Bool
  len : Nat
  path : List Nat
  deriving DecidableEq, Repr

/-- A remote register access of LINK_RACC (15 R519). -/
structure Racc where
  tag : Nat
  target : Nat
  write : Bool
  deadline : Nat
  deriving DecidableEq, Repr

/-- A LINK_TRAIN in progress (15 R521). -/
structure TrainJob where
  tk : Ticket
  ports : List Nat
  deadline : Nat
  deriving DecidableEq, Repr

/-- The device's place in its domain (15 R507 to R514). -/
structure LinkDev where
  id : Nat
  root : Bool
  rooted : Bool
  orphan : Bool
  up : Option Nat
  hops : Nat
  enumNum : Nat
  enumActive : Bool
  /-- DOWN port of each routed ID. -/
  routes : SMap (Option Nat)
  reports : List Report
  /-- Ticks at which the root assigns IDs and at which enumeration ends. -/
  assignAt : Option Nat
  endAt : Option Nat
  enumTk : Option Ticket
  given : Nat
  left : Nat
  maxHops : Nat
  standbys : Nat
  /-- A standby has been taken in this enumeration (15 R509). -/
  sbTaken : Bool
  /-- IDs named by ANNOUNCE while unrooted (15 R514). -/
  announceHeld : List Nat
  /-- A failover happened since the device was rooted last. -/
  failedOver : Bool
  /-- A failover that falls due: its cause and latest tick (15 R513). -/
  failDue : Option (Nat × Nat)
  racc : Option Racc
  raccTag : Nat
  /-- Status of the last remote access. -/
  raccStatus : Nat
  train : List TrainJob
  deriving DecidableEq, Repr

def LinkDev.reset : LinkDev :=
  { id := 0, root := false, rooted := false, orphan := false, up := none, hops := 0, enumNum := 0, enumActive := false,
    routes := [], reports := [], assignAt := none, endAt := none, enumTk := none, given := 0, left := 0, maxHops := 0,
    standbys := 0, sbTaken := false, announceHeld := [], failedOver := false, failDue := none, racc := none, raccTag := 0,
    raccStatus := 0, train := [] }

structure Link where
  lanes : SMap Lane
  ports : SMap Port
  dev : LinkDev
  deriving DecidableEq, Repr

def Link.reset : Link := ⟨[], [], LinkDev.reset⟩

end Sys2Proof.Machine
end

