-- ==== Sys2Proof/Machine/State.lean ====
section
/-! DEFINITION. The state of the HNV-192, the reasons a command may not answer a next state, and the state after reset. -/

namespace Sys2Proof.Machine

/-- Reasons for a fault: none. No rule of the spec stops the part, so no command ends in a fault. -/
inductive Fault where
  deriving DecidableEq, Repr

/-- Reasons for a refusal. -/
inductive Refusal where
  /-- Raised by an arm of the dispatch whose command has no meaning in the model. Safe: the model stops. -/
  | notModelled (mnemonic : String)
  deriving DecidableEq, Repr

/-- A CH_CALIBRATE (05 R187) or TDC_CHARACTERISE (06 R240) in progress: its channels, and those that have not ended. -/
structure ChanJob where
  tk : Ticket
  chans : List Nat
  left : List Nat
  deriving DecidableEq, Repr

/-- The excitation governor (04 R150). -/
structure ExcGov where
  next : Nat
  preq : Nat
  stretch : Nat
  deriving DecidableEq, Repr

def ExcGov.reset : ExcGov := ⟨15000000, 0, 256⟩

/-- The state: the command queue, every register and unit of the part, and the record of its outputs. -/
structure State where
  /-- Commands that wait, first in, first out. -/
  pending : List Instr
  /-- The model's own: how many free values have been taken. -/
  freeCtr : Nat
  qtz : Quartz
  /-- Register cells by BAR0 address (banked cells above them); an unlisted register reads as its reset value. -/
  regs : SMap Word
  /-- What has happened to event registers and counters in the current cycle, by address (02 R62, R63, R73). -/
  cyc : SMap Cyc
  bus : Bus
  own : Own
  cmd : Cmd
  ch : SMap Chan
  gov : ExcGov
  calJobs : List ChanJob
  charJobs : List ChanJob
  hk : Hk
  ref : RefMon
  fl : Flint
  isl : SMap Island
  eng : SMap Eng
  ctx : CtxStore
  lag : Lagoon
  comp : Comp
  link : Link
  host : HostIf
  mem : Mem
  triad : Triad
  emit : Emit
  sec : Sec
  perf : Perf
  /-- Record sequence counters (11 R379), by `seqKey`. -/
  seqs : SMap Nat
  /-- Outputs of the part, oldest first. -/
  out : List Out
  deriving DecidableEq, Repr

/-- The state right after reset (20 R626): a cold start at step 1, every unit at its reset value. -/
def State.reset : State :=
  { pending := [], freeCtr := 0, qtz := Quartz.reset, regs := [], cyc := [], bus := Bus.reset, own := Own.reset, cmd := Cmd.reset,
    ch := [], gov := ExcGov.reset, calJobs := [], charJobs := [], hk := Hk.reset, ref := RefMon.reset,
    fl := Flint.reset, isl := [], eng := [], ctx := CtxStore.reset, lag := Lagoon.reset, comp := Comp.reset,
    link := Link.reset, host := HostIf.reset, mem := Mem.reset, triad := Triad.reset, emit := Emit.reset, sec := Sec.reset,
    perf := Perf.reset, seqs := [], out := [] }

end Sys2Proof.Machine
end

