-- ==== Sys2Proof/Machine/Ops.lean ====
section
/-! DEFINITION. Named operations over the state: units by number, register cells, events and counters, time, the access log,
records on their way to the Lagoon, alarms, interrupts, event counters and free values. -/

namespace Sys2Proof.Machine

/-! ## Units -/

def State.chan (s : State) (c : Nat) : Chan := mget Chan.reset s.ch c
def State.updChan (s : State) (c : Nat) (f : Chan → Chan) : State := { s with ch := mupd Chan.reset s.ch c f }
def State.island (s : State) (i : Nat) : Island := mget Island.reset s.isl i
def State.updIsland (s : State) (i : Nat) (f : Island → Island) : State := { s with isl := mupd Island.reset s.isl i f }
def State.engine (s : State) (e : Nat) : Eng := mget (Eng.reset (e % 16)) s.eng e
def State.updEngine (s : State) (e : Nat) (f : Eng → Eng) : State :=
  { s with eng := mupd (Eng.reset (e % 16)) s.eng e f }
def State.lane (s : State) (l : Nat) : Lane := mget Lane.reset s.link.lanes l
def State.updLane (s : State) (l : Nat) (f : Lane → Lane) : State :=
  { s with link := { s.link with lanes := mupd Lane.reset s.link.lanes l f } }
def State.port (s : State) (p : Nat) : Port := mget Port.reset s.link.ports p
def State.updPort (s : State) (p : Nat) (f : Port → Port) : State :=
  { s with link := { s.link with ports := mupd Port.reset s.link.ports p f } }
def State.ldev (s : State) : LinkDev := s.link.dev
def State.updDev (s : State) (f : LinkDev → LinkDev) : State := { s with link := { s.link with dev := f s.link.dev } }
def State.cmdq (s : State) (m : Nat) : CmdQ := mget CmdQ.reset s.cmd.q m
def State.updCmdq (s : State) (m : Nat) (f : CmdQ → CmdQ) : State :=
  { s with cmd := { s.cmd with q := mupd CmdQ.reset s.cmd.q m f } }
def State.queue (s : State) (q : Nat) : LQueue := mget LQueue.reset s.lag.queues q
def State.updQueue (s : State) (q : Nat) (f : LQueue → LQueue) : State :=
  { s with lag := { s.lag with queues := mupd LQueue.reset s.lag.queues q f } }
def State.stream (s : State) (k : Nat) : LStream := mget LStream.reset s.lag.streams k
def State.updStream (s : State) (k : Nat) (f : LStream → LStream) : State :=
  { s with lag := { s.lag with streams := mupd LStream.reset s.lag.streams k f } }
def State.pf (s : State) (m : Nat) : Pf := mget Pf.reset s.host.pfs m
def State.updPf (s : State) (m : Nat) (f : Pf → Pf) : State :=
  { s with host := { s.host with pfs := mupd Pf.reset s.host.pfs m f } }
def State.ring (s : State) (r : Nat) : HRing := mget HRing.reset s.host.rings r
def State.updRing (s : State) (r : Nat) (f : HRing → HRing) : State :=
  { s with host := { s.host with rings := mupd HRing.reset s.host.rings r f } }
def State.bank (s : State) (n : Nat) : Bank := mget (Bank.reset n) s.mem.banks n
def State.updBank (s : State) (n : Nat) (f : Bank → Bank) : State :=
  { s with mem := { s.mem with banks := mupd (Bank.reset n) s.mem.banks n f } }
def State.member (s : State) (n : Nat) : Member := mget Member.reset s.triad.members n
def State.updMember (s : State) (n : Nat) (f : Member → Member) : State :=
  { s with triad := { s.triad with members := mupd Member.reset s.triad.members n f } }
def State.emitter (s : State) (n : Nat) : Emitter := mget Emitter.reset s.emit.ems n
def State.updEmitter (s : State) (n : Nat) (f : Emitter → Emitter) : State :=
  { s with emit := { s.emit with ems := mupd Emitter.reset s.emit.ems n f } }
def State.seqr (s : State) (f : Nat) : Seqr := mget Seqr.reset s.fl.seqs f
def State.updSeqr (s : State) (f : Nat) (g : Seqr → Seqr) : State :=
  { s with fl := { s.fl with seqs := mupd Seqr.reset s.fl.seqs f g } }
def State.ctxOf (s : State) (i : Nat) : Ctx := mget Ctx.reset s.ctx.ctx i
def State.updCtx (s : State) (i : Nat) (f : Ctx → Ctx) : State :=
  { s with ctx := { s.ctx with ctx := mupd Ctx.reset s.ctx.ctx i f } }

def State.updQtz (s : State) (f : Quartz → Quartz) : State := { s with qtz := f s.qtz }
def State.probe (s : State) (p : Nat) : ProbePort := mget ProbePort.reset s.qtz.probes p
def State.updProbe (s : State) (p : Nat) (f : ProbePort → ProbePort) : State :=
  s.updQtz (fun q => { q with probes := mupd ProbePort.reset q.probes p f })
def State.updLag (s : State) (f : Lagoon → Lagoon) : State := { s with lag := f s.lag }
def State.updComp (s : State) (f : Comp → Comp) : State := { s with comp := f s.comp }
def State.updFl (s : State) (f : Flint → Flint) : State := { s with fl := f s.fl }
def State.updHk (s : State) (f : Hk → Hk) : State := { s with hk := f s.hk }
def State.updRef (s : State) (f : RefMon → RefMon) : State := { s with ref := f s.ref }
def State.updOwn (s : State) (f : Own → Own) : State := { s with own := f s.own }
def State.updCmd (s : State) (f : Cmd → Cmd) : State := { s with cmd := f s.cmd }
def State.updBus (s : State) (f : Bus → Bus) : State := { s with bus := f s.bus }
def State.updMem (s : State) (f : Mem → Mem) : State := { s with mem := f s.mem }
def State.updHost (s : State) (f : HostIf → HostIf) : State := { s with host := f s.host }
def State.updTriad (s : State) (f : Triad → Triad) : State := { s with triad := f s.triad }
def State.updEmit (s : State) (f : Emit → Emit) : State := { s with emit := f s.emit }
def State.updSec (s : State) (f : Sec → Sec) : State := { s with sec := f s.sec }
def State.updStart (s : State) (f : Start → Start) : State := s.updSec (fun x => { x with start := f x.start })
def State.updPerf (s : State) (f : Perf → Perf) : State := { s with perf := f s.perf }
def State.updCtxs (s : State) (f : CtxStore → CtxStore) : State := { s with ctx := f s.ctx }

/-- The lifecycle in effect is RETIRED: channels, excitation, emitters, lanes and streams are off (20 R641). -/
def State.retired (s : State) : Bool := s.sec.fuses.state == 3

/-- Put an output on record. -/
def State.emitOut (s : State) (o : Out) : State := { s with out := s.out ++ [o] }

/-- Apply a state function for each element of a list, in order. -/
def forEach {α : Type} (l : List α) (f : State → α → State) (s : State) : State := l.foldl f s

/-! ## Register cells (02 R50 to R53) -/

/-- The page at page number `n` (a BAR0 address divided by 0x4000) and the unit that owns it (02 R50, 09 R342, 21). -/
def pageAt (n : Nat) : Option (Page × Nat) :=
  if n = 0x00 then some (.dev, 0)
  else if n = 0x01 then some (.own, 0)
  else if n = 0x02 then some (.cmd, 0)
  else if n = 0x04 then some (.regctl, 0)
  else if n = 0x08 then some (.qtz, 0)
  else if n = 0x0C then some (.flint, 0)
  else if n = 0x10 then some (.hk, 0)
  else if n = 0x14 then some (.emit, 0)
  else if n = 0x18 then some (.triad, 0)
  else if n = 0x1C then some (.perf, 0)
  else if n = 0x1D then some (.perfCnt, 0)
  else if n = 0x1E then some (.perfCnt, 1)
  else if n = 0x1F then some (.perfSel, 0)
  else if n = 0x20 then some (.memctl, 0)
  else if n = 0x24 then some (.lagoon, 0)
  else if n = 0x28 then some (.comp, 0)
  else if n = 0x2C then some (.hostif, 0)
  else if n = 0x30 then some (.sec, 0)
  else if 0x40 ≤ n ∧ n < 0x100 then some (.ch, n - 0x40)
  else if 0x100 ≤ n ∧ n < 0x110 then some (.lane, n - 0x100)
  else if 0x110 ≤ n ∧ n < 0x114 then some (.link, n - 0x110)
  else if 0x140 ≤ n ∧ n < 0x170 ∧ n % 4 = 0 then some (.isl, (n - 0x140) / 4)
  else if 0x140 ≤ n ∧ n < 0x170 ∧ n % 4 = 1 then some (.islEng, (n - 0x140) / 4)
  else none

/-- The descriptor of a page offset: the array element that starts there. -/
def RegDesc.covers (d : RegDesc) (off : Nat) : Bool :=
  d.off ≤ off && (if d.stride = 0 then off = d.off else (off - d.off) % d.stride = 0 && (off - d.off) / d.stride < d.num)

/-- A register reached by an address (02 R50 to R53): its descriptor, its canonical address, the alias used (0 base, 1 SET,
2 CLR, 3 TGL) and the base of its page. -/
structure Target where
  desc : RegDesc
  addr : Nat
  alias_ : Nat
  page : Nat
  loc : Loc
  deriving DecidableEq, Repr

/-- Decode a BAR0 byte address (02 R50, R51, R53): `none` when it is unimplemented; offsets 0x200 to 0x220 exist in LINK[0] only
(15 R519). -/
def target (a : Nat) : Option Target :=
  match pageAt (a / 0x4000) with
  | none => none
  | some (p, u) =>
    let o := a % 0x1000
    let off := if p = .qtz ∨ p = .lane then o % 128 else o
    let base := a / 0x4000 * 0x4000
    if a % 4 ≠ 0 ∨ (p = .link ∧ u ≠ 0 ∧ 0x200 ≤ off ∧ off ≤ 0x220) then none
    else
      match (pageRegs p).find? (fun d => d.covers off) with
      | none => none
      | some d => some { desc := d, addr := base + off, alias_ := a % 0x4000 / 0x1000, page := base, loc := ⟨p, u, off⟩ }

/-- Cells of registers that a select register banks (14 R477, 12 R419) lie above the address space: bank `b` of a
register. -/
def banked (a b : Nat) : Nat := a + 0x4000000 * (b + 1)

/-- What an unlisted cell reads as: the register's reset value, which is fused for CH_TDC_SKEW (06 R237). -/
def regDefault (a : Nat) : Word :=
  match target (a % 0x4000000) with
  | some t => if t.loc.page = .ch ∧ t.loc.off / 8 = 0x218 / 8 then Config.fusedSkew t.loc.idx (t.loc.off / 4 % 2) else t.desc.reset
  | none => 0

/-- A register cell. -/
def State.rget (s : State) (a : Nat) : Word := mget (regDefault a) s.regs a
def State.rset (s : State) (a : Nat) (w : Word) : State := { s with regs := mput (regDefault a) s.regs a w }
/-- A field of a register cell. -/
def State.rf (s : State) (a lo len : Nat) : Nat := fld (s.rget a) lo len
def State.rb (s : State) (a i : Nat) : Bool := bit (s.rget a) i
/-- Write a field of a register cell. -/
def State.rsetf (s : State) (a lo len v : Nat) : State := s.rset a (setFld (s.rget a) lo len v)

/-- Return every cell from address `a` on, `n` bytes, to its reset value, banked copies included. -/
def State.rclear (s : State) (a n : Nat) (keep : List Nat) : State :=
  { s with regs := s.regs.filter (fun p =>
      p.1 % 0x4000000 < a || a + n ≤ p.1 % 0x4000000 || keep.contains (p.1 % 0x4000000)) }

/-! ## Time (14 R452, R463, 11 R375) -/

/-- Bitwise two-of-three vote (14 R463). -/
def vote {n : Nat} (a b c : BitVec n) : BitVec n := (a &&& b) ||| (a &&& c) ||| (b &&& c)

/-- The voted time. -/
def Quartz.time (q : Quartz) : QTime :=
  ⟨vote q.a.t.sec q.b.t.sec q.c.t.sec, vote q.a.t.ns q.b.t.ns q.c.t.ns, vote q.a.t.frac q.b.t.frac q.c.t.frac⟩

/-- The voted INC when it lies in the range of 14 R455, else the INC last applied (14 R463). -/
def Quartz.inc (q : Quartz) : BitVec 36 :=
  let v := vote q.a.inc q.b.inc q.c.inc
  if incMin.toNat ≤ v.toNat ∧ v.toNat ≤ incMax.toNat then v else q.lastInc

/-- A time in units of 2^-32 ns. -/
def QTime.full (t : QTime) : Int := ((t.sec.toNat * 1000000000 + t.ns.toNat) * 2 ^ 32 + t.frac.toNat : Nat)

/-- The time of a number of 2^-32 ns units. -/
def QTime.ofFull (v : Int) : QTime :=
  let n := v.toNat
  ⟨BitVec.ofNat 48 (n / 2 ^ 32 / 1000000000), BitVec.ofNat 30 (n / 2 ^ 32 % 1000000000), BitVec.ofNat 32 n⟩

/-- TS48 of a time in 2^-32 ns (11 R375). -/
def tsOfFull (v : Int) : TS48 :=
  BitVec.ofNat 48 ((v / (2 ^ 32 : Nat) % (2 ^ 32 : Nat)).toNat * 2 ^ 16 + (v / (2 ^ 16 : Nat) % (2 ^ 16 : Nat)).toNat)

/-- TS48 of a time (11 R375). -/
def QTime.ts (t : QTime) : TS48 := tsOfFull t.full

/-- The current tick. -/
def State.now (s : State) : Nat := s.qtz.now
/-- TS48 of the current tick. -/
def State.tsNow (s : State) : TS48 := s.qtz.time.ts
/-- The scale in effect at tick `t` (01 R18). -/
def Quartz.scaleAt (q : Quartz) (t : Int) : Scale :=
  let cur : Scale := ⟨q.since, q.now, q.time.full, q.inc.toNat⟩
  if (q.since : Int) ≤ t then cur
  else match q.past.find? (fun p => decide ((p.since : Int) ≤ t)) with
    | some p => p
    | none => (q.past.getLast?).getD cur
/-- A scale ends at the current tick: what changes it from here on leaves earlier instants as they were. -/
def Quartz.endScale (q : Quartz) : Quartz :=
  { q with past := (⟨q.since, q.now, q.time.full, q.inc.toNat⟩ :: q.past).take 64, since := q.now }
/-- Time of an instant `h` half ticks after tick 0, on the scale `c`, in 2^-32 ns. -/
def Scale.half (c : Scale) (h : Int) : Int := c.full + (h - 2 * c.tick) * c.inc / 2
/-- TS48 of an instant `d` ticks from the current tick (negative before it), on the scale then in effect. -/
def State.tsAt (s : State) (d : Int) : TS48 := tsOfFull ((s.qtz.scaleAt (s.now + d)).half (2 * (s.now + d)))
/-- TS48 of device tick `t`. -/
def State.tsTick (s : State) (t : Nat) : TS48 := s.tsAt ((t : Int) - s.now)
/-- TS48 of an instant that lies `h` half ticks from the current tick. -/
def State.tsHalf (s : State) (h : Int) : TS48 := tsOfFull ((s.qtz.scaleAt (s.now + h / 2)).half (2 * s.now + h))
/-- How many ticks before tick `t` the scale has been at or after the TS48 `a`, which tick `t` has reached. -/
def Scale.reachedFor (c : Scale) (a : TS48) (t : Nat) : Nat :=
  let v := c.half (2 * (t : Int))
  ((tsDiff (tsOfFull v) a * (2 ^ 16 : Nat) + v % (2 ^ 16 : Nat)) / (c.inc : Nat)).toNat

/-- The first tick, up to tick `t`, from which the scales, latest first, have been at or after the TS48 `a`. -/
def firstOn (a : TS48) (t : Nat) : List Scale → Nat
  | [] => t
  | c :: l =>
    let n := c.reachedFor a t
    if c.since < t - n then t - n
    else
      match l with
      | [] => c.since
      | p :: _ => if c.since = 0 ∨ tsLt (tsOfFull (p.half (2 * ((c.since : Int) - 1)))) a then c.since else firstOn a (c.since - 1) l

/-- The first tick whose TS48 is at or after `a`, when that is not later than the current one. -/
def State.firstTick (s : State) (a : TS48) : Nat :=
  firstOn a s.now (⟨s.qtz.since, s.now, s.qtz.time.full, s.qtz.inc.toNat⟩ :: s.qtz.past)

/-- TS48 of the latest time beacon (01 R20). -/
def State.beacon (s : State) : TS48 := s.qtz.beacon.ts

/-- 1 µs and 1 ms in ticks (00 R8). -/
def usTicks (n : Nat) : Nat := n * 1500
def msTicks (n : Nat) : Nat := n * 1500000

/-- First tick at or after `t` whose device tick count is a multiple of `n`, and last one at or before `t` (05 R160). DEDUCED (log entry 9). -/
def Quartz.alignUp (q : Quartz) (n t : Nat) : Nat := ceilDiv (t + n - q.pll % n) n * n + q.pll % n - n
def Quartz.alignDown (q : Quartz) (n t : Nat) : Nat := (t + n - q.pll % n) / n * n + q.pll % n - n

/-- The first tick whose count is a multiple of 64 and that lies at least 96 ticks after the current one (14 R456). -/
def State.applyTick (s : State) : Nat := s.qtz.alignUp 64 (s.now + 96)

/-! ## Free values -/

/-- Take a free value's number: no two uses share one. -/
def State.fresh (s : State) : Nat × State := (s.freeCtr, { s with freeCtr := s.freeCtr + 1 })

/-! ## Counters and events (02 R62, R72) -/

/-- A 32-bit CNT register after `n` more counts (02 R72). -/
def cntAddW (w : Word) (n : Nat) : Word :=
  let c := fld w 0 31 + n
  word (c % 2 ^ 31) ||| (if bit w 31 || 2 ^ 31 ≤ c then bitMask 31 else 0)

/-- What has happened to the register at `a` in the current cycle, which is a tick. DEDUCED (log entry 7). -/
def State.cycOf (s : State) (a : Nat) : Cyc := mget Cyc.none s.cyc a
def State.updCyc (s : State) (a : Nat) (f : Cyc → Cyc) : State := { s with cyc := mupd Cyc.none s.cyc a f }

/-- `n` counts of the current cycle, with a carry or none. -/
def Cyc.count (n : Nat) (carry : Bool) (c : Cyc) : Cyc := { c with incs := c.incs + n, ovf := c.ovf || carry }
/-- Events of the current cycle. -/
def Cyc.event (flags : Nat) (c : Cyc) : Cyc := { c with flags := c.flags ||| flags }

def State.cntN (s : State) (a n : Nat) : State :=
  if n = 0 then s
  else (s.rset a (cntAddW (s.rget a) n)).updCyc a (Cyc.count n (decide (2 ^ 31 ≤ fld (s.rget a) 0 31 + n)))
/-- Increment a CNT register. -/
def State.cnt (s : State) (a : Nat) : State := s.cntN a 1

/-- An event register after events `flags`; `more` when its cycle has had an event before, which has advanced the sequence
number for the whole cycle (02 R62). -/
def evtW (w : Word) (flags : Nat) (more : Bool) : Word :=
  word ((fld w 24 8 + b2n (!more)) % 256 * 2 ^ 24 + (fld w 0 24 ||| flags % 2 ^ 24))

/-- A function may write to the host's memory and send messages (16 R532). -/
def State.pfLive (s : State) (m : Nat) : Bool :=
  s.sec.straps.pcieEn && s.host.up && !s.host.perst && (s.pf m).busMaster && !(s.pf m).d3hot

/-- Signal vector `v` of PF `m` (16 R540): a masked vector sets its pending bit. -/
def State.msix (s : State) (m v : Nat) : State :=
  let f := s.pf m
  let e := mget MsixEnt.reset f.msix v
  if f.msixEn && !f.msixMask && !e.masked && s.pfLive m then s.emitOut (.msix m v)
  else if f.msixEn then s.updPf m (fun f => { f with msix := mput MsixEnt.reset f.msix v { e with pend := true } })
  else s

/-- Signal vector `v` of every function. -/
def State.msixAll (s : State) (v : Nat) : State := forEach [0, 1, 2, 3] (fun s m => s.msix m v) s

/-- Events of one register in the current cycle (02 R62); OWN_EVT and HOSTIF_EVT signal vectors 67 and 69 (16 R540). -/
def State.evt (s : State) (a flags : Nat) : State :=
  if flags = 0 then s
  else
    let s := (s.rset a (evtW (s.rget a) flags ((s.cycOf a).flags != 0))).updCyc a (Cyc.event flags)
    if a = Reg.OWN_EVT then s.msixAll 67 else if a = Reg.HOSTIF_EVT then s.msixAll 69 else s

/-! ## Event counters (21 R651 to R653) -/

/-- Add `n` to event counter `k` (21 R651, R654). -/
def State.perfAdd (s : State) (k n : Nat) : State :=
  let lo := s.rget (Reg.PERF_CNT_LO k)
  let hi := s.rget (Reg.PERF_CNT_HI k)
  let c := lo.toNat + fld hi 0 16 * 2 ^ 32 + n
  let s := s.rset (Reg.PERF_CNT_LO k) (word c)
  let s := s.rset (Reg.PERF_CNT_HI k) (setFld hi 0 16 (c / 2 ^ 32) ||| (if 2 ^ 48 ≤ c then bitMask 31 else 0))
  let s := s.updCyc (Reg.PERF_CNT_LO k) (Cyc.count n (decide (2 ^ 48 ≤ c)))
  if 2 ^ 48 ≤ c then s.evt Reg.PERF_EVT 1 else s

/-- The counters whose select names an event: class, event and, where the class has one, index (21 R652). -/
def State.perfSel (s : State) (cls ev : Nat) (idx : Option Nat) : List Nat :=
  (s.regs.filter (fun p => decide (0x7C000 ≤ p.1) && decide (p.1 < 0x7D000) && decide (fld p.2 28 4 = cls)
      && decide (fld p.2 22 6 = ev) && (match idx with | none => true | some i => decide (fld p.2 0 8 = i)))).map
    (fun p => (p.1 - 0x7C000) / 4)

/-- Count `n` events of a class without filters (21 R653). -/
def State.perf_ (s : State) (cls ev idx n : Nat) : State :=
  if n = 0 then s else forEach (s.perfSel cls ev (some idx)) (fun s k => s.perfAdd k n) s

/-- The filters of 21 R653 admit an access by master `m` at `addr` (none: no address). -/
def State.perfAdmits (s : State) (sel : Word) (m : Nat) (addr : Option Nat) : Bool :=
  let masters := fld sel 12 8
  let priv := fld sel 20 2
  let isOwner := s.own.owner == some m
  (masters == 0 || masters.testBit m)
    && (priv == 0 || (priv == 1 && isOwner) || (priv == 2 && !isOwner && m != 7) || (priv == 3 && m == 7))
    && (!(bit sel 11) ||
      (match addr with
       | none => false
       | some a =>
         let r := fld sel 8 3
         decide (s.rf (Reg.PERF_RANGE_LO r) 0 28 ≤ a) && decide (a ≤ s.rf (Reg.PERF_RANGE_HI r) 0 28)))

/-- Count `n` events of classes 1 to 3 (21 R653). -/
def State.perfM (s : State) (cls ev : Nat) (idx : Option Nat) (m : Nat) (addr : Option Nat) (n : Nat) : State :=
  forEach ((s.perfSel cls ev idx).filter (fun k => s.perfAdmits (s.rget (Reg.PERF_SEL k)) m addr))
    (fun s k => s.perfAdd k n) s

/-- Count bytes for a bandwidth meter (21 R655). -/
def State.meter (s : State) (m n : Nat) : State :=
  { s with perf := { s.perf with bytes := mupd 0 s.perf.bytes m (· + n) } }

/-! ## Access log (02 R74) -/

/-- Write a log entry and set its REGCTL_EVT flag: kind and flag of 02 R74, `bar2` in word 3 bit 31 with bits [27:2] of the
BAR2 offset as address. -/
def State.logAcc (s : State) (m kind flag addr : Nat) (data : Word) (bar2 : Bool) : State :=
  let n := (s.rf Reg.REGCTL_LOG_CNT 0 31 + 1) % 2 ^ 31
  let k := (n + 15) % 16
  let ts := s.beacon.toNat
  let s := s.cnt Reg.REGCTL_LOG_CNT
  let s := s.rset (Reg.REGCTL_LOG k) (word (m * 2 ^ 29 + kind * 2 ^ 26 + (if bar2 then addr / 4 else addr) % 2 ^ 26))
  let s := s.rset (Reg.REGCTL_LOG_W1 k) data
  let s := s.rset (Reg.REGCTL_LOG_W2 k) (word ts)
  let s := s.rset (Reg.REGCTL_LOG_W3 k) (word (ts / 2 ^ 32 + n % 2 ^ 15 * 2 ^ 16 + (if bar2 then 2 ^ 31 else 0)))
  let s := s.evt Reg.REGCTL_EVT flag
  s.perfM 1 2 none m (some addr) 1

/-! ## Records (11 R379, 12 R392) -/

/-- Number a record and name the device that builds it (11 R369, R379). -/
def State.number (s : State) (r : Rec) : Rec × State :=
  let k := seqKey r.cls r.idx r.typ
  let n := mget 0 s.seqs k
  ({ r with dev := s.link.dev.id, seq := n }, { s with seqs := mput 0 s.seqs k ((n + 1) % 65536) })

/-- A record arrives at a Lagoon ingress port (12 R392), as it is. -/
def State.arrive (s : State) (p : Nat) (a : Arrival) : State :=
  { s with lag := { s.lag with ports := mupd [] s.lag.ports p (· ++ [a]) } }

/-- A record that the device has built goes to an ingress port, numbered (12 R392). -/
def State.toPort (s : State) (p : Nat) (r : Rec) : State :=
  let (r, s) := s.number r
  s.arrive p ⟨r, none, none⟩

/-- The channel number of mark items, which no channel produced. -/
def markCh : Nat := 255

/-- A record of Flint or Quartz, numbered, crosses the link of Island `i` as a mark item (01 R22, R23; 12 R392). -/
def State.markItem (s : State) (i : Nat) (r : Rec) : State :=
  s.updIsland i (fun x => { x with evq := x.evq ++ [⟨markCh, 0, 1, r.ts, s.now, [r], [], 0, none⟩] })

/-- Number a record of Flint or Quartz and send it through Island 0 (12 R392). -/
def State.toMark (s : State) (r : Rec) : State :=
  let (r, s) := s.number r
  s.markItem 0 r

/-- HOLDOVER of the ext word (11 R372): QTZ_REF_STATUS.state is HOLDOVER or RELOCK. -/
def State.xHold (s : State) : Nat := if s.ref.st = 1 ∨ s.ref.st = 2 then xHOLDOVER else 0

/-- A TIME_EVENT record (11 R382), class 3, through Island 0 (12 R392). -/
def State.timeEvent (s : State) (kind : Nat) (ts : TS48) (v0 v1 : Int) : State :=
  s.toMark (mkRec tTIME_EVENT 3 0 ts 0 s.xHold 3 [(20, 1, kind), sfield 24 8 v0, sfield 32 8 v1])

/-- A LINK_EVENT record (11 R382). -/
def State.linkEvent (s : State) (port lane kind value : Nat) : State :=
  s.toPort 12 (mkRec tLINK_EVENT 7 port s.beacon 0 0 2 [(20, 1, port), (21, 1, lane), (22, 1, kind), (24, 4, value)])

/-- ALARM_N is asserted in HALTED whatever is acknowledged (18 R598). -/
def State.alarmN (s : State) : Bool := s.triad.alarm || s.triad.mode == 6

/-- Raise an ALARM record (11 R383, 18 R597, R598) and signal vector 66 (16 R540). -/
def State.alarm (s : State) (code sev d0 d1 : Nat) : State :=
  let s :=
    if s.triad.reached && decide (s.rf Reg.TRIAD_ALARM 0 2 ≤ sev) then { s with triad := { s.triad with alarm := true } }
    else s
  let s := s.toPort 12 (mkRec tALARM 5 1 s.beacon 0 0 3
    [(20, 2, code), (22, 1, sev), (23, 1, b2n s.alarmN), (24, 8, d0), (32, 8, d1)])
  s.msixAll 66

/-! ## Traffic with the host -/

/-- Bytes that the host sends (21 R652, R655). -/
def State.hostIn (s : State) (m n : Nat) : State := (s.perf_ 4 1 m n).meter (4 + m) n

/-- A completion of a read by PF `m`, with its bytes counted (16 R528; 21 R652, R655). -/
def State.complete (s : State) (m : Nat) (l : List Byte) (abort ep : Bool) : State :=
  let s := (s.emitOut (.completion m l abort ep)).perf_ 4 0 m l.length
  (s.perf_ 4 2 m 1).meter m l.length

/-- The device writes bytes to the host's memory (16), and counts them (21 R652, R655). -/
def State.hostWrite (s : State) (m addr : Nat) (l : List Byte) : State :=
  let s := s.emitOut (.hostWrite m addr l)
  let s := s.perf_ 4 0 m l.length
  let s := s.perf_ 4 2 m 1
  s.meter m l.length

/-- TS48 of the boundary whose mark the Island has taken, or else of that which began its period. -/
def Island.endTs (x : Island) : TS48 := match x.marked with | some m => m.ts | none => x.startTs

/-! ## Answers -/

/-- The outcome that the state goes on. -/
abbrev Res := Host.Outcome State Fault Refusal

def ok (s : State) : Res := .next s

end Sys2Proof.Machine
end

