-- ==== Sys2Proof/Machine/LinkOps.lean ====
section
/-! DEFINITION. Link layer operations (15 R489 to R501): checks, control blocks, frames, sending and receiving messages. -/

namespace Sys2Proof.Machine

/-! ## Checks (15 R489, R490) -/

/-- One bit of the CRC-8 of 15 R489. -/
def crc8Bit (c : Nat) : Nat := if 128 ≤ c then (c * 2 % 256) ^^^ 0x07 else c * 2 % 256
def crc8Step (c : Nat) (b : Byte) : Nat := Nat.repeat crc8Bit 8 (c ^^^ b.toNat)
/-- CRC-8, polynomial x^8 + x^2 + x + 1, initial value 0 (15 R489). -/
def crc8 (l : List Byte) : Nat := l.foldl crc8Step 0

/-- One bit of the reflected CRC-32 of 15 R490. -/
def crc32Bit (c : Nat) : Nat := if c % 2 = 1 then (c / 2) ^^^ 0xEDB88320 else c / 2
def crc32Step (c : Nat) (b : Byte) : Nat := Nat.repeat crc32Bit 8 (c ^^^ b.toNat)
/-- CRC-32, polynomial 0x04C1_1DB7, reflected, initial value all ones, complemented (15 R490). -/
def crc32 (l : List Byte) : Nat := 0xFFFFFFFF - l.foldl crc32Step 0xFFFFFFFF

/-! ## Control blocks -/

def cbIDLE : Nat := 0x1E
def cbACK : Nat := 0x2D
def cbCREDIT : Nat := 0x33
def cbNAK : Nat := 0x4B
def cbTRAIN : Nat := 0x66
def cbFRAME : Nat := 0x78

/-- A control block of a type with bytes 1 to 6 (15 R489). -/
def ctrlBlock (typ : Nat) (body : List Byte) : BitVec 64 :=
  let l := BitVec.ofNat 8 typ :: fitBytes 6 body
  BitVec.ofNat 64 (leNat (l ++ [BitVec.ofNat 8 (crc8 l)]))

def ackBlock (n : Nat) : BitVec 64 := ctrlBlock cbACK (leBytes 2 n)
def nakBlock (n : Nat) : BitVec 64 := ctrlBlock cbNAK (leBytes 2 n)
def creditBlock (vc n : Nat) : BitVec 64 := ctrlBlock cbCREDIT (leBytes 1 vc ++ leBytes 2 n)
def trainBlock (ready : Bool) : BitVec 64 := ctrlBlock cbTRAIN (leBytes 1 (b2n ready))

/-- The block's CRC-8 is right. -/
def blockGood (b : BitVec 64) : Bool :=
  let l := leBytes 8 b.toNat
  crc8 (l.take 7) == fieldAt l 7 1

/-- Type byte of a control block. -/
def blockType (b : BitVec 64) : Nat := b.toNat % 256
/-- Field of a control block. -/
def blockField (b : BitVec 64) (off len : Nat) : Nat := fieldAt (leBytes 8 b.toNat) off len

/-! ## Frames (15 R490) -/

/-- The bytes of a frame as sent; `resend` is R. -/
def Frame.bytes (f : Frame) (resend : Bool) : List Byte :=
  let data := fitBytes (8 * (f.blocks - 1)) f.payload
  let h := leBytes 1 cbFRAME ++ leBytes 1 (f.vc * 64 + b2n resend * 32 + (f.blocks - 1)) ++ leBytes 2 (f.seq + f.kind * 4096)
  h ++ leBytes 4 (crc32 (h ++ data)) ++ data

/-- The frame that arriving bytes spell, with its R bit, when its header and CRC-32 are right. -/
def Frame.ofBytes (l : List Byte) : Option (Frame × Bool) :=
  let n := fieldAt l 1 1 % 32 + 1
  if fieldAt l 0 1 ≠ cbFRAME ∨ l.length ≠ 8 * n ∨ crc32 (l.take 4 ++ l.drop 8) ≠ fieldAt l 4 4 then none
  else some (⟨fieldAt l 2 2 % 4096, fieldAt l 1 1 / 64, fieldAt l 2 2 / 4096, l.drop 8, 0, false, none⟩,
    (fieldAt l 1 1).testBit 5)

/-- Receive buffer of each VC in credits (15 R496). -/
def vcCredits (vc : Nat) : Nat := if vc = 0 then 256 else if vc = 1 then 64 else if vc = 2 then 3072 else 704

/-! ## Lanes of a port (15 R482) -/

/-- Lanes of a width code. -/
def widthLanes (code : Nat) : Nat := if code = 0 then 1 else if code = 1 then 2 else if code = 2 then 4 else 8

/-- P0 at ×8 takes the lanes of P1, and P2 at ×8 those of P3 (15 R482). -/
def State.portTaken (s : State) (p : Nat) : Bool := p % 2 == 1 && s.rf (Reg.LINK_CTRL (p - 1)) 28 2 == 3

/-- The lanes of port `p` (15 R482). -/
def State.portLanes (s : State) (p : Nat) : List Nat :=
  if s.portTaken p then [] else (List.range (widthLanes (s.rf (Reg.LINK_CTRL p) 28 2))).map (fun i => 4 * p + i)

/-- The port that a lane serves: P0 and P2 at ×8 take eight lanes. -/
def State.lanePort (s : State) (l : Nat) : Nat := if s.portTaken (l / 4) then l / 4 - 1 else l / 4

/-- A lane is in lock (LOCK or IDLE, 15 R484, R487). -/
def Lane.locked (l : Lane) : Bool := l.st == 2 || l.st == 3 || (l.st == 6 && decide (0 < l.lockTick))

/-- The timing lane: the lowest-numbered lane of the port in lock (15 R487). DEDUCED (log entry 46). -/
def State.timingLane (s : State) (p : Nat) : Option Nat := (s.portLanes p).find? (fun l => (s.lane l).locked)

/-! ## Sending (15 R491 to R498) -/

/-- The active UP port, when it is ACTIVE. -/
def State.upPort (s : State) : Option Nat :=
  match s.ldev.up with
  | some p => if (s.port p).st = 2 then some p else none
  | none => none

/-- Bytes of the retry buffer in use (15 R493). -/
def PortTx.retryBytes (t : PortTx) : Nat := (t.unacked.map (fun f => 8 * f.blocks)).sum

/-- A new frame may be sent for the first time (15 R493, R497, R512): window, retry buffer, credits, and for VC2 the
device rooted and the port its active UP. -/
def State.mayTransmit (s : State) (p : Nat) (f : Frame) : Bool :=
  let t := (s.port p).tx
  decide (t.unacked.length < 2048)
    && decide (t.retryBytes + 8 * f.blocks ≤ (if f.vc = 1 then 262144 else 245760))
    && decide (f.cost ≤ mget 0 t.avail f.vc)
    && (f.vc != 2 || (s.ldev.rooted && s.ldev.up == some p))

/-- The first waiting frame of a VC, when it may be sent. -/
def State.headOf (s : State) (p vc : Nat) : Option Frame :=
  match (s.port p).tx.waiting.find? (fun f => f.vc == vc) with
  | some f => if s.mayTransmit p f then some f else none
  | none => none

/-- The next new frame of a port (15 R498): VC1, VC0, then VC2 and VC3 in the ratio 3 : 1. -/
def State.nextFrame (s : State) (p : Nat) : Option Frame :=
  match s.headOf p 1, s.headOf p 0, s.headOf p 2, s.headOf p 3 with
  | some f, _, _, _ => some f
  | none, some f, _, _ => some f
  | none, none, some f, some g => if (s.port p).tx.vc2run < 3 then some f else some g
  | none, none, some f, none => some f
  | none, none, none, g => g

/-- Give the next `n` waiting VC0 frames the numbers from `q` on (15 R501). -/
def numberRun : List Frame → Nat → Nat → List Frame
  | [], _, _ => []
  | l, 0, _ => l
  | f :: l, n + 1, q => if f.vc = 0 then { f with seq := q, pre := true } :: numberRun l n ((q + 1) % 4096) else f :: numberRun l (n + 1) q

/-- The ECHO payload at departure: t3, and bit0 when a set or step was applied since t2 (15 R499, R502); bytes 4 to 7 have held
the number of changes at t2 until now. -/
def echoDeparts (l : List Byte) (ts : TS48) (changes : Nat) : List Byte :=
  overBytes (overBytes (overBytes l 16 (leBytes 6 ts.toNat)) 2 (leBytes 1 (b2n (fieldAt l 4 4 != changes % 2 ^ 32)))) 4 (leBytes 4 0)

/-- The frame with the time that its departure fixes (15 R502). -/
def Frame.atDeparture (f : Frame) (ts : TS48) (changes : Nat) : Frame :=
  if f.vc = 1 ∧ f.kind = 2 then { f with payload := echoDeparts f.payload ts changes } else f

/-- Stamp of a message of which the first block boundary leaves port `p` at the current tick: less the delays of the timing lane (01 R19,
14 R467). -/
def State.txStamp (s : State) (p : Nat) : TS48 :=
  let l := (s.timingLane p).getD (4 * p)
  s.tsNow - Config.strobeDelay l - Config.serLatency l

/-- Stamp of a message of which the first block boundary came on port `p` the time `ago` before: less the delays of the timing lane and the
gearbox latency of its last lock (01 R19, 14 R467). -/
def State.rxStamp (s : State) (p : Nat) (ago : TS48) : TS48 :=
  let l := (s.timingLane p).getD (4 * p)
  s.tsNow - ago - Config.strobeDelay l - Config.desLatency l - BitVec.ofNat 48 (s.lane l).gearbox

/-- Record the stamps of a departing message: t1 of a PROBE (14 R468), the transmit stamp of a TIME_MSG that asks for one
(14 R471). -/
def State.stampOut (s : State) (p : Nat) (f : Frame) : State :=
  if f.vc = 1 ∧ f.kind = 1 then
    s.updProbe p (fun x => { x with out := x.out.map (fun o => (o.1, s.txStamp p, s.now, s.qtz.changes)) })
  else if f.vc = 1 ∧ f.kind = 3 ∧ (fieldAt f.payload 2 1).testBit 0 then
    if s.qtz.msgFifo.length < 64 then
      s.updQtz (fun q => { q with msgFifo := q.msgFifo ++ [⟨false, p, fieldAt f.payload 0 2, s.txStamp p⟩] })
    else s.evt Reg.QTZ_EVT 0x100
  else s

/-- Take a frame from the waiting frames and number it. -/
def PortTx.take (t : PortTx) (f : Frame) : Frame × PortTx :=
  let rest := t.waiting.erase f
  if f.pre then (f, { t with waiting := rest })
  else
    ({ f with seq := t.next },
     { t with next := (t.next + 1 + f.run) % 4096, waiting := numberRun rest f.run ((t.next + 1) % 4096) })

/-- Send a new frame: number, credits, retry buffer, counters and stamps (15 R493, R497). -/
def State.transmit (s : State) (p : Nat) (f : Frame) : State :=
  let (f, t) := (s.port p).tx.take f
  let f := f.atDeparture (s.txStamp p) s.qtz.changes
  let s := s.updPort p (fun x => { x with tx := { t with
    unacked := t.unacked ++ [f], avail := mupd 0 t.avail f.vc (· - f.cost),
    lastAck := if t.unacked.isEmpty then s.now else t.lastAck,
    vc2run := if f.vc = 2 then t.vc2run + 1 else if f.vc = 3 then 0 else t.vc2run } })
  let s := match s.timingLane p with
    | some l => s.updLane l (fun x => { x with frameTick := s.now })
    | none => s
  let b := f.bytes false
  let s := s.stampOut p f
  let s := s.emitOut (.frame p b)
  let s := s.cnt (Reg.LINK_FRAMES_TX p)
  let s := s.perf_ 5 0 (4 * p + f.vc) b.length
  s.meter (8 + p) b.length

/-- Send new frames of a port while any may be sent: `fuel` bounds their number. -/
def State.pumpN : Nat → State → Nat → State
  | 0, s, _ => s
  | n + 1, s, p =>
    match s.nextFrame p with
    | none => s
    | some f => State.pumpN n (s.transmit p f) p

/-- The port sends what it may: an ACTIVE port, or HELLO of a TRAINING one (15 R505). -/
def State.pump (s : State) (p : Nat) : State :=
  let x := s.port p
  if x.st = 2 ∨ (x.st = 1 ∧ x.hello) then State.pumpN x.tx.waiting.length s p else s

/-- Frames of a message: 248 payload bytes each, in a run (15 R501). -/
def framesOf (vc kind : Nat) (ts : Option TS48) : Nat → List Byte → List Frame
  | 0, _ => []
  | n + 1, l =>
    let rest := l.drop 248
    let run := if rest.isEmpty then 0 else ceilDiv rest.length 248
    ⟨0, vc, kind, l.take 248, run, false, ts⟩ :: (if rest.isEmpty then [] else framesOf vc kind ts n rest)

/-- Queue a message on a port, and send. Only an ACTIVE port takes messages; HELLO goes in TRAINING too. -/
def State.sendMsg (s : State) (p vc kind : Nat) (payload : List Byte) : State :=
  let s := s.updPort p (fun x => { x with tx := { x.tx with
    waiting := x.tx.waiting ++ framesOf vc kind none (payload.length / 248 + 1) payload } })
  s.pump p

/-- Ports in a state and role. -/
def State.portsWith (s : State) (f : Port → Bool) : List Nat :=
  (List.range 4).filter (fun p => (s.port p).st == 2 && f (s.port p))

/-- ACTIVE ports of role DOWN. -/
def State.downPorts (s : State) : List Nat := s.portsWith (fun x => x.role == 3)

/-! ## Receiving (15 R492, R497, R501) -/

/-- Report credits of a VC in a CREDIT block (15 R497). -/
def State.sendCredit (s : State) (p vc : Nat) : State :=
  s.emitOut (.block p (creditBlock vc (mget (vcCredits vc) (s.port p).rx.released vc)))

/-- A message has been passed on: its frames' credits are released and reported (15 R497). -/
def State.release (s : State) (p vc n : Nat) : State :=
  (s.updPort p (fun x => { x with rx := { x.rx with
    released := mupd (vcCredits vc) x.rx.released vc (fun r => (r + n) % 65536) } })).sendCredit p vc

/-- The first message of a VC in a port's inbox, when it is of the kind given. -/
def State.headMsg (s : State) (p vc kind : Nat) : Option Msg :=
  match (s.port p).rx.inbox.find? (fun m => m.vc == vc) with
  | some m => if m.kind = kind then some m else none
  | none => none

/-- Take a message from a port's inbox and release its credits. -/
def State.takeMsg (s : State) (p : Nat) (m : Msg) : State :=
  (s.updPort p (fun x => { x with rx := { x.rx with inbox := x.rx.inbox.erase m } })).release p m.vc m.cost

/-- Highest message kind of a VC (15 R499). -/
def vcKinds (vc : Nat) : Nat := if vc = 0 then 11 else if vc = 1 then 7 else 1

/-- Length of a whole VC0 message, from its first frame (15 R501): COMMAND and REPLY give it, others fit one frame. -/
def msgLen (kind : Nat) (first : List Byte) : Nat :=
  if kind = 0 ∨ kind = 1 then 24 + 8 * fieldAt first 11 1 else first.length

/-- Deliver a frame's payload: a VC0 message in assembly is passed on when it is whole (15 R499, R501). -/
def State.deliver (s : State) (p : Nat) (f : Frame) (ts : TS48) (resent : Bool) : State :=
  let s := s.cnt (Reg.LINK_FRAMES_RX p)
  let s := s.perf_ 5 1 (4 * p + f.vc) (8 * f.blocks)
  let s := s.meter (12 + p) (8 * f.blocks)
  if vcKinds f.vc ≤ f.kind then (s.cnt (Reg.LINK_CRC_ERR p)).release p f.vc f.cost
  else if f.vc = 0 then
    let m : Msg := match (s.port p).rx.part with
      | none => ⟨0, f.kind, f.payload, ts, f.cost, resent, s.qtz.changes⟩
      | some m => { m with payload := m.payload ++ f.payload, cost := m.cost + f.cost, resent := m.resent || resent }
    let need := msgLen m.kind m.payload
    if need ≤ m.payload.length then
      s.updPort p (fun x => { x with rx := { x.rx with
        part := none, inbox := x.rx.inbox ++ [{ m with payload := m.payload.take need }] } })
    else s.updPort p (fun x => { x with rx := { x.rx with part := some m } })
  else
    s.updPort p (fun x => { x with rx := { x.rx with inbox := x.rx.inbox ++ [⟨f.vc, f.kind, f.payload, ts, f.cost, resent, s.qtz.changes⟩] } })

/-- Deliver, in order, the frames of the reorder buffer from the expected number on (15 R492): VC1 frames have been
delivered as they arrived. -/
def State.drain : Nat → State → Nat → State
  | 0, s, _ => s
  | n + 1, s, p =>
    let x := (s.port p).rx
    match x.reorder.find? (fun e => e.1.seq == x.expected) with
    | none => s
    | some e =>
      let s := s.updPort p (fun y => { y with rx := { y.rx with
        reorder := y.rx.reorder.erase e, expected := (y.rx.expected + 1) % 4096, sinceAck := y.rx.sinceAck + 1 } })
      State.drain n (if e.1.vc = 1 then s else s.deliver p e.1 e.2.1 e.2.2) p

/-- Send an ACK of the highest number delivered in order (15 R493). -/
def State.sendAck (s : State) (p : Nat) : State :=
  (s.emitOut (.block p (ackBlock (((s.port p).rx.expected + 4095) % 4096)))).updPort p
    (fun x => { x with rx := { x.rx with sinceAck := 0, ackDue := none } })

/-- Send a NAK of the lowest missing number, to be repeated in 2 µs (15 R494). -/
def State.sendNak (s : State) (p : Nat) : State :=
  (s.emitOut (.block p (nakBlock (s.port p).rx.expected))).updPort p
    (fun x => { x with rx := { x.rx with nakDue := some (s.now + usTicks 2) } })

/-- A frame that passed its CRC-32 (15 R492, R493, R494). -/
def State.receive (s : State) (p : Nat) (f : Frame) (ts : TS48) (resent : Bool) : State :=
  let x := (s.port p).rx
  let d := (f.seq + 4096 - x.expected) % 4096
  if 2048 ≤ d ∨ x.reorder.any (fun e => e.1.seq == f.seq) ∨ (f.vc ≠ 1 ∧ 64 < d) then s
  else
    let s := s.updPort p (fun y => { y with rx := { y.rx with reorder := y.rx.reorder ++ [(f, ts, resent)] } })
    let s := if f.vc = 1 then s.deliver p f ts resent else s
    let s := State.drain ((s.port p).rx.reorder.length) s p
    let s := if 16 ≤ (s.port p).rx.sinceAck then s.sendAck p
      else s.updPort p (fun y => { y with rx := { y.rx with ackDue := some (y.rx.ackDue.getD (s.now + usTicks 1)) } })
    s.updPort p (fun y => { y with rx := { y.rx with
      nakDue := if y.rx.reorder.isEmpty then none else some (y.rx.nakDue.getD (s.now + usTicks 1)) } })

/-! ## Retry (15 R493 to R495) -/

/-- Frames of the unacknowledged list from number `q` on. -/
def framesFrom (l : List Frame) (q : Nat) : List Frame := l.dropWhile (fun f => (q + 4096 - f.seq) % 4096 != 0 && (q + 4096 - f.seq) % 4096 < 2048)

/-- One resend episode from number `q` (15 R494). -/
def State.resend (s : State) (p q : Nat) : State :=
  let fs := framesFrom (s.port p).tx.unacked q
  if fs.isEmpty then s
  else
    let s := forEach fs (fun s f => (s.emitOut (.frame p (f.bytes true))).perf_ 5 0 (4 * p + f.vc) (8 * f.blocks)) s
    let s := forEach fs (fun s f => s.meter (8 + p) (8 * f.blocks)) s
    let s := forEach fs (fun s f => s.perf_ 5 2 (4 * p + f.vc) 1) s
    let s := s.cntN (Reg.LINK_RESENT p) fs.length
    let s := if fs.any (fun f => f.vc == 1 && f.kind == 1) then s.updProbe p (fun x => { x with resent := true }) else s
    let s := s.evt (Reg.LINK_EVT p) 8
    let t := (s.port p).tx
    let since := t.resentSince + fs.length
    let due := match t.lastRetryEvt with
      | none => true
      | some k => decide (k + msTicks 1 ≤ s.now)
    let s := if due then s.linkEvent p 0xFF 5 since else s
    s.updPort p (fun x => { x with tx := { x.tx with
      episodes := x.tx.episodes + 1, lastAck := s.now, resentSince := if due then 0 else since,
      lastRetryEvt := if due then some s.now else x.tx.lastRetryEvt } })

/-- An ACK of number `n` releases the frames up to it (15 R493). -/
def PortTx.acked (t : PortTx) (n now : Nat) : PortTx :=
  let rest := t.unacked.filter (fun f => decide (2048 ≤ (n + 4096 - f.seq) % 4096))
  if rest.length < t.unacked.length then { t with unacked := rest, episodes := 0, lastAck := now } else t

/-! ## Routes (15 R511) -/

/-- The port on which a message for device `id` leaves: its DOWN port, else the active UP; `none` at a root. -/
def State.routePort (s : State) (id : Nat) : Option Nat :=
  match mget none s.ldev.routes id with
  | some p => if (s.port p).st = 2 then some p else none
  | none => s.upPort

/-- Remove the route entries through a port. -/
def LinkDev.dropRoutes (d : LinkDev) (p : Nat) : LinkDev := { d with routes := d.routes.filter (fun e => e.2 != some p) }

end Sys2Proof.Machine
end

