-- ==== Sys2Proof/Machine/Operands.lean ====
section
/-! DEFINITION. Operand forms: the fields of a command entry (03 R86) and of an engine instruction word (09 R319). -/

namespace Sys2Proof.Machine

/-- A command entry as the triad reads it (03 R86). -/
structure Entry where
  opcode : Nat
  flags : Nat
  len : Nat
  tag : Nat
  target : Nat
  token : Token
  params : List Byte
  deriving DecidableEq, Repr

/-- The entry that 2 KiB of command memory hold (03 R86). -/
def Entry.ofBytes (l : List Byte) : Entry :=
  { opcode := fieldAt l 0 2, flags := fieldAt l 2 1, len := fieldAt l 3 1, tag := fieldAt l 4 2, target := fieldAt l 6 1,
    token := BitVec.ofNat 64 (fieldAt l 8 8), params := (l.drop 16).take (8 * fieldAt l 3 1) }

/-- Parameter field of `len` bytes at byte `off`. -/
def Entry.p (e : Entry) (off len : Nat) : Nat := fieldAt e.params off len
/-- Signed parameter field. -/
def Entry.ps (e : Entry) (off len : Nat) : Int := signedOf (8 * len) (e.p off len)

/-- A parameter field that the table names no meaning for is 0 (00 R12, 03 R90 step 6). -/
def Entry.zero (e : Entry) (off len : Nat) : Bool := e.p off len == 0

/-- The channels of a mask of `n` bytes at byte `off` of the parameters. -/
def Entry.mask (e : Entry) (off n : Nat) : List Nat := bitsOf (8 * n) (e.p off n)

end Sys2Proof.Machine
end

