-- ==== Sys2Proof/Machine/CmdOps.lean ====
section
/-! DEFINITION. Ownership, replies and the order of checks on a command (03). -/

namespace Sys2Proof.Machine

/-! ## Status codes (03 R91) -/

def stOK : Nat := 0x00
def stPENDING : Nat := 0x01
def stPARTIAL : Nat := 0x02
def stNOT_OWNER : Nat := 0x10
def stUNKNOWN_OPCODE : Nat := 0x11
def stBAD_LENGTH : Nat := 0x12
def stBAD_PARAM : Nat := 0x13
def stBUSY : Nat := 0x14
def stLOCKED : Nat := 0x15
def stNO_RESOURCE : Nat := 0x16
def stWRONG_STATE : Nat := 0x17
def stSIG_INVALID : Nat := 0x18
def stDEGRADED : Nat := 0x19
def stTIMEOUT : Nat := 0x1A
def stUNREACHABLE : Nat := 0x1B
def stREFUSED : Nat := 0x1C
def stHW_FAULT : Nat := 0x20
def stUNCORRECTABLE : Nat := 0x21

/-- The opcodes of 03 R92. -/
def opcodes : List Nat :=
  [0x0101, 0x0102, 0x0103, 0x0201, 0x0202, 0x0203, 0x0204, 0x0205, 0x0301, 0x0302, 0x0303, 0x0401, 0x0402, 0x0403, 0x0404,
   0x0501, 0x0502, 0x0503, 0x0504, 0x0601, 0x0602, 0x0603, 0x0604, 0x0701, 0x0702, 0x0703] ++
  [0x0801, 0x0802, 0x0803, 0x0804, 0x0805, 0x0901, 0x0902, 0x0903, 0x0A01, 0x0A02, 0x0A03, 0x0B01, 0x0B02, 0x0B03, 0x0C01,
   0x0C02, 0x0D01, 0x0D02, 0x0D03, 0x0E01]

/-- The opcodes that observers may submit (03 R105). -/
def observerOps : List Nat := [0x0101, 0x0303, 0x0702, 0x0903, 0x0C01, 0x0D02, 0x0201, 0x0205]

/-- The opcodes accepted in RETIRED (20 R642). -/
def retiredOps : List Nat := [0x0101, 0x0201, 0x0205, 0x0203, 0x0D02]

/-! ## The triad's turns (03 R98, R111, 18 R583) -/

/-- Control runs in the triad's mode (18 R583). -/
def Triad.runs (t : Triad) : Bool := t.mode == 0 || t.mode == 1 || t.mode == 3

/-- The triad serves commands: the start has ended and control is not paused. Every instant is then a command boundary
(03 R98). -/
def State.serves (s : State) : Bool := s.sec.start.step == 0 && s.triad.runs

/-- Lifecycle in effect (20 R641): 0 MANUFACTURE, 1 DEVELOP, 2 DEPLOYED, 3 RETIRED. -/
def State.lifecycle (s : State) : Nat := s.sec.fuses.state

/-! ## Replies (03 R84 to R88, R113, 16 R534) -/

/-- Entries of master `m`'s reply ring that are in use. -/
def State.rpUsed (s : State) (m : Nat) : Nat := ((s.cmdq m).rpTail + 32 - s.rf (Reg.CMD_RP_HEAD m) 0 5) % 32

/-- A reply can be written to master `m`'s ring now: control runs (18 R582, R595) and there is room. -/
def State.rpReady (s : State) (m : Nat) : Bool :=
  s.triad.runs && if m < 4 then (s.pf m).rprEn && s.pfLive m && s.rpUsed m != 16
  else if m = 4 ∨ m = 6 then s.rpUsed m != 16
  else true

/-- The bytes of a reply entry (03 R88). -/
def Reply.bytes (r : Reply) (seq : Nat) : List Byte :=
  let n := ceilDiv r.result.length 8
  leBytes 2 r.tk.opcode ++ leBytes 1 r.status ++ leBytes 1 n ++ leBytes 2 r.tk.tag ++ leBytes 1 r.dev ++ leBytes 1 r.tk.m
    ++ leBytes 6 r.ts.toNat ++ leBytes 2 seq ++ fitBytes (8 * n) r.result

/-- A reply as it is written while `b` is the latest beacon (03 R113). -/
def Reply.at_ (r : Reply) (b : TS48) : Reply := if r.stamp then { r with ts := b } else r

/-- The next reply of a master has the next sequence number (03 R88). -/
def State.rpNext (s : State) (m : Nat) : State := s.updCmdq m (fun q => { q with rpSeq := (q.rpSeq + 1) % 65536 })

/-- Advance a ring by one written reply: sequence number, tail, and the events of CMD_EVT. -/
def State.rpAdvance (s : State) (m : Nat) : State :=
  let s := (s.rpNext m).updCmdq m (fun q => { q with rpTail := (q.rpTail + 1) % 32 })
  s.evt (Reg.CMD_EVT m) (if s.rpUsed m = 16 then 9 else 1)

/-- Write a reply to its master's ring, which has room (03 R84, 16 R534). -/
def State.putReply (s : State) (r : Reply) : State :=
  let m := r.tk.m
  let q := s.cmdq m
  let b := (r.at_ s.beacon).bytes q.rpSeq
  let s := s.perfM 3 (if r.status = stOK then 1 else 2) none m none 1
  if m < 4 then
    let f := s.pf m
    let s := s.hostWrite m (f.rprBase + 0x800 * (q.rpTail % 16)) b
    let s := s.rpAdvance m
    let s := s.hostWrite m f.rprWb (leBytes 4 ((s.cmdq m).rpTail))
    if f.rprIrq then s.msix m 64 else s
  else if m = 4 ∨ m = 6 then
    ({ s with cmd := { s.cmd with rp := putBytes s.cmd.rp (0x8000 * m + 0x800 * (q.rpTail % 16)) b } }).rpAdvance m
  else if m = 5 then
    match s.routePort r.tk.odev with
    | some p => (s.rpNext m).sendMsg p 0 1 (leBytes 8 r.tk.odev ++ b)
    | none => s.rpNext m
  else (s.rpNext m).updCmd (fun c => { c with internal := c.internal ++ [b] })

/-- Write a reply, or hold it until its ring has room (03 R85). -/
def State.writeReply (s : State) (r : Reply) : State :=
  if (s.cmdq r.tk.m).held.isEmpty && s.rpReady r.tk.m then s.putReply r
  else s.updCmdq r.tk.m (fun q => { q with held := q.held ++ [r] })

/-- Write the held replies for which there is room. -/
def State.flushHeld : Nat → State → Nat → State
  | 0, s, _ => s
  | n + 1, s, m =>
    match (s.cmdq m).held with
    | [] => s
    | r :: rest =>
      if s.rpReady m then State.flushHeld n ((s.updCmdq m (fun q => { q with held := rest })).putReply r) m else s

def State.resumeReplies (s : State) (m : Nat) : State := s.flushHeld ((s.cmdq m).held.length) m

/-- A reply of the current instant: `ts` as given. Status OK without the reply-required flag writes none (03 R87). -/
def State.replyAt (s : State) (tk : Ticket) (status : Nat) (result : List Byte) (ts : TS48) : State :=
  if status = stOK ∧ tk.req = false then s
  else s.writeReply ⟨tk, status, result, ts, false, s.link.dev.id⟩

/-- A reply that reports no effect, PENDING, PARTIAL, an error or a read: it carries the beacon that is latest when it is written
(03 R113). -/
def State.reply (s : State) (tk : Ticket) (status : Nat) (result : List Byte) : State :=
  if status = stOK ∧ tk.req = false then s
  else s.writeReply ⟨tk, status, result, s.beacon, true, s.link.dev.id⟩

/-- An OK reply of a command with an effect and no named tick waits for the next beacon (03 R113). -/
def State.replyEffect (s : State) (tk : Ticket) (status : Nat) (result : List Byte) : State :=
  if status = stOK ∧ tk.req = false then s
  else s.updCmd (fun c => { c with atBeacon := c.atBeacon ++ [⟨tk, status, result, 0, false, s.link.dev.id⟩] })

/-- Answer PENDING and go on in the background (03 R89). -/
def State.replyPending (s : State) (tk : Ticket) : State := s.reply tk stPENDING []

/-! ## Ownership (03 R94 to R103) -/

/-- The first value from `t` on that is not 0 and has not been issued. -/
def firstFree (issued : List Token) : Nat → Token → Token
  | 0, t => t
  | n + 1, t => if t = 0 ∨ issued.contains t then firstFree issued n (t + 1) else t

/-- A new lease token: a free value, never 0 and never issued before (03 R95). PRESUMED (log entry 22). -/
def State.newToken (s : State) : Token := firstFree s.own.issued (s.own.issued.length + 1) (Config.token s.freeCtr)

/-- Remaining lease in ms (03 R96, R99): whole ms, rounded down, as the spec names no rounding. DESIGN CHOICE (log entry 21). -/
def State.leaseLeft (s : State) : Nat := if s.own.owner.isSome then (s.own.leaseEnd - s.now) / 1500000 else 0

/-- The granted lease: 0 asks for OWN_LEASE_DEFAULT (03 R96). -/
def State.leaseOf (s : State) (ms : Nat) : Nat := if ms = 0 then s.rf Reg.OWN_LEASE_DEFAULT 0 20 else ms

/-- Discard the pending guarded first write as a failure (02 R69). -/
def State.guardFail (s : State) : State :=
  match s.bus.guard with
  | none => s
  | some g => (s.updBus (fun b => { b with guard := none })).logAcc g.m 3 rcGUARD_FAIL g.addr g.value false

/-- What every change of owner does (02 R59, R69, 03 R103). -/
def State.changeOwner (s : State) (flags : Nat) : State :=
  let s := s.guardFail
  let s := s.updBus (fun b => { b with latch := [], staged := [] })
  let s := s.updQtz (fun q => { q with nowLatch := [], msgLatch := [], ptm := { q.ptm with latch := [] } })
  let s := s.cnt Reg.OWN_CHANGES
  s.evt Reg.OWN_EVT flags

/-- Master `m`, one of M0 to M6 (03 R94), becomes owner with a new token and a fresh lease; `flags` of OWN_EVT. -/
def State.grantOwner (s : State) (m prio leaseMs flags : Nat) (forced : Bool) : State :=
  let t := s.newToken
  let s := { s with freeCtr := s.freeCtr + 1 }
  let s := s.updOwn (fun o => { o with
    owner := some m, prio := prio, token := t, leaseMs := leaseMs, leaseEnd := s.now + msTicks leaseMs, lastForced := forced,
    handover := none, issued := o.issued ++ [t] })
  s.changeOwner flags

/-- Ownership becomes free; `flags` of OWN_EVT. -/
def State.freeOwner (s : State) (flags : Nat) : State :=
  (s.updOwn (fun o => { o with owner := none, prio := 0, token := 0, leaseMs := 0, leaseEnd := 0, lastForced := false, handover := none })).changeOwner
    flags

/-- Result of a granted claim (03 R96). -/
def State.claimResult (s : State) : List Byte := leBytes 8 s.own.token.toNat ++ leBytes 4 s.own.leaseMs ++ leBytes 4 0

/-- The submitter is the owner and its token is the current one (03 R95). -/
def State.ownerToken (s : State) (m : Nat) (t : Token) : Bool :=
  s.own.owner == some m && t == s.own.token && decide (s.now < s.own.leaseEnd)

/-- Restart the lease (03 R99). -/
def State.renewLease (s : State) : State := s.updOwn (fun o => { o with leaseEnd := s.now + msTicks o.leaseMs })

/-! ## Taking a command (03 R83, R111) -/

/-- Commands of master `m` are waiting and may start (03 R85, 16 R535). -/
def State.cmdReady (s : State) (m : Nat) : Bool :=
  let q := s.cmdq m
  q.head != q.tail && q.held.isEmpty && (if m < 4 then (s.pf m).rprEn else true)
    && (if m < 4 ∨ m = 4 ∨ m = 6 then s.rpUsed m != 16 else true)

/-- The masters in turn after the one served last: M7 first, then M0 to M6 (03 R111). -/
def turnOrder (last : Nat) : List Nat := (List.range 8).map (fun i => (last + 1 + i) % 8)

/-- The master whose turn it is. -/
def State.turn (s : State) : Option Nat := (turnOrder s.cmd.last).find? (fun m => s.cmdReady m)

/-- Byte address of slot `k` of master `m` (03 R79). -/
def slotAddr (m k : Nat) : Nat := 0x20000 * m + 0x800 * (k % 64)

/-- The entry at the head of master `m`'s queue. -/
def State.headEntry (s : State) (m : Nat) : Entry :=
  let a := slotAddr m (s.cmdq m).head
  let h := bytesAt s.cmd.sram a 16
  Entry.ofBytes (h ++ bytesAt s.cmd.sram (a + 16) (8 * fieldAt h 3 1))

/-- The ticket of an entry of master `m`. -/
def State.ticket (s : State) (m : Nat) (e : Entry) : Ticket :=
  let o := mget (0, m) (s.cmdq m).orig ((s.cmdq m).head % 64)
  ⟨m, e.opcode, e.tag, e.flags.testBit 0, o.1, o.2⟩

/-- The triad takes the command at the head of `m`'s queue (03 R83); the completion log counts it (18 R593). -/
def State.takeCmd (s : State) (m : Nat) : State :=
  let s := (s.updCmdq m (fun q => { q with head := (q.head + 1) % 128 })).updCmd (fun c => { c with last := m })
  s.updTriad (fun t => { t with replay := t.replay + 1 })

/-- A hand-over may complete: its OK reply does not wait for a beacon any more (03 R101). -/
def State.handoverDue (s : State) : Bool :=
  s.own.handover.isSome && !(s.cmd.atBeacon.any (fun r => r.tk.opcode == 0x0204))

/-- The lease has ended (03 R100, R116). -/
def State.leaseDue (s : State) : Bool := s.own.owner.isSome && decide (s.own.leaseEnd ≤ s.now)

/-- A change of ownership falls due at this command boundary, so no command starts before it (03 R98). -/
def State.boundaryDue (s : State) : Bool :=
  s.leaseDue || s.own.force.isSome || s.handoverDue || (s.own.owner.isNone && !s.own.waiting.isEmpty)

/-- Work of a command goes on that has not answered PENDING: its reply waits for the beacon, or for the apply tick of its set, step
or INC (14 R479 to R481), for its Slate (21 R664) or for the last FLUSH record (12 R422). -/
def State.works (s : State) (tk : Ticket) : Bool :=
  s.cmd.atBeacon.any (fun r => r.tk == tk)
    || (match s.qtz.chg with | some c => c.tk == some tk | none => false)
    || (match s.qtz.incPend with | some p => p.tks.contains tk | none => false)
    || (match s.perf.slate with | some p => p.tks.contains tk | none => false)
    || s.lag.jobs.any (fun j => j.tk == tk)

/-- The turn of the last command goes on: it has not answered PENDING and its work goes on (03 R89, R111). DEDUCED (log entry 18). -/
def State.inTurn (s : State) : Bool := match s.cmd.running with | some tk => s.works tk | none => false

/-- The instant is a command boundary: the triad serves and runs no command (03 R98). -/
def State.atBoundary (s : State) : Bool := s.serves && !s.inTurn

/-- Command `m`'s turn: the triad serves, no turn goes on, no change of ownership is due and it is master `m`'s turn
(03 R98, R111). -/
def State.mayTake (s : State) (m : Nat) : Bool := s.atBoundary && !s.boundaryDue && s.turn == some m

/-- It is master `m`'s turn, and its next command has the opcode given. -/
def State.hasTurn (s : State) (m op : Nat) : Bool := s.mayTake m && (s.headEntry m).opcode == op

/-! ## Forwarding (03 R106 to R110) -/

/-- Bytes of an entry with byte 7 set to the submitting master (03 R86). -/
def State.entryBytes (s : State) (m : Nat) (e : Entry) : List Byte :=
  overBytes (bytesAt s.cmd.sram (slotAddr m (s.cmdq m).head) (16 + 8 * e.len)) 7 (leBytes 1 m)

/-- The COMMAND message of an entry (15 R499). -/
def State.cmdMsg (s : State) (m : Nat) (bytes : List Byte) : List Byte :=
  leBytes 1 s.link.dev.id ++ leBytes 1 m ++ leBytes 6 0 ++ bytes

/-- IDs of the devices below this one in the enumerated tree: its route entries. -/
def State.below (s : State) : List Nat := (s.ldev.routes.filter (fun e => e.2.isSome)).map Prod.fst

/-- Forwarding timeout in ticks (03 R109). -/
def State.fwdTicks (s : State) : Nat := msTicks (s.rf Reg.CMD_FWD_TIMEOUT 0 16)

/-- Forward a command toward another device (03 R106, R108). -/
def State.forward (s : State) (m : Nat) (tk : Ticket) (e : Entry) (bytes : List Byte) : State :=
  if 256 ≤ s.cmd.fwd.length then s.reply tk stNO_RESOURCE []
  else
    match s.routePort e.target with
    | none => s.reply tk stUNREACHABLE []
    | some p =>
      (s.updCmd (fun c => { c with fwd := c.fwd ++ [⟨tk, [e.target], s.now + s.fwdTicks, false⟩] })).sendMsg p 0 0
        (s.cmdMsg m bytes)

/-- A broadcast finds no room in the table of forwarded commands (03 R108, R110). -/
def State.fwdFull (s : State) : Bool := decide (256 ≤ s.cmd.fwd.length) && !s.below.isEmpty

/-- Send a broadcast on every DOWN port (03 R110). -/
def State.broadcast (s : State) (m : Nat) (tk : Ticket) (bytes : List Byte) : State :=
  let s := if s.below.isEmpty then s
    else s.updCmd (fun c => { c with fwd := c.fwd ++ [⟨tk, s.below, s.now + s.fwdTicks, true⟩] })
  forEach s.downPorts (fun s p => s.sendMsg p 0 0 (s.cmdMsg m bytes)) s

/-! ## The order of checks (03 R90) -/

/-- What an opcode defines: lengths (step 2), parameter ranges (step 6), and what follows from step 7 on. -/
structure CmdSpec where
  op : Nat
  lenOk : Entry → Bool
  paramOk : State → Entry → Bool
  run : State → Ticket → Entry → State

/-- A command is executed with a self-check in SIMPLEX: whether it fails is a free value (03 R117). DEDUCED (log entry 19). -/
def State.checkFails (s : State) : Bool := s.triad.mode == 3 && Config.selfCheckFails s.freeCtr

/-- The self-check has taken its free value. -/
def State.selfChecked (s : State) : State := if s.triad.mode == 3 then { s with freeCtr := s.freeCtr + 1 } else s

/-- Steps 5 to 8 on the executing device. In RETIRED a command is LOCKED at step 7 (20 R642); FW_UPDATE names LOCKED itself, after WRONG_STATE
(20 R648). -/
def State.execCmd (s : State) (c : CmdSpec) (m : Nat) (tk : Ticket) (e : Entry) : State :=
  if !(observerOps.contains c.op) && !s.ownerToken m e.token then s.reply tk stNOT_OWNER []
  else
    let fails := s.checkFails
    let s := (if s.ownerToken m e.token then s.renewLease else s).selfChecked
    if !c.paramOk s e then s.reply tk stBAD_PARAM []
    else if s.lifecycle = 3 ∧ !(retiredOps.contains c.op) ∧ c.op ≠ 0x0D01 then s.reply tk stLOCKED []
    else if fails then s.reply tk stHW_FAULT []
    else c.run s tk e

/-- Step 4: a command whose target lies elsewhere, at the originating device (03 R107). An owner's command that passes that check renews
its lease, whatever token it carries for its target (03 R99). -/
def State.originCmd (s : State) (c : CmdSpec) (m : Nat) (tk : Ticket) (e : Entry) (bytes : List Byte) : State :=
  if !(observerOps.contains c.op) && s.own.owner != some m then s.reply tk stNOT_OWNER []
  else
    let s := if s.own.owner == some m && decide (s.now < s.own.leaseEnd) then s.renewLease else s
    if e.target = 255 then (if s.fwdFull then s.reply tk stNO_RESOURCE [] else (s.broadcast m tk bytes).execCmd c m tk e)
    else s.forward m tk e bytes

/-- Steps 2 to 8 of a command that has been taken. -/
def State.judgeCmd (s : State) (c : CmdSpec) (m : Nat) (tk : Ticket) (e : Entry) (bytes : List Byte) : State :=
  if !c.lenOk e then s.reply tk stBAD_LENGTH []
  else if e.target = 0 ∨ (e.target = s.link.dev.id ∧ e.target ≠ 255) ∨ (e.target = 255 ∧ e.flags.testBit 2 ∧ m = 5) then
    s.execCmd c m tk e
  else if e.target = 255 then
    if e.flags.testBit 2 then s.originCmd c m tk e bytes else s.reply tk stBAD_PARAM []
  else if e.flags.testBit 1 then s.originCmd c m tk e bytes
  else s.reply tk stBAD_PARAM []

/-- The turn of the command `tk` goes on while it works (03 R89, R111, R113). -/
def State.keepTurn (t : State) (tk : Ticket) : State :=
  t.updCmd (fun c => { c with running := if t.works tk then some tk else none })

/-- A turn of the triad on a command of the opcode: without such a command in turn nothing happens. -/
def State.runCmd (s : State) (c : CmdSpec) (m : Nat) : State :=
  if s.hasTurn m c.op then
    ((s.takeCmd m).judgeCmd c m (s.ticket m (s.headEntry m)) (s.headEntry m) (s.entryBytes m (s.headEntry m))).keepTurn
      (s.ticket m (s.headEntry m))
  else s

/-- The command of master `m` in turn passes the checks of steps 2 to 6 on this device. -/
def State.comesToRun (s : State) (c : CmdSpec) (m : Nat) : Bool :=
  let e := s.headEntry m
  s.hasTurn m c.op && c.lenOk e && (e.target == 0 || e.target == s.link.dev.id || e.target == 255)
    && (observerOps.contains c.op || s.ownerToken m e.token) && c.paramOk s e

/-- Exactly `n` parameter words. -/
def lenIs (n : Nat) (e : Entry) : Bool := e.len == n

/-- Finish a background command with an effect (03 R89, R113). -/
def State.finish (s : State) (tk : Ticket) (status : Nat) (result : List Byte) : State :=
  if status = stOK then s.replyEffect tk status result else s.reply tk status result

end Sys2Proof.Machine
end

