-- ==== Sys2Proof/Machine/LagOps.lean ====
section
/-! DEFINITION. Lagoon queues and the merge (12): cells, acceptance, routing, flushes, watermarks, release. -/

namespace Sys2Proof.Machine

/-! ## Cells (12 R388 to R390) -/

/-- Cells that entries cover, in order of their place; `last` is the cell counted last. A tail cell written only in part
stays allocated. -/
def cellsOf (tail : Nat) : List QEnt → Option Nat → Nat
  | [], last => if tail % 16 ≠ 0 ∧ last ≠ some (tail / 16) then 1 else 0
  | e :: l, last =>
    let a := e.pos / 16
    let b := (e.pos + e.r.units - 1) / 16
    (b + 1 - a - (if last = some a then 1 else 0)) + cellsOf tail l (some b)

/-- Occupancy of a queue in cells. -/
def LQueue.occ (q : LQueue) : Nat := cellsOf q.tail q.ents none

/-- Free cells of the pool. -/
def Lagoon.free (l : Lagoon) : Nat := poolCells - (l.queues.map (fun e => e.2.occ)).sum

/-- The reserve (12 R389). -/
def Lagoon.reserve (l : Lagoon) : Nat := (l.queues.map (fun e => e.2.guar - e.2.occ)).sum

/-- Cells that a queue may still take (12 R389): first up to its guarantee, then beyond it what the reserve leaves. -/
def Lagoon.takeable (l : Lagoon) (q : LQueue) : Nat :=
  let a := min (q.guar - q.occ) l.free
  let b := if q.guar - q.occ ≤ a then (l.free - a) - (l.reserve - a) else 0
  min (q.quota - q.occ) (a + b)

/-- Room of a queue in units (12 R390). -/
def State.qRoom (s : State) (n : Nat) : Nat :=
  let q := s.queue n
  (16 - q.tail % 16) % 16 + 16 * s.lag.takeable q

/-- Pending control units (12 R399). -/
def LQueue.pendUnits (q : LQueue) : Nat := (if q.pend.isSome then 3 else 0) + (if q.heldWm.isSome then 2 else 0)

/-- Account for a change of the free count: LAG_POOL_MIN and pool_low (12 R419). -/
def State.poolNote (s : State) : State :=
  let f := s.lag.free
  let low := decide (f < s.rf Reg.LAG_POOL_LOW 0 18)
  let s := if low && !s.lag.poolLow then s.evt Reg.LAG_EVT 4 else s
  s.updLag (fun l => { l with poolMin := min l.poolMin f, poolLow := low })

/-! ## Writing (12 R399 to R401) -/

/-- Append a record to a queue, whatever its room. -/
def State.qPut (s : State) (n : Nat) (r : Rec) : State :=
  s.updQueue n (fun q => { q with
    ents := q.ents ++ [⟨r, q.tail, s.now, false, false⟩], tail := q.tail + r.units,
    headTick := if q.ents.isEmpty then s.now else q.headTick })

/-- Write the pending GAP, numbered as a record of the queue (12 R400, R401). -/
def State.qPutGap (s : State) (n : Nat) : State :=
  match (s.queue n).pend with
  | none => s
  | some d =>
    let (r, s) := s.number (d.gap n 1)
    (s.qPut n r).updQueue n (fun q => { q with pend := none })

/-- Write the held WATERMARK (12 R401). -/
def State.qPutHeld (s : State) (n : Nat) : State :=
  match (s.queue n).heldWm with
  | none => s
  | some w =>
    let (r, s) := s.number (watermarkRec n w.1 w.2)
    (s.qPut n r).updQueue n (fun q => { q with heldWm := none, wmLast := w.1, wmSet := true, dataSince := false })

/-- A queue takes an entry after what is pending (12 R401). -/
def State.qTake (s : State) (n : Nat) (r : Rec) : State := (((s.qPutGap n).qPutHeld n).qPut n r).poolNote

/-- A record is dropped into the pending GAP (12 R400). -/
def State.qDrop (s : State) (n : Nat) (r : Rec) : State :=
  let s := s.updQueue n (fun q => { q with pend := some (Dropped.add q.pend r 1) })
  ((s.cnt (banked Reg.LAG_Q_DROP n)).evt Reg.LAG_EVT 16).perf_ 6 2 (s.queue n).prio 1

/-- A record is accepted, or dropped into the pending GAP (12 R399, R400). -/
def State.qAccept (s : State) (n : Nat) (r : Rec) : State :=
  let q := s.queue n
  if r.units + q.pendUnits + 3 ≤ s.qRoom n then
    let s := s.qTake n r
    let s := s.updQueue n (fun q => { q with dataSince := true })
    let s := s.cnt (banked Reg.LAG_Q_ACCEPT n)
    s.perf_ 6 0 q.prio 1
  else s.qDrop n r

/-- Kind of the queue's next WATERMARK (12 R408): DATA when a record has entered since the last one. -/
def LQueue.wmKind (q : LQueue) : Nat := if q.dataSince then 0 else 1

/-- Write a WATERMARK, or hold it, where it replaces an earlier one (12 R399, R408). -/
def State.qWatermark (s : State) (n : Nat) (w : TS48) : State :=
  let q := s.queue n
  if 2 + q.pendUnits + 3 ≤ s.qRoom n then
    let s := (s.qPutGap n).qPutHeld n
    let (r, s) := s.number (watermarkRec n w (s.queue n).wmKind)
    (s.qPut n r).poolNote.updQueue n (fun q => { q with wmLast := w, wmSet := true, dataSince := false })
  else s.updQueue n (fun q => { q with heldWm := some (w, q.wmKind) })

/-- An unrouted record (12 R398). -/
def State.unrouted (s : State) : State := (s.cnt Reg.LAG_UNROUTED).evt Reg.LAG_EVT 1

/-- A record goes to a queue by its route: a DISABLED queue makes it unrouted (12 R398). A FLUSHING queue accepts nothing
until its FLUSH record is written (12 R404): the record is dropped like one without room. DEDUCED (log entry 40). -/
def State.qRoute (s : State) (n : Nat) (r : Rec) : State :=
  let q := s.queue n
  if q.st = 0 then s.unrouted
  else if q.st = 2 then s.qDrop n r
  else s.qAccept n r

/-! ## Routes (12 R393 to R398, R420) -/

/-- The mask bit of a record type (12 R420). -/
def typeBit (t : Nat) : Option Nat :=
  if 0x01 ≤ t ∧ t ≤ 0x09 then some (t - 1)
  else if 0x10 ≤ t ∧ t ≤ 0x12 then some (t - 0x10 + 9)
  else if 0x20 ≤ t ∧ t ≤ 0x26 then some (t - 0x20 + 12)
  else if 0x30 ≤ t ∧ t ≤ 0x32 then some (t - 0x30 + 19)
  else none

/-- A local route matches a source and type. -/
def Route.hits (e : Route) (port cls typ idx : Nat) : Bool :=
  !e.origin && e.port == port && (e.cls == 0xFF || e.cls == cls) && decide (e.first ≤ idx) && decide (idx ≤ e.last)
    && (match typeBit typ with | some b => e.mask.testBit b | none => false)

/-- Queues whose routes at a port match a source and type. -/
def Lagoon.dests (l : Lagoon) (port cls typ idx : Nat) : List Nat :=
  ((l.routes.filter (fun e => e.hits port cls typ idx)).map Route.q).eraseDups

/-- The queue that an ORIGIN route of a link port leads to. -/
def Lagoon.originDest (l : Lagoon) (port origin : Nat) : Option Nat :=
  (l.routes.find? (fun e => e.origin && e.port == port && e.first == origin)).map Route.q

/-- ENABLED queues that hold a route at a port (12 R396). -/
def State.portQueues (s : State) (port : Nat) : List Nat :=
  (((s.lag.routes.filter (fun e => e.port == port)).map Route.q).eraseDups).filter (fun n => (s.queue n).st == 1)

/-- Route a record by its source (12 R394, R398): the first queue whose route matches. -/
def State.routeOne (s : State) (port cls typ idx : Nat) (r : Rec) : State :=
  match s.lag.dests port cls typ idx with
  | [] => s.unrouted
  | n :: _ => s.qRoute n r

/-- Some queue takes copies of EPOCH. -/
def State.epochRouted (s : State) : Bool :=
  (List.range 13).any (fun p => (s.lag.dests p 3 tEPOCH 0).any (fun n => (s.queue n).st != 0))

/-- EPOCH at a port: a copy for each matching queue; one that no route matches anywhere counts once, at the last of the
ports that receive it (12 R394). -/
def State.routeEpoch (s : State) (port : Nat) (r : Rec) : State :=
  let s := forEach ((s.lag.dests port 3 tEPOCH 0).filter (fun n => (s.queue n).st != 0)) (fun s n => s.qRoute n r) s
  if port = 12 ∧ !s.epochRouted then s.unrouted else s

/-- A Strait GAP or FLUSH (12 R396): a GAP of one source goes the way of that source. -/
def State.routeStrait (s : State) (port : Nat) (r : Rec) : State :=
  if r.typ = tGAP ∧ fieldAt r.body 24 1 ≠ 0xFF then
    s.routeOne port (fieldAt r.body 24 1) (fieldAt r.body 25 1) (fieldAt r.body 26 2) r
  else forEach (s.portQueues port) (fun s n => s.qAccept n r) s

/-- A record of a spill goes to its queue while that queue is fed by the port (12 R397, R402). -/
def State.routeSpill (s : State) (port n : Nat) (r : Rec) : State :=
  if (s.queue n).port = port then s.qRoute n r else s.unrouted

/-- A record of a stream that arrives on a link port (12 R393, R407, R408). -/
def State.routeLink (s : State) (port origin : Nat) (r : Rec) : State :=
  match s.lag.originDest port origin with
  | none => s.unrouted
  | some n =>
    if r.typ = tWATERMARK then
      if (s.queue n).st = 1 then
        (s.updQueue n (fun q => { q with wmIn := minsert origin r.ts q.wmIn })).qWatermark n r.ts
      else s
    else s.qRoute n r

/-- The first record at a port enters the Lagoon (12 R392). -/
def State.ingress (s : State) (port : Nat) : State :=
  match mget [] s.lag.ports port with
  | [] => s
  | a :: rest =>
    let s := s.updLag (fun l => { l with ports := mput [] l.ports port rest })
    match a.origin, a.spill with
    | some o, _ => s.routeLink port o a.r
    | none, some n => s.routeSpill port n a.r
    | none, none =>
      if a.r.typ = tEPOCH then s.routeEpoch port a.r
      else if a.r.cls = 4 then s.routeStrait port a.r
      else s.routeOne port a.r.cls a.r.typ a.r.idx a.r

/-! ## Cut-through (12 R403) -/

/-- Records written at least 4 merge-Island cycles (4.8 ticks) ago are readable. -/
def State.qReady (s : State) (n : Nat) : State :=
  s.updQueue n (fun q => { q with ents := q.ents.map (fun e => if e.written + 5 ≤ s.now then { e with ready := true } else e) })

/-! ## Flush (12 R404 to R406) -/

/-- The unread FLUSH record of the queue `n` itself (12 R405). -/
def QEnt.ownFlush (e : QEnt) (n : Nat) : Bool := !e.stored && e.r.typ == tFLUSH && e.r.cls == 4 && e.r.idx == n

/-- Entries that the consumer has begun to read stay, and the queue's own FLUSH record; the others go. -/
def LQueue.kept (q : LQueue) (n : Nat) : List QEnt := q.ents.filter (fun e => e.stored || e.ownFlush n)
def LQueue.gone (q : LQueue) (n : Nat) : List QEnt := q.ents.filter (fun e => !(e.stored || e.ownFlush n))

/-- Whole items that a flush discards: WATERMARK records are not counted (12 R404). -/
def LQueue.wholeItems (q : LQueue) (n : Nat) : Nat := ((q.gone n).filter (fun e => e.r.typ != tWATERMARK)).length

/-- A flush adds its counts to an unread FLUSH record (12 R405). -/
def Rec.addFlush (r : Rec) (whole held : Nat) : Rec :=
  { r with body := overBytes (overBytes r.body 4 (leBytes 4 (fieldAt r.body 4 4 + whole))) 12 (leBytes 4 (fieldAt r.body 12 4 + held)) }

def QEnt.addFlush (e : QEnt) (n whole held : Nat) : QEnt := if e.ownFlush n then { e with r := e.r.addFlush whole held } else e

/-- Cells whose bytes have all been discarded return: the next unit opens a new cell when nothing is left in the tail. -/
def LQueue.roundTail (q : LQueue) : LQueue :=
  match q.ents.getLast? with
  | none => { q with tail := ceilDiv q.tail 16 * 16 }
  | some e => if (e.pos + e.r.units - 1) / 16 = q.tail / 16 then q else { q with tail := ceilDiv q.tail 16 * 16 }

/-- Steps 1 to 4 of a flush on a queue. -/
def LQueue.flushNow (q : LQueue) (n cause : Nat) (disable : Bool) : LQueue :=
  let run := q.flush.getD ⟨cause, 0, 0, 0, false, q.ents.any (fun e => e.ownFlush n)⟩
  let held := match q.pend with | some d => d.count | none => 0
  ({ q with
     st := 2
     flush := some { run with whole := run.whole + q.wholeItems n, held := run.held + held,
                              disable := disable || run.disable || q.st == 0 }
     ents := (q.kept n).map (fun (e : QEnt) => e.addFlush n (q.wholeItems n) held)
     pend := none }).roundTail

/-- Start a flush of queue `n` (12 R404, R406). -/
def State.qFlush (s : State) (n cause : Nat) (disable : Bool) : State :=
  (s.updQueue n (fun q => q.flushNow n cause disable)).poolNote

/-- A QUEUE_FLUSH whose queues have all written their FLUSH records answers (12 R422). -/
def State.flushJobsDone (s : State) : State :=
  forEach s.lag.jobs (fun s j =>
    if j.queues.isEmpty && j.engs.isEmpty then
      (s.updLag (fun l => { l with jobs := l.jobs.erase j })).finish j.tk stOK (leBytes 4 j.whole ++ leBytes 4 j.part)
    else s) s

/-- Credit a finished flush to the jobs that wait for it. -/
def FlushJob.note (j : FlushJob) (n whole part : Nat) : FlushJob :=
  if j.queues.contains n then { j with queues := j.queues.erase n, whole := j.whole + whole, part := j.part + part } else j

/-- The FLUSH record of a flush is written from the kept units, unless an unread one has taken its counts (12 R404, R405). -/
def State.flushRecord (s : State) (n : Nat) (f : QFlush) : State :=
  if f.into then s
  else
    let (r, s) := s.number (flushRec n f.whole f.part f.held s.beacon f.cause)
    ((s.qPut n r).evt Reg.LAG_EVT 8).poolNote

/-- Step 5 of a flush: the FLUSH record is written and the queue returns to its state (12 R404). -/
def State.qFlushEnd (s : State) (n : Nat) : State :=
  match (s.queue n).flush with
  | none => s
  | some f =>
    let s := (s.flushRecord n f).updQueue n (fun q => { q with st := if f.disable then 0 else 1, flush := none })
    (s.updLag (fun l => { l with jobs := l.jobs.map (fun j => j.note n f.whole f.part) })).flushJobsDone

/-! ## Watermarks (12 R407, R408) -/

/-- `us` microseconds in TS48 LSB. -/
def usTs (us : Nat) : Nat := us * 1000 * 65536

/-- A running engine's progress (12 R407): the boundary of its Island's last commit, which starts the current period. -/
def State.engProgress (s : State) (e : Nat) : TS48 :=
  let x := s.island (e / 16)
  match x.phase with
  | .start | .pause _ => x.endTs
  | _ => x.startTs

/-- Engine `e` runs. -/
def State.engRuns (s : State) (e : Nat) : Bool := (s.engine e).st.runs

/-- A local route names channel `j` of its Island by one of the channel's indices (11 R370). -/
def Route.namesChan (e : Route) (j : Nat) : Bool :=
  (e.cls == 0 || e.cls == 0xFF) &&
    [0, 0x100, 0x200].any (fun b => decide (e.first ≤ b + 16 * e.port + j) && decide (b + 16 * e.port + j ≤ e.last))

/-- Running engine `k` takes channel `j` of its Island. -/
def State.engBinds (s : State) (k j : Nat) : Bool := s.engRuns k && (s.engine k).bind.testBit j

/-- Running engines that a local route names: those of class 1 in its range, and those that take a channel in its range. -/
def State.routeEngines (s : State) (e : Route) : List Nat :=
  (List.range 192).filter (fun k => k / 16 == e.port && s.engRuns k &&
    (((e.cls == 1 || e.cls == 0xFF) && decide (e.first ≤ k) && decide (k ≤ e.last)) ||
     (List.range 16).any (fun j => s.engBinds k j && e.namesChan j)))

/-- A local route has producers that beacons drive (12 R407): a channel that no running engine takes, Flint, Quartz, or the control port. -/
def State.beaconDriven (s : State) (e : Route) : Bool :=
  e.port == 12
    || (List.range 16).any (fun j => e.namesChan j && !((List.range 16).any (fun k => s.engBinds (16 * e.port + k) j)))
    || (e.cls != 0 && e.cls != 1 && e.mask &&& (2 ^ 12 + 2 ^ 13 + 2 ^ 18) != 0)

/-- The earlier of two times. -/
def tsMin (a b : TS48) : TS48 := if tsLt b a then b else a
def tsMax (a b : TS48) : TS48 := if tsLt a b then b else a

/-- The least of a list of times. -/
def tsLeast : List TS48 → Option TS48
  | [] => none
  | t :: l => match tsLeast l with | none => some t | some u => some (tsMin t u)

/-- The watermark of a queue (12 R407); `none` while a routed origin stream has sent none. -/
def State.qProgress (s : State) (n : Nat) : Option TS48 :=
  let q := s.queue n
  let rs := s.lag.routes.filter (fun e => e.q == n)
  let base := s.beacon - BitVec.ofNat 48 (usTs q.lagUs)
  if 13 ≤ q.port then
    if rs.all (fun e => q.wmIn.any (fun w => w.1 == e.first)) then
      tsLeast ((q.wmIn.filter (fun w => rs.any (fun e => e.first == w.1))).map Prod.snd)
    else none
  else
    let es := if q.port < 12 then (rs.flatMap (fun e => s.routeEngines e)).map s.engProgress else []
    let bs := if rs.any s.beaconDriven || es.isEmpty then [base] else []
    tsLeast (bs ++ es)

/-- Write the queue's watermark when it has advanced by hb_us, and at once when none has been written (12 R408). DESIGN CHOICE (log
entry 40) for the first. -/
def State.portWatermark (s : State) (n : Nat) : State :=
  let q := s.queue n
  if q.st ≠ 1 then s
  else
    match s.qProgress n with
    | none => s
    | some w => if q.wmSet = false ∨ (usTs q.hbUs : Int) ≤ tsDiff w q.wmLast then s.qWatermark n w else s

/-! ## The merge (12 R409 to R416) -/

/-- Store order (12 R411): TS48, then the input's place, then the order of reading. DEDUCED (log entry 41). -/
def MEnt.before (a b : MEnt) : Bool :=
  tsLt a.r.ts b.r.ts || (a.r.ts == b.r.ts && (decide (a.input < b.input) || (a.input == b.input && decide (a.order < b.order))))

def MEnt.insert (a : MEnt) : List MEnt → List MEnt
  | [] => [a]
  | b :: l => if a.before b then a :: b :: l else b :: MEnt.insert a l

/-- Release every store entry below R_s, in order (12 R411); `tick` is when they become ready. -/
def LStream.release (x : LStream) (tick : Nat) : LStream :=
  let go := x.store.filter (fun e => tsLt e.r.ts x.rel)
  { x with store := x.store.filter (fun e => !tsLt e.r.ts x.rel), out := x.out ++ go.map (fun e => { e with tick := tick }),
           dataSince := x.dataSince || !go.isEmpty }

/-- Every input is stalled. -/
def LStream.allStalled (x : LStream) : Bool := x.inputs.all (fun i => i.stalled)

/-- R_s follows the inputs that are not stalled (12 R411); when all are, the store is released and R_s follows it
(12 R414). -/
def LStream.advance (x : LStream) (tick : Nat) : LStream :=
  if x.allStalled then
    let top := x.store.foldl (fun t e => tsMax t e.r.ts) x.rel
    { x with store := [], out := x.out ++ x.store.map (fun e => { e with tick := tick }), rel := top,
             dataSince := x.dataSince || !x.store.isEmpty }
  else
    match tsLeast ((x.inputs.filter (fun i => !i.stalled)).map MInput.w) with
    | none => x
    | some w => ({ x with rel := tsMax x.rel w }).release tick

/-- The stream emits a WATERMARK when R_s has advanced by wm_out_us (12 R415). -/
def State.streamWm (s : State) (k : Nat) : State :=
  let x := s.stream k
  if (usTs x.wmOutUs : Int) ≤ tsDiff x.rel x.wmOut then
    let (r, s) := s.number (watermarkRec (0x2000 + k) x.rel (if x.dataSince then 0 else 1))
    s.updStream k (fun x => { x with out := x.out ++ [⟨r, 0xFF, 0, 0, s.now⟩], wmOut := x.rel, dataSince := false })
  else s

/-- Bring the stream up to date after a change of its inputs. -/
def State.merge (s : State) (k : Nat) : State := (s.updStream k (fun x => x.advance s.now)).streamWm k

/-- The first entry of a queue that its consumer has not read, when it is readable. -/
def State.qHead (s : State) (n : Nat) : Option QEnt :=
  match (s.queue n).ents.find? (fun e => !e.stored) with
  | some e => if e.ready then some e else none
  | none => none

/-- Remove an entry: egress has read its last byte. -/
def State.qRemove (s : State) (n pos : Nat) : State :=
  (s.updQueue n (fun q => { q with ents := q.ents.filter (fun e => e.pos != pos), headTick := s.now })).poolNote

/-- An entry has entered the merge store. -/
def State.qStore (s : State) (n pos : Nat) : State :=
  s.updQueue n (fun q => { q with ents := q.ents.map (fun e => if e.pos = pos then { e with stored := true } else e) })

/-- Inputs in rotation after the one read last (12 R410). -/
def LStream.rotation (x : LStream) : List Nat :=
  (List.range x.inputs.length).map (fun i => (x.rr + 1 + i) % x.inputs.length)

/-- The next input whose head can be read. -/
def State.nextInput (s : State) (k : Nat) : Option (Nat × Nat × QEnt) :=
  let x := s.stream k
  x.rotation.findSome? (fun i =>
    match x.inputs[i]? with
    | none => none
    | some m => match s.qHead m.q with | none => none | some e => some (i, m.q, e))

/-- A WATERMARK read from an input (12 R410). -/
def LStream.watermark (x : LStream) (i now : Nat) (w : TS48) : LStream :=
  { x with inputs := x.inputs.mapIdx (fun j m =>
      if j = i then { m with w := tsMax m.w w, lastTick := now, stalled := false } else m) }

/-- Put LATE on a record that is released below R_s (12 R412). -/
def Rec.late (r : Rec) : Rec := { r with flags := r.flags ||| fLATE }

/-- Release a record at once. -/
def LStream.pass (x : LStream) (e : MEnt) : LStream := { x with out := x.out ++ [e], dataSince := true }

/-- Add an entry to the store, in order. -/
def LStream.hold (x : LStream) (e : MEnt) : LStream := { x with store := MEnt.insert e x.store }

/-- A record read by a MERGED stream (12 R411, R412, R414). -/
def State.mergeRecord (s : State) (k i : Nat) (e : QEnt) : State :=
  let x := s.stream k
  let m : MEnt := ⟨e.r, i, x.order, e.pos, s.now⟩
  let s := s.updStream k (fun x => { x with order := x.order + 1 })
  if tsLt e.r.ts x.rel then
    let s := s.updStream k (fun x => x.pass { m with r := e.r.late })
    ((s.cnt Reg.LAG_LATE).cnt (Reg.LAG_S_LATE k)).evt Reg.LAG_EVT 32
  else if x.allStalled then s.updStream k (fun x => { x.pass m with rel := tsMax x.rel e.r.ts })
  else s.updStream k (fun x => x.hold m)

/-- An input has no whole free cell left within its quota, and all its records are in the store (12 R413). -/
def State.inputFull (s : State) (n : Nat) : Bool :=
  let q := s.queue n
  decide (q.quota ≤ q.occ) && q.ents.all (fun e => e.stored) && !q.ents.isEmpty

/-- The merge must force a release (12 R413). -/
def State.mustForce (s : State) (k : Nat) : Bool :=
  let x := s.stream k
  !x.store.isEmpty && (decide (x.sortMax ≤ x.store.length) || x.inputs.any (fun i => s.inputFull i.q))

/-- A forced release (12 R413). -/
def State.force (s : State) (k : Nat) : State :=
  match (s.stream k).store with
  | [] => s
  | e :: _ =>
    let s := s.updStream k (fun x => ({ x with rel := e.r.ts + 1 }).release s.now)
    (s.cnt Reg.LAG_FORCED).evt Reg.LAG_EVT 64

def State.forceIf (s : State) (k : Nat) : State := if s.mustForce k then s.force k else s

/-- The merge reads the next record of a stream (12 R410, R416). -/
def State.mergeRead (s : State) (k : Nat) : State :=
  let x := s.stream k
  if x.st = 0 then s
  else if x.prioMode then
    match (x.inputs.map MInput.q).find? (fun n => match s.qHead n with | some e => e.r.typ == tWATERMARK | none => false) with
    | none => s
    | some n => match s.qHead n with | some e => s.qRemove n e.pos | none => s
  else if x.sortMax ≤ x.store.length then s.forceIf k
  else
    match s.nextInput k with
    | none => s.forceIf k
    | some (i, n, e) =>
      let s := s.updStream k (fun x => { x with rr := i })
      if e.r.typ = tWATERMARK then ((s.qRemove n e.pos).updStream k (fun x => x.watermark i s.now e.r.ts)).merge k
      else ((((s.qStore n e.pos).mergeRecord k i e).merge k).forceIf k).streamWm k

/-- Inputs that have been silent for wm_timeout_ms stall (12 R410). -/
def LStream.stall (x : LStream) (now : Nat) : LStream :=
  { x with inputs := x.inputs.map (fun m => if m.lastTick + msTicks x.timeoutMs ≤ now then { m with stalled := true } else m) }

def State.mergeStall (s : State) (k : Nat) : State :=
  let x := s.stream k
  if x.st ≠ 0 ∧ !x.prioMode ∧ x.inputs.any (fun m => !m.stalled && decide (m.lastTick + msTicks x.timeoutMs ≤ s.now)) then
    (((s.updStream k (fun x => x.stall s.now))).evt Reg.LAG_EVT 128).merge k
  else s

/-! ## Egress (12 R417) -/

/-- A record ready at a stream: its queue (none for a WATERMARK that the merge made), the record and its effective priority. -/
structure Ready where
  q : Option Nat
  pos : Nat
  r : Rec
  prio : Nat
  deriving DecidableEq, Repr

/-- Priority after a wait (12 R417). -/
def LQueue.effPrio (q : LQueue) (wait : Nat) : Nat :=
  min 3 (q.prio + (if q.ageUs = 0 then 0 else wait / usTicks q.ageUs))

/-- The head record of a queue of a PRIORITY stream, with its effective priority. -/
def State.prioHead (s : State) (n : Nat) : Option Ready :=
  match s.qHead n with
  | none => none
  | some e =>
    if e.r.typ = tWATERMARK then none
    else some ⟨some n, e.pos, e.r, (s.queue n).effPrio (s.now - max (e.written + 5) (s.queue n).headTick)⟩

/-- The better of two ready records: the first among equals. -/
def Ready.best (a b : Option Ready) : Option Ready :=
  match a, b with
  | some x, some y => if x.prio < y.prio then b else a
  | some _, none => a
  | none, _ => b

/-- The highest priority among a stream's inputs: that of a WATERMARK which no queue held. -/
def State.topPrio (s : State) (x : LStream) : Nat := (x.inputs.map (fun m => (s.queue m.q).prio)).foldl max 0

/-- The record that a stream has ready (12 R417). -/
def State.streamReady (s : State) (k : Nat) : Option Ready :=
  let x := s.stream k
  if x.st = 0 then none
  else if x.prioMode then
    (x.rotation.map (fun i => match x.inputs[i]? with | some m => s.prioHead m.q | none => none)).foldl Ready.best none
  else
    match x.out with
    | [] => none
    | e :: _ =>
      match x.inputs[e.input]? with
      | none => some ⟨none, 0, e.r, s.topPrio x⟩
      | some m => some ⟨some m.q, e.pos, e.r, (s.queue m.q).effPrio (s.now - e.tick)⟩

/-- Take the ready record from its stream and queue, and count it. -/
def State.serve (s : State) (k : Nat) (e : Ready) : State :=
  let x := s.stream k
  let s := s.updStream k (fun x => if x.prioMode then
      { x with rr := (x.inputs.findIdx? (fun m => some m.q == e.q)).getD x.rr } else { x with out := x.out.tail })
  match e.q with
  | none => (s.perf_ 6 1 e.prio (16 * e.r.units)).meter (16 + e.prio) (16 * e.r.units)
  | some n =>
    ((s.qRemove n e.pos).perf_ 6 1 (s.queue n).prio (16 * e.r.units)).meter (16 + (s.queue n).prio) (16 * e.r.units)

/-! ## Streams (12 R423 to R425) -/

/-- Store entries granted to open streams (12 R424). -/
def Lagoon.storeUsed (l : Lagoon) : Nat := (l.streams.map (fun e => if e.2.st = 0 then 0 else e.2.sortMax)).sum

/-- A stream that closes has nothing more to release: its inputs are read, its store is empty and its records are served. -/
def State.streamDry (s : State) (k : Nat) : Bool :=
  let x := s.stream k
  x.out.isEmpty && x.store.isEmpty
    && x.inputs.all (fun m => (s.queue m.q).ents.all (fun e => x.prioMode && e.r.typ == tWATERMARK) && (s.queue m.q).flush.isNone)

/-- Release the whole store of a closing stream in TS48 order once its inputs are empty (12 R425). -/
def LStream.releaseAll (x : LStream) (tick : Nat) : LStream :=
  { x with store := [], out := x.out ++ x.store.map (fun e => { e with tick := tick }) }

/-- All entries of the inputs are in the store. -/
def State.inputsRead (s : State) (x : LStream) : Bool :=
  x.inputs.all (fun m => (s.queue m.q).ents.all (fun e => e.stored) && (s.queue m.q).flush.isNone)

/-- A closing stream whose inputs are read releases its store. -/
def State.closeRelease (s : State) (k : Nat) : State :=
  let x := s.stream k
  if x.st = 2 ∧ s.inputsRead x then s.updStream k (fun x => x.releaseAll s.now) else s

/-- A queue becomes DISABLED, or will be when the flush that it is in has ended. -/
def LQueue.disable (q : LQueue) : LQueue :=
  if q.st = 2 then { q with flush := q.flush.map (fun f => { f with disable := true }) } else { q with st := 0 }

/-- A stream becomes CLOSING (12 R425): its inputs become DISABLED, without DRAIN by a flush of cause 2. -/
def State.closeStream (s : State) (k : Nat) (drain : Bool) (tk : Option Ticket) : State :=
  let x := s.stream k
  let s := s.updStream k (fun x => { x with st := 2, close := some ⟨drain, tk⟩ })
  forEach (x.inputs.map MInput.q) (fun s n =>
    if drain then s.updQueue n LQueue.disable else s.qFlush n 2 true) s

end Sys2Proof.Machine
end

