-- ==== Sys2Proof/Machine/MemBase.lean ====
section
/-! DEFINITION. Poisoned bytes and the report of an uncorrectable read (17 R548 to R555). -/

namespace Sys2Proof.Machine

/-- Key of a byte: region code of 17 R548, unit (engine, bank n or triad member), byte offset in the unit. -/
def memKey (region unit off : Nat) : Nat := (region * 256 + unit) * 2 ^ 22 + off

/-- A byte is poisoned (17 R553), or its light code fails (17 R550). -/
def State.poisoned (s : State) (region unit off : Nat) : Bool := mget false s.mem.poison (memKey region unit off)

/-- The first poisoned byte of a range, as an offset in the unit. -/
def State.firstPoison (s : State) (region unit off len : Nat) : Option Nat :=
  (s.mem.poison.find? (fun e => decide (memKey region unit off ≤ e.1) && decide (e.1 < memKey region unit off + len))).map
    (fun e => e.1 % 2 ^ 22)

/-- A write of whole bytes clears their poison (17 R554). -/
def State.clearPoison (s : State) (region unit off len : Nat) : State :=
  s.updMem (fun m => { m with poison := m.poison.filter (fun e =>
    !(decide (memKey region unit off ≤ e.1) && decide (e.1 < memKey region unit off + len))) })

/-- MEMCTL_UE_LOC of a byte (17 R555, R568). -/
def ueLoc (region unit : Nat) (scrub : Bool) : Word := word (at_ 31 (b2n scrub) + at_ 24 region + at_ 16 unit)

/-- Count an uncorrectable read and record its first failing byte (17 R555). -/
def State.ueReport (s : State) (region unit off : Nat) (scrub : Bool) : State :=
  let ts := s.beacon.toNat
  let s := s.cnt Reg.MEMCTL_UE
  let s := s.rset Reg.MEMCTL_UE_LOC (ueLoc region unit scrub)
  let s := s.rset Reg.MEMCTL_UE_OFF (word off)
  let s := s.rset Reg.MEMCTL_UE_TS_LO (word ts)
  let s := s.rset Reg.MEMCTL_UE_TS_HI (word (ts / 2 ^ 32))
  let s := s.perf_ 9 1 region 1
  s.evt Reg.MEMCTL_EVT (if scrub then 6 else 2)

/-- A read of a range by a reader other than the Lagoon, the capture rings and the triad: whether it was uncorrectable,
and its report (17 R555). -/
def State.readCheck (s : State) (region unit off len : Nat) : Bool × State :=
  match s.firstPoison region unit off len with
  | none => (false, s)
  | some o => (true, s.ueReport region unit o false)

/-! ## Shared banks (01 R27, 17 R556) -/

/-- Bytes of bank `b` of Island `i` from offset `off` on. -/
def State.bankBytes (s : State) (i b off len : Nat) : List Byte := bytesAt (s.island i).shmem (0x40000 * b + off) len

/-- Write bytes to a shared bank, clearing their poison. -/
def State.bankWrite (s : State) (i b off : Nat) (l : List Byte) : State :=
  (s.updIsland i (fun x => { x with shmem := putBytes x.shmem (0x40000 * b + off) l })).clearPoison 2 (8 * i + b) off l.length

/-- A bank is held by an owner of the kind given (17 R577); one that is being handed over admits no access (17 R563). -/
def State.bankHeld (s : State) (n : Nat) (kinds : List Nat) : Bool := kinds.contains (s.bank n).owner && (s.bank n).hand.isNone

/-- A bank waits for power (17 R558): in RETENTION, WAKING, CLEARING or ENABLE_PENDING. -/
def Bank.waits (b : Bank) : Bool := b.st == 1 || b.st == 3 || b.st == 4 || b.st == 6
/-- A bank refuses accesses (17 R558): in SHUTDOWN or OFF. -/
def Bank.refuses (b : Bank) : Bool := b.st == 2 || b.st == 5

/-- An access to a bank in RETENTION wakes it (17 R557, R558). -/
def State.wakeBank (s : State) (n : Nat) : State :=
  if (s.bank n).st = 1 then
    s.updBank n (fun b => { b with st := 4, fromOff := false, entering := false, due := s.now + usTicks 2 })
  else s

end Sys2Proof.Machine
end

