-- ==== Sys2Proof/Machine/SlateOps.lean ====
section
/-! DEFINITION. Triggers of a Slate (21 R658 to R661). -/

namespace Sys2Proof.Machine

/-- Sources of a Slate as PERF_SNAP_STAT.src_last shows them: command, SNAP_IN, sequencer, period boundary. -/
def snCMD : Nat := 1
def snPIN : Nat := 2
def snFLINT : Nat := 4
def snPER : Nat := 8

/-- The Slate tick of a trigger accepted in tick `acc` (21 R659). -/
def State.slateTick (s : State) : Nat := s.qtz.alignUp 64 (s.now + 384)

/-- A trigger would be dropped (21 R661): one of an earlier tick is pending, or hold is set. -/
def State.slateBusy (s : State) (acc : Nat) : Bool :=
  s.rb Reg.PERF_SNAP_CTRL 31 || (match s.perf.slate with | some p => p.acc != acc | none => false)

def State.slateDrop (s : State) : State := (s.cnt Reg.PERF_SNAP_DROP).evt Reg.PERF_EVT 4

/-- Join a trigger to the Slate of its tick, or begin one. -/
def slateJoin (p : Option SlatePend) (src acc tick : Nat) (tks : List Ticket) : SlatePend :=
  match p with
  | none => ⟨tick, acc, src, tks, none⟩
  | some q => ⟨min q.tick tick, acc, q.src ||| src, q.tks ++ tks, none⟩

/-- A trigger of a Slate (21 R658). -/
def State.slateTrig (s : State) (src acc tick : Nat) (tks : List Ticket) : State :=
  if s.slateBusy acc then s.slateDrop
  else s.updPerf (fun p => { p with slate := some (slateJoin p.slate src acc tick tks) })

/-- Sequencer F`f` emitted a trigger. -/
def State.slateFlint (s : State) (f : Nat) : State :=
  if s.rb Reg.PERF_SNAP_CTRL 1 ∧ s.rf Reg.PERF_SNAP_CTRL 12 3 = f then s.slateTrig snFLINT s.now s.slateTick [] else s

/-- A period boundary of Island `i` at tick `b`: every n-th one triggers. -/
def State.slatePeriod (s : State) (i b : Nat) : State :=
  if s.rb Reg.PERF_SNAP_CTRL 2 ∧ min 11 (s.rf Reg.PERF_SNAP_CTRL 16 4) = i then
    if s.perf.perCount + 1 < s.rf Reg.PERF_SNAP_PER 0 16 then s.updPerf (fun p => { p with perCount := p.perCount + 1 })
    else (s.slateTrig snPER b b []).updPerf (fun p => { p with perCount := 0 })
  else s

end Sys2Proof.Machine
end

