-- ==== Sys2Proof/Machine/FlintOps.lean ====
section
/-! DEFINITION. The trigger sequencers: event lines, programs, transitions and triggers (08). -/

namespace Sys2Proof.Machine

/-! ## Event lines (08 R270 to R274) -/

def State.level (s : State) (l : Nat) : Level := mget (Level.resetOf l) s.fl.levels l

/-- An event of line `l` is shown in tick `t`. -/
def Flint.pulseAt (f : Flint) (l t : Nat) : Bool := f.events.any (fun e => e.c.line == l && e.tick == t)

/-- Lines of kind "pulse" (08 R270). -/
def isPulse (l : Nat) : Bool :=
  (decide (68 ≤ l) && decide (l < 148)) || (decide (180 ≤ l) && decide (l < 190)) || l == 191

/-- Value of a line in tick `t`, which is the current tick, the one before or the one after it. -/
def State.lineAt (s : State) (l t : Nat) : Bool :=
  if l = 255 then true
  else if isPulse l then s.fl.pulseAt l t
  else if 192 ≤ l then false
  else (s.level l).at_ t

/-- Add an event; events of ticks before the last are over. -/
def State.lineEvent (s : State) (c : Cand) (tick : Nat) : State :=
  s.updFl (fun f => { f with events := f.events.filter (fun e => decide (s.now ≤ e.tick + 1)) ++ [⟨c, tick⟩] })

/-- A pulse on a line in the current tick. -/
def State.linePulse (s : State) (l : Nat) (ts : TS48) (coarse : Bool) : State := s.lineEvent ⟨l, ts, coarse, none⟩ s.now

/-- A level line has changed in tick `tick` already: a second change brings back the value before, and the event goes. -/
def Level.back (v : Level) (tick : Nat) : Bool :=
  match v.chg with
  | (u, _) :: _ => u == tick
  | [] => false

/-- A level line takes a value, shown from tick `tick` on; a change is an event, whose time is the latest of those given. -/
def State.setLines (s : State) (l : Nat) (v : Bool) (cs : List Cand) (tick : Nat) : State :=
  if (s.level l).now = v then s
  else
    let back := (s.level l).back tick
    let s := s.updFl (fun f => { f with levels := mupd (Level.resetOf l) f.levels l (Level.change v tick) })
    if back then s.updFl (fun f => { f with events := f.events.filter (fun e => !(e.c.line == l && e.tick == tick)) })
    else forEach cs (fun s c => s.lineEvent { c with line := l } tick) s

def State.setLine (s : State) (l : Nat) (v : Bool) (c : Cand) (tick : Nat) : State := s.setLines l v [c] tick

/-- The fine time of a discriminator edge is known: every event that awaits it takes it (08 R283). -/
def Cand.resolve (c : Cand) (ch id : Nat) (ts : TS48) (coarse : Bool) : Cand :=
  if c.ref = some (ch, id) then { c with ts := ts, coarse := coarse, ref := none } else c

def Seqr.resolve (q : Seqr) (ch id : Nat) (ts : TS48) (coarse : Bool) : Seqr :=
  { q with entry := q.entry.map (fun c => c.resolve ch id ts coarse) }

def Flint.resolve (f : Flint) (ch id : Nat) (ts : TS48) (coarse : Bool) : Flint :=
  { f with
    events := f.events.map (fun e => { e with c := e.c.resolve ch id ts coarse })
    waits := f.waits.map (fun w => { w with cands := w.cands.map (fun c => c.resolve ch id ts coarse) })
    seqs := f.seqs.map (fun e => (e.1, e.2.resolve ch id ts coarse)) }

/-- The latest of several events (08 R282). -/
def latestOf : List Cand → Option Cand
  | [] => none
  | c :: l =>
    match latestOf l with
    | none => some c
    | some d => if tsLt c.ts d.ts then some d else some c

/-! ## The loaded image (08 R294, R296) -/

def State.img (s : State) (i : Nat) : Word := mget 0 s.fl.image i

/-- Write a section of the image from index `i` on. -/
def putWords (m : SMap Word) (i : Nat) : List Word → SMap Word
  | [] => m
  | w :: l => putWords (mput 0 m i w) (i + 1) l

/-- The 32-bit words of a byte string. -/
def wordsOf : Nat → List Byte → List Word
  | 0, _ => []
  | n + 1, l => word (fieldAt l 0 4) :: wordsOf n (l.drop 4)

/-- A slot of a program: state `st`, `j` 0 A or 1 B. -/
structure Slot where
  terms : List Nat
  table : Nat
  action : Word
  deriving DecidableEq, Repr

def State.slot (s : State) (f st j : Nat) : Slot :=
  let i := 136 * f + 2 * (4 + 4 * st + 2 * j)
  let a := s.img i
  let b := s.img (i + 1)
  ⟨[fld a 0 16, fld a 16 16, fld b 0 16, fld b 16 16], fld (s.img (i + 2)) 0 16, s.img (i + 3)⟩

def State.initState (s : State) (f : Nat) : Nat := fld (s.img (136 * f)) 16 8 % 16
def State.cntLoad (s : State) (f k : Nat) : Nat := (s.img (136 * f + 2 + k)).toNat
def State.tmrLoad (s : State) (f k : Nat) : Nat :=
  (s.img (136 * f + 4 + 2 * k)).toNat + fld (s.img (136 * f + 5 + 2 * k)) 0 16 * 2 ^ 32

/-- Group `g`: multiplicity, window and members (c for LO of channel c, 192 + c for HI). -/
def State.groupM (s : State) (g : Nat) : Nat := fld (s.img (1088 + 14 * g)) 16 16
def State.groupW (s : State) (g : Nat) : Nat := fld (s.img (1088 + 14 * g + 1)) 0 16
def State.inGroup (s : State) (g mem : Nat) : Bool := bit (s.img (1088 + 14 * g + 2 + mem / 32)) (mem % 32)
def State.groupMembers (s : State) (g : Nat) : List Nat := (List.range 384).filter (fun m => s.inGroup g m)
def State.groupLoaded (s : State) (g : Nat) : Bool := mget false s.fl.groupLoaded g

/-- Channels of set `k`. -/
def State.setChans (s : State) (k : Nat) : List Nat :=
  (List.range 192).filter (fun c => bit (s.img (1984 + 8 * k + 2 + c / 32)) (c % 32))

/-! ## Switch groups (08 R271, R272) -/

/-- Switch s of a member; a channel under characterisation holds its switches at 0 (06 R241). -/
def State.switchOf (s : State) (mem : Nat) : Bool :=
  (mget Disc.reset (s.chan (mem % 192)).td.discs (mem / 192)).s && (s.chan (mem % 192)).td.char.isNone

/-- Marks of group `g`. -/
def State.marksOf (s : State) (g : Nat) : List (Nat × Nat) := mget [] s.fl.marks g

/-- The value of a group's line. -/
def State.groupValue (s : State) (g : Nat) : Bool :=
  s.groupLoaded g &&
    (if s.groupW g = 0 then decide (s.groupM g ≤ ((s.groupMembers g).filter s.switchOf).length)
     else decide (s.groupM g ≤ (s.marksOf g).length))

/-- Take the group's value to its line; a rise carries the event given, a fall the tick. -/
def State.evalGroup (s : State) (g : Nat) (rise : Cand) : State :=
  let v := s.groupValue g
  s.setLine g v (if v then rise else ⟨g, s.tsNow, false, none⟩) s.now

/-- Mark a member (08 R271). -/
def State.markMember (s : State) (g mem : Nat) : State :=
  s.updFl (fun f => { f with
    marks := mupd [] f.marks g (fun l => l.filter (fun e => e.1 != mem) ++ [(mem, s.now + s.groupW g)]) })

/-- A switch of a discriminator has changed: its groups follow (08 R271). -/
def State.groupEdge (s : State) (mem : Nat) (lead : Bool) (rise : Cand) : State :=
  forEach ((List.range 64).filter (fun g => s.groupLoaded g && s.inGroup g mem)) (fun s g =>
    (if lead && s.groupW g != 0 then s.markMember g mem else s).evalGroup g rise) s

/-- Expired marks go, and their groups follow (08 R271). -/
def State.expireMarks (s : State) : State :=
  forEach (List.range 64) (fun s g =>
    if (s.marksOf g).any (fun e => decide (e.2 ≤ s.now)) then
      (s.updFl (fun f => { f with marks := mupd [] f.marks g (fun l => l.filter (fun e => decide (s.now < e.2))) })).evalGroup g
        ⟨g, s.tsNow, false, none⟩
    else s) s

/-! ## Conditions (08 R275) -/

/-- Value of a term. -/
def State.term (s : State) (t : Nat) : Bool :=
  let l := t % 256
  let v := s.lineAt l s.now
  let was := if s.now = 0 then v else s.lineAt l (s.now - 1)
  if t / 16384 = 0 then v else if t / 16384 = 1 then !v else if t / 16384 = 2 then v && !was else !v && was

/-- The index of the truth table that the terms give. -/
def State.termIndex (s : State) (c : Slot) : Nat :=
  c.terms.foldr (fun t i => b2n (s.term t) + 2 * i) 0

/-- The slot's condition holds in this tick. -/
def State.slotHolds (s : State) (c : Slot) : Bool := c.table.testBit (s.termIndex c)

/-- The slot whose action is taken: A before B (08 R276). -/
def State.firing (s : State) (f : Nat) : Option Slot :=
  let a := s.slot f (s.seqr f).state 0
  let b := s.slot f (s.seqr f).state 1
  if s.slotHolds a then some a else if s.slotHolds b then some b else none

/-- Events of this tick on the lines that a slot's terms name (08 R282). -/
def State.slotEvents (s : State) (c : Slot) : List Cand :=
  (s.fl.events.filter (fun e => e.tick == s.now && c.terms.any (fun t => t % 256 == e.c.line))).map LineEvt.c

/-- Lines that a slot refers to: those that its terms name, unless its condition never holds. DEDUCED (log entry 35). -/
def Slot.lines (c : Slot) : List Nat := if c.table = 0 then [] else c.terms.map (fun t => t % 256)

def State.slotsOf (s : State) (f : Nat) : List Slot := (List.range 32).map (fun i => s.slot f (i / 2) (i % 2))
def State.armedSeqs (s : State) : List Nat := (List.range 8).filter (fun f => (s.seqr f).armed)

/-- A ball follows the line of group `g` (08 R287). -/
def State.directGroup (s : State) (g : Nat) : Bool :=
  (List.range 4).any (fun n => s.rb (Reg.FLINT_TOUT n) 29 && s.rf (Reg.FLINT_TOUT n) 16 6 == g)

/-- An armed sequencer's program or a direct TRIG_OUT refers to group `g` (08 R272, R296). -/
def State.groupInUse (s : State) (g : Nat) : Bool :=
  s.directGroup g || s.armedSeqs.any (fun f => (s.slotsOf f).any (fun c => c.lines.contains g))

/-- Edges of a discriminator are timestamped for a group (08 R272). -/
def State.groupTimes (s : State) (mem : Nat) : Bool :=
  (List.range 64).any (fun g => s.groupLoaded g && s.inGroup g mem && s.groupInUse g)

/-- FLINT_AUTO in ticks (08 R284). -/
def State.autoTicks (s : State) (f : Nat) : Nat :=
  (s.rget (Reg.FLINT_AUTO_LO f)).toNat + s.rf (Reg.FLINT_AUTO_HI f) 0 16 * 2 ^ 32

/-- An armed sequencer can freeze channel set `k` (08 R296). -/
def State.setInUse (s : State) (k : Nat) : Bool :=
  s.armedSeqs.any (fun f =>
    (s.slotsOf f).any (fun c => c.table != 0 && bit c.action 27 && bit c.action 21 && fld c.action 17 4 == k)
    || (s.autoTicks f != 0 && s.rb (Reg.FLINT_AUTO_ACT f) 21 && s.rf (Reg.FLINT_AUTO_ACT f) 17 4 == k))

/-! ## Counters and timers (08 R278, R279) -/

/-- Lines of a sequencer's counters and timers from the next tick on: a counter's event has the time of the transition, a timer's that
of the tick (08 R270). -/
def State.seqLines (s : State) (f : Nat) (cs : List Cand) : State :=
  let q := s.seqr f
  let c : Cand := ⟨0xFF, s.tsNow, false, none⟩
  let s := s.setLines (148 + 4 * f) (decide (q.c0 = 0)) cs (s.now + 1)
  let s := s.setLines (148 + 4 * f + 1) (decide (q.c1 = 0)) cs (s.now + 1)
  let s := s.setLine (148 + 4 * f + 2) (decide (q.t0 = 0)) c (s.now + 1)
  s.setLine (148 + 4 * f + 3) (decide (q.t1 = 0)) c (s.now + 1)

/-- A counter operation: 1 INC, 2 DEC, 3 LOAD. -/
def cntOp (op v load : Nat) : Nat :=
  if op = 1 then satNat 0xFFFFFFFF (v + 1) else if op = 2 then v - 1 else if op = 3 then load else v

/-- A timer: value held while it is stopped, running, and the tick at whose end it reaches 0. -/
structure Tmr where
  v : Nat
  run : Bool
  fin : Nat
  deriving DecidableEq, Repr

/-- Value at the end of the tick before `now`; while it runs a value is not 0. The tick of an operation does not decrease it. -/
def Tmr.value (t : Tmr) (now : Nat) : Nat := if t.run then min t.v (t.fin + 1 - now) else t.v

/-- A timer operation in tick `now`: 1 START, 2 STOP, 3 RESUME. It replaces that tick's decrease. -/
def Tmr.op (t : Tmr) (op load now : Nat) : Tmr :=
  if op = 1 then ⟨load, decide (load ≠ 0), now + load⟩
  else if op = 2 then ⟨t.value now, false, 0⟩
  else if op = 3 then ⟨t.value now, decide (t.value now ≠ 0), now + t.value now⟩
  else t

def Seqr.tmr (q : Seqr) (k : Nat) : Tmr := if k = 0 then ⟨q.t0, q.t0run, q.t0end⟩ else ⟨q.t1, q.t1run, q.t1end⟩
def Seqr.setTmr (q : Seqr) (k : Nat) (t : Tmr) : Seqr :=
  if k = 0 then { q with t0 := t.v, t0run := t.run, t0end := t.fin } else { q with t1 := t.v, t1run := t.run, t1end := t.fin }

/-- The counters and timers after an action (08 R277 to R279). -/
def State.seqOps (s : State) (f : Nat) (a : Word) : State :=
  s.updSeqr f (fun q => (({ q with
    c0 := cntOp (fld a 13 2) q.c0 (s.cntLoad f 0), c1 := cntOp (fld a 15 2) q.c1 (s.cntLoad f 1) }).setTmr 0
      ((q.tmr 0).op (fld a 9 2) (s.tmrLoad f 0) s.now)).setTmr 1 ((q.tmr 1).op (fld a 11 2) (s.tmrLoad f 1) s.now))

/-! ## TRIG_OUT (08 R281, R287) -/

def State.tout (s : State) (n : Nat) : Tout := mget Tout.reset s.fl.touts n
def State.updTout (s : State) (n : Nat) (f : Tout → Tout) : State :=
  s.updFl (fun x => { x with touts := mupd Tout.reset x.touts n f })

/-- One operation on a ball: 1 PULSE, 2 SET, 3 CLEAR. PULSE and SET of a tick prevail over its CLEAR. -/
def Tout.op (t : Tout) (op width now : Nat) : Tout :=
  if op = 1 then { t with until_ := some (now + width), pulseAt := some now }
  else if op = 2 then { t with level := true, setAt := some now }
  else if op = 3 then
    if t.setAt = some now ∨ t.pulseAt = some now then t else { t with level := false }
  else t

/-- The TRIG_OUT fields of an action (08 R277, R281): a direct ball ignores them. -/
def State.toutAct (s : State) (a : Word) : State :=
  forEach (List.range 4) (fun s n =>
    if bit a (5 + n) && !s.rb (Reg.FLINT_TOUT n) 29 then
      s.updTout n (fun t => t.op (fld a 3 2) (max 8 (s.rf (Reg.FLINT_TOUT n) 0 16)) s.now)
    else s) s

/-- The end of a pulse: it ends a SET level that is not later than the pulse (08 R281). DEDUCED (log entry 35). -/
def Tout.pulseEnd (t : Tout) : Tout :=
  let later := match t.setAt, t.pulseAt with
    | some a, some b => decide (b ≤ a)
    | _, _ => false
  { t with until_ := none, level := t.level && later }

/-- The level of TRIG_OUT[n] (08 R286, R287). -/
def State.trigOut (s : State) (n : Nat) : Bool :=
  let r := s.rget (Reg.FLINT_TOUT n)
  let active := bit r 31 &&
    (if bit r 29 then s.lineAt (fld r 16 6) s.now else (s.tout n).level || (s.tout n).until_.isSome)
  active != bit r 30

/-! ## Triggers (08 R280 to R285) -/

/-- Count and announce a trigger of Ff; its record and freezes wait for its time (08 R280, R283). -/
def State.emitTrigger (s : State) (f cls left : Nat) (set : Option Nat) (send forced : Bool) (cands : List Cand) : State :=
  let num := ((s.seqr f).num + 1) % 2 ^ 32
  let hold := max 150 (s.rf (Reg.FLINT_HOLDOFF f) 0 24)
  let s := s.updSeqr f (fun q => { q with num := num, holdEnd := some (s.now + hold), autoBase := s.now })
  let s := (s.cnt (Reg.FLINT_TRIG_CNT f)).slateFlint f
  let s := s.updFl (fun x => { x with waits := x.waits ++ [⟨f, cls, left, set, num, send, forced, cands⟩] })
  forEach cands (fun s c => s.lineEvent { c with line := 180 + f } (s.now + 1)) s

/-- A hold-off of Ff runs: an emission in this tick is suppressed (08 R280). -/
def State.holding (s : State) (f : Nat) : Bool :=
  match (s.seqr f).holdEnd with
  | some t => decide (s.now < t)
  | none => false

/-- A suppressed emission (08 R280). -/
def State.suppress (s : State) (f : Nat) : State := (s.cnt (Reg.FLINT_SUPP_CNT f)).evt Reg.FLINT_EVT (2 ^ (8 + f))

/-- The set that an action freezes. -/
def freezeSet (a : Word) : Option Nat := if bit a 21 then some (fld a 17 4) else none

/-- The emission of an action, if any (08 R280). -/
def State.actEmit (s : State) (f left : Nat) (a : Word) (cands : List Cand) : State :=
  if !bit a 27 then s
  else if s.holding f then s.suppress f
  else (s.emitTrigger f (fld a 22 4) left (freezeSet a) (bit a 26) false cands).evt Reg.FLINT_EVT (2 ^ f)

/-- A TRIGGER message (15 R499). -/
def RcMsg.bytes (m : RcMsg) : List Byte :=
  leBytes 1 m.origin ++ leBytes 1 m.seq ++ leBytes 1 m.cls ++ leBytes 1 0 ++ leBytes 2 m.num ++ leBytes 2 0 ++ leBytes 6 m.ts.toNat

/-- Ports that carry remote triggers: active UP and DOWN (08 R289). -/
def State.trigPorts (s : State) : List Nat := s.portsWith (fun x => x.role == 1 || x.role == 3)

/-- Send a remote trigger on every such port but one. -/
def State.sendTrigger (s : State) (m : RcMsg) (but : Option Nat) : State :=
  forEach (s.trigPorts.filter (fun p => but != some p)) (fun s p => s.sendMsg p 1 0 m.bytes) s

/-- Re-send the remote trigger that completed a condition (08 R291). -/
def State.relay (s : State) (a : Word) (cands : List Cand) : State :=
  match latestOf cands with
  | some c =>
    if bit a 2 ∧ 68 ≤ c.line ∧ c.line < 84 then
      match mget none s.fl.rcMsg (c.line - 68) with
      | some m => s.sendTrigger m (some m.port)
      | none => s
    else s
  | none => s

/-- Disarm a sequencer: evaluation stops, a running timer runs on (08 R279, R297). -/
def Seqr.disarm (q : Seqr) : Seqr := { q with armed := false }

/-- The transition of a firing slot (08 R276, R277, R282). -/
def State.transition (s : State) (f : Nat) (c : Slot) : State :=
  let left := (s.seqr f).state
  let evs := s.slotEvents c
  let cands := if evs.isEmpty then (s.seqr f).entry.map (fun e => { e with line := 0xFF }) else evs
  let a := c.action
  let s := s.seqOps f a
  let s := s.actEmit f left a cands
  let s := s.toutAct a
  let s := s.relay a evs
  let s := s.updSeqr f (fun q => { q with prev := left, state := fld a 28 4, moved := s.now + 1, entry := cands })
  let s := s.seqLines f cands
  if bit a 1 then s.updSeqr f Seqr.disarm else s

/-- Arm a sequencer (08 R297). -/
def State.arm (s : State) (f : Nat) : State :=
  let c : Cand := ⟨0xFF, s.tsNow, false, none⟩
  let s := s.updSeqr f (fun q => { q with
    armed := true, state := s.initState f, c0 := s.cntLoad f 0, c1 := s.cntLoad f 1, t0 := s.tmrLoad f 0, t1 := s.tmrLoad f 1,
    t0run := false, t1run := false, holdEnd := none, autoBase := s.now, entry := [c], moved := s.now + 1 })
  s.seqLines f [c]

/-- Disarm a sequencer. -/
def State.disarm (s : State) (f : Nat) : State := s.updSeqr f Seqr.disarm

/-- A write to FLINT_CTRL (08 R294, R297). -/
def State.flintCtrl (s : State) (f : Nat) (d : Word) : State :=
  if bit d 0 && bit d 1 then s
  else if bit d 0 then (if (s.seqr f).loaded then s.arm f else s)
  else if bit d 1 then s.disarm f
  else s

/-- FLINT_TRIGIN.inv has changed: a ball that inverts changes its line (08 R273). -/
def State.trigIn (s : State) (k : Nat) : State :=
  let v := (mget false s.fl.trigRaw k) != s.rb Reg.FLINT_TRIGIN k
  s.setLine (64 + k) v ⟨64 + k, s.tsAt (-(3 + s.rf Reg.FLINT_TRIGIN 4 8 : Nat)), true, none⟩ s.now

/-- FLINT registers (08 R273, R284, R287, R294, R297). -/
def State.flintApply (s : State) (off : Nat) (w : Word) (lo : Option Word) : State :=
  let a := 0x30000 + off
  let w := match (pageRegs .flint).find? (fun d => d.covers off) with | some d => d.limited w | none => w
  if off = 0x004 then
    let old := s.rget a
    forEach ((List.range 4).filter (fun k => bit old k != bit w k)) (fun s k => s.trigIn k) (s.rset a w)
  else if 0x010 ≤ off ∧ off < 0x020 then s.rset a (setFld w 0 16 (max 8 (fld w 0 16)))
  else if 0x100 ≤ off ∧ off < 0x300 ∧ off % 0x40 = 0x04 then s.flintCtrl ((off - 0x100) / 0x40) w
  else if 0x100 ≤ off ∧ off < 0x300 ∧ off % 0x40 = 0x10 then
    let v := (lo.getD (s.rget (a - 4))).toNat + w.toNat * 2 ^ 32
    let v := if v = 0 then 0 else max 150 v
    (s.rset (a - 4) (word v)).rset a (word (v / 2 ^ 32))
  else s.rset a w

/-- A pending posted write of the page completes before a command of its master (03 R112). -/
def State.flintSettle (s : State) : State :=
  match mget none s.bus.posted 0x30000 with
  | none => s
  | some p => (s.updBus (fun b => { b with posted := mput none b.posted 0x30000 none })).flintApply (p.addr % 0x1000) p.value p.lo

/-- Freeze every channel of a set (08 R283). -/
def State.freezeChans (s : State) (set flint : Nat) (ts : TS48) (forced : Bool) : State :=
  s.updFl (fun x => { x with freezes := x.freezes ++ (s.setChans set).map (fun c => ⟨c, flint, ts, forced, s.now⟩) })

/-- The TRIGGER record of a local trigger (08 R292). -/
def State.triggerRec (s : State) (w : TrigWait) (c : Cand) : Rec :=
  mkRec tTRIGGER 2 w.f c.ts 0 ((if w.forced then xFORCED else 0) ||| (if c.coarse then xCOARSE else 0)) 2
    [(20, 1, w.cls), (21, 1, w.stateLeft), (22, 1, if w.forced then 0xFF else c.line), (23, 1, w.set.getD 0xFF),
     (24, 4, w.num), (28, 1, s.link.dev.id), (29, 1, w.f), (30, 1, b2n w.send)]

/-- The time of a trigger is complete (08 R283). -/
def State.completeTrigger (s : State) (w : TrigWait) : State :=
  let s := s.updFl (fun x => { x with waits := x.waits.erase w })
  match latestOf w.cands with
  | none => s
  | some c =>
    let s := s.rset (Reg.FLINT_LAST_TS w.f) (word c.ts.toNat)
    let s := s.toMark (s.triggerRec w c)
    let s := match w.set with
      | some k => s.freezeChans k w.f c.ts w.forced
      | none => s
    if w.send then s.sendTrigger ⟨s.link.dev.id, w.f, w.cls, w.num % 65536, c.ts, 0xFF⟩ none else s

/-! ## Remote triggers (08 R288 to R291) -/

/-- The message that a payload spells. -/
def RcMsg.ofBytes (l : List Byte) (port : Nat) : RcMsg :=
  ⟨fieldAt l 0 1, fieldAt l 1 1, fieldAt l 2 1 % 16, fieldAt l 4 2, BitVec.ofNat 48 (fieldAt l 8 6), port⟩

/-- Its origin is this device, or it is one of the last 64 delivered (08 R290). -/
def State.rcDup (s : State) (m : RcMsg) : Bool :=
  m.origin == s.link.dev.id || s.fl.rcSeen.contains (m.origin, m.seq, m.num)

/-- Queue a received message for its class (08 R290). -/
def State.queueRc (s : State) (m : RcMsg) : State :=
  if 8 ≤ (mget [] s.fl.rcq m.cls).length then s.cnt Reg.FLINT_RC_OVF
  else s.updFl (fun x => { x with rcq := mupd [] x.rcq m.cls (· ++ [m]) })

/-- A remote trigger arrives on a port (08 R289, R290). -/
def State.takeRc (s : State) (m : RcMsg) : State :=
  if s.rcDup m || (mget [] s.fl.rcq m.cls).any (fun x => x.origin == m.origin && x.seq == m.seq && x.num == m.num) then
    s.cnt Reg.FLINT_RC_DUP
  else
    let s := s.queueRc m
    if s.rb (Reg.FLINT_RC m.cls) 31 then s.sendTrigger m (some m.port) else s

/-- Deliver a remote trigger to Flint (08 R290, R292). -/
def State.deliverRc (s : State) (m : RcMsg) : State :=
  let r := s.rget (Reg.FLINT_RC m.cls)
  let s := s.updFl (fun x => { x with
    rcq := mupd [] x.rcq m.cls List.tail, rcLast := mput 0 x.rcLast m.cls (s.now + 1),
    rcSeen := ((m.origin, m.seq, m.num) :: x.rcSeen).take 64, rcMsg := mput none x.rcMsg m.cls (some m) })
  let s := s.linePulse (68 + m.cls) m.ts false
  let s := if bit r 29 then s.freezeChans (fld r 16 4) (fld r 24 3) m.ts false else s
  if bit r 30 then
    s.toMark (mkRec tTRIGGER 2 (0x100 + m.cls) m.ts 0 xREMOTE 2
      [(20, 1, m.cls), (21, 1, 0xF), (22, 1, 0xFF), (23, 1, if bit r 29 then fld r 16 4 else 0xFF), (24, 4, m.num),
       (28, 1, m.origin), (29, 1, m.seq)])
  else s

end Sys2Proof.Machine
end

