-- ==== Sys2Proof/Machine/ChanOps.lean ====
section
/-! DEFINITION. What every part of a channel uses: spans of ticks, settling windows (04 R126 to R130), flags of results (04
R122, R145), the input in effect (04 R123 to R125) and the items a channel gives out (01 R22). -/

namespace Sys2Proof.Machine

/-! ## Spans -/

/-- Tick `t` lies in the span. -/
def Span.has (x : Span) (t : Nat) : Bool :=
  decide (x.a ≤ t) && (match x.b with | none => true | some b => decide (t < b))

/-- The span holds one of the ticks `lo` to `hi`. -/
def Span.meets (x : Span) (lo hi : Nat) : Bool :=
  decide (x.a ≤ hi) && (match x.b with | none => true | some b => decide (lo < b) && decide (x.a < b))

/-- The span ends at `t` when it has not ended. -/
def Span.close (t : Nat) (x : Span) : Span := if x.b.isNone then { x with b := some t } else x

/-! ## Parts of a channel -/

def Chan.front (f : Front → Front) (x : Chan) : Chan := { x with fe := f x.fe }
def Chan.conv (f : Conv → Conv) (x : Chan) : Chan := { x with cv := f x.cv }
def Chan.tdc (f : Tdc → Tdc) (x : Chan) : Chan := { x with td := f x.td }
def Chan.capt (f : Cap → Cap) (x : Chan) : Chan := { x with cap := f x.cap }
def State.updFe (s : State) (c : Nat) (f : Front → Front) : State := s.updChan c (Chan.front f)
def State.updCv (s : State) (c : Nat) (f : Conv → Conv) : State := s.updChan c (Chan.conv f)
def State.updTd (s : State) (c : Nat) (f : Tdc → Tdc) : State := s.updChan c (Chan.tdc f)
def State.updCap (s : State) (c : Nat) (f : Cap → Cap) : State := s.updChan c (Chan.capt f)
def State.fe (s : State) (c : Nat) : Front := (s.chan c).fe
def State.cv (s : State) (c : Nat) : Conv := (s.chan c).cv
def State.td (s : State) (c : Nat) : Tdc := (s.chan c).td
def State.capc (s : State) (c : Nat) : Cap := (s.chan c).cap

/-- What CH_LAST and CH_READ report (05 R173). -/
def State.lastOf (s : State) (c : Nat) : Last := if s.rb (Reg.CH_CONV c) 20 then (s.cv c).lastSlow else (s.cv c).last

/-- Convergence restarts from the stored start-up weights (05 R184). -/
def State.bgRestart (s : State) (c : Nat) : State :=
  s.updCv c (fun v => { v with converged := false, bgQuiet := 0, weights := List.replicate 15 0 })

/-! ## Events of CH_EVT (04 R153, 05 R185, 06 R237, 07 R266) -/

def evEXC_SHORT : Nat := 0x1
def evOPEN_WIRE : Nat := 0x2
def evCLAMP : Nat := 0x4
def evREVERSED : Nat := 0x8
def evEXC_OPEN : Nat := 0x10
def evSETTLE : Nat := 0x20
def evSUSPECT : Nat := 0x40
def evEXC_FAULT : Nat := 0x80
def evENABLE_PEND : Nat := 0x100
def evGOV : Nat := 0x200
def evBAD_CFG : Nat := 0x400
def evVW_FAIL : Nat := 0x800
def evOVERLAP : Nat := 0x1000
def evSAT : Nat := 0x2000
def evCAL_FAIL : Nat := 0x4000
def evBGCAL : Nat := 0x8000
def evMICA_FAULT : Nat := 0x10000
def evMICA_MISS : Nat := 0x20000
def evRUNT : Nat := 0x40000
def evIVL_OVF : Nat := 0x80000
def evEXPORT_STOP : Nat := 0x100000
def evTRUNCATED : Nat := 0x200000
def evTOO_LATE : Nat := 0x400000
def evMISSED : Nat := 0x800000

def State.chEvt (s : State) (c flags : Nat) : State := s.evt (Reg.CH_EVT c) flags

/-! ## Flags of results (04 R122, R129, R144, R145) -/

/-- A settling window runs at tick `t`. DEDUCED (log entry 28). -/
def Front.inWindow (f : Front) (t : Nat) : Bool := f.settles.any (fun x => x.has t)

def Front.opens (f : Front) : List Span := f.excOpens ++ f.wireOpens

/-- A break was detected in one of the ticks `lo` to `hi` (04 R145). -/
def Front.spansBreak (f : Front) (lo hi : Nat) : Bool := f.opens.any (fun x => decide (lo ≤ x.a) && decide (x.a ≤ hi))

/-- CLAMPED, and SUSPECT for a short, of samples or edges in ticks `lo` to `hi` (04 R122, R144). -/
def Front.edgeFlags (f : Front) (lo hi : Nat) : Nat :=
  (if f.clamps.any (fun x => x.meets lo hi) then fCLAMPED else 0) ||| (if f.shorts.any (fun x => x.meets lo hi) then fSUSPECT else 0)

/-- SUSPECT and OPEN that breaks give a result whose first and last contributing samples lie in ticks `lo` and `hi` (04 R145). -/
def Front.breakFlags (f : Front) (lo hi : Nat) : Nat :=
  (if f.spansBreak lo hi then fSUSPECT else 0) ||| (if f.opens.any (fun x => decide (x.a < lo) && x.has lo) then fOPEN else 0)

/-- CLAMPED, SUSPECT and OPEN of a result whose contributing samples lie in ticks `lo` to `hi`. -/
def Front.flagsOf (f : Front) (lo hi : Nat) : Nat := f.edgeFlags lo hi ||| f.breakFlags lo hi

/-- The flags of a sample without OPEN, which a result takes from its first sample alone (04 R145). -/
def noOpen (fl : Nat) : Nat := fl &&& (255 - fOPEN)

/-- The excitation open clears when the first 1 µs of the pulse, or the first 21 µs of a drive, were normal and have passed by tick `now`
(04 R144). -/
def Front.judgeOpen (f : Front) (now : Nat) : Front :=
  let n := if f.mode = 2 then 31500 else 1500
  let t := match f.pulseStop with | some e => min e (f.pulseStart + n) | none => f.pulseStart + n
  let old := match f.openAt with | some a => decide (a < f.pulseStart) | none => false
  if f.excOpen && old && decide (t ≤ now) && decide (f.pulseStart < t) then
    { f with excOpen := false, excOpens := f.excOpens.map (Span.close t) }
  else f

/-- A conversion run is in progress (04 R135). -/
def Front.inRun (f : Front) (now : Nat) : Bool :=
  f.runs.any (fun r => match r.stop with | none => true | some e => decide (now < e))

/-! ## Settling (04 R126 to R129) -/

/-- L, the length of the decimation chain's impulse response (05 R177); 0 when decimation is off. -/
def ConvSet.len (x : ConvSet) : Nat := if x.decEn then 68 * 2 ^ (x.k - 1) - 4 else 0

/-- Ticks of a settling window (04 R127). -/
def State.settleLen (s : State) (c : Nat) : Nat :=
  (s.cv c).set.div * (s.rf (Reg.CH_SETTLE c) 0 16 + (s.cv c).set.len)

/-- The window lasts `len` ticks from the current one. A window that runs goes on to the later end (04 R128). -/
def Front.addWindow (f : Front) (now len : Nat) : Front :=
  if len = 0 then f else { f with settles := f.settles ++ [⟨now, some (now + len)⟩], settling := true }

/-- A window holds the last valid values (04 R129). -/
def Conv.hold (v : Conv) (held : Bool) : Conv :=
  { v with last := { v.last with stale := v.last.stale || held }, lastSlow := { v.lastSlow with stale := v.lastSlow.stale || held } }

def State.startWindow (s : State) (c len : Nat) : State :=
  let running := (s.fe c).inWindow s.now
  let s := s.updFe c (fun f => f.addWindow s.now len)
  if running then s
  else
    (s.updCv c (fun v => { v with marks := v.marks ++ [s.now] }.hold (len != 0))).chEvt c evSETTLE

/-- A settling window of the channel's own length starts (04 R126, R127). -/
def State.settle (s : State) (c : Nat) : State := s.startWindow c (s.settleLen c)

/-- A calibration or characterisation begins its window, which lasts until the restore (05 R191, 06 R241). -/
def State.openWindow (s : State) (c : Nat) : State :=
  let running := (s.fe c).inWindow s.now
  let s := s.updFe c (fun f => { f with settles := f.settles ++ [⟨s.now, none⟩], settling := true })
  let s := s.updCv c (fun v => { v with marks := v.marks ++ [s.now] }.hold true)
  if running then s else s.chEvt c evSETTLE

def State.closeWindow (s : State) (c : Nat) : State :=
  s.updFe c (fun f => { f with settles := f.settles.map (Span.close s.now) })

/-! ## The input in effect (04 R123 to R125, 05 R168) -/

/-- The correction word in use (05 R168). -/
def State.corrNow (s : State) (c : Nat) : Word := s.rget (Reg.CH_CORR c (s.fe c).gain)

/-- Samples before the current tick keep the correction word in use (05 R168, R169). -/
def State.noteCorr (s : State) (c : Nat) : State :=
  s.updCv c (fun v => { v with corrs := v.corrs ++ [(s.now, s.corrNow c)] })

/-- Source TEST_PULSE takes effect, or its settings change: repetitions count from the current tick (06 R230). -/
def State.restartTp (s : State) (c : Nat) : State := s.updTd c (fun t => { t with tp0 := s.now, tpM := 0, tpLast := none })

/-- Put a source, partner and gain into effect, without a window. -/
def State.switchInput (s : State) (c src partner gain : Nat) : State :=
  let old := (s.fe c).src
  let s := if (s.fe c).gain = gain then s else s.noteCorr c
  let s := s.updFe c (fun f => { f with src := src, partner := partner, gain := gain })
  if src = 7 ∧ old ≠ 7 then s.restartTp c else s

/-- A source, partner or gain takes effect; a change starts a settling window (04 R126). -/
def State.setInput (s : State) (c src partner gain : Nat) : State :=
  let f := s.fe c
  if f.src = src ∧ f.partner = partner ∧ f.gain = gain then s else (s.switchInput c src partner gain).settle c

/-- Source, partner and gain as the registers hold them. -/
def State.regInput (s : State) (c : Nat) : Nat × Nat × Nat :=
  (s.rf (Reg.CH_MUX c) 0 4, s.rf (Reg.CH_MUX c) 8 2, s.rf (Reg.CH_GAIN c) 0 3)

/-- The channel is under CH_CALIBRATE or TDC_CHARACTERISE, which hold its input (05 R191, 06 R241). -/
def Chan.held (x : Chan) : Bool := x.cv.cal.isSome || x.td.char.isSome

/-- A write of CH_MUX or CH_GAIN takes effect, unless a calibration holds the input. It ends an open-test step without a
result. -/
def State.applyInput (s : State) (c : Nat) : State :=
  if (s.chan c).held then s
  else
    let i := s.regInput c
    if i.1 = (s.fe c).src ∧ i.2.1 = (s.fe c).partner ∧ i.2.2 = (s.fe c).gain then s
    else if (s.fe c).testEnd.isSome ∧ (s.fe c).testPrev = i.1 ∧ (s.fe c).partner = i.2.1 ∧ (s.fe c).gain = i.2.2 then s
    else (s.updFe c (fun f => { f with testEnd := none })).setInput c i.1 i.2.1 i.2.2

/-- The registers' input comes back after a calibration, with a settling window (05 R191, 06 R241). -/
def State.restoreInput (s : State) (c : Nat) : State :=
  let i := s.regInput c
  ((s.closeWindow c).switchInput c i.1 i.2.1 i.2.2).settle c

/-! ## Items (01 R22, R23) -/

/-- An event item of channel `c` (01 R23). -/
def State.evItem (s : State) (c words : Nat) (r : Rec) : State :=
  s.updIsland (c / 16) (fun x => { x with evq := x.evq ++ [⟨c, 0, words, r.ts, s.now, [r], [], 0, none⟩] })

/-- The consumers that a live item's records and segments name (01 R22). -/
def liveMask (recs : List Rec) (part : List (Nat × Nat)) : Nat :=
  let has := fun (t : Nat) => recs.any (fun r => r.typ == t) || part.any (fun k => k.1 == t)
  mkRAW * b2n (has tSAMPLES) + mkWINDOW * b2n (has tWINDOW)

/-- A live item of the sample class. -/
def State.smItem (s : State) (c words : Nat) (ts : TS48) (recs : List Rec) (part : List (Nat × Nat)) : State :=
  s.updIsland (c / 16) (fun x => { x with smq := x.smq ++ [⟨c, 1, words, ts, s.now, recs, part, liveMask recs part, none⟩] })

/-- A read-out item, or a spill item for queue `q`, which its builder gives out at tick `t` (01 R25). -/
def State.roItem (s : State) (c words : Nat) (ts : TS48) (t : Nat) (recs : List Rec) (part : List (Nat × Nat)) (q : Option Nat) : State :=
  s.updIsland (c / 16) (fun x => { x with
    roq := x.roq ++ [⟨c, 2, words, ts, t, recs, part, if q.isSome then mkSPILL else mkREADOUT, q⟩] })

/-- The tick from which the read-out port of channel `c` is free: its last item has been given out (01 R25). -/
def State.roFree (s : State) (c : Nat) : Nat :=
  ((s.island (c / 16)).roq.filter (fun it => it.ch == c)).foldl (fun t it => max t it.tick) s.now

/-- Read-out and spill items of channel `c` that have not entered the Strait. -/
def State.roWaits (s : State) (c : Nat) : Bool := (s.island (c / 16)).roq.any (fun it => it.ch == c)

/-- Count a SUSPECT result of R145 (04 R145). -/
def State.noteSuspect (s : State) (c lo hi : Nat) : State :=
  if (s.fe c).spansBreak lo hi then s.chEvt c evSUSPECT else s

end Sys2Proof.Machine
end

