-- ==== Sys2Proof/Machine/TdcOps.lean ====
section
/-! DEFINITION. Time measurement: discriminator edges, their qualification and interpolation, hits and pulses, the frequency and
interval units (06). -/

namespace Sys2Proof.Machine

/-! ## Settings in effect -/

def Tdc.disc (t : Tdc) (d : Nat) : Disc := mget Disc.reset t.discs d
def Tdc.updDisc (d : Nat) (f : Disc → Disc) (t : Tdc) : Tdc := { t with discs := mupd Disc.reset t.discs d f }
def Tdc.mica (t : Tdc) (i : Nat) : Mica := mget Mica.reset t.micas i
def Tdc.updMica (i : Nat) (f : Mica → Mica) (t : Tdc) : Tdc := { t with micas := mupd Mica.reset t.micas i f }

/-- The channel is in VW mode (04 R141, 06 R225). -/
def Front.vwOn (f : Front) : Bool := f.mode == 2 && f.exc != .off && f.exc != .fault

def State.charOn (s : State) (c : Nat) : Bool := (s.td c).char.isSome

/-- Discriminator `d` produces edges (06 R204); the listen gate and a characterisation use theirs whatever en holds. -/
def State.discEn (s : State) (c d : Nat) : Bool :=
  !s.retired && (s.rb (Reg.CH_DISC c d) 31 || (d == 0 && (s.fe c).vwOn) || s.charOn c)

/-- presc_k in effect (06 R222, R241). -/
def State.prescK (s : State) (c d : Nat) : Nat := if s.charOn c then 0 else s.rf (Reg.CH_DISC c d) 24 4

/-- rec in effect for a leading edge (06 R206, R222, R241). -/
def State.recMode (s : State) (c d : Nat) : Nat :=
  if s.charOn c ∨ s.prescK c d ≠ 0 then 0 else s.rf (Reg.CH_DISC c d) 28 2

/-- The direction of pol is downward (06 R203, R241). -/
def State.polNeg (s : State) (c d : Nat) : Bool := s.rb (Reg.CH_DISC c d) 30 && !(s.charOn c)

/-! ## The interval units (06 R226 to R229) -/

/-- Units in use. -/
def State.ivlUnits (s : State) : List Nat := (s.ch.filter (fun e => e.2.td.ivl.on)).map Prod.fst

/-- An edge of discriminator `d` of channel `c` is a start edge of unit `u`. -/
def State.isStart (s : State) (u c d : Nat) (lead : Bool) : Bool :=
  u == c && s.rf (Reg.CH_IVL_CTRL u) 29 1 == d && s.rb (Reg.CH_IVL_CTRL u) 28 != lead

/-- It is a stop edge of unit `u`. -/
def State.isStop (s : State) (u c d : Nat) (lead : Bool) : Bool :=
  s.rf (Reg.CH_IVL_CTRL u) 16 8 == c && s.rf (Reg.CH_IVL_CTRL u) 27 1 == d && s.rb (Reg.CH_IVL_CTRL u) 26 != lead

/-- L_f in TS48 LSB (06 R216). -/
def State.lsbF (s : State) : Int := ((s.qtz.inc.toNat + 2 ^ 25) / 2 ^ 26 : Nat)

/-- Value and extended flags of an interval (06 R229). -/
def ivlValue (v lsb : Int) (overflow : Bool) : Int × Nat :=
  if overflow then (0x7FFFFFFFFFFF, xOVERFLOW)
  else if v < lsb ∧ -lsb < v then (0, if v < 0 then xORDER else 0)
  else (v, if v < 0 then xORDER else 0)

/-- First and last tick of an interval's edges. -/
def ivlSpan (a b : FEdge) : Nat × Nat := (min a.tick b.tick, max a.tick b.tick)

/-- Breaks of the start and the stop channel mark an interval (04 R145). -/
def State.ivlBreaks (s : State) (u : Nat) (a b : FEdge) : Nat :=
  let r := ivlSpan a b
  (s.fe u).breakFlags r.1 r.2 ||| (s.fe (s.rf (Reg.CH_IVL_CTRL u) 16 8)).breakFlags r.1 r.2

/-- The INTERVAL record of unit `u` (11 R382). -/
def State.ivlRec (s : State) (u : Nat) (a b : FEdge) (overflow : Bool) : Rec :=
  let r := ivlValue (tsDiff b.ts a.ts) s.lsbF overflow
  let w := s.rget (Reg.CH_IVL_CTRL u)
  mkRec tINTERVAL 0 u a.ts (a.flags ||| b.flags ||| s.ivlBreaks u a b) (r.2 ||| (if a.coarse || b.coarse then xCOARSE else 0)) 2
    [(20, 1, fld w 16 8), (21, 1, fld w 29 1 + 2 * fld w 28 1 + 4 * fld w 27 1 + 8 * fld w 26 1 + 16 * fld w 30 1),
     sfield 24 6 r.1]

def State.updIvl (s : State) (u : Nat) (f : IvlU → IvlU) : State := s.updTd u (fun t => { t with ivl := f t.ivl })
def State.noStop (s : State) (u n : Nat) : State := s.cntN (Reg.CH_IVL_NOSTOP u) n

/-- Emit an interval, unless the unit's channel is characterised (06 R241). -/
def State.ivlEmit (s : State) (u : Nat) (a b : FEdge) (overflow : Bool) : State :=
  if s.charOn u then s
  else
    let r := ivlSpan a b
    ((s.evItem u 1 (s.ivlRec u a b overflow)).noteSuspect u r.1 r.2).noteSuspect (s.rf (Reg.CH_IVL_CTRL u) 16 8) r.1 r.2

/-- Ticks of 2^31 ns (06 R229). -/
def ivlMax : Nat := 3221225472

/-- The armed start is marked as overflown; the event comes once (06 R229). -/
def State.ivlMark (s : State) (u : Nat) : State :=
  if (s.td u).ivl.overflow then s else (s.updIvl u (fun i => { i with overflow := true })).chEvt u evIVL_OVF

/-- A stop edge comes to unit `u` (06 R227, R228). -/
def State.ivlStop (s : State) (u : Nat) (b : FEdge) : State :=
  let i := (s.td u).ivl
  let s := s.updIvl u (fun i => { i with stops := (i.stops ++ [b]).drop (i.stops.length + 1 - 8) })
  match i.armed with
  | none => s
  | some a =>
    let s := if a.tick + ivlMax < b.tick then s.ivlMark u else s
    let late := decide (a.tick + ivlMax < b.tick)
    if late || decide ((s.rf (Reg.CH_IVL_WIN u) 0 16 * 65536 : Nat) ≤ tsDiff b.ts a.ts) then
      (s.ivlEmit u a b late).updIvl u (fun i => { i with armed := none, overflow := false })
    else s

/-- A start edge comes to unit `u` (06 R227, R228). -/
def State.ivlStart (s : State) (u : Nat) (a : FEdge) : State :=
  if s.rb (Reg.CH_IVL_CTRL u) 30 then
    let l := (s.td u).ivl.starts ++ [a]
    (s.updIvl u (fun i => { i with starts := l.drop (l.length - 4) })).noStop u (l.length - 4)
  else
    (if (s.td u).ivl.armed.isSome then s.noStop u 1 else s).updIvl u (fun i => { i with armed := some a, overflow := false })

/-- Edges of a discriminator with a divider reach the units only when passed, and its trailing edges never (06 R222, R226). -/
def Edge.toUnits (e : Edge) (k : Nat) : Bool := if e.lead then e.pass else k == 0

/-- Edges of channel `c` on their way to the units. -/
def State.unitEdges (s : State) (c : Nat) : List Edge :=
  (s.td c).edges.filter (fun e => e.timed && !e.dropped && !e.char && e.toUnits (s.prescK c e.disc))

/-- Start edges of the configuration `w` that are still being timed. -/
def State.startsTimed (s : State) (c : Nat) (w : Word) : List Nat :=
  ((s.unitEdges c).filter (fun e => fld w 29 1 == e.disc && bit w 28 != e.lead)).map Edge.id

/-- Waiting starts are dropped and counted; those of configuration `old` still being timed are counted as they come (06 R244, 03 R113).
The unit follows its register. -/
def State.ivlRestart (s : State) (c : Nat) (old : Word) : State :=
  let i := (s.td c).ivl
  let s := s.noStop c (i.starts.length + (if i.armed.isSome then 1 else 0))
  let l := if i.on then i.old ++ ((s.startsTimed c old).filter (fun x => !(i.old.contains x))) else i.old
  s.updIvl c (fun _ => { IvlU.reset with on := s.rb (Reg.CH_IVL_CTRL c) 31, since := s.now, old := l })

/-- The stop nearest to a start within ±win; at equal distance the later one (06 R228). DEDUCED (log entry 33). -/
def nearest (a : FEdge) (win : Int) (own : Bool) : List FEdge → Option FEdge
  | [] => none
  | b :: l =>
    let r := nearest a win own l
    let d := (tsDiff b.ts a.ts).natAbs
    if decide (win < d) || (own && b.id == a.id) then r
    else
      match r with
      | none => some b
      | some x =>
        let dx := (tsDiff x.ts a.ts).natAbs
        if d < dx ∨ (d = dx ∧ tsLt x.ts b.ts) then some b else some x

/-- Tick at which a NEAREST start is decided: win after it, and the time an edge takes to be timed. -/
def State.decideAt (s : State) (c : Nat) (a : FEdge) : Nat := a.tick + ceilDiv (s.rf (Reg.CH_IVL_WIN c) 16 16 * 3) 2 + 14

/-- The oldest waiting start is decided (06 R228). -/
def State.ivlDecide (s : State) (c : Nat) : State :=
  match (s.td c).ivl.starts with
  | [] => s
  | a :: rest =>
    if s.decideAt c a ≤ s.now then
      let s := s.updIvl c (fun i => { i with starts := rest })
      match nearest a (s.rf (Reg.CH_IVL_WIN c) 16 16 * 65536 : Nat) (s.rf (Reg.CH_IVL_CTRL c) 16 8 == c) (s.td c).ivl.stops with
      | some b => s.ivlEmit c a b false
      | none => s.noStop c 1
    else s

/-- A stop edge within 2^31 ns of the start is still being timed. -/
def State.stopTimed (s : State) (u : Nat) (a : FEdge) : Bool :=
  let c := s.rf (Reg.CH_IVL_CTRL u) 16 8
  (s.unitEdges c).any (fun e => s.isStop u c e.disc e.lead && decide (e.tick ≤ a.tick + ivlMax))

/-- The armed start of NEXT has waited 2^31 ns (06 R229). -/
def State.ivlOverflow (s : State) (c : Nat) : State :=
  match (s.td c).ivl.armed with
  | none => s
  | some a => if a.tick + ivlMax < s.now ∧ !(s.stopTimed c a) then s.ivlMark c else s

/-! ## The frequency unit (06 R223 to R225) -/

def State.updFreq (s : State) (c : Nat) (f : FreqU → FreqU) : State := s.updTd c (fun t => { t with freq := f t.freq })

/-- A new gate sequence opens at the current tick, as CH_FREQ_CTRL gives (06 R223, R243), unless VW holds the unit. -/
def State.startFreq (s : State) (c : Nat) : State :=
  if (s.fe c).vwOn then s
  else
    let w := s.rget (Reg.CH_FREQ_CTRL c)
    s.updFreq c (fun _ => { FreqU.reset with
      on := bit w 31, disc := fld w 30 1, gateStart := s.now, gateEnd := s.now + usTicks (fld w 0 21) })

/-- The listen gate opens: the unit measures LO for `gate` ms (04 R141, 06 R225). -/
def State.startVwGate (s : State) (c : Nat) : State :=
  s.updFreq c (fun _ => { FreqU.reset with
    on := true, vw := true, gateStart := s.now, gateEnd := s.now + msTicks (s.rf (Reg.CH_VW_LISTEN c) 16 16) })

/-- An edge of this gate is still being timed. -/
def Tdc.gateWaits (t : Tdc) : Bool :=
  t.edges.any (fun e => e.disc == t.freq.disc && e.lead && e.pass && e.timed && !e.dropped && !e.char
    && decide (t.freq.gateStart ≤ e.tick) && decide (e.tick < t.freq.gateEnd))

/-- The gate is over and its edges are timed (06 R223). -/
def State.gateOver (s : State) (c : Nat) (vw : Bool) : Bool :=
  let t := s.td c
  t.freq.on && t.freq.vw == vw && decide (t.freq.gateEnd ≤ s.now) && !t.gateWaits

/-- What a gate gives (06 R223): its first and last edge, and the edges counted. -/
structure Gate where
  first : Option FEdge
  last : Option FEdge
  evs : List FEdge
  deriving DecidableEq, Repr

def FreqU.gate (f : FreqU) : Gate :=
  let l := f.edges.filter (fun e => decide (e.tick < f.gateEnd))
  match f.first with
  | some e => ⟨some e, some (l.getLastD e), l⟩
  | none =>
    match l with
    | [] => ⟨none, none, []⟩
    | e :: r => ⟨some e, some (r.getLastD e), r⟩

/-- E (06 R223). -/
def Gate.e (g : Gate) : Nat :=
  match g.first, g.last with
  | some a, some b => (b.ts - a.ts).toNat
  | _, _ => 0

/-- round(a / b), half toward +∞; a free value stands for a quotient by 0. -/
def roundDiv (a b free : Nat) : Nat := if b = 0 then free else (2 * a + b) / (2 * b)

def Gate.coarse (g : Gate) : Bool := (g.first.toList ++ g.evs).any (fun e => e.coarse)
def Gate.flags (g : Gate) : Nat := (g.first.toList ++ g.evs).foldl (fun a e => a ||| e.flags) 0

/-- TS48 of the FREQ record; the manual gives none for a gate before any edge: a free value. -/
def Gate.ts (g : Gate) (free : Nat) : TS48 :=
  match g.first with
  | some a => a.ts
  | none => BitVec.ofNat 48 ((Config.freeWord free).toNat * 2 ^ 16 + (Config.freeWord (free + 1)).toNat)

/-- A FREQ measurement: P, E, frequency in mHz and period in ns (06 R223, R224, 04 R143). -/
structure FreqRes where
  p : Nat
  e : Nat
  mhz : Nat
  ns : Nat
  fail : Bool
  deriving DecidableEq, Repr

def Gate.result (g : Gate) (k free : Nat) (vw : Bool) : FreqRes :=
  let p := g.evs.length * 2 ^ k
  let few := if vw then p < 16 else p = 0
  { p := p, e := g.e, fail := few
    mhz := if few then 0 else roundDiv (p * 10 ^ 12 * 65536) g.e ((Config.freeWord free).toNat)
    ns := if p = 0 then 0 else satNat 0xFFFFFFFF ((2 * g.e + 65536 * p) / (2 * 65536 * p)) }

/-- First and last tick of a gate's edges; without an edge those of the gate. -/
def State.gateSpan (s : State) (c : Nat) (g : Gate) : Nat × Nat :=
  (match g.first with | some a => a.tick | none => (s.td c).freq.gateStart,
   match g.last with | some b => b.tick | none => (s.td c).freq.gateEnd)

/-- Flags of a FREQ record (06 R221, R224). -/
def State.freqFlags (s : State) (c : Nat) (g : Gate) (fail : Bool) : Nat :=
  g.flags ||| (s.fe c).flagsOf (s.gateSpan c g).1 (s.gateSpan c g).2 ||| (if fail then fSUSPECT else 0)

/-- The FREQ record of a gate (11 R382). -/
def State.freqRec (s : State) (c : Nat) (g : Gate) (r : FreqRes) (vw : Bool) : Rec :=
  mkRec tFREQ 0 c (g.ts s.freeCtr) (s.freqFlags c g r.fail) (if g.coarse then xCOARSE else 0) 3
    [(20, 1, (s.td c).freq.disc + (if vw then 128 else 0)), (21, 1, s.prescK c (s.td c).freq.disc), (24, 4, r.p), (28, 4, r.ns),
     (32, 6, r.e), (40, 8, r.mhz)]

/-- CH_FREQ_MHZ and CH_FREQ_PERIOD (06 R223). -/
def State.freqRegs (s : State) (c : Nat) (r : FreqRes) : State :=
  ((s.rset (Reg.CH_FREQ_MHZ_LO c) (word r.mhz)).rset (Reg.CH_FREQ_MHZ_HI c) (word (r.mhz / 2 ^ 32))).rset
    (Reg.CH_FREQ_PERIOD c) (word r.ns)

/-- The gate closes with its record (06 R223, R224, R241). -/
def State.gateRecord (s : State) (c : Nat) (vw : Bool) : State :=
  let g := (s.td c).freq.gate
  let r := g.result (s.prescK c (s.td c).freq.disc) (s.freeCtr + 2) vw
  let rc := s.freqRec c g r vw
  let lo := (s.gateSpan c g).1
  let hi := (s.gateSpan c g).2
  let s := { s with freeCtr := s.freeCtr + 3 }
  let s := s.freqRegs c r
  if s.charOn c then s else (s.evItem c 2 rc).noteSuspect c lo hi

/-- The next gate opens where the last one closed (06 R223). -/
def State.nextGate (s : State) (c : Nat) : State :=
  let us := s.rf (Reg.CH_FREQ_CTRL c) 0 21
  s.updFreq c (fun f => { f with
    first := f.gate.last, edges := f.edges.filter (fun e => decide (f.gateEnd ≤ e.tick)), gateStart := f.gateEnd,
    gateEnd := f.gateEnd + usTicks us })

/-! ## Timed edges go to their users -/

/-- What a timed edge gives the units. -/
def Edge.unit (e : Edge) (ts : TS48) (coarse : Bool) (flags : Nat) : FEdge := ⟨e.id, e.tick, ts, coarse, flags⟩

/-- A leading edge joins the gates that have opened when it crosses (06 R223, 03 R113). -/
def State.feedFreq (s : State) (c : Nat) (e : Edge) (f : FEdge) : State :=
  let u := (s.td c).freq
  if u.on && u.disc == e.disc && e.lead && decide (u.gateStart ≤ e.tick) then s.updFreq c (fun u => { u with edges := u.edges ++ [f] }) else s

/-- A start of an earlier configuration is counted (06 R244). -/
def State.ivlOld (s : State) (c id : Nat) : State :=
  if (s.td c).ivl.old.contains id then (s.noStop c 1).updIvl c (fun i => { i with old := i.old.erase id }) else s

/-- Stops come before starts, so that an edge that is both ends an interval first (06 R227). A unit takes the edges that crossed under
its configuration (03 R113). -/
def State.feedIvl (s : State) (c : Nat) (e : Edge) (f : FEdge) : State :=
  let us := s.ivlUnits.filter (fun u => decide ((s.td u).ivl.since ≤ e.tick))
  let s := s.ivlOld c e.id
  let s := forEach (us.filter (fun u => s.isStop u c e.disc e.lead)) (fun s u => s.ivlStop u f) s
  forEach (us.filter (fun u => s.isStart u c e.disc e.lead)) (fun s u => s.ivlStart u f) s

/-- An edge's time reaches the records being built. -/
def RecWait.timed (r : RecWait) (e : Edge) (ts : TS48) (fine : Nat) (coarse : Bool) (flags : Nat) : RecWait :=
  let x := if coarse then xCOARSE else 0
  if r.lead = e.id then
    { r with leadTs := some ts, fine := fine, mica := e.mica.getD 0, ext := r.ext ||| x, flags := r.flags ||| flags }
  else if r.trail = some e.id then
    { r with trailTs := some ts, ext := r.ext ||| x, flags := r.flags ||| flags, hi := max r.hi e.tick }
  else r

/-- Instant at which repetition `m` of the test pulse crosses at the comparator (06 R230, R241). -/
def State.injected (s : State) (c m : Nat) : TS48 :=
  let t := (s.td c).tp0 + 80 * m
  let q := s.qtz.scaleAt t
  tsOfFull (q.full + (((t : Int) - q.tick) * 1024 + (m * 617 % 1024 : Nat)) * q.inc / 1024) + BitVec.ofInt 48 (Config.injDelay c)

/-- A characterisation takes an edge (06 R241). -/
def CharJob.take (j : CharJob) (e : Edge) (err : Int) (fine : Nat) (coarse : Bool) : CharJob :=
  let j := if e.disc = 0 then { j with sum0 := j.sum0 + err, cnt0 := j.cnt0 + 1 } else { j with sum1 := j.sum1 + err, cnt1 := j.cnt1 + 1 }
  if coarse then j else { j with hist := mupd 0 j.hist (1024 * e.mica.getD 0 + (fine - 1024)) (· + 1) }

def State.feedChar (s : State) (c : Nat) (e : Edge) (ts : TS48) (fine : Nat) (coarse : Bool) : State :=
  let m := (e.tick - (s.td c).tp0) / 80
  s.updTd c (fun t => { t with char := t.char.map (fun j => j.take e (tsDiff ts (s.injected c m)) fine coarse) })

/-- A timed and qualified edge goes to everything that awaits it (06 R218 to R228, 08 R283). A characterisation takes its own edges
alone, and its edges go nowhere else (06 R241). -/
def State.edgeTimed (s : State) (c : Nat) (e : Edge) (ts : TS48) (fine : Nat) (coarse : Bool) : State :=
  let fl := e.flags ||| (s.fe c).edgeFlags e.tick e.tick
  let s := s.updTd c (fun t => { t with edges := t.edges.filter (fun x => x.id != e.id), recs := t.recs.map (fun r => r.timed e ts fine coarse fl) })
  let s := s.updFl (fun f => f.resolve c e.id ts coarse)
  if e.char then (if s.charOn c && decide ((s.td c).tp0 ≤ e.tick) then s.feedChar c e ts fine coarse else s)
  else if s.charOn c then s
  else if e.toUnits (s.prescK c e.disc) then (s.feedFreq c e (e.unit ts coarse fl)).feedIvl c e (e.unit ts coarse fl)
  else s

/-- TS48 of an edge with fine code `n` (06 R216): tick k is the second after the edge's tick, and INC the one in effect at tick k.
DESIGN CHOICE (log entry 33). -/
def State.edgeTs (s : State) (c : Nat) (e : Edge) (n : Nat) : TS48 :=
  s.tsTick (e.tick + 2) - BitVec.ofNat 48 ((n * (s.qtz.scaleAt ((e.tick + 2 : Nat) : Int)).inc + 2 ^ 25) / 2 ^ 26) - (s.rget (Reg.CH_TDC_SKEW c e.disc)).signExtend 48

/-! ## A new edge (06 R203 to R210, R215) -/

/-- The qualifier's threshold is 1.2 ns ± 0.1 ns: within 1.1 ns always, from 1.3 ns never, between them a free value (06 R207);
distances in T/1024. -/
def within (dist free : Nat) : Bool :=
  if dist < 1690 then true else if 1997 ≤ dist then false else (Config.freeWord free).getLsbD 0

/-- A trailing edge is timestamped for its PULSE while that pulse lasts (06 R206, R208). -/
def Tdc.openPulse (t : Tdc) (lead : Nat) : Bool := t.recs.any (fun r => r.pulse && r.lead == lead && r.to_.isNone)

/-- The units need the edge (06 R206, R223, R226). -/
def State.unitsNeed (s : State) (c d : Nat) (lead : Bool) : Bool :=
  ((s.td c).freq.on && (s.td c).freq.disc == d && lead)
    || s.ivlUnits.any (fun u => s.isStop u c d lead || s.isStart u c d lead)

/-- An edge is timestamped (06 R206, R222, 08 R272, 06 R241). `runt`: a trailing edge that ends a runt or is dropped. -/
def State.needsTime (s : State) (c d of_ : Nat) (lead pass runt : Bool) : Bool :=
  if lead then
    s.charOn c || s.groupTimes (c + 192 * d) || s.recMode c d != 0 || (s.prescK c d != 0 && pass)
      || (s.prescK c d == 0 && s.unitsNeed c d true)
  else !runt && !(s.charOn c) && s.prescK c d == 0 && ((s.td c).openPulse of_ || s.unitsNeed c d false)

/-- The first ARMED interpolator in rotation (06 R210). -/
def Tdc.freeMica (t : Tdc) : Option Nat := ((List.range 4).map (fun i => (t.rot + 1 + i) % 4)).find? (fun i => (t.mica i).st == .armed)

/-- The interpolator takes the edge; its fine time is ready 14 ticks after the edge's tick (06 R211). -/
def Tdc.takeMica (i id now : Nat) (t : Tdc) : Tdc :=
  { t.updMica i (fun m => { m with st := .measure, edge := some id, due := now + 14, refresh := false }) with rot := i }

/-- The divider counts a leading edge and tells whether it passes (06 R222). -/
def prescNext (k n : Nat) : Nat × Bool := if k = 0 then (0, true) else if 2 ^ k ≤ n + 1 then (0, true) else (n + 1, false)

/-- The record that a leading edge begins (06 R206, R218, R219). -/
def State.newRec (s : State) (c d id flags : Nat) : Option RecWait :=
  let w := s.rget (Reg.CH_HIT c)
  let end_ := s.now + fld w 16 6
  let r : RecWait := ⟨d, id, false, s.now, s.now, none, s.polNeg c d, none, flags, 0, none, 0, 0, none, none, s.now, s.now⟩
  match s.recMode c d with
  | 1 => some (if bit w 24 then { r with to_ := some end_ } else { r with from_ := end_, to_ := some end_ })
  | 2 => some { r with pulse := true }
  | _ => none

/-- What an edge is (06 R207): dropped with its neighbour, of which pulse, ending a runt, passed by the divider. -/
structure EdgeKind where
  join : Bool
  of_ : Nat
  runt : Bool
  pass : Bool
  presc : Nat
  deriving DecidableEq, Repr

def State.edgeKind (s : State) (c d : Nat) (lead : Bool) (at_ : Nat) : EdgeKind :=
  let x := (s.td c).disc d
  if lead then
    let join := match x.prev with
      | some (_, false, a) => within (at_ - a) s.freeCtr
      | _ => false
    let p := if join then (x.presc, false) else prescNext (s.prescK c d) x.presc
    ⟨join, if join then (x.cur.map Prod.fst).getD 0 else (s.td c).nextEdge, false, p.2, p.1⟩
  else
    match x.cur with
    | some (id, a) => ⟨false, id, within (at_ - a) s.freeCtr, false, x.presc⟩
    | none => ⟨false, (s.td c).nextEdge, false, false, x.presc⟩

/-- The edge joins those in progress; a join drops the trailing edge before it, and a leading edge begins its record. -/
def Tdc.addEdge (e : Edge) (k : EdgeKind) (at_ : Nat) (r : Option RecWait) (t : Tdc) : Tdc :=
  let prev := (t.disc e.disc).prev.map Prod.fst
  let t := t.updDisc e.disc (fun x => { x with
    s := e.lead, presc := k.presc, prev := some (e.id, e.lead, at_),
    cur := if e.lead && !k.join then some (e.id, at_) else x.cur })
  let es := if k.join then t.edges.map (fun x => if some x.id = prev then { x with dropped := true } else x) else t.edges
  { t with edges := es ++ [e], recs := t.recs ++ r.toList, nextEdge := e.id + 1 }

/-- An edge of discriminator `d` at the current tick plus `frac` T/1024 (06 R203, R210, R215); Flint sees the switch (06 R205). -/
def State.discEdge (s : State) (c d : Nat) (lead : Bool) (frac : Nat) : State :=
  let t := s.td c
  if !(s.discEn c d) || (t.disc d).s == lead then s
  else
    let at_ := s.now * 1024 + frac
    let k := s.edgeKind c d lead at_
    let fl := if (s.fe c).inWindow s.now || decide (s.now < (t.disc d).unsetUntil) then fUNSETTLED else 0
    let need := s.needsTime c d k.of_ lead (k.pass || k.join) k.runt
    let mica := if need then t.freeMica else none
    let id := t.nextEdge
    let e : Edge := ⟨id, d, lead, k.of_, s.now, mica, need, need && mica.isNone, 0, none, k.runt, k.join, false, k.pass, fl, s.charOn c⟩
    let r := if lead && !k.join then s.newRec c d id fl else none
    let s := { s with freeCtr := s.freeCtr + 1 }
    let s := s.updTd c (Tdc.addEdge e k at_ r)
    let s := match mica with
      | some i => s.updTd c (Tdc.takeMica i id s.now)
      | none => if need then (s.cnt (Reg.CH_MICA_MISS c)).chEvt c evMICA_MISS else s
    if s.charOn c then s
    else s.groupEdge (c + 192 * d) lead ⟨0, s.tsAt 2, !need, if need then some (c, id) else none⟩

/-! ## Qualification (06 R207) -/

/-- The first edge of discriminator `d` that the qualifier has not decided on. -/
def Tdc.undecided (t : Tdc) (d : Nat) : Option Edge := t.edges.find? (fun e => e.disc == d && !e.decided)

/-- A COARSE edge that has been decided. -/
def Tdc.coarseEdge (t : Tdc) (d : Nat) : Option Edge := t.edges.find? (fun e => e.disc == d && e.decided && e.coarse)

/-- The interpolator abandons a dropped edge: V1 in the next tick, ARMED 29 ticks after the edge (06 R207). -/
def Mica.abandon (m : Mica) (e : Edge) : Mica := if m.edge = some e.id then { m with st := .calibrate, edge := none, due := e.tick + 29 } else m

/-- A dropped edge leaves; a pulse whose trailing edge is dropped is joined. -/
def Tdc.dropEdge (e : Edge) (t : Tdc) : Tdc :=
  let t := match e.mica with
    | some i => t.updMica i (fun m => m.abandon e)
    | none => t
  { t with
    edges := t.edges.filter (fun x => x.id != e.id)
    recs := if e.lead then t.recs
      else t.recs.map (fun r => if r.lead = e.of_ ∧ r.pulse then { r with ext := r.ext ||| xJOINED } else r) }

/-- A trailing edge ends its pulse (06 R207, R219). -/
def RecWait.ended (r : RecWait) (e : Edge) : RecWait :=
  if r.lead ≠ e.of_ then r
  else
    let r := if e.runt then { r with ext := r.ext ||| xRUNT } else r
    if r.pulse ∧ r.to_ = none then { r with to_ := some e.tick, trail := if e.runt then none else some e.id } else r

/-- An edge stands. -/
def Tdc.keepEdge (e : Edge) (t : Tdc) : Tdc :=
  { t with
    edges := if e.timed then t.edges.map (fun x => if x.id = e.id then { x with decided := true } else x)
      else t.edges.filter (fun x => x.id != e.id)
    recs := if e.lead then t.recs else t.recs.map (fun r => r.ended e) }

/-- The qualifier decides on an edge (06 R207). -/
def State.decide_ (s : State) (c : Nat) (e : Edge) : State :=
  if e.dropped then
    let s := s.updTd c (Tdc.dropEdge e)
    if e.timed then s.updFl (fun f => f.resolve c e.id (s.tsTick (e.tick + 2)) true) else s
  else
    let s := s.updTd c (Tdc.keepEdge e)
    if e.lead || !e.runt then s else (s.cnt (Reg.CH_RUNT_CNT c)).chEvt c evRUNT

/-- Three ticks after an edge the qualifier decides on it; a COARSE edge is passed on when a fine time would be ready. -/
def State.edgeQualify (s : State) (c d : Nat) : State :=
  match (s.td c).undecided d with
  | some e => if e.tick + 3 ≤ s.now then s.decide_ c e else s
  | none =>
    match (s.td c).coarseEdge d with
    | some e => if e.tick + 14 ≤ s.now then s.edgeTimed c e (s.edgeTs c e 1536) 0 true else s
    | none => s

/-! ## Interpolators (06 R209 to R214) -/

/-- The fine code (06 R212); the manual gives none for V2 = V1: a free value. DESIGN CHOICE (log entry 26). -/
def fineCode (v v1 v2 free : Nat) : Nat :=
  let d : Int := (v2 : Int) - v1
  if d = 0 then 1024 + (Config.freeWord free).toNat % 1024
  else (clampInt 1024 2047 (1024 + (2 * 1024 * ((v : Int) - v1) + d) / (2 * d))).toNat

/-- A measurement ends: the fine code and time are known, and the re-arm sequence goes on (06 R211, R212). -/
def State.micaMeasured (s : State) (c i v : Nat) : State :=
  let m := (s.td c).mica i
  match (s.td c).edges.find? (fun e => m.edge == some e.id && e.decided) with
  | none => s
  | some e =>
    if m.st = .measure ∧ m.due ≤ s.now then
      let n := fineCode v m.v1 m.v2 s.freeCtr
      let s := { s with freeCtr := s.freeCtr + 1 }
      let s := s.updTd c (Tdc.updMica i (fun m => { m with st := .calibrate, edge := none, due := e.tick + 38 }))
      s.edgeTimed c e (s.edgeTs c e n) n false
    else s

/-- The span lies within CH_MICA_LIMIT (06 R213). -/
def State.spanOk (s : State) (c : Nat) (d : Int) : Bool :=
  decide ((s.rf (Reg.CH_MICA_LIMIT c) 0 10 : Int) ≤ d) && decide (d ≤ s.rf (Reg.CH_MICA_LIMIT c) 16 10)

/-- A re-arm sequence ends (06 R211, R213). -/
def Mica.rearmed (m : Mica) (v1 v2 now : Nat) (good : Bool) : Mica :=
  let m := { m with v1 := v1, v2 := v2, spans := (((v2 : Int) - v1) :: m.spans).take 256, edge := none }
  if good then { m with st := .armed, fails := 0, v2Tick := now - 1, refresh := false }
  else if m.fails = 3 then { m with st := .fault, fails := 0, refresh := false }
  else { m with st := .calibrate, fails := m.fails + 1, due := now + 25 }

def State.micaRearmed (s : State) (c i v1 v2 : Nat) : State :=
  let m := (s.td c).mica i
  if m.st = .fresh ∨ (m.st = .calibrate ∧ m.due ≤ s.now) then
    let s := s.updTd c (Tdc.updMica i (fun m => m.rearmed v1 v2 s.now (s.spanOk c ((v2 : Int) - v1))))
    if ((s.td c).mica i).st = .fault then s.chEvt c evMICA_FAULT else s
  else s

/-- A refresh starts (06 R214). -/
def State.micaRefresh (s : State) (c i : Nat) : State :=
  let t := s.td c
  let m := t.mica i
  let others := [0, 1, 2, 3].filter (fun j => j != i)
  if m.st = .armed ∧ m.v2Tick + 256 ≤ s.now ∧ others.any (fun j => (t.mica j).st == .armed) ∧ !(others.any (fun j => (t.mica j).refresh)) then
    s.updTd c (Tdc.updMica i (fun m => { m with st := .calibrate, refresh := true, due := s.now + 25 }))
  else s

/-- Mean span over the last 256 sequences (06 R237). DEDUCED (log entry 32). -/
def Mica.span (m : Mica) : Int := if m.spans.isEmpty then 0 else m.spans.sum / m.spans.length

/-! ## Hits and pulses (06 R218 to R221) -/

/-- The extreme value in the direction of pol. -/
def RecWait.extreme (r : RecWait) (v : Int) : Int :=
  match r.amp with
  | none => v
  | some a => if r.neg then min a v else max a v

/-- A sample has contributed (06 R221, 04 R145). -/
def RecWait.touch (x : Samp) (r : RecWait) : RecWait :=
  { r with flags := r.flags ||| noOpen x.flags, lo := min r.lo x.g, hi := max r.hi (x.g + x.d - 1) }

/-- An output sample reaches the records being built. A record of which no sample remains takes the first one after (05 R161). -/
def RecWait.feed (x : Samp) (r : RecWait) : RecWait :=
  if decide (r.from_ < x.g + x.d) && (match r.to_ with | none => true | some t => decide (x.g ≤ t)) then
    { r with amp := some (r.extreme x.v) }.touch x
  else if r.amp = none ∧ r.from_ < x.g then { r with amp := some x.v }.touch x
  else r

/-- Its amplitude is complete: samples have come beyond its last tick. -/
def RecWait.ampDone (r : RecWait) (nextG : Nat) : Bool :=
  r.amp.isSome && (match r.to_ with | none => false | some t => decide (t < nextG))

/-- The runt decision on its leading edge is made (06 R207). -/
def Tdc.runtKnown (t : Tdc) (r : RecWait) : Bool :=
  !(t.edges.any (fun e => e.disc == r.disc && !e.lead && e.of_ == r.lead && e.runt && !e.decided))

/-- A HIT or PULSE can be built. -/
def Tdc.ready (t : Tdc) (nextG : Nat) (r : RecWait) : Bool :=
  r.leadTs.isSome && r.ampDone nextG &&
    (if r.pulse then r.trail.isNone || r.trailTs.isSome else t.runtKnown r)

/-- The first record of each discriminator, in order (06 R220). -/
def Tdc.heads (t : Tdc) : List RecWait := [0, 1].filterMap (fun d => t.recs.find? (fun r => r.disc == d))

/-- The HIT record (11 R382). -/
def RecWait.hit (r : RecWait) (c : Nat) : Rec :=
  mkRec tHIT 0 (c + 0x100 * r.disc) (r.leadTs.getD 0) r.flags r.ext 2
    [(20, 1, r.disc + 2 * r.mica), (22, 2, r.fine), sfield 24 2 (r.amp.getD 0)]

/-- Width of a pulse (06 R207, R208, R219). -/
def RecWait.width (r : RecWait) : Nat :=
  if r.ext.testBit 0 then 0
  else if r.ext.testBit 2 then 0xFFFFFFFF
  else
    match r.leadTs, r.trailTs with
    | some a, some b => (b - a).toNat
    | _, _ => 0

/-- The PULSE record (11 R382). -/
def RecWait.pulseRec (r : RecWait) (c : Nat) : Rec :=
  mkRec tPULSE 0 (c + 0x100 * r.disc) (r.leadTs.getD 0) r.flags r.ext 2
    [(20, 1, r.disc + 2 * r.mica), (22, 2, r.fine), (24, 4, r.width), sfield 28 2 (r.amp.getD 0)]

/-- Build the first record of kind `pulse` that is ready; a characterisation emits none (06 R241). -/
def State.buildRec (s : State) (c : Nat) (pulse : Bool) : State :=
  let t := s.td c
  if s.charOn c then s
  else match t.heads.find? (fun r => r.pulse == pulse && t.ready (s.cv c).nextG r) with
  | none => s
  | some r =>
    let b := { r with flags := r.flags ||| (s.fe c).breakFlags r.lo r.hi }
    (((s.updTd c (fun t => { t with recs := t.recs.filter (fun x => x.lead != r.lead) })).perf_ 7 0 c (b2n (!pulse))).evItem c (if pulse then 2 else 1)
      (if pulse then b.pulseRec c else b.hit c)).noteSuspect c r.lo r.hi

/-- A pulse has lasted 65,535 ns (06 R208). -/
def RecWait.long (r : RecWait) : RecWait := { r with to_ := some (r.tick + 98303), ext := r.ext ||| xLONG }

def State.pulseLong (s : State) (c d : Nat) : State :=
  let t := s.td c
  match t.recs.find? (fun r => r.disc == d && r.pulse && r.to_.isNone) with
  | none => s
  | some r =>
    if r.tick + 98303 ≤ s.now ∧ !(t.edges.any (fun e => !e.lead && e.of_ == r.lead && !e.dropped)) then
      s.updTd c (fun t => { t with recs := t.recs.map (fun x => if x.lead = r.lead then x.long else x) })
    else s

/-! ## Changes of a discriminator's settings (06 R204, R222) -/

/-- The open pulse of discriminator `d` is discarded (06 R204). -/
def Tdc.discardOpen (d : Nat) (t : Tdc) : Tdc :=
  { t with recs := t.recs.filter (fun r => !(r.disc == d && r.pulse && r.to_.isNone && !(t.edges.any (fun e => !e.lead && e.of_ == r.lead && !e.dropped)))) }

/-- en = 0 takes effect: s falls without an edge (06 R204). -/
def State.discOff (s : State) (c d : Nat) : State :=
  let s := s.updTd c (fun t => (t.updDisc d (fun x => { x with s := false, prev := none, cur := none })).discardOpen d)
  forEach ((List.range 64).filter (fun g => s.groupLoaded g && s.inGroup g (c + 192 * d))) (fun s g => s.evalGroup g ⟨g, s.tsNow, false, none⟩) s

/-- CH_DISC[d] has changed from `old` (06 R204, R222). -/
def State.discChanged (s : State) (c d : Nat) (old : Word) : State :=
  let w := s.rget (Reg.CH_DISC c d)
  let s := if fld old 0 10 ≠ fld w 0 10 ∨ fld old 16 6 ≠ fld w 16 6 ∨ fld old 30 1 ≠ fld w 30 1 then
      s.updTd c (Tdc.updDisc d (fun x => { x with unsetUntil := s.now + 150 })) else s
  let s := if fld old 24 4 ≠ fld w 24 4 then s.updTd c (Tdc.updDisc d (fun x => { x with presc := 0 })) else s
  if s.discEn c d then s else s.discOff c d

end Sys2Proof.Machine
end

