-- ==== Sys2Proof/Machine/CapOps.lean ====
section
/-! DEFINITION. The consumers of the sample stream: packer and raw export (01 R22, 07 R263), zero suppression (07 R245 to R249) and
the capture ring (07 R250 to R262). -/

namespace Sys2Proof.Machine

/-! ## Records of samples (11 R382) -/

/-- Sample words, oldest first. -/
def sampBytes (l : List Samp) : List Byte := l.flatMap (fun x => leBytes 2 x.w.toNat)

/-- A record whose sample words begin at byte 32. -/
def withSamps (r : Rec) (l : List Samp) : Rec := { r with body := overBytes r.body 16 (sampBytes l) }

def sampFlags (l : List Samp) : Nat := l.foldl (fun a x => a ||| x.flags) 0
def firstTs (l : List Samp) : TS48 := match l with | [] => 0 | x :: _ => x.ts
def divOf (l : List Samp) : Nat := match l with | [] => 1 | x :: _ => x.d

/-- SAMPLES: capture number and origin 0 RAW, 1 READOUT, 2 SPILL; samples oldest first. -/
def samplesRec (idx num origin : Nat) (l : List Samp) : Rec :=
  withSamps (mkRec tSAMPLES 0 idx (firstTs l) (sampFlags l) 0 (2 + ceilDiv l.length 8)
    [(20, 4, num), (24, 2, l.length), (26, 2, divOf l), (28, 1, origin)]) l

/-- WINDOW: one part of a window (07 R247, R249); samples oldest first. -/
def windowRec (c part pre kept : Nat) (more cut : Bool) (l : List Samp) : Rec :=
  withSamps (mkRec tWINDOW 0 c (firstTs l) (sampFlags l) (if cut then xCUT else 0) (2 + ceilDiv l.length 8)
    [(20, 2, l.length), (22, 2, part), (24, 1, b2n more), (26, 1, if part = 0 then pre else 0), (27, 1, if more then 0 else kept),
     (28, 2, divOf l)]) l

/-! ## The sample packer (01 R22) -/

def State.updPack (s : State) (c : Nat) (p : Option Pack) : State := s.updChan c (fun x => { x with pack := p })

/-- Records of which the open item holds a segment and that go on. -/
def Chan.parts (x : Chan) (c : Nat) : List (Nat × Nat) :=
  (if x.cap.rawBuf.isEmpty then [] else [(tSAMPLES, c)])
    ++ (match x.zs.win with | some w => if w.samps.isEmpty then [] else [(tWINDOW, c)] | none => [])

/-- Close the open item. -/
def State.packClose (s : State) (c : Nat) : State :=
  match (s.chan c).pack with
  | none => s
  | some p => (s.updPack c none).smItem c (1 + ceilDiv p.n 8) p.ts p.recs ((s.chan c).parts c)

/-- A sample joins the open item, or opens one after a change of flags, at a settling boundary or when 120 samples are in it. -/
def State.packAdd (s : State) (c : Nat) (x : Samp) : State :=
  let fits := match (s.chan c).pack with
    | some p => p.flags == x.flags && p.inside == x.inside && decide (p.n < 120)
    | none => true
  let s := if fits then s else s.packClose c
  s.updPack c (match (s.chan c).pack with
    | some p => some { p with n := p.n + 1 }
    | none => some ⟨x.ts, s.now, 1, x.flags, x.inside, []⟩)

/-- A record ends with the samples packed; without an open item it goes in an item of its own. -/
def State.packRec (s : State) (c : Nat) (r : Rec) : State :=
  match (s.chan c).pack with
  | some p => s.updPack c (some { p with recs := p.recs ++ [r] })
  | none => s.smItem c 1 r.ts [r] []

/-! ## Raw export (07 R263) -/

/-- End the SAMPLES record in progress. -/
def State.rawFlush (s : State) (c : Nat) : State :=
  let l := (s.capc c).rawBuf
  if l.isEmpty then s else (s.updCap c (fun x => { x with rawBuf := [] })).packRec c (samplesRec c 0 0 l.reverse)

/-- A sample is exported. -/
def State.rawPush (s : State) (c : Nat) (x : Samp) : State :=
  let s := s.updCap c (fun k => { k with rawBuf := x :: k.rawBuf })
  if (s.capc c).rawBuf.length = 1024 then s.rawFlush c else s

/-- Export stops: its last record ends (07 R263). -/
def State.rawStop (s : State) (c : Nat) : State :=
  if (s.capc c).raw then ((s.rawFlush c).packClose c).updCap c (fun x => { x with raw := false }) else s

/-! ## Zero suppression (07 R245 to R249) -/

def State.zsPre (s : State) (c : Nat) : Nat := s.rf (Reg.CH_ZS_CTRL c) 0 8
def State.zsPost (s : State) (c : Nat) : Nat := s.rf (Reg.CH_ZS_CTRL c) 8 8
def State.updZs (s : State) (c : Nat) (f : Zs → Zs) : State := s.updChan c (fun x => { x with zs := f x.zs })

/-- Emit the oldest 4,096 samples of a window as a part that more parts follow, while more than that are there (07 R247). -/
def State.zsParts : Nat → State → Nat → ZsWin → State × ZsWin
  | 0, s, _, w => (s, w)
  | n + 1, s, c, w =>
    if w.samps.length ≤ 4096 then (s, w)
    else
      let l := w.samps.reverse
      let s := s.packRec c (windowRec c w.part w.pre 0 true false (l.take 4096))
      State.zsParts n s c { w with samps := (l.drop 4096).reverse, part := w.part + 1 }

/-- A window ends with `kept` post samples. -/
def State.zsClose (s : State) (c : Nat) (w : ZsWin) (kept : Nat) (cut : Bool) : State :=
  let w := { w with samps := w.quiet.drop (w.quiet.length - kept) ++ w.samps }
  let r := s.zsParts (w.samps.length / 4096 + 1) c w
  let s := r.1.packRec c (windowRec c r.2.part r.2.pre kept false cut r.2.samps.reverse)
  let s := s.updZs c (fun z => { z with hi := false, lo := false, win := none, pre := w.quiet.take (w.quiet.length - kept) })
  ((s.packClose c).cnt (Reg.CH_ZS_CNT c)).perf_ 7 2 c 1

/-- An interval of 07 R248, or en = 0, ends an open window with the last sample before it. DEDUCED (log entry 34). -/
def State.zsCut (s : State) (c : Nat) : State :=
  let s := match (s.chan c).zs.win with
    | none => s
    | some w =>
      let q := w.quiet.length
      let done := q != 0 && decide (s.zsPost c ≤ q)
      s.zsClose c w (min q (s.zsPost c)) (!done)
  s.updZs c (fun z => { z with hi := false, lo := false, pre := [] })

/-- The excursions after a sample (07 R245). -/
def Zs.excursion (z : Zs) (ctrl thr : Word) (v : Int) : Bool × Bool :=
  let hyst : Int := fld ctrl 16 8
  let hi := signedOf 12 (fld thr 16 12)
  let lo := signedOf 12 (fld thr 0 12)
  (bit ctrl 30 && (if z.hi then decide (hi - hyst < v) else decide (hi < v)),
   bit ctrl 29 && (if z.lo then decide (v < lo + hyst) else decide (v < lo)))

/-- An excursion opens a window with the pre samples there are (07 R246, R248). On a channel with raw export the pre samples have
already left in items of the export; they are not sent again, and those items do not name the window as a consumer.
DESIGN CHOICE (log entry 34). -/
def State.zsOpen (s : State) (c : Nat) (x : Samp) : State :=
  let l := (s.chan c).zs.pre.take (s.zsPre c)
  let s := if (s.capc c).raw then s else forEach l.reverse (fun s y => s.packAdd c y) s
  s.updZs c (fun z => { z with win := some ⟨l.length, x :: l, 0, []⟩, pre := [] })

/-- A sample of an open window (07 R246, R247). -/
def State.zsIn (s : State) (c : Nat) (w : ZsWin) (x : Samp) (exc : Bool) : State :=
  if exc then
    let w := { w with samps := x :: (w.quiet ++ w.samps), quiet := [] }
    let r := s.zsParts (w.samps.length / 4096 + 1) c w
    r.1.updZs c (fun z => { z with win := some r.2 })
  else
    let w := { w with quiet := x :: w.quiet }
    let s := s.updZs c (fun z => { z with win := some w })
    if max 1 (s.zsPre c + s.zsPost c) ≤ w.quiet.length then s.zsClose c w (s.zsPost c) false else s

/-- Zero suppression takes a sample (07 R245 to R248). -/
def State.zsPush (s : State) (c : Nat) (x : Samp) : State :=
  let ctrl := s.rget (Reg.CH_ZS_CTRL c)
  let z := (s.chan c).zs
  if !(bit ctrl 31) then
    let s := if z.win.isSome then s.zsCut c else s
    s.updZs c (fun z => { z with hi := false, lo := false, pre := if x.inside then [] else (x :: z.pre).take 255 })
  else if x.inside then s.updZs c (fun z => { z with hi := false, lo := false, pre := [] })
  else
    let e := z.excursion ctrl (s.rget (Reg.CH_ZS_THR c)) x.v
    let s := s.updZs c (fun z => { z with hi := e.1, lo := e.2 })
    match z.win with
    | some w => s.zsIn c w x (e.1 || e.2)
    | none => if e.1 || e.2 then s.zsOpen c x else s.updZs c (fun z => { z with pre := (x :: z.pre).take 255 })

/-! ## The capture ring (07 R250 to R257) -/

def ringMax : Nat := 65536

/-- Number of the oldest valid sample. -/
def Cap.oldest (x : Cap) : Nat := x.written - x.ring.length

/-- Samples `a` to `b - 1` that are in the ring, oldest first. -/
def Cap.slice (x : Cap) (a b : Nat) : List Samp :=
  let lo := max a x.oldest
  ((x.ring.drop (x.written - b)).take (min b x.written - lo)).reverse

/-- FILLING or ARMED as the fill gives (07 R252). -/
def State.capJudge (s : State) (c : Nat) : State :=
  let pre := s.rf (Reg.CH_CAP_PRE c) 0 16
  s.updCap c (fun x =>
    if x.st = .filling ∨ x.st = .armed then { x with st := if pre ≤ x.ring.length then .armed else .filling } else x)

/-- The device tick of an instant (07 R251): the last one whose TS48 is not after it. -/
def State.tickOf (s : State) (ts : TS48) : Int :=
  s.now + (tsDiff ts s.tsNow * 65536 + (65535 - s.qtz.time.full % 65536)) / s.qtz.inc.toNat

/-- The divider of the groups to come, and the tick and divider of a restart that they meet (05 R161). -/
def Conv.coming (v : Conv) : Nat × Option (Nat × Nat) :=
  if v.fresh then (v.prev.div, some (v.since, v.set.div)) else (v.set.div, v.restart.map (fun r => (r.2, r.1.div)))

/-- How many samples come before the one whose group contains tick `t`, not before `nextG`; an instant in the gap of a restart takes
the first sample at the new rate (05 R161). -/
def Conv.ahead (v : Conv) (t : Nat) : Nat :=
  match v.coming with
  | (d, none) => (t - v.nextG) / d
  | (d, some (r, d')) =>
    let whole := (r - v.nextG) / d
    if t < r then min ((t - v.nextG) / d) whole else whole + (t - r) / d'

/-- The trigger sample of an instant (07 R251, 05 R161): `none` when it is older than the oldest valid sample (07 R255). -/
def Cap.kOf (x : Cap) (t : Int) (v : Conv) : Option Nat :=
  if (v.nextG : Int) ≤ t then some (x.written + v.ahead t.toNat)
  else
    match x.ring.zipIdx.find? (fun e => decide ((e.1.g : Int) ≤ t) && decide (t < (e.1.g + e.1.d : Nat))) with
    | some (_, j) => some (x.written - 1 - j)
    | none =>
      match x.gap with
      | some (e, n) => if (e : Int) ≤ t ∧ x.oldest ≤ n ∧ n < x.written then some n else none
      | none => none

/-- The ring stops and the window is read out from tick `t` on (07 R257). -/
def Cap.startReadout (x : Cap) (r : CapRun) (t : Nat) : Cap :=
  let l := if r.spill then r.buf else x.slice r.first r.stop
  { x with st := .readout, run := some { r with buf := l, due := t + 2 * ceilDiv l.length 8 + 32, out := false } }

/-- The capture spills from now on (07 R258). -/
def Cap.startSpill (x : Cap) (r : CapRun) : Cap :=
  { x with st := .spill, stalled := false, run := some { r with spill := true, buf := x.slice r.first r.stop } }

/-- A capture starts at trigger sample `k` (07 R254, R258, R260). -/
def Cap.start (x : Cap) (k pre post : Nat) (spillQ : Option Nat) (extend forced : Bool) (ts : TS48) (flint d now : Nat) : Cap :=
  let p := min pre (k - x.oldest)
  let long := decide (ringMax < p + post)
  let cut := long && spillQ.isNone
  let r : CapRun :=
    { k := k, first := k - p, stop := if cut then k - p + ringMax else k + post, trunc := cut, short := decide (p < pre), ext := 0,
      forced := forced, ts := ts, flint := flint, spillQ := spillQ, post := post, extend := extend, spill := false, buf := [],
      firstTs := none, flags := 0, lastS := x.ring.head?, div := d, planned := none, due := 0, out := false }
  if long && !cut then x.startSpill r
  else if r.stop ≤ x.written then x.startReadout r now
  else { x with st := .post, run := some r }

/-- The window of a capture ends later: a spill takes what the ring has written of it meanwhile. -/
def Cap.moveEnd (x : Cap) (r : CapRun) (e : Nat) : CapRun :=
  let l := x.slice r.stop e
  { r with
    stop := e, ext := r.ext + 1, lastS := l.getLast? <|> r.lastS, buf := if x.st = .spill then r.buf ++ l else r.buf }

/-- An extension (07 R256): `none` when the freeze does not extend; a capture that a divider restart has ended does not (07 R261). -/
def Cap.extend (x : Cap) (r : CapRun) (k2 : Nat) : Option Cap :=
  let e := k2 + r.post
  if !r.extend || decide (k2 < r.k) || decide (e ≤ r.stop) || r.planned.isSome then none
  else if x.st = .spill ∨ e - r.first ≤ ringMax then some { x with run := some (x.moveEnd r e) }
  else if r.spillQ.isSome then some (x.startSpill { r with stop := e, ext := r.ext + 1 })
  else if r.stop < r.first + ringMax then
    some { x with run := some { r with stop := r.first + ringMax, ext := r.ext + 1, trunc := true } }
  else none

/-- The spill queue that CH_CAP_SPILL names. -/
def State.spillReg (s : State) (c : Nat) : Option Nat :=
  if s.rb (Reg.CH_CAP_SPILL c) 31 then some (s.rf (Reg.CH_CAP_SPILL c) 0 12) else none

/-- A freeze that reaches the ring (07 R253 to R256). -/
def State.freeze (s : State) (c : Nat) (f : Freeze) : State :=
  let x := s.capc c
  let k := x.kOf (s.tickOf f.ts) (s.cv c)
  if !(s.rb (Reg.CH_CAP_CTRL c) (16 + f.flint)) then s
  else
    match x.st with
    | .off => s
    | .filling | .armed =>
      match k with
      | none => (s.cnt (Reg.CH_CAP_LATE c)).chEvt c evTOO_LATE
      | some k =>
        s.updCap c (fun x => x.start k (s.rf (Reg.CH_CAP_PRE c) 0 16) (s.rget (Reg.CH_CAP_POST c)).toNat (s.spillReg c)
          (s.rb (Reg.CH_CAP_CTRL c) 28) f.forced f.ts f.flint (s.cv c).set.div s.now)
    | .post | .spill =>
      match x.run.bind (fun r => k.bind (fun k => x.extend r k)) with
      | some y => s.updCap c (fun _ => y)
      | none => s.cnt (Reg.CH_CAP_EXTRA c)
    | .readout | .holdoff => (s.cnt (Reg.CH_CAP_MISSED c)).chEvt c evMISSED

/-- The earliest of several freezes by trigger time. -/
def firstFreeze : List Freeze → Option Freeze
  | [] => none
  | f :: l =>
    match firstFreeze l with
    | none => some f
    | some g => if tsLt g.ts f.ts then some g else some f

/-- Take the freezes that have reached the ring of channel `c`, earliest trigger first (07 R253). -/
def State.takeFreezes : Nat → State → Nat → State
  | 0, s, _ => s
  | n + 1, s, c =>
    match firstFreeze (s.fl.freezes.filter (fun f => f.ch == c && decide (f.due ≤ s.now))) with
    | none => s
    | some f => State.takeFreezes n ((s.updFl (fun x => { x with freezes := x.freezes.erase f })).freeze c f) c

/-! ## The end of a capture (07 R257, R258, R259) -/

/-- CAPTURE (11 R382). -/
def CapRun.record (r : CapRun) (c num : Nat) : Rec :=
  mkRec tCAPTURE 0 c r.ts (r.flags ||| (if r.short then fSHORT else 0))
    ((if 0 < r.ext then xEXTENDED else 0) ||| (if r.spill then xSPILL else 0) ||| (if r.trunc then xTRUNCATED else 0)
      ||| (if r.forced then xFORCED else 0)) 3
    [(20, 4, num), (24, 2, min r.k r.stop - r.first), (26, 2, r.div), (28, 4, r.stop - r.k), (32, 6, (r.firstTs.getD r.ts).toNat),
     (38, 1, r.flint), (39, 1, satNat 255 r.ext)]

/-- The capture has ended: its count and time, and the state that the mode gives (07 R257, R258, R267). -/
def State.capEnd (s : State) (c : Nat) (keep : Bool) : State :=
  let s := match (s.capc c).run with
    | some r => ((s.cnt (Reg.CH_CAP_COUNT c)).rset (Reg.CH_CAP_LAST_TS_LO c) (word r.ts.toNat)).rset (Reg.CH_CAP_LAST_TS_HI c)
        (word (r.ts.toNat / 2 ^ 32))
    | none => s
  let hold := s.rf (Reg.CH_CAP_HOLDOFF c) 0 24
  let cont := s.rf (Reg.CH_CAP_CTRL c) 30 2 == 2
  let s := s.updCap c (fun x => { x with
    st := if x.offPend || !cont then .off else if 0 < hold then .holdoff else .filling
    ring := if keep then x.ring else []
    gap := if keep then x.gap else none
    run := none, offPend := false, stalled := false, holdEnd := s.now + hold })
  s.capJudge c

/-- Split into pieces of at most `n`. -/
def chunks (n : Nat) : Nat → List Samp → List (List Samp)
  | 0, _ => []
  | f + 1, l => if l.isEmpty then [] else l.take n :: chunks n f (l.drop n)

/-- POISON when a byte of the ring's samples `k` to `k + n - 1` fails its parity (17 R550, R555). -/
def State.ringPoison (s : State) (c k n : Nat) : Nat :=
  if s.mem.poison.any (fun e => e.1 / 2 ^ 22 == 8 * 256 + c && decide ((e.1 % 2 ^ 22 / 2 + ringMax - k % ringMax) % ringMax < n)) then fPOISON
  else 0

/-- Number of the first sample that a capture still holds. -/
def Cap.bufFrom (x : Cap) (r : CapRun) : Nat := min r.stop x.written - r.buf.length

/-- A record with further flags. -/
def Rec.flag (fl : Nat) (r : Rec) : Rec := { r with flags := r.flags ||| fl }

/-- The items of one SAMPLES record of a read-out or spill, of up to 120 samples, given out from tick `t` on at 8 samples per 2 ticks
(01 R22, R25). -/
def State.roSamples (s : State) (c t : Nat) (r : Rec) (l : List Samp) (q : Option Nat) : State :=
  let ps := chunks 120 l.length l
  forEach ps.zipIdx (fun s p =>
    let last := p.2 + 1 == ps.length
    s.roItem c (1 + ceilDiv p.1.length 8) (firstTs p.1) (t + 2 * ceilDiv (120 * p.2 + p.1.length) 8) (if last then [r] else [])
      (if last then [] else [r.key]) q) s

/-- The number that the capture will have. -/
def State.nextCap (s : State) (c : Nat) : Nat := (cntAddW (s.rget (Reg.CH_CAP_COUNT c)) 1).toNat

/-- Items of a read-out from tick `t` on: its SAMPLES records, then the CAPTURE record (07 R257). -/
def State.readout (s : State) (c t : Nat) (r : CapRun) : State :=
  let k := (s.capc c).bufFrom r
  let s := forEach (chunks 1024 r.buf.length r.buf).zipIdx (fun s p =>
    s.roSamples c (t + 256 * p.2)
      ((samplesRec (0x200 + c) (s.nextCap c) 1 p.1).flag (s.ringPoison c (k + 1024 * p.2) p.1.length)) p.1 none) s
  s.roItem c 3 r.ts (t + 2 * ceilDiv r.buf.length 8) [r.record c (s.nextCap c)] [] none

/-- A READOUT that has begun gives out its items (01 R25). -/
def State.roBegin (s : State) (c : Nat) : State :=
  match (s.capc c).st, (s.capc c).run with
  | .readout, some r =>
    if r.out || r.spill then s
    else
      let r := { r with firstTs := r.buf.head?.map Samp.ts, flags := sampFlags r.buf ||| s.ringPoison c ((s.capc c).bufFrom r) r.buf.length }
      (s.readout c (max (s.roFree c) (r.due - 32 - 2 * ceilDiv r.buf.length 8)) r).updCap c (fun x => { x with
        run := some { r with buf := [], out := true } })
  | _, _ => s

/-- CAPTURE_FREEZE (07 R253). -/
def State.captureFreeze (s : State) (c : Nat) : State := (s.takeFreezes s.fl.freezes.length c).roBegin c

/-! ## Spill (07 R258, R259, 12 R402) -/

/-- Units of the records that an item brings to queue `q`. -/
def Item.spillUnits (q : Nat) (it : Item) : Nat := if it.spillQ = some q then (it.recs.map Rec.units).sum else 0

/-- Units of spill records that have not entered their queue: on the link, in the Strait or at the port. -/
def State.spillWaits (s : State) (c q : Nat) : Nat :=
  let x := s.island (c / 16)
  (x.roq.map (Item.spillUnits q)).sum
    + (x.strait.ents.map (fun h => match h with | .item it => it.spillUnits q | _ => 0)).sum
    + ((mget [] s.lag.ports (c / 16)).map (fun a => if a.spill = some q then a.r.units else 0)).sum

/-- The queue can be used by channel `c`'s spill (12 R402). -/
def State.spillUsable (s : State) (c q : Nat) : Bool := (s.queue q).st != 0 && (s.queue q).port == c / 16

/-- The queue has room for a spill record (12 R402). -/
def State.spillRoom (s : State) (c q : Nat) : Bool :=
  s.spillUsable c q && (s.queue q).st == 1 && decide (s.spillWaits c q + 2 + 130 + (s.queue q).pendUnits + 3 ≤ s.qRoom q)

/-- A record of a spill that is no SAMPLES leaves in an item of its own (01 R25, 12 R397). -/
def State.spillRecord (s : State) (c q : Nat) (r : Rec) : State := s.roItem c r.units r.ts (s.roFree c) [r] [] (some q)

/-- The drain sends `n` samples as one record, in spill items (01 R22, R25). -/
def State.spillSend (s : State) (c q n : Nat) (r : CapRun) : State :=
  let l := r.buf.take n
  let bad := s.ringPoison c ((s.capc c).bufFrom r) l.length
  let s := s.roSamples c (s.roFree c) ((samplesRec (0x200 + c) (s.nextCap c) 2 l).flag bad) l (some q)
  s.updCap c (fun x => { x with run := some { r with
    buf := r.buf.drop n, flags := r.flags ||| sampFlags l ||| bad, firstTs := r.firstTs <|> l.head?.map Samp.ts } })

/-- The drain may write: there is room, or the ring has stopped and the queue cannot be used (07 R259). -/
def State.spillMay (s : State) (c q : Nat) : Bool := s.spillRoom c q || ((s.capc c).st == .readout && !(s.spillUsable c q))

/-- Drain whole records, and what is left when `all`; without room it stops (12 R402). -/
def State.spillDrain : Nat → State → Nat → Bool → State
  | 0, s, _, _ => s
  | n + 1, s, c, all =>
    match (s.capc c).run with
    | none => s
    | some r =>
      match r.spillQ with
      | none => s
      | some q =>
        if r.buf.isEmpty || (decide (r.buf.length < 1024) && !all) then s
        else if s.spillMay c q then State.spillDrain n (s.spillSend c q 1024 r) c all
        else s.updCap c (fun x => { x with stalled := true })

def State.capDrain (s : State) (c : Nat) (all : Bool) : State :=
  match (s.capc c).run with
  | none => s
  | some r => s.spillDrain (r.buf.length / 1024 + 1) c all

/-- TS48 of sample `n`, which would have followed sample `m`, written last. -/
def State.plannedTs (s : State) (y : Samp) (m n : Nat) : TS48 :=
  s.tsHalf (2 * (((y.g + (n - m) * y.d : Nat) : Int) - s.now) + y.d - 1)

/-- The GAP of a spill that was cut short (07 R259). -/
def State.spillGap (s : State) (c : Nat) (r : CapRun) (planned : Nat) : Rec :=
  let y := r.lastS.getD ⟨0, 0, r.ts, s.now, r.div, 0, false⟩
  gapRec 4 (r.spillQ.getD 0) (planned - r.stop) (s.plannedTs y (r.stop - 1) r.stop) (s.plannedTs y (r.stop - 1) (planned - 1)) 1 2
    0 tSAMPLES (0x200 + c)

/-- The spill's samples have left: GAP and CAPTURE follow, and the capture ends (07 R258, R259). -/
def State.spillEnd (s : State) (c : Nat) : State :=
  match (s.capc c).run with
  | none => s
  | some r =>
    match r.spillQ with
    | none => s
    | some q =>
      if r.buf.isEmpty && !s.roWaits c && s.spillMay c q then
        let s := match r.planned with
          | some p => if r.stop < p then s.spillRecord c q (s.spillGap c r p) else s
          | none => s
        (s.spillRecord c q (r.record c (s.nextCap c))).capEnd c ((s.capc c).st == .spill)
      else s

/-- Unread samples fill the ring: the capture ends at the newest sample written (07 R259). -/
def State.spillTruncate (s : State) (c : Nat) : State :=
  let x := s.capc c
  match x.run with
  | none => s
  | some r =>
    if x.st = .spill ∧ ringMax ≤ r.buf.length then
      (s.updCap c (fun x => x.startReadout { r with planned := some r.stop, stop := min r.stop x.written, trunc := true } s.now)).chEvt c
        evTRUNCATED
    else s

/-! ## A sample is written (07 R250, R254, R258) -/

/-- The ring writes in every state but READOUT, and not over unread samples of a spill. -/
def Cap.writes (x : Cap) : Bool :=
  x.st != .readout && (match x.st, x.run with | .spill, some r => decide (r.buf.length < ringMax) | _, _ => true)

def Cap.write (x : Cap) (y : Samp) : Cap :=
  let n := x.written
  { x with
    ring := (y :: x.ring).take ringMax
    written := n + 1
    run := x.run.map (fun r => if n < r.stop then { r with lastS := some y, buf := if x.st = .spill ∧ r.first ≤ n then r.buf ++ [y] else r.buf } else r) }

/-- The last window sample of a capture in POST has been written. -/
def Cap.postDone (x : Cap) (now : Nat) : Cap :=
  match x.st, x.run with
  | .post, some r => if r.stop ≤ x.written then x.startReadout r (now + 1) else x
  | _, _ => x

def State.capPush (s : State) (c : Nat) (y : Samp) : State :=
  if (s.capc c).writes then
    let s := s.clearPoison 8 c (2 * ((s.capc c).written % ringMax)) 2
    let s := ((s.updCap c (fun x => (x.write y).postDone s.now)).capJudge c).roBegin c
    if (s.capc c).st = .spill ∧ (s.capc c).stalled = false then s.capDrain c false else s
  else s

/-- A divider restart ends a capture with the last sample of the old rate and resets the fill (07 R250, R261). -/
def State.capRestart (s : State) (c : Nat) (oldEnd : Nat) : State :=
  let s := s.updCap c (fun x =>
    match x.st, x.run with
    | .post, some r => x.startReadout { r with stop := min r.stop x.written, trunc := true } (s.now + 1)
    | .spill, some r => if r.stop ≤ x.written then x else { x with run := some { r with planned := some r.stop, stop := x.written, trunc := true } }
    | _, _ => x)
  ((s.updCap c (fun x => { x with ring := [], gap := some (oldEnd, x.written) })).capJudge c).roBegin c

/-! ## Control (07 R267) -/

/-- A write of arm = 1. -/
def State.capArm (s : State) (c : Nat) : State :=
  if (s.capc c).st = .off ∧ s.rf (Reg.CH_CAP_CTRL c) 30 2 ≠ 0 then (s.updCap c (fun x => { x with st := .filling })).capJudge c else s

/-- A write of CH_CAP_CTRL with mode = 0. -/
def State.capMode (s : State) (c : Nat) : State :=
  let off := s.rf (Reg.CH_CAP_CTRL c) 30 2 == 0
  s.updCap c (fun x =>
    match x.st with
    | .filling | .armed | .holdoff => if off then { x with st := .off } else x
    | .post | .spill | .readout => if off then { x with offPend := true } else x
    | .off => x)

end Sys2Proof.Machine
end

