-- ==== Sys2Proof/Machine/ConvOps.lean ====
section
/-! DEFINITION. Conversion: correction, the group output and its consumers, decimation, background calibration and CH_CALIBRATE
(05). -/

namespace Sys2Proof.Machine

/-! ## Correction (05 R167 to R171) -/

/-- y of one converter sample with a correction word, and whether step 4 limits it (05 R167, R170). -/
def corrected (code : Nat) (w : Word) : Int × Bool :=
  let a : Int := 16 * ((code : Int) - 2048) + signedOf 16 (fld w 0 16)
  satSigned 16 ((a * fld w 16 16 + 2 ^ 13) / 2 ^ 14)

/-- The correction word of the sample taken at a tick (05 R168, R169). -/
def corrAt (cur : Word) (t : Nat) : List (Nat × Word) → Word
  | [] => cur
  | (u, w) :: l => if t < u then w else corrAt cur t l

/-- v of a group (05 R167 step 6). -/
def meanValue (sum : Int) (d : Nat) : Int := (satSigned 12 ((sum + 8 * d) / (16 * d))).1

/-- The 16-bit word of a value (05 R171). -/
def sampleWord (conv : Word) (v : Int) : BitVec 16 :=
  let n := if bit conv 17 then unsignedOf 16 (v + 2048) else unsignedOf 16 v
  BitVec.ofNat 16 (if bit conv 16 then 16 * n else n)

/-- Sum of the corrected values of the samples taken from tick `lo` up to, but not including, `hi`, and their number. -/
def partSum (cur : Word) (corrs : List (Nat × Word)) (lo hi : Nat) : Nat → List (BitVec 12) → Int × Nat
  | _, [] => (0, 0)
  | g, x :: l =>
    let t := partSum cur corrs lo hi (g + 1) l
    if lo ≤ g ∧ g < hi then ((corrected x.toNat (corrAt cur g corrs)).1 + t.1, t.2 + 1) else t

/-- Sum and saturations of a group whose first sample is taken at tick `g`. -/
def groupSum (cur : Word) (corrs : List (Nat × Word)) : Nat → List (BitVec 12) → Int × Nat
  | _, [] => (0, 0)
  | g, x :: l =>
    let r := corrected x.toNat (corrAt cur g corrs)
    let t := groupSum cur corrs (g + 1) l
    (r.1 + t.1, b2n r.2 + t.2)

/-! ## Restarts (05 R161, R179) -/

/-- The chain's first tick from tick `t` on: under CONTINUOUS start a multiple of D × 2^k (05 R179). -/
def ConvSet.chainStart (x : ConvSet) (q : Quartz) (cont : Bool) (t : Nat) : Nat :=
  if x.decEn && cont then q.alignUp (x.div * 2 ^ x.k) t else t

/-- The chain begins anew at tick `t`; an output that has not left reaches before the restart (05 R161). -/
def Conv.chainFresh (v : Conv) (t : Nat) : Conv :=
  { v with chainNext := none, chainFrom := t, count := 0, filt := Filter.reset, slow := v.slow.map (fun o => { o with discard := true }) }

/-- Conversion outputs run without pause (04 R134). -/
def State.continuous (s : State) (c : Nat) : Bool := s.rf (Reg.CH_EXC_CTRL c) 4 2 == 0

/-- The settings that CH_CONV holds. -/
def convOf (w : Word) : ConvSet := ⟨fld w 0 13, bit w 20, fld w 24 5⟩

/-- CH_CONV has changed: the divider and the chain restart at a multiple of the new D (05 R161). -/
def State.convChanged (s : State) (c : Nat) (old : Word) : State :=
  let n := convOf (s.rget (Reg.CH_CONV c))
  if n = convOf old then s else s.updCv c (fun v => { v with restart := some (n, s.qtz.alignUp n.div s.now) })

/-- The restart tick has come (05 R161). -/
def State.dividerRestart (s : State) (c : Nat) : State :=
  match (s.cv c).restart with
  | none => s
  | some (n, r) =>
    if r ≤ s.now then
      s.updCv c (fun v => { v with
        set := n, prev := v.set, since := r, fresh := true, restart := none }.chainFresh (n.chainStart s.qtz (s.continuous c) r))
    else s

/-- The chain restarts at the current tick, at a run start (05 R179, 04 R135): with the first sample taken from now on. -/
def State.chainRestart (s : State) (c : Nat) : State :=
  s.updCv c (fun v => { v with chainNext := some s.now })

/-- A restart that the sample taken at tick `g` meets; an output of the old run leaves as any other. -/
def Conv.chainMeets (v : Conv) (g : Nat) : Conv :=
  match v.chainNext with
  | some t => if t ≤ g then { v.chainFresh t with slow := v.slow } else v
  | none => v

/-! ## Decimation (05 R174 to R179) -/

/-- The sample taken from tick `g` on belongs to the run. -/
def ConvRun.has (r : ConvRun) (g : Nat) : Bool :=
  decide (r.start ≤ g) && (match r.stop with | none => true | some e => decide (g < e))

/-- Conversion outputs are delivered: under EXC_EDGE and TIMER only in a run (04 R134, R135). -/
def State.delivers (s : State) (c g : Nat) : Bool := s.continuous c || (s.fe c).runs.any (fun r => r.has g)

/-- The decimator's input u (05 R167 step 7). -/
def decIn (sum : Int) (d : Nat) : Int := (256 * sum + d / 2) / d

/-- Bits of an integrator (05 R175). -/
def cicBits (k : Nat) : Nat := 24 + 5 * (k - 1)

/-- A value passes the integrators, each of which adds up what the one before it holds. -/
def integrate (m : Nat) : Nat → List Nat → List Nat
  | _, [] => []
  | x, y :: l => (x + y) % m :: integrate m ((x + y) % m) l

/-- A value passes the combs, each of which gives the difference from its last input; with their new last inputs. -/
def differ (m : Nat) : Nat → List Nat → Nat × List Nat
  | x, [] => (x, [])
  | x, y :: l =>
    let r := differ m ((x + m - y) % m) l
    (r.1, x :: r.2)

/-- A value enters the integrators. -/
def Filter.sample (f : Filter) (k : Nat) (u : Int) : Filter :=
  { f with integ := integrate (2 ^ cicBits k) (unsignedOf (cicBits k) u) f.integ }

/-- The combs take the last integrator, every M-th sample. -/
def Filter.decimate (f : Filter) (k : Nat) : Filter :=
  let r := differ (2 ^ cicBits k) (f.integ.getLastD 0) f.comb
  { f with comb := r.2, taps := (signedOf (cicBits k) r.1 :: f.taps).take 64 }

/-- Tap `j` of the symmetric 64-tap filter (05 R175), of which the sum is a power of two (05 R176). -/
def firCoef (k j : Nat) : Int :=
  let i := min j (63 - j)
  if i = 31 then 2 ^ Config.firPlaces k - ((List.range 31).map (Config.firTap k)).sum else Config.firTap k i

/-- Output of the FIR filter over the newest 64 CIC outputs. -/
def firSum (k : Nat) (taps : List Int) : Int := (taps.zipIdx.map (fun e => firCoef k e.2 * e.1)).sum

/-- The output value (05 R176): the CIC's gain M^5 and the taps' sum divide out exactly. DEDUCED; the manual does not state the
rounding, which is a free value (log entry 25). -/
def Filter.value (f : Filter) (k : Nat) : Int :=
  let n := firSum k f.taps
  let d : Int := 2 ^ (Config.firPlaces k + 1 + 5 * (k - 1))
  (satSigned 24 (n / d + (if n % d ≠ 0 ∧ Config.roundUp 20 n d then 1 else 0))).1

/-- A sample's u enters the chain; every 2^k-th gives an output (05 R175, R178, R179). -/
def Conv.chain (v : Conv) (g : Nat) (u : Int) (inside : Bool) : Conv :=
  let v := v.chainMeets g
  let x := v.set
  if !x.decEn || decide (g < v.chainFrom) then v
  else
    let n := v.count + 1
    let f := v.filt.sample x.k u
    let f := if n % 2 ^ (x.k - 1) = 0 then f.decimate x.k else f
    if n % 2 ^ x.k ≠ 0 then { v with count := n, filt := f }
    else
      { v with
        count := n, filt := f
        slow := some {
          v := f.value x.k
          half := (2 * g + x.div : Nat) - 1 - ((x.div * (x.len - 1) : Nat) : Int), index := n / 2 ^ x.k - 1, newest := g,
          oldest := g - x.div * (x.len - 1), inside := inside, discard := decide (n < x.len) } }

/-- An output of which the newest sample was taken from tick `g` on counts for its run (04 R135): a run that has delivered
CH_CONV_COUNT outputs is over. -/
def Front.runOutput (g : Nat) (f : Front) : Front :=
  { f with runs := f.runs.map (fun r =>
      if !(r.has g) then r
      else { r with outputs := r.outputs + 1, stop := if r.want ≠ 0 ∧ r.want ≤ r.outputs + 1 then some (g + 1) else r.stop }) }

/-- The sample was taken during an excitation pulse (11 R382). -/
def Front.inPulse (f : Front) (t : Nat) : Bool :=
  decide (f.pulseStart ≤ t) && (match f.pulseStop with
    | some e => decide (t < e)
    | none => f.exc == .pulse || f.exc == .vwDrive)

/-- The SLOW record (11 R382). -/
def State.slowRec (s : State) (c : Nat) (o : Slow) (v : Int) (ts : TS48) (flags : Nat) : Rec :=
  let x := (s.cv c).set
  mkRec tSLOW 0 c ts flags 0 2
    [sfield 20 4 v, (24, 1, if (s.fe c).inPulse o.newest then 1 + 2 * b2n (s.fe c).neg else 0), (25, 1, x.k), (26, 2, x.div),
     (28, 4, if s.rf (Reg.CH_EXC_CTRL c) 4 2 = 0 then 0 else o.index)]

/-- A decimator output leaves, or is discarded (04 R129, R135, 05 R161, R179). -/
def State.slowOutput (s : State) (c : Nat) : State :=
  match (s.cv c).slow with
  | none => s
  | some o =>
    let s := s.updCv c (fun v => { v with slow := none })
    if o.discard then s.cnt (Reg.CH_DEC_DISC c)
    else if o.inside then s
    else
      let ts := s.tsHalf (o.half - 2 * s.now)
      let fl := (s.fe c).flagsOf o.oldest (o.newest + (s.cv c).set.div - 1)
      let r := s.slowRec c o o.v ts fl
      let s := s.updCv c (fun x => { x with lastSlow := ⟨o.v, ts, fl, (s.fe c).settling⟩ })
      ((s.smItem c 1 ts [r] []).updFe c (Front.runOutput o.newest)).noteSuspect c o.oldest (o.newest + (s.cv c).set.div - 1)

/-! ## The group output (05 R160 to R163) -/

/-- The settings of the group that leaves now, whose last sample was taken 20 ticks ago (05 R161, R163). -/
def Conv.setAt (v : Conv) (now : Nat) : ConvSet := if now - 20 < v.since then v.prev else v.set

/-- A group of `n` samples leaves the format stage in this tick (05 R160, R163). -/
def Conv.groupDue (v : Conv) (now pll n : Nat) : Bool :=
  let d := (v.setAt now).div
  n == d && decide (pll + 19 + d ≤ now) && (now - 19 - pll) % d == 0 && decide (v.nextG ≤ now - 19 - d)
    && (decide (now - 20 < v.since) || decide (v.since ≤ now - 19 - d))

/-- The sample that a group gives. -/
def State.mkSamp (s : State) (c g d : Nat) (sum : Int) : Samp :=
  let v := meanValue sum d
  let inside := (s.fe c).inWindow g
  { w := sampleWord (s.rget (Reg.CH_CONV c)) v, v := v, ts := s.tsHalf (2 * ((g : Int) - s.now) + d - 1), g := g, d := d
    flags := (s.fe c).flagsOf g (g + d - 1) ||| (if inside then fUNSETTLED else 0), inside := inside }

/-- `n` saturated samples, each with a tick of its own (05 R170, 02 R62). -/
def State.satCount (s : State) (c n : Nat) : State :=
  if n = 0 then s
  else
    let s := (s.cntN (Reg.CH_SAT_CNT c) n).chEvt c evSAT
    s.rsetf (Reg.CH_EVT c) 24 8 ((s.rf (Reg.CH_EVT c) 24 8 + (n - 1)) % 256)

/-- The first sample at a new rate ends what the old rate began (05 R161, 07 R248, R261, R263). How many samples of the incomplete
group before it were saturated is a free value (log entry 25). -/
def State.restartStream (s : State) (c : Nat) : State :=
  let oldEnd := (s.cv c).nextG
  let lost := (Config.freeWord s.freeCtr).toNat % ((s.cv c).since - oldEnd + 1)
  let s := ({ s with freeCtr := s.freeCtr + 1 }).satCount c lost
  let s := ((s.zsCut c).rawFlush c).packClose c
  (s.capRestart c oldEnd).updCv c (fun v => { v with fresh := false })

/-- The start or end of a settling window lies before this sample (07 R248, R263). -/
def State.sampleBoundary (s : State) (c g : Nat) (inside : Bool) : State :=
  let v := s.cv c
  let starts := v.marks.any (fun t => decide (t ≤ g))
  let s := s.updCv c (fun v => { v with marks := v.marks.filter (fun t => decide (g < t)), inside := inside })
  let s := if starts then s.zsCut c else s
  if starts || v.inside != inside then (s.rawFlush c).packClose c else s

/-- The latest valid v (05 R173, 04 R129, R130). -/
def State.lastSample (s : State) (c : Nat) (x : Samp) : State :=
  if x.inside then s.updCv c (fun v => { v with last := { v.last with stale := true } })
  else s.updCv c (fun v => { v with last := ⟨x.v, x.ts, x.flags, (s.fe c).settling⟩ })

/-- A sample goes to its consumers (04 R129, 07); `u` is its decimator input. -/
def State.consume (s : State) (c : Nat) (x : Samp) (u : Int) : State :=
  let k := s.capc c
  let raw := k.raw && decide (k.rawFrom ≤ x.g)
  let s := if raw || (s.chan c).zs.win.isSome then s.packAdd c x else s
  let s := if raw then s.rawPush c x else s
  let opened := (s.chan c).zs.win.isNone
  let s := s.zsPush c x
  let s := if opened && !raw && (s.chan c).zs.win.isSome then s.packAdd c x else s
  let s := s.capPush c x
  let s := s.updTd c (fun t => { t with recs := t.recs.map (RecWait.feed x) })
  if !(s.delivers c x.g) then s
  else
    let s := s.lastSample c x
    if (s.cv c).set.decEn then s.updCv c (fun v => v.chain x.g u x.inside) else s.updFe c (Front.runOutput x.g)

/-- A condition of 05 R166 holds. -/
def Chan.bgBlocked (x : Chan) : Bool := x.fe.clampBalls != 0 || decide (1048576 < 100 * x.cv.bgEdges.length)

/-- The background calibration pauses (05 R166). -/
def State.bgPause (s : State) (c : Nat) : State :=
  let s := if (s.cv c).paused then s else s.chEvt c evBGCAL
  s.updCv c (fun v => { v with paused := true, bgBad := true })

/-- Samples at code 0 or 4095 join those of the last 2^20 samples, of which tick `t` is the newest (05 R166). -/
def State.bgEdge (s : State) (c t : Nat) (ticks : List Nat) : State :=
  let s := s.updCv c (fun v => { v with bgEdges := (ticks ++ v.bgEdges).filter (fun u => decide (t < u + 1048576)) })
  if (s.chan c).bgBlocked then s.bgPause c else s

/-- A group leaves during a measurement, which takes the xs of its last sample (05 R189). DESIGN CHOICE (log entry 30). -/
def CalJob.value (now : Nat) (code : BitVec 12) (j : CalJob) : CalJob :=
  if j.open_ < now ∧ j.cnt < 2 ^ j.n then { j with cnt := j.cnt + 1, sum := j.sum + ((code.toNat : Int) - 2048) } else j

/-- Samples of the last 2 µs of an open-test step, by the tick at which they leave the format stage (04 R146). DESIGN CHOICE (log entry
29). -/
def Front.openTestTake (f : Front) (cur : Word) (corrs : List (Nat × Word)) (g : Nat) (codes : List (BitVec 12)) : Front :=
  match f.testEnd with
  | none => f
  | some e =>
    let r := partSum cur corrs (e - usTicks 2 - 19) (e - 19) g codes
    { f with testSum := f.testSum + r.1, testN := f.testN + r.2 }

/-- Counts and marks that a group leaves: saturations, samples inside windows, breaks (05 R170, 04 R129, R145). -/
def State.groupCounts (s : State) (c sat : Nat) (x : Samp) : State :=
  let s := s.satCount c sat
  let s := if x.inside then s.cnt (Reg.CH_SETTLE_DISC c) else s
  s.noteSuspect c x.g (x.g + x.d - 1)

/-- A group of converter codes completes (05 R160 to R163, R167). -/
def State.groupOutput (s : State) (c : Nat) (codes : List (BitVec 12)) : State :=
  let v := s.cv c
  if s.retired || !(v.groupDue s.now s.qtz.pll codes.length) then s
  else
    let d := codes.length
    let g := s.now - 19 - d
    let r := groupSum (s.corrNow c) v.corrs g codes
    let edges := ((codes.zipIdx.filter (fun e => e.1 == 0 || e.1 == 4095)).map (fun e => g + e.2)).reverse
    let s := s.updFe c (fun f => (f.judgeOpen s.now).openTestTake (s.corrNow c) v.corrs g codes)
    let s := if v.fresh && decide (v.since ≤ g) then s.restartStream c else s
    let x := s.mkSamp c g d r.1
    let s := s.sampleBoundary c g x.inside
    let s := s.updCv c (fun v => { v with
      nextG := g + d, corrs := v.corrs.filter (fun e => decide (g + d < e.1)), cal := v.cal.map (CalJob.value s.now (codes.getLastD 0)) })
    (((s.bgEdge c (g + d - 1) edges).groupCounts c r.2 x).perf_ 7 1 c 1).consume c x (decIn r.1 d)

/-! ## Background calibration (05 R164 to R166) -/

/-- The weights change by `chg`, stage by stage, in 0.01 LSB (05 R164, R165). -/
def Conv.bgStep (v : Conv) (chg : List Int) : Conv :=
  let most := (chg.map Int.natAbs).foldl max 0
  let q := if most ≤ 5 then v.bgQuiet + 1 else 0
  { v with
    weights := v.weights.zipWith (· + ·) chg, bgQuiet := q, updates := (v.updates + 1) % 65536
    converged := if 50 < most then false else v.converged || decide (8 ≤ q) }

/-- Update intervals that have ended: one every 2^20 ticks of the device tick count (05 R164). -/
def State.bgCount (s : State) : Nat := (s.now - s.qtz.pll) / 1048576

/-- The end of an update interval, with the changes of the fifteen stage weights that the correlation gives (05 R164, R166): an interval
in which a pause condition has held changes nothing, and the next one begins with the conditions as they are. -/
def State.bgUpdate (s : State) (c : Nat) (chg : List Int) : State :=
  if s.bgCount ≤ (s.cv c).bgDone then s
  else
    let bad := (s.cv c).bgBad
    let s := s.updChan c (fun x => { x with cv := { x.cv with bgDone := s.bgCount, bgBad := x.bgBlocked } })
    if bad then s
    else
      let s := s.updCv c (fun v => { v with paused := false })
      if s.rb (Reg.CH_BGCAL_CTRL c) 0 then s else s.updCv c (fun v => v.bgStep ((chg ++ List.replicate 15 0).take 15))

/-! ## CH_CALIBRATE (05 R187 to R192) -/

/-- The source of a phase (05 R189). -/
def calSource (phase : Nat) : Nat := if phase = 3 then 0 else 3 + phase

/-- A measurement starts: it waits D × CH_SETTLE.delay ticks and then takes 2^n values (05 R189). -/
def State.calMeasure (s : State) (c : Nat) (j : CalJob) : State :=
  let d := (s.cv c).set.div
  let from_ := s.now + d * s.rf (Reg.CH_SETTLE c) 0 16
  let s := s.updCv c (fun v => { v with cal := some { j with open_ := from_, due := from_ + d * 2 ^ j.n, cnt := 0, sum := 0 } })
  s.switchInput c (calSource j.phase) (s.fe c).partner (j.gains.headD 0)

/-- A channel's calibration starts (05 R191). -/
def State.calStart (s : State) (c mode n : Nat) (gains : List Nat) : State :=
  let s := (s.openWindow c).updCv c (fun v => { v with calW := 0, calF := 0 })
  (s.updFe c (fun f => { f with testEnd := none })).calMeasure c ⟨mode, n, gains, if mode = 2 then 3 else 0, 0, 0, 0, 0, 0, 0⟩

/-- The offset that a sum of 2^n values gives (05 R189), half toward +∞. DEDUCED (log entry 30). -/
def calOffset (sum : Int) (n : Nat) : Int := -((2 * 16 * sum + 2 ^ n) / 2 ^ (n + 1))

/-- t, within 1 ± 0.0002, in 2^-32 (05 R189). -/
def refTrimOf (t : Nat) : Nat := clampNat (2 ^ 32 - 858993) (2 ^ 32 + 858993) t

/-- The gain that the two sums give; `none` when their difference is not positive (05 R189). -/
def calGain (pos neg : Int) (n : Nat) : Option Nat :=
  let d := 10 * 2 ^ 32 * (pos - neg).toNat
  if d = 0 then none else some ((2 * 36864 * refTrimOf Config.refTrim * 2 ^ 14 * 2 ^ n + d) / (2 * d))

/-- Write a result that passes (05 R190). -/
def State.calResult (s : State) (c g lo len : Nat) (v : Option Nat) : State :=
  match v with
  | some v =>
    let s := if (s.fe c).gain = g then s.noteCorr c else s
    s.rsetf (Reg.CH_CORR c g) lo len v
  | none => s.chEvt c evCAL_FAIL

def offsetOk (v : Int) : Option Nat := if -4096 ≤ v ∧ v ≤ 4096 then some (unsignedOf 16 v) else none
def gainOk (v : Option Nat) : Option Nat := v.filter (fun g => decide (0x399A ≤ g) && decide (g ≤ 0x4666))

/-- A gain step is over: the next gain, or the restore (05 R189 to R191). Gains written and failed are counts, and a gain counts as
written when no result of it failed. DESIGN CHOICE (log entry 30). -/
def State.calNext (s : State) (c : Nat) (j : CalJob) (bad : Bool) : State :=
  let s := s.updCv c (fun v => { v with calW := v.calW + b2n (!bad), calF := v.calF + b2n bad })
  match j.gains.tail with
  | [] =>
    let s := (s.updCv c (fun v => { v with cal := none })).restoreInput c
    { s with calJobs := s.calJobs.map (fun x => { x with left := x.left.erase c }) }
  | l => s.calMeasure c { j with gains := l, phase := if j.mode = 2 then 3 else 0 }

/-- The end of a gain step, with the sums of its measurements: each result that passes is written (05 R190). -/
def State.calStep (s : State) (c : Nat) (j : CalJob) (neg : Int) : State :=
  let g := j.gains.headD 0
  let off := offsetOk (calOffset j.zero j.n)
  let s := s.calResult c g 0 16 off
  if j.mode = 0 then
    let gain := gainOk (calGain j.pos neg j.n)
    (s.calResult c g 16 16 gain).calNext c j (off.isNone || gain.isNone)
  else s.calNext c j off.isNone

/-- Measurement `ph` ends when its 2^n values have come (05 R189). -/
def State.calDone (s : State) (c ph : Nat) : State :=
  match (s.cv c).cal with
  | none => s
  | some j =>
    if j.phase ≠ ph ∨ s.now < j.due ∨ j.cnt ≠ 2 ^ j.n then s
    else
      match j.phase with
      | 1 => s.calMeasure c { j with phase := 2, pos := j.sum }
      | 2 => s.calStep c j j.sum
      | _ => if j.mode = 0 then s.calMeasure c { j with phase := 1, zero := j.sum } else s.calStep c { j with zero := j.sum } 0

end Sys2Proof.Machine
end

