-- ==== Sys2Proof/Machine/ExcOps.lean ====
section
/-! DEFINITION. The front end: clamps, excitation, its faults, vibrating wire, open tests and the governor (04). -/

namespace Sys2Proof.Machine

/-! ## Clamps (04 R122) -/

/-- A sample taken at or after tick `t` carries CLAMPED. -/
def Samp.clamp (t : Nat) (x : Samp) : Samp := if t < x.g + x.d then { x with flags := x.flags ||| fCLAMPED } else x

/-- Samples that the channel still holds carry the flag of an excursion found after they were taken. -/
def Chan.clampHeld (t : Nat) (x : Chan) : Chan :=
  { x with
    zs := { x.zs with pre := x.zs.pre.map (Samp.clamp t), win := x.zs.win.map (fun w => { w with samps := w.samps.map (Samp.clamp t), quiet := w.quiet.map (Samp.clamp t) }) }
    cap := { x.cap with
      ring := x.cap.ring.map (Samp.clamp t), rawBuf := x.cap.rawBuf.map (Samp.clamp t)
      run := x.cap.run.map (fun r => { r with buf := r.buf.map (Samp.clamp t) }) } }

/-- A ball has been beyond its threshold since `age` ticks ago; the comparator reacts within 100 ns (04 R122). -/
def State.clampDetect (s : State) (c ball age : Nat) : State :=
  if 150 < age ∨ s.now < age then s
  else
    let t := s.now - age
    let s := if (s.fe c).clampBalls = 0 then s.bgPause c else s
    let s := s.updFe c (fun f => { f with
      clampBalls := f.clampBalls ||| 2 ^ ball, clamps := if f.clamps.any (fun x => x.b.isNone) then f.clamps else f.clamps ++ [⟨t, none⟩] })
    (s.updChan c (Chan.clampHeld t)).chEvt c evCLAMP

/-- The ball is back inside; CLAMPED lasts 1.0 µs longer (04 R122). -/
def Front.clampEnd (f : Front) (ball now : Nat) : Front :=
  let b := f.clampBalls &&& (15 - 2 ^ ball)
  if f.clampBalls = 0 then f
  else { f with clampBalls := b, clamps := if b = 0 then f.clamps.map (Span.close (now + 1500)) else f.clamps }

/-! ## Conversion runs (04 R134, R135) -/

/-- Runs that `p` names end at the current tick, when they have not ended. -/
def Front.endRuns (p : ConvRun → Bool) (now : Nat) (f : Front) : Front :=
  { f with runs := f.runs.map (fun r => if p r then { r with stop := some (match r.stop with | some e => min e now | none => now) } else r) }

/-- A run with CH_CONV_COUNT 0 ends at its pulse's trailing edge, or at the timer's next event. -/
def Front.endOpenRun (now : Nat) (f : Front) : Front := f.endRuns (fun r => r.want == 0) now

/-- A run in progress ends, with overlap (04 R135). -/
def State.overlap (s : State) (c : Nat) : State :=
  if (s.fe c).inRun s.now then (s.updFe c (Front.endRuns (fun _ => true) s.now)).chEvt c evOVERLAP else s

/-- A start event ends a run in progress; the new one begins CH_CONV_DELAY ticks later (04 R134, R135). -/
def State.runAfterDelay (s : State) (c : Nat) : State :=
  let t := s.now + (s.rget (Reg.CH_CONV_DELAY c)).toNat
  (s.overlap c).updFe c (fun f => { f with convDue := f.convDue ++ [t] })

/-- A run begins; runs whose last sample has left are forgotten (04 R135). -/
def State.convRunStart (s : State) (c : Nat) : State :=
  match (s.fe c).convDue with
  | [] => s
  | t :: l =>
    if s.now < t then s
    else
      let s := s.overlap c
      let n := s.rf (Reg.CH_CONV_COUNT c) 0 16
      let g := (s.cv c).nextG
      (s.updFe c (fun f => { f with
        convDue := l
        runs := f.runs.filter (fun r => match r.stop with | none => true | some e => decide (g < e)) ++ [⟨s.now, n, 0, none⟩] })).chainRestart c

/-- A channel-timer event (04 R134). -/
def State.channelTimer (s : State) (c : Nat) : State :=
  match (s.fe c).timerNext with
  | none => s
  | some t =>
    if s.now < t then s
    else
      let us := s.rf (Reg.CH_TIMER c) 0 26
      let s := s.updFe c (fun f => { f with timerNext := some (t + usTicks us) })
      if s.rf (Reg.CH_EXC_CTRL c) 4 2 = 2 then (s.updFe c (Front.endOpenRun s.now)).runAfterDelay c else s

/-! ## Enabling and disabling (04 R132, R137, R138) -/

/-- VW mode has ended: the frequency unit and the LO discriminator follow their registers again (04 R141, 06 R225). A listen gate that
was cut holds the unit until its result is out. DESIGN CHOICE (log entry 29). -/
def State.vwLeave (s : State) (c : Nat) (was : Bool) : State :=
  if was && !(s.fe c).vwOn && !(s.td c).freq.vw then
    let s := s.startFreq c
    if s.discEn c 0 then s else s.discOff c 0
  else s

/-- The enable takes effect (04 R132). -/
def State.excStart (s : State) (c : Nat) : State :=
  let us := s.rf (Reg.CH_TIMER c) 0 26
  s.updFe c (fun f => { f with
    exc := .idle, nextPulse := some (s.now + usTicks 100), firstPulse := true, shortRun := 0, timerNext := some (s.now + usTicks us) })

/-- enable = 1 is written while excitation is disabled (04 R138, R148). -/
def State.excEnable (s : State) (c : Nat) : State :=
  if s.retired then s
  else match (s.fe c).exc with
  | .off | .fault => s.excStart c
  | .discharge => (s.updFe c (fun f => { f with exc := .enablePending })).chEvt c evENABLE_PEND
  | _ => s

/-- The state that a disable leads to at once (04 R137, R138). -/
def ExcState.disabled : ExcState → ExcState
  | .pulse | .vwDrive | .discharge | .enablePending => .discharge
  | .off | .idle | .fault | .vwListen => .off

/-- enable = 0 is written (04 R137, R138). A conversion run of which the delay still runs does not begin. DESIGN CHOICE (log entry 29). -/
def Front.disable (f : Front) (now : Nat) : Front :=
  let ends := f.exc == .pulse || f.exc == .vwDrive
  { f.endOpenRun now with
    exc := f.exc.disabled, nextPulse := none, pulseEnd := none, sweepEnd := none, listenAt := none, timerNext := none
    convDue := [], pulseStop := if ends then some now else f.pulseStop }

def State.excDisable (s : State) (c : Nat) : State :=
  let was := (s.fe c).vwOn
  let s := s.updFe c (fun f => f.disable s.now)
  let s := if (s.td c).freq.vw then s.updFreq c (fun _ => FreqU.reset) else s
  s.vwLeave c was

/-- The discharge completes (04 R133, R138). -/
def State.dischargeDone (s : State) (c : Nat) : State :=
  let was := (s.fe c).vwOn
  match (s.fe c).exc with
  | .enablePending => (s.excStart c).vwLeave c was
  | .discharge =>
    (s.updFe c (fun f => { f with exc := if f.nextPulse.isSome then .idle else .off })).vwLeave c was
  | _ => s

/-! ## Pulses (04 R132, R133, R136, R150) -/

/-- A level within the range of its mode and CH_EXC_MAX (04 R131, R136). -/
def State.limitLevel (s : State) (c mode v : Nat) : Nat :=
  if mode = 1 then min (clampNat 10 25000 v) (s.rf (Reg.CH_EXC_MAX c) 16 15)
  else min (clampNat 250 10000 v) (s.rf (Reg.CH_EXC_MAX c) 0 15)

/-- Ticks from one pulse start to the next (04 R132, R150). -/
def State.pulsePeriod (s : State) (c stretch : Nat) : Nat :=
  let us := max (s.rf (Reg.CH_EXC_PERIOD c) 0 26) (s.rf (Reg.CH_EXC_WIDTH c) 0 16 + 100)
  min (us * 1500 * stretch / 256) (usTicks 60000000)

/-- Polarity of a pulse (04 R133). -/
def Front.nextNeg (f : Front) (alternate neg : Bool) : Bool := if f.firstPulse || !alternate then neg else !f.neg

/-- The front end at a pulse start (04 R136). -/
def Front.pulseBegin (f : Front) (now next mode level width sweep stretch : Nat) (neg : Bool) : Front :=
  { f with
    exc := if mode = 2 then .vwDrive else .pulse
    mode := mode, level := level, neg := neg, stretch := stretch, firstPulse := false
    pulseStart := now, pulseStop := none, nextPulse := some next
    pulseEnd := if mode = 2 then none else some (now + usTicks width)
    sweepEnd := if mode = 2 then some (now + usTicks sweep) else none
    listenAt := none, shortAt := none, folded := false, revDone := false, ownBalls := false }

/-- A window begins with a pulse that changes mode or level, with the first pulse, and with a vibrating-wire drive (04 R126, R142). -/
def State.pulseWindow (s : State) (c : Nat) (old : Front) : State :=
  let f := s.fe c
  if f.mode = 2 then s.startWindow c (usTicks (s.rf (Reg.CH_VW_SWEEP c) 0 16 + s.rf (Reg.CH_VW_LISTEN c) 0 16))
  else if old.firstPulse || old.mode != f.mode || old.level != f.level then s.settle c
  else s

/-- The frequency unit at a pulse start: a listen gate is cut, one that has not opened included (04 R143), and VW mode takes the unit (06
R225). -/
def State.pulseFreq (s : State) (c : Nat) (was waits : Bool) : State :=
  let s := if waits then s.startVwGate c else s
  let s := if (s.td c).freq.vw then s.updFreq c (fun u => { u with gateEnd := min u.gateEnd s.now }) else s
  if (s.fe c).vwOn then (if was then s else s.updFreq c (fun _ => FreqU.reset)) else s.vwLeave c was

/-- An excitation pulse starts (04 R132, R136, R141, R150). A pulse that falls due while a drive longer than the period still runs starts
when the drive has ended. DESIGN CHOICE (log entry 29). -/
def State.pulseStart (s : State) (c : Nat) : State :=
  let old := s.fe c
  match old.nextPulse with
  | none => s
  | some t =>
    if s.now < t ∨ (old.exc ≠ .idle ∧ old.exc ≠ .vwListen) then s
    else
      let w := s.rget (Reg.CH_EXC_CTRL c)
      let mode := fld w 1 2
      let level := s.limitLevel c mode (s.rf (Reg.CH_EXC_LEVEL c) 0 15)
      let next := t + s.pulsePeriod c s.gov.stretch
      let width := s.rf (Reg.CH_EXC_WIDTH c) 0 16
      let sweep := s.rf (Reg.CH_VW_SWEEP c) 0 16
      let s := s.updFe c (fun f => f.pulseBegin s.now next mode level width sweep s.gov.stretch (f.nextNeg (bit w 3) (bit w 6)))
      let s := (s.pulseWindow c old).pulseFreq c old.vwOn old.listenAt.isSome
      if fld w 4 2 = 1 then s.runAfterDelay c else s

/-- The pulse counts for the short condition (04 R144, R148). -/
def Front.judgeShort (f : Front) (now : Nat) : Front :=
  if f.shortAt.isSome then { f with shortRun := f.shortRun + 1 }
  else { f with shortRun := 0, excShort := false, shorts := f.shorts.map (Span.close now) }

/-- What a pulse leaves: CH_EXC_MEAS, and the judgement of its shorts; 16 in a row are a fault, in which no pulse is driven while runs
under TIMER go on (04 R134, R148, R149). -/
def State.pulseOver (s : State) (c mv ua : Nat) : State :=
  let s := s.rset (Reg.CH_EXC_MEAS c) (word (ua * 65536 + mv))
  let s := s.updFe c (fun f => (f.judgeShort s.now))
  if 16 ≤ (s.fe c).shortRun then
    (s.updFe c (fun f => { f with exc := .fault, nextPulse := none, listenAt := none })).chEvt c evEXC_FAULT
  else s

/-- The trailing edge of a pulse (04 R133). -/
def State.pulseEnd (s : State) (c mv ua : Nat) : State :=
  match (s.fe c).pulseEnd with
  | none => s
  | some t =>
    if s.now < t ∨ (s.fe c).exc ≠ .pulse then s
    else
      let s := s.updFe c (fun f => { f.judgeOpen s.now with exc := .discharge, pulseStop := some s.now, pulseEnd := none })
      let s := if s.rf (Reg.CH_EXC_CTRL c) 4 2 = 1 then s.updFe c (Front.endOpenRun s.now) else s
      s.pulseOver c mv ua

/-! ## Vibrating wire (04 R141 to R143) -/

/-- The drive ends: the driver releases, and the listen delay runs. -/
def State.sweepDone (s : State) (c mv ua : Nat) : State :=
  match (s.fe c).sweepEnd with
  | none => s
  | some t =>
    if s.now < t ∨ (s.fe c).exc ≠ .vwDrive then s
    else
      let at_ := s.now + usTicks (s.rf (Reg.CH_VW_LISTEN c) 0 16)
      let s := s.updFe c (fun f =>
        ({ f with exc := .vwListen, pulseStop := some s.now, sweepEnd := none, listenAt := some at_ }).judgeOpen s.now)
      let s := if s.rf (Reg.CH_EXC_CTRL c) 4 2 = 1 then s.updFe c (Front.endOpenRun s.now) else s
      let s := s.pulseOver c mv ua
      s.vwLeave c true

/-- The listen gate opens. -/
def State.listenStart (s : State) (c : Nat) : State :=
  match (s.fe c).listenAt with
  | none => s
  | some t => if s.now < t then s else (s.updFe c (fun f => { f with listenAt := none })).startVwGate c

/-- The listen gate is over and gives its FREQ record (04 R142, R143). -/
def State.vwGateEnd (s : State) (c : Nat) : State :=
  if !(s.gateOver c true) then s
  else
    let r := (s.td c).freq.gate.result (s.prescK c 0) (s.freeCtr + 2) true
    let s := s.gateRecord c true
    let s := s.updFe c (fun f => { f with vwMhz := r.mhz, vwNs := r.ns, exc := if f.exc = .vwListen then .idle else f.exc })
    let s := (s.updFreq c (fun _ => FreqU.reset)).vwLeave c true
    if r.fail then s.chEvt c evVW_FAIL else s

/-! ## Faults (04 R139, R140, R144 to R148) -/

/-- The driver drives current. -/
def Front.driving (f : Front) : Bool := f.exc == .pulse || f.exc == .vwDrive

/-- A short is detected (04 R144). -/
def State.shortDetect (s : State) (c : Nat) : State :=
  let f := s.fe c
  if !f.driving || f.shortAt.isSome then s
  else
    (s.updFe c (fun f => { f with
      shortAt := some s.now, excShort := true, shorts := if f.excShort then f.shorts else f.shorts ++ [⟨s.now, none⟩] })).chEvt c evEXC_SHORT

/-- 10 µs at the limit (04 R144). -/
def State.shortFoldback (s : State) (c : Nat) : State :=
  match (s.fe c).shortAt with
  | none => s
  | some t => if t + usTicks 10 ≤ s.now ∧ (s.fe c).driving then s.updFe c (fun f => { f with folded := true }) else s

/-- The condition holds from now on. -/
def Front.openSpan (f : Front) (now : Nat) : Front :=
  { f with excOpen := true, excOpens := if f.excOpen then f.excOpens else f.excOpens ++ [⟨now, none⟩] }

/-- An excitation open is detected (04 R144). -/
def State.openDetect (s : State) (c : Nat) : State :=
  if !(s.fe c).driving || !(s.rb (Reg.CH_EXC_CTRL c) 7) then s
  else
    (s.updFe c (fun f => ({ f.judgeOpen s.now with openAt := some s.now }).openSpan s.now)).chEvt c evEXC_OPEN

/-- The monitor judges the sensed excitation 2 µs after the leading edge, in the unit of the level (04 R140); a drive's polarity is that of
its first half wave. DEDUCED (log entry 29). -/
def State.reversedCheck (s : State) (c : Nat) (sense : Int) : State :=
  let f := s.fe c
  if f.revDone || !f.driving || decide (s.now < f.pulseStart + usTicks 2) then s
  else
    let s := s.updFe c (fun f => { f.judgeOpen s.now with revDone := true })
    let opp := if f.neg then decide (0 < sense) else decide (sense < 0)
    let same := if f.neg then decide (sense < 0) else decide (0 < sense)
    if opp && decide (f.level ≤ 8 * sense.natAbs) then
      (s.updFe c (fun f => { f with reversed := true, ownBalls := true })).chEvt c evREVERSED
    else if same then s.updFe c (fun f => { f with reversed := false })
    else s

/-- An input open is found (04 R144). -/
def State.wireOpen (s : State) (c : Nat) : State :=
  (s.updFe c (fun f => { f with
    openWire := true, wireOpens := if f.openWire then f.wireOpens else f.wireOpens ++ [⟨s.now, none⟩] })).chEvt c evOPEN_WIRE

/-- The input is whole again (04 R144). -/
def State.wireWhole (s : State) (c : Nat) : State :=
  s.updFe c (fun f => { f with openWire := false, wireOpens := f.wireOpens.map (Span.close s.now) })

/-- An open-test step starts (04 R146); a run under EXC_EDGE or TIMER, a calibration and a step in progress defer it. -/
def State.openTestStep (s : State) (c : Nat) : State :=
  match (s.fe c).testNext with
  | none => s
  | some t =>
    if s.now < t ∨ (s.chan c).held ∨ (s.fe c).testEnd.isSome ∨ (!(s.continuous c) ∧ (s.fe c).inRun s.now) then s
    else
      let per := s.rf (Reg.CH_OPEN_TEST c) 0 16 * 150000
      let f := s.fe c
      let s := s.updFe c (fun f => { f with testNext := some (t + per), testPrev := f.src, testN := 0, testSum := 0, testEnd := some (s.now + usTicks 4) })
      (s.switchInput c 8 f.partner f.gain).settle c

/-- The step ends and judges the mean of its samples against 0.9 × full scale (04 R146); without a sample the verdict is `free`, of which the
manual says nothing. DESIGN CHOICE (log entry 29). -/
def State.openTestReturn (s : State) (c : Nat) (free : Bool) : State :=
  match (s.fe c).testEnd with
  | none => s
  | some t =>
    if s.now < t then s
    else
      let f := s.fe c
      let bad := if f.testN = 0 then free else decide (9 * 32768 * f.testN ≤ 10 * f.testSum.natAbs)
      let s := s.updFe c (fun f => { f with testEnd := none })
      let s := (s.switchInput c f.testPrev f.partner f.gain).settle c
      if bad then s.wireOpen c else s.wireWhole c

/-! ## Governor (04 R149 to R151) -/

/-- P_req in nW, as a fraction: the sum over channels with excitation enabled (04 R149). -/
def State.excPower (s : State) : Int × Nat :=
  let vexc := mget 0 s.hk.sys 10
  ((List.range 192).filter (fun c => (s.fe c).exc != .off && s.rb (Reg.CH_EXC_CTRL c) 0)).foldl
    (fun a c =>
      let m := s.rget (Reg.CH_EXC_MEAS c)
      let v : Int := (125 * vexc : Nat) - 32 * ((signedOf 16 (fld m 0 16)).natAbs : Int)
      let w := if s.rf (Reg.CH_EXC_CTRL c) 1 2 = 2 then s.rf (Reg.CH_VW_SWEEP c) 0 16 else s.rf (Reg.CH_EXC_WIDTH c) 0 16
      let n : Int := v * (signedOf 16 (fld m 16 16)).natAbs * w
      let d := 32 * s.rf (Reg.CH_EXC_PERIOD c) 0 26
      if d = 0 then a else (a.1 * d + n * a.2, a.2 * d))
    (0, 1)

/-- The smallest multiple of 1/256, from 1 to 4095/256, that keeps the power within `lim` nW. -/
def stretchFor (p : Int × Nat) (lim : Nat) : Nat := clampNat 256 4095 (ceilDiv (p.1.toNat * 256) (p.2 * lim))

/-- The new stretch factor: it falls only to a value that keeps 3.8 W (04 R150). DEDUCED (log entry 29). -/
def newStretch (cur : Nat) (p : Int × Nat) : Nat :=
  let up := stretchFor p 4000000000
  let down := stretchFor p 3800000000
  if cur ≤ up then up else if down < cur then down else cur

/-- The governor's turn (04 R149 to R151). -/
def State.excGovernor (s : State) : State :=
  if s.now < s.gov.next then s
  else
    let p := s.excPower
    let n := newStretch s.gov.stretch p
    let rose := s.gov.stretch == 256 && decide (256 < n)
    let s := { s with gov := { next := s.gov.next + msTicks 10, preq := satNat 65535 (p.1.toNat / (p.2 * 1000000)), stretch := n } }
    if rose then forEach (List.range 192) (fun s c => s.chEvt c evGOV) s else s

end Sys2Proof.Machine
end

