-- ==== Sys2Proof/Machine/Codec.lean ====
section
/-! DEFINITION. The coder of CBLOCK payloads (13 R433 to R438, R444). -/

namespace Sys2Proof.Machine

/-- Number of binary digits of `n`. -/
def bitLength (n : Nat) : Nat := if n = 0 then 0 else Nat.log2 n + 1

/-- Width of a code (13 R436): `D` entries held by the decoder before it, `f` 0 for the first code of a block. -/
def codeWidth (D f : Nat) : Nat := min 16 (max 9 (bitLength (257 + D + f)))

/-- Width of every code of a static stream of `E` entries (13 R438). -/
def staticWidth (E : Nat) : Nat := max 9 (bitLength (257 + E))

/-- RESET and END (13 R433). -/
def cRESET : Nat := 256
def cEND : Nat := 257

/-- The code of the string of code `S` followed by byte `b`, when the dictionary holds it. -/
def Dict.find (d : Dict) (S : Nat) (b : Byte) : Option Nat :=
  (d.findIdx? (fun e => e.1 == S && e.2 == b)).map (· + 258)

/-- An encoder: dictionary, current string, bits written and their number, and whether a code has been written in the block. -/
structure Enc where
  dict : Dict
  cur : Option Nat
  bits : Nat
  n : Nat
  later : Bool
  deriving DecidableEq, Repr

/-- Write a code of width `w`, least significant bit first (13 R433). -/
def Enc.put (e : Enc) (c w : Nat) : Enc := { e with bits := e.bits + c * 2 ^ e.n, n := e.n + w, later := true }

/-- Width of the next code of the dynamic coder: the decoder's dictionary lags by one entry after the first code. -/
def Enc.width (e : Enc) : Nat := if e.later then codeWidth (e.dict.length - 1) 1 else codeWidth e.dict.length 0

/-- One input byte of the dynamic coder (13 R435, R437). -/
def Enc.step (e : Enc) (b : Byte) : Enc :=
  match e.cur with
  | none => { e with cur := some b.toNat }
  | some S =>
    match e.dict.find S b with
    | some c => { e with cur := some c }
    | none =>
      let e := e.put S e.width
      let e := { e with dict := e.dict ++ [(S, b)], cur := some b.toNat }
      if 258 + e.dict.length = 65536 then { e.put cRESET e.width with dict := [] } else e

/-- The end of a block (13 R435): the code of S, then END. -/
def Enc.done (e : Enc) : Enc :=
  match e.cur with
  | none => e.put cEND (codeWidth e.dict.length (if e.later then 1 else 0))
  | some S =>
    let e := e.put S e.width
    e.put cEND (codeWidth e.dict.length 1)

/-- The payload of the bits written (13 R433). -/
def Enc.bytes (e : Enc) : List Byte := leBytes (ceilDiv e.n 8) e.bits

/-- Code a block with a dynamic dictionary: payload and the dictionary after it. -/
def encodeDyn (d : Dict) (l : List Byte) : List Byte × Dict :=
  let e := (l.foldl Enc.step ⟨d, none, 0, 0, false⟩).done
  (e.bytes, e.dict)

/-- One input byte of the static coder (13 R438): the longest match. -/
def Enc.stepStatic (e : Enc) (b : Byte) : Enc :=
  match e.cur with
  | none => { e with cur := some b.toNat }
  | some S =>
    match e.dict.find S b with
    | some c => { e with cur := some c }
    | none => { e.put S (staticWidth e.dict.length) with cur := some b.toNat }

/-- Code a block with a static dictionary. -/
def encodeStatic (d : Dict) (l : List Byte) : List Byte :=
  let e := l.foldl Enc.stepStatic ⟨d, none, 0, 0, false⟩
  let w := staticWidth d.length
  let e := match e.cur with | none => e | some S => e.put S w
  (e.put cEND w).bytes

/-- The string of a code (13 R434), most recent byte last; `none` for a code that names no entry. Prefixes have lower
indices, so the code itself bounds the walk. -/
def codeString (d : Dict) : Nat → Nat → Option (List Byte)
  | 0, _ => none
  | fuel + 1, c =>
    if c < 256 then some [BitVec.ofNat 8 c]
    else if c < 258 then none
    else
      match d[c - 258]? with
      | none => none
      | some (p, b) => (codeString d fuel p).map (· ++ [b])

/-- How a decoding ended. -/
inductive DecEnd where
  | ok (bytes : List Byte) (dict : Dict)
  | limit
  | error
  deriving DecidableEq, Repr

/-- A decoder: dictionary, code read before (none at a block's first code and after RESET), output, bits read, and whether
a code has been read. -/
structure Dec where
  dict : Dict
  prev : Option Nat
  out : List Byte
  pos : Nat
  later : Bool
  deriving DecidableEq, Repr

/-- The entry that the decoder completes with the code just read (13 R435): the previous string and this one's first
byte. -/
def Dec.learn (d : Dec) (c : Nat) : Option (Dict × List Byte) :=
  match d.prev with
  | none => (codeString d.dict (c + 1) c).map (fun t => (d.dict, t))
  | some p =>
    match codeString d.dict (p + 1) p with
    | none => none
    | some ps =>
      if c = 258 + d.dict.length then
        let t := ps ++ ps.take 1
        (t.getLast?).map (fun b => (d.dict ++ [(p, b)], t))
      else
        match codeString d.dict (c + 1) c with
        | none => none
        | some t => (t.head?).map (fun b => (d.dict ++ [(p, b)], t))

/-- The fill after END is whole and zero (13 R433, R436). -/
def fillOk (payload : List Byte) (pos : Nat) : Bool :=
  payload.length == ceilDiv pos 8 && leNat payload / 2 ^ pos == 0

/-- The last entry, whose byte is the first of a string that a block's last code named, is created by no code after it:
decoder and encoder agree at END (13 R435). -/
def decodeDyn (payload : List Byte) (limit : Nat) : Nat → Dec → DecEnd
  | 0, _ => .error
  | fuel + 1, d =>
    let w := if d.later then codeWidth d.dict.length 1 else codeWidth d.dict.length 0
    if 8 * payload.length < d.pos + w then .error
    else
      let c := leNat payload / 2 ^ d.pos % 2 ^ w
      let pos := d.pos + w
      if c = cEND then (if fillOk payload pos then .ok d.out d.dict else .error)
      else if c = cRESET then decodeDyn payload limit fuel { d with dict := [], prev := none, pos := pos, later := true }
      else
        match d.learn c with
        | none => .error
        | some (dict, t) =>
          if limit < d.out.length + t.length then .limit
          else decodeDyn payload limit fuel ⟨dict, some c, d.out ++ t, pos, true⟩

/-- Decode a static block (13 R438, R444). -/
def decodeStatic (payload : List Byte) (limit : Nat) (dict : Dict) : Nat → Nat → List Byte → DecEnd
  | 0, _, _ => .error
  | fuel + 1, pos, out =>
    let w := staticWidth dict.length
    if 8 * payload.length < pos + w then .error
    else
      let c := leNat payload / 2 ^ pos % 2 ^ w
      if c = cEND then (if fillOk payload (pos + w) then .ok out dict else .error)
      else
        match codeString dict (c + 1) c with
        | none => .error
        | some t =>
          if limit < out.length + t.length then .limit
          else decodeStatic payload limit dict fuel (pos + w) (out ++ t)

/-- Most codes that a payload can hold, plus one. -/
def codeFuel (payload : List Byte) : Nat := payload.length + 1

/-- The whole records of a byte string take all of it (13 R444). -/
def wholeRecs (l : List Byte) : Bool := (recsBytes (recsOf (l.length / 16 + 1) l)).length == l.length

end Sys2Proof.Machine
end

