-- ==== Sys2Proof/Machine/HostRings.lean ====
section
/-! DEFINITION. Descriptor rings in host memory (16 R536 to R541): streams 0 to 63, and the dump rings of PF0 to PF3 at 64
to 67. -/

namespace Sys2Proof.Machine

/-! ## Settings (16 R545) -/

def ringCfg (k : Nat) : Nat := if k < 64 then Reg.HOSTIF_SR_CFG k else Reg.HOSTIF_DR_CFG (k - 64)

/-- The function that owns a ring. -/
def State.ringPf (s : State) (k : Nat) : Nat := if k < 64 then s.rf (ringCfg k) 28 2 else k - 64
/-- Base of the descriptor array. -/
def State.ringBase (s : State) (k : Nat) : Nat :=
  if k < 64 then (s.rget (Reg.HOSTIF_SR_BASE_LO k)).toNat + (s.rget (Reg.HOSTIF_SR_BASE_HI k)).toNat * 2 ^ 32
  else (s.rget (Reg.HOSTIF_DR_BASE_LO (k - 64))).toNat + (s.rget (Reg.HOSTIF_DR_BASE_HI (k - 64))).toNat * 2 ^ 32
/-- Number of descriptors. -/
def State.ringN (s : State) (k : Nat) : Nat := 2 ^ (min 9 (s.rf (ringCfg k) 24 4) + 3)
/-- Bytes of a buffer. -/
def State.ringSize (s : State) (k : Nat) : Nat := 2 ^ (min 9 (s.rf (ringCfg k) 16 4) + 12)
def State.ringClose (s : State) (k : Nat) : Nat := usTicks (s.rf (ringCfg k) 0 16)

/-! ## Descriptors (16 R537) -/

/-- Read descriptor `i`; `second` marks the read of step 3. -/
def State.readDesc (s : State) (k i : Nat) (second : Bool) : State :=
  (s.updRing k (fun r => { r with reading := some (i, s.now, second) })).emitOut
    (.hostRead (s.ringPf k) (s.ringBase k + 16 * i) 16)

/-- A ring has something to write: a record, or the end of its stream (16 R538). -/
def HRing.busy (r : HRing) : Bool := !r.recs.isEmpty || (r.last && !r.ended)

/-- A buffer is needed (16 R537 step 3, R538): a record waits, or the stream has ended without its last descriptor. -/
def HRing.needs (r : HRing) : Bool := r.buf.isNone && r.busy

/-- The ring stalls (16 R537). -/
def State.ringStall (s : State) (k : Nat) : State :=
  let s := if k < 64 ∧ (s.ring k).st = 1 then s.cnt (Reg.HOSTIF_SR_STALL k) else s
  s.updRing k (fun r => { r with st := 2, pollAt := s.now + usTicks (s.rf Reg.HOSTIF_POLL 0 8) })

/-- Open the next buffer, and read the descriptor after it (16 R537 step 1). -/
def State.openBuf (s : State) (k addr : Nat) : State :=
  let s := s.updRing k (fun r => { r with st := 1, buf := some ⟨addr, 0, none⟩, copy := none })
  s.readDesc k (((s.ring k).next + 1) % s.ringN k) false

/-- Look for the next buffer: open it when its copy is READY, read its descriptor once more when it is not; a ring in STALL waits for its
next poll. -/
def State.seekBuf (s : State) (k : Nat) : State :=
  let r := s.ring k
  if r.reading.isSome then s
  else
    match r.copy with
    | some d => if d.index = r.next ∧ d.ready then s.openBuf k d.addr else if r.st = 2 then s else s.readDesc k r.next true
    | none => if r.st = 2 then s else s.readDesc k r.next true

/-! ## Closing a buffer (16 R538, R540, R541) -/

/-- Signal vector `k` of a stream ring, or 65 for a dump ring. -/
def State.ringSignal (s : State) (k : Nat) : State :=
  if 64 ≤ k then (if s.rb (ringCfg k) 30 then s.msix (k - 64) 65 else s)
  else if !s.rb (Reg.HOSTIF_SR_IRQ k) 31 then s
  else
    let gap := s.rf (Reg.HOSTIF_SR_IRQ k) 0 16
    let waiting := match (s.ring k).modEnd with | some t => decide (s.now < t) | none => false
    if gap = 0 then s.msix (s.ringPf k) k
    else if waiting then s.updRing k (fun r => { r with modPend := true })
    else (s.msix (s.ringPf k) k).updRing k (fun r => { r with modEnd := some (s.now + usTicks gap) })

/-- Close the open buffer: bytes 8 to 15 of its descriptor, with DONE, then the interrupt. -/
def State.closeBuf (s : State) (k : Nat) (timeout : Bool) : State :=
  match (s.ring k).buf with
  | none => s
  | some b =>
    let r := s.ring k
    let fin := r.last && r.recs.isEmpty && !timeout
    let d := leBytes 4 b.used ++ leBytes 2 r.seq ++ leBytes 1 (b2n timeout + 2 * b2n fin) ++ leBytes 1 0x40
    let s := s.hostWrite (s.ringPf k) (s.ringBase k + 16 * r.next + 8) d
    let s := s.updRing k (fun r => { r with
      buf := none, seq := (r.seq + 1) % 65536, next := (r.next + 1) % s.ringN k, ended := r.ended || fin })
    s.ringSignal k

/-! ## Records (11 R385, R386) -/

/-- Write bytes into the open buffer. -/
def State.bufWrite (s : State) (k : Nat) (b : HBuf) (l : List Byte) : State :=
  let s := s.hostWrite (s.ringPf k) (b.addr + b.used) l
  let s := s.updRing k (fun r => { r with
    buf := some { b with used := b.used + l.length, firstTick := some (b.firstTick.getD s.now) } })
  if k < 64 then s.cntN (Reg.HOSTIF_SR_UNITS k) (l.length / 16) else s

/-- The PAD record that fills `n` bytes (11 R385). -/
def padRec (n : Nat) : Rec := ⟨tPAD, 0, 0, 0, 0, 0, 0, List.replicate (n - 16) 0⟩

/-- Fill the rest of the open buffer. -/
def State.padBuf (s : State) (k : Nat) (b : HBuf) : State :=
  let n := s.ringSize k - b.used
  if n < 16 then s else s.bufWrite k b (padRec n).bytes

/-- A record longer than a whole buffer gives way to a GAP (11 R386). -/
def State.fitRec (s : State) (k : Nat) (r : Rec) : Rec × State :=
  if 16 * r.units ≤ s.ringSize k then (r, s)
  else s.number (gapRec 4 (0x2000 + k) 1 r.ts r.ts 0 4 r.cls r.typ r.idx)

/-- The first waiting record goes into the open buffer, or closes it. -/
def State.ringRecord (s : State) (k : Nat) (b : HBuf) (r : Rec) : State :=
  if b.used + 16 * r.units ≤ s.ringSize k then
    let s := s.bufWrite k b r.bytes
    s.updRing k (fun x => { x with recs := x.recs.tail })
  else (s.padBuf k b).closeBuf k false

/-- Work of a ring: `fuel` bounds the records and buffers. A ring whose function may not write stalls (16 R532). -/
def State.ringWork : Nat → State → Nat → State
  | 0, s, _ => s
  | n + 1, s, k =>
    let r := s.ring k
    if r.st = 0 ∨ r.st = 3 ∨ !r.busy ∨ (r.st = 2 ∧ r.buf.isSome) then s
    else if !s.pfLive (s.ringPf k) then (if r.st = 1 then s.ringStall k else s)
    else if r.needs then
      let s := s.seekBuf k
      if (s.ring k).buf.isSome then State.ringWork n s k else s
    else
      match r.buf, r.recs with
      | some b, x :: _ => State.ringWork n (s.ringRecord k b x) k
      | some _, [] => if r.last then s.closeBuf k false else s
      | none, _ => s

def State.ringPump (s : State) (k : Nat) : State := State.ringWork (3 * (s.ring k).recs.length + 3) s k

/-- Give a record to a ring. -/
def State.ringGive (s : State) (k : Nat) (r : Rec) : State :=
  let (r, s) := s.fitRec k r
  (s.updRing k (fun x => { x with recs := x.recs ++ [r] })).ringPump k

/-- A ring takes the next record: it runs and has none waiting (16 R537). -/
def State.ringFree (s : State) (k : Nat) : Bool := (s.ring k).st == 1 && (s.ring k).recs.isEmpty

/-- A descriptor has been read (16 R536, R537). -/
def State.descRead (s : State) (k : Nat) (l : List Byte) : State :=
  let r := s.ring k
  match r.reading with
  | none => s
  | some (i, _, second) =>
    let ready := (fieldAt l 15 1).testBit 7
    let s := s.hostIn (s.ringPf k) 16
    let s := s.updRing k (fun x => { x with reading := none, copy := some ⟨i, fieldAt l 0 8 / 64 * 64, ready⟩ })
    if i = r.next ∧ r.needs then
      if ready then s.ringPump k
      else if second then s.ringStall k
      else s.readDesc k i true
    else s

/-- A stalled ring reads its descriptor again (16 R537); one that stalled with a buffer open (16 R532) goes on when its function may write. -/
def State.ringPoll (s : State) (k : Nat) : State :=
  let r := s.ring k
  if r.st = 2 ∧ r.reading.isNone ∧ r.pollAt ≤ s.now then
    if !s.pfLive (s.ringPf k) then s.ringStall k
    else if r.buf.isSome then (s.updRing k (fun x => { x with st := 1 })).ringPump k
    else s.readDesc k r.next true
  else s

/-- A ring at descriptor 0: its buffer sequence goes on (16 R539), and after an ERROR so do the records that it has not written and
the end of its stream. -/
def HRing.cleared (r : HRing) : HRing :=
  if r.err then { HRing.reset with seq := r.seq, recs := r.recs, last := r.last, ended := r.ended }
  else { HRing.reset with seq := r.seq }

/-- Enable or disable a ring by its register (16 R537, R539, R546). DEDUCED (log entry 50). -/
def State.ringStart (s : State) (k : Nat) : State :=
  let s := s.updRing k (fun r => { r.cleared with st := 1 })
  if s.pfLive (s.ringPf k) then s.readDesc k 0 false else s.ringStall k
def State.ringOff (s : State) (k : Nat) : State := s.updRing k (fun r => { r.cleared with err := r.err })

/-- The stream has given its last record: its ring ends with a descriptor that carries bit1 (16 R538). -/
def State.ringEnd (s : State) (k : Nat) : State :=
  if (s.ring k).last then s else (s.updRing k (fun r => { r with last := true })).ringPump k

end Sys2Proof.Machine
end

