-- ==== Sys2Proof/Machine/LinkDevOps.lean ====
section
/-! DEFINITION. Training, link state, enumeration and failover (15 R482 to R516). -/

namespace Sys2Proof.Machine

/-! ## What the compression unit keeps for links (13 R439, R441) -/

/-- UP streams that are not closed. -/
def State.upStreams (s : State) : List Nat :=
  (List.range 64).filter (fun k => (s.stream k).st != 0 && (s.stream k).up)

/-- The next block of a stream carries the reset bit. -/
def CStream.resetDict (c : CStream) : CStream := { c with resetNext := true }

/-- The dictionary of every UP stream resets at a change of the active UP (13 R439). -/
def State.resetUpDicts (s : State) : State :=
  forEach s.upStreams (fun s k => s.updComp (fun c => { c with
    streams := mupd none c.streams k (fun o => o.map CStream.resetDict) })) s

/-- A link decompressor gives back the slots of a port that goes DOWN (13 R441). -/
def Comp.dropPort (c : Comp) (p : Nat) : Comp :=
  { c with
    origins := c.origins.filter (fun e => e.1 / 64 != p)
    slots := c.slots.filter (fun e => !(e.2.1 == 2 && e.2.2.2 == p))
    blocks := c.blocks.filter (fun b => b.port != p) }

/-! ## Lanes (15 R484 to R488) -/

/-- A lane may run: its own enable is set. -/
def State.laneEn (s : State) (l : Nat) : Bool := s.rb (Reg.LANE_CTRL l) 31

/-- A lane that starts training: from scratch (`full`) or from the stored settings (15 R486). -/
def Lane.train (l : Lane) (full : Bool) : Lane :=
  { l with st := 6, ready := false, farReady := false, lockTick := 0, full := full, due := 0 }

/-- A lane that is powered down. -/
def Lane.off (l : Lane) : Lane := { l with st := 0, ready := false, farReady := false, lockTick := 0 }

/-- Start training of one lane; a lane whose enable is clear stays off. -/
def State.trainLane (s : State) (full : Bool) (l : Nat) : State :=
  if s.laneEn l && !s.retired then (s.updLane l (fun x => x.train full)).emitOut (.train l false) else s.updLane l Lane.off

/-- The lanes of a port in lock. -/
def State.lockedLanes (s : State) (p : Nat) : List Nat := (s.portLanes p).filter (fun l => (s.lane l).locked)

/-- Bit i of the mask: lane L(4p + i) in lock (LINK_STATUS.locked). -/
def State.lockedMask (s : State) (p : Nat) : Nat := ((s.lockedLanes p).map (fun l => 2 ^ (l - 4 * p))).sum

/-! ## Training (15 R505, R506) -/

/-- A receiving side at the start of a training: what was in assembly is lost; whole messages stay, with no credits held. -/
def PortRx.restart (r : PortRx) (now : Nat) : PortRx :=
  { PortRx.reset with inbox := r.inbox.map (fun m => { m with cost := 0 }), tmsg := r.tmsg, tmsgOut := r.tmsgOut,
                      creditDue := now + usTicks 100 }

/-- A sending side at the start of a training: unacknowledged frames are lost, waiting VC2 frames wait on. -/
def PortTx.restart (t : PortTx) (now : Nat) : PortTx :=
  { PortTx.reset with waiting := t.waiting.filter (fun f => f.vc == 2), lastAck := now }

/-- A port that starts training. -/
def Port.train (x : Port) (now : Nat) : Port :=
  { x with st := 1, hello := false, firstReady := none, tx := x.tx.restart now, rx := x.rx.restart now }

/-- Start training of a port, or leave it OFF when it is disabled or its lanes are taken (15 R482). -/
def State.trainPort (s : State) (full : Bool) (p : Nat) : State :=
  if s.retired || s.portTaken p || !s.rb (Reg.LINK_CTRL p) 31 then s.updPort p (fun x => { x with st := 0 })
  else forEach (s.portLanes p) (fun s l => s.trainLane full l) (s.updPort p (fun x => x.train s.now))

/-- The HELLO of this end (15 R499). -/
def State.helloMsg (s : State) (p : Nat) : List Byte :=
  leBytes 8 s.sec.fuses.serial.toNat ++ leBytes 1 s.ldev.id ++ leBytes 1 p
    ++ leBytes 1 (b2n s.sec.straps.domainHead + 2 * b2n s.sec.straps.pcieEn) ++ leBytes 1 (s.port p).role
    ++ leBytes 2 s.ldev.enumNum

/-- Announce the cumulative credits of every VC (15 R497). -/
def State.sendCredits (s : State) (p : Nat) : State := forEach [0, 1, 2, 3] (fun s vc => s.sendCredit p vc) s

/-- A lane is READY at both ends. -/
def Lane.bothReady (l : Lane) : Bool := l.locked && l.ready && l.farReady

/-- Every lane of the width is READY, or 2 ms have passed since the first was (15 R505). -/
def State.trainDone (s : State) (p : Nat) : Bool :=
  let ls := s.portLanes p
  (!ls.isEmpty && ls.all (fun l => (s.lane l).bothReady)) ||
    (match (s.port p).firstReady with
     | some t => decide (t + msTicks 2 ≤ s.now)
     | none => false)

/-- Note the first READY lane of a port in training. -/
def State.noteReady (s : State) (l : Nat) : State :=
  let p := s.lanePort l
  if (s.lane l).bothReady && (s.port p).st == 1 then
    s.updPort p (fun x => { x with firstReady := some (x.firstReady.getD s.now) })
  else s

/-- Roles that match over one link (15 R506). -/
def rolesMatch (mine theirs : Nat) : Bool :=
  (mine == 1 && theirs == 3) || (mine == 2 && theirs == 3) || (mine == 3 && (theirs == 1 || theirs == 2))

/-- The role of a port is lost: NONE, its routes removed, and it is the active UP no more (15 R506), so that the device is rooted only
as root (15 R512). -/
def State.dropRole (s : State) (p : Nat) : State :=
  let s := s.updPort p (fun x => { x with role := 0 })
  s.updDev (fun d => { d.dropRoutes p with
    up := if d.up = some p then none else d.up, rooted := d.rooted && (d.root || d.up != some p) })

/-- A lane when its port becomes ACTIVE: in lock with its settings stored, or hunting. -/
def Lane.active (l : Lane) : Lane :=
  if l.st = 6 then (if l.locked then { l with st := 2, eqStored := l.eq, full := false } else { l with st := 1 }) else l

/-- The port becomes ACTIVE (15 R505). -/
def State.portActive (s : State) (p : Nat) : State :=
  let s := s.updPort p (fun x => { x with st := 2, hello := false })
  let s := forEach (s.portLanes p) (fun s l => s.updLane l Lane.active) s
  let s := s.evt (Reg.LINK_EVT p) 1
  let x := s.port p
  let s := s.linkEvent p 0xFF 2 ((s.lockedLanes p).length % 16 + x.neighId * 256 + x.neighPort * 65536)
  s.pump p

/-- Set the neighbour that a HELLO names. -/
def Port.meet (x : Port) (l : List Byte) : Port :=
  { x with neighSerial := BitVec.ofNat 64 (fieldAt l 0 8), neighId := fieldAt l 8 1, neighPort := fieldAt l 9 1 % 4,
           neighKnown := true }

/-- Keep or drop the port's role on a HELLO (15 R506). -/
def State.judgeRole (s : State) (p : Nat) (same : Bool) (l : List Byte) : State :=
  if (s.port p).role = 0 then s
  else if same && fieldAt l 12 2 == s.ldev.enumNum && rolesMatch (s.port p).role (fieldAt l 11 1) then
    if (s.port p).role = 1 ∧ s.ldev.up = none then s.updDev (fun d => { d with up := some p }) else s
  else s.dropRole p

/-! ## DOWN (15 R505, R513) -/

/-- Send a VC1 message on every DOWN port. -/
def State.tellDown (s : State) (kind : Nat) (payload : List Byte) : State :=
  forEach s.downPorts (fun s q => s.sendMsg q 1 kind payload) s

/-- The device loses its root: ROOT_LOST goes down, and a failover falls due within 10 µs (15 R513). -/
def State.unroot (s : State) (cause : Nat) : State :=
  let s := s.updDev (fun d => { d with rooted := false, failDue := some (cause, s.now + usTicks 10) })
  s.tellDown 4 (leBytes 1 s.ldev.id)

/-- A DOWN-role port that goes DOWN takes its routes with it (15, worked example). -/
def State.downRoutes (s : State) (p : Nat) : State :=
  if (s.port p).role = 3 then s.updDev (fun d => d.dropRoutes p) else s

/-- A lane of a port that goes DOWN hunts, so that it can lock again (15 R505). DEDUCED (log entry 46). -/
def Lane.hunt (l : Lane) : Lane := if l.st = 2 ∨ l.st = 3 then { l with st := 1, lockTick := 0 } else l

/-- A port goes DOWN: cause 0 lock, 1 retry, 2 disabled, 3 new neighbour (15 R505, R517). -/
def State.portDown (s : State) (p cause : Nat) : State :=
  let s := forEach (s.portLanes p) (fun s l => s.updLane l Lane.hunt) s
  let s := s.updPort p (fun x => { x with st := 3, hello := false, firstReady := none, rx := x.rx.restart s.now })
  let s := s.evt (Reg.LINK_EVT p) 2
  let s := s.linkEvent p 0xFF 3 cause
  let s := s.updComp (fun c => c.dropPort p)
  let s := s.updProbe p (fun x => { x with out := none })
  let s := s.downRoutes p
  if s.ldev.up = some p then s.unroot 0 else s

/-- A resend, or the DOWN that follows eight resend episodes without an advance (15 R494, R495). -/
def State.retry (s : State) (p q : Nat) : State :=
  if 8 ≤ (s.port p).tx.episodes then s.portDown p 1 else s.resend p q

/-! ## Rooted (15 R512 to R514) -/

/-- The announcements of a device that has become rooted. -/
def LinkDev.announce (d : LinkDev) : List Nat :=
  (if d.failedOver then d.id :: (d.routes.filter (fun e => e.2.isSome)).map Prod.fst else []) ++ d.announceHeld

/-- ANNOUNCE messages of at most 240 IDs each. -/
def announceMsgs : Nat → List Nat → List (List Byte)
  | 0, _ => []
  | n + 1, l =>
    if l.isEmpty then []
    else (leBytes 1 (l.take 240).length ++ leBytes 7 0 ++ (l.take 240).map (BitVec.ofNat 8)) :: announceMsgs n (l.drop 240)

/-- Send announcements on the active UP. -/
def State.announceUp (s : State) (ids : List Nat) : State :=
  match s.upPort with
  | some p => forEach (announceMsgs (ids.length + 1) ids) (fun s b => s.sendMsg p 1 6 b) s
  | none => s

/-- What a device does when it becomes rooted (15 R514). -/
def State.becomeRooted (s : State) (root : Nat) : State :=
  let s := s.tellDown 5 (leBytes 1 root ++ leBytes 1 s.ldev.hops)
  let s := s.announceUp s.ldev.announce
  s.updDev (fun d => { d with rooted := true, failedOver := false, announceHeld := [], orphan := false })

/-! ## Failover (15 R513, R515) -/

/-- Unacknowledged VC2 frames of stream `k` on a port. -/
def PortTx.lost (t : PortTx) (k : Nat) : List Frame :=
  t.unacked.filter (fun f => f.vc == 2 && fieldAt f.payload 0 1 == k)

/-- Waiting VC2 frames of stream `k` that may still be sent: from the next record start on. -/
def PortTx.kept (t : PortTx) (k : Nat) : List Frame :=
  (t.waiting.filter (fun f => f.vc == 2 && fieldAt f.payload 0 1 == k)).dropWhile (fun f => !(fieldAt f.payload 1 1).testBit 0)

/-- Waiting VC2 frames of stream `k` whose record began in a lost frame. -/
def PortTx.torn (t : PortTx) (k : Nat) : List Frame :=
  (t.waiting.filter (fun f => f.vc == 2 && fieldAt f.payload 0 1 == k)).takeWhile (fun f => !(fieldAt f.payload 1 1).testBit 0)

/-- STREAM frames of a record of stream `k` (15 R500): 240 record bytes each, the first marked. -/
def streamFramesFrom (k : Nat) (ts : TS48) : Nat → Bool → List Byte → List Frame
  | 0, _, _ => []
  | n + 1, first, l =>
    if l.isEmpty then []
    else ⟨0, 2, 0, leBytes 1 k ++ leBytes 1 (b2n first) ++ leBytes 6 0 ++ l.take 240, 0, false, some ts⟩
      :: streamFramesFrom k ts n false (l.drop 240)

def streamFrames (k : Nat) (r : Rec) : List Frame :=
  streamFramesFrom k r.ts (r.bytes.length / 240 + 1) true r.bytes

/-- The GAP of a stream at a failover (15 R515). -/
def linkGap (k : Nat) (first last : TS48) : Rec :=
  gapRec 4 (0x2000 + k) 0xFFFFFFFF first last 0 3 0xFF 0xFF 0xFFFF

/-- The frames of the GAP that tells of lost frames of a stream (15 R515). -/
def State.gapFrames (s : State) (k : Nat) (lost : List Frame) : List Frame × State :=
  let first := (lost.head?.bind Frame.ts).getD s.beacon
  let last := (lost.getLast?.bind Frame.ts).getD s.beacon
  let (r, s) := s.number (linkGap k first last)
  (streamFrames k r, s)

/-- Move one stream's frames to the new active UP, behind the GAP that tells of the lost ones (15 R515). -/
def State.moveStream (s : State) (old new k : Nat) : State :=
  let t := (s.port old).tx
  let s := s.updPort old (fun x => { x with tx := { x.tx with
    unacked := x.tx.unacked.filter (fun f => !(f.vc == 2 && fieldAt f.payload 0 1 == k))
    waiting := x.tx.waiting.filter (fun f => !(f.vc == 2 && fieldAt f.payload 0 1 == k)) } })
  let (fs, s) := s.gapFrames k (t.lost k ++ t.torn k)
  s.updPort new (fun x => { x with tx := { x.tx with waiting := x.tx.waiting ++ fs ++ t.kept k } })

/-- A stream's waiting frames follow an active UP that an enumeration has changed (15 R510): frames that have left go on to the old
neighbour, and the rest of a record that began there is reported lost (11 R381). DEDUCED (log entry 47). -/
def State.followStream (s : State) (old new k : Nat) : State :=
  let t := (s.port old).tx
  let s := s.updPort old (fun x => { x with tx := { x.tx with
    waiting := x.tx.waiting.filter (fun f => !(f.vc == 2 && fieldAt f.payload 0 1 == k)) } })
  let (fs, s) := if (t.torn k).isEmpty then ([], s) else s.gapFrames k (t.torn k)
  s.updPort new (fun x => { x with tx := { x.tx with waiting := x.tx.waiting ++ fs ++ t.kept k } })

/-- LINK_EVENT FAILOVER on a port, with its event flag (15 R513, R517). -/
def State.tellFailover (s : State) (p old cause : Nat) : State :=
  (s.evt (Reg.LINK_EVT p) 4).linkEvent p 0xFF 4 (old + cause * 256)

/-- The STANDBY port becomes active UP. -/
def State.failToStandby (s : State) (old new cause : Nat) : State :=
  let s := s.updPort old (fun x => { x with role := 0 })
  let s := s.updPort new (fun x => { x with role := 1 })
  let s := s.updDev (fun d => { d with up := some new, failedOver := true, failDue := none })
  let s := forEach s.upStreams (fun s k => s.moveStream old new k) s
  let s := s.resetUpDicts
  let s := if (s.port old).st = 2 then s.sendMsg old 0 4 (s.helloMsg old) else s
  let s := s.cnt (Reg.LINK_FAILOVERS new)
  let s := s.tellFailover new old cause
  let s := s.alarm 0x0901 1 new (old + cause * 256)
  s.pump new

/-- The device becomes root. -/
def State.failToRoot (s : State) (old : Nat) : State :=
  let s := s.updPort old (fun x => { x with role := 0 })
  let s := s.updDev (fun d => { d with up := none, root := true, hops := 0, failedOver := true, failDue := none })
  let s := s.resetUpDicts
  let s := s.tellFailover old old 2
  s.becomeRooted s.ldev.id

/-- The device is orphaned. -/
def State.orphaned (s : State) (old : Nat) : State :=
  let s := s.updPort old (fun x => { x with role := 0 })
  let s := s.updDev (fun d => { d with up := none, orphan := true, failedOver := true, failDue := none })
  let s := s.resetUpDicts
  let s := s.evt (Reg.LINK_EVT old) 0x44
  let s := s.linkEvent old 0xFF 4 (old + 3 * 256)
  s.alarm 0x0902 2 old 3

/-- The first action of 15 R513 that applies. -/
def State.failover (s : State) (old cause : Nat) : State :=
  match (s.portsWith (fun x => x.role == 2)).head? with
  | some new => s.failToStandby old new cause
  | none =>
    if s.sec.straps.domainHead && s.sec.straps.pcieEn then s.failToRoot old
    else if (s.port old).st = 2 then s.updDev (fun d => { d with failDue := none })
    else s.orphaned old

/-! ## Enumeration (15 R507 to R510) -/

/-- ACTIVE ports but one. -/
def State.otherActive (s : State) (p : Option Nat) : List Nat := (s.portsWith (fun _ => true)).filter (fun q => p != some q)

/-- What enumeration does to work in progress (15 R510). -/
def State.enumEffects (s : State) : State :=
  let s := forEach s.cmd.fwd (fun s f =>
    forEach f.missing (fun s d => s.writeReply ⟨f.tk, stUNREACHABLE, [], s.beacon, true, d⟩) s) s
  (s.updCmd (fun c => { c with fwd := [] })).resetUpDicts

/-- Clear roles. -/
def State.clearRoles (s : State) : State := forEach (List.range 4) (fun s p => s.updPort p (fun x => { x with role := 0 })) s

/-- The device's place at the start of an enumeration. -/
def LinkDev.begin (d : LinkDev) (num : Nat) : LinkDev :=
  { d with id := 0, root := false, rooted := false, orphan := false, up := none, routes := [], reports := [],
           assignAt := none, endAt := none, enumNum := num, enumActive := true, given := 0, left := 0, maxHops := 0,
           standbys := 0, sbTaken := false, announceHeld := [], failedOver := false, failDue := none, hops := 0 }

/-- Send ENUM on ports. -/
def State.sendEnum (s : State) (ports : List Nat) (num hops : Nat) : State :=
  forEach ports (fun s q => s.sendMsg q 0 5 (leBytes 2 num ++ leBytes 1 hops)) s

/-- Bytes 16 to 79 of a path: 2 bits per hop, the root's hop first (15 R499). -/
def pathBytes (path : List Nat) : List Byte :=
  leBytes 64 (path.foldr (fun h v => h % 4 + 4 * v) 0)

/-- The path that bytes spell. -/
def pathOf (l : List Byte) (len : Nat) : List Nat :=
  (List.range len).map (fun i => fieldAt l 16 64 / 4 ^ i % 4)

/-- A REPORT message (15 R499). -/
def reportMsg (serial : Nat) (head : Bool) (path : List Nat) : List Byte :=
  leBytes 8 serial ++ leBytes 1 (b2n head) ++ leBytes 1 path.length ++ leBytes 6 0 ++ pathBytes path

/-- An ASSIGN message (15 R499). -/
def assignMsg (serial id : Nat) (path : List Nat) : List Byte :=
  leBytes 8 serial ++ leBytes 1 id ++ leBytes 1 path.length ++ leBytes 6 0 ++ pathBytes path

/-- The first ENUM of a new number (15 R507, R508). -/
def State.joinEnum (s : State) (p num hops : Nat) : State :=
  let s := s.enumEffects
  let s := s.clearRoles
  let s := s.updPort p (fun x => { x with role := 1 })
  let s := s.updDev (fun d => { d.begin num with up := some p, hops := hops })
  let s := forEach ((List.range 4).filter (· != p)) (fun s o => forEach s.upStreams (fun s k => s.followStream o p k) s) s
  let s := s.sendMsg p 0 6 (leBytes 2 num ++ leBytes 1 1)
  let s := s.sendEnum (s.otherActive (some p)) num (hops + 1)
  s.sendMsg p 0 7 (reportMsg s.sec.fuses.serial.toNat s.sec.straps.domainHead [])

/-- Enumeration ends 2 ms after the last message of its last phase (15 R509). -/
def State.enumSoon (s : State) : State := s.updDev (fun d => { d with endAt := some (s.now + msTicks 2) })

/-- The path read as a number with the root's hop first (15 R508). -/
def pathNum (path : List Nat) : Nat := path.foldl (fun v h => 4 * v + h % 4) 0

/-- The order of reports in which IDs are given (15 R508). -/
def Report.before (a b : Report) : Bool :=
  decide (a.len < b.len) || (a.len == b.len && decide (pathNum a.path < pathNum b.path))

/-- Insertion in that order, and the sorted list. -/
def Report.insert (a : Report) : List Report → List Report
  | [] => [a]
  | b :: l => if a.before b then a :: b :: l else b :: Report.insert a l
def sortReports (l : List Report) : List Report := l.foldr Report.insert []

/-- IDs from 1 on without the root's own, for at most 253 devices. -/
def idsFor (own : Nat) : List Nat := ((List.range 254).map (· + 1)).filter (· != own)

/-- The root sends one ASSIGN along its path and records the route. -/
def State.assignOne (s : State) (e : Report × Nat) : State :=
  match e.1.path.head? with
  | some q =>
    (s.updDev (fun d => { d with routes := mput none d.routes e.2 (some q) })).sendMsg q 0 8
      (assignMsg e.1.serial.toNat e.2 e.1.path)
  | none => s

/-- First hops of the paths to heads. -/
def headPorts (l : List Report) : List Nat :=
  (List.range 4).filter (fun q => l.any (fun r => r.head && r.path.head? == some q))

/-- The root gives IDs and starts the standby phase (15 R508, R509). -/
def State.assignIds (s : State) : State :=
  let rs := sortReports s.ldev.reports
  let pairs := rs.zip (idsFor s.ldev.id)
  let s := forEach pairs State.assignOne s
  let s := s.updDev (fun d => { d with
    assignAt := none, given := pairs.length + 1, left := rs.length - pairs.length,
    maxHops := rs.foldl (fun v r => max v r.len) 0 })
  let s := forEach (headPorts rs) (fun s q => s.sendMsg q 0 9 (leBytes 2 s.ldev.enumNum)) s
  s.enumSoon

/-- Ports of role NONE that are ACTIVE. -/
def State.nonePorts (s : State) : List Nat := s.portsWith (fun x => x.role == 0)

/-- Send SB on ports. -/
def State.sendSb (s : State) (ports : List Nat) : State :=
  forEach ports (fun s q => s.sendMsg q 0 10 (leBytes 2 s.ldev.enumNum)) s

/-- The device has a standby port. -/
def State.hasStandby (s : State) : Bool := (List.range 4).any (fun p => (s.port p).role == 2)

/-- Result of LINK_ENUMERATE (15 R522). -/
def LinkDev.enumResult (d : LinkDev) : List Byte :=
  leBytes 2 d.given ++ leBytes 2 d.left ++ leBytes 1 d.maxHops ++ leBytes 1 d.standbys ++ leBytes 2 d.enumNum

/-- The root's final reply to LINK_ENUMERATE. -/
def State.enumReply (s : State) : State :=
  match s.ldev.enumTk with
  | some tk =>
    (s.updDev (fun d => { d with enumTk := none })).finish tk (if s.ldev.left = 0 then stOK else stNO_RESOURCE) s.ldev.enumResult
  | none => s

/-- Enumeration ends (15 R509): the root is rooted and tells its DOWN ports. -/
def State.endEnum (s : State) : State :=
  let p := s.ldev.up.getD 0
  let s := s.updDev (fun d => { d with enumActive := false, endAt := none })
  let s := s.evt (Reg.LINK_EVT p) 0x10
  let s := s.linkEvent p 0xFF 6 (s.ldev.id + s.ldev.hops * 256)
  if s.ldev.root then (s.becomeRooted s.ldev.id).enumReply else s

/-! ## Register writes of the LANE and LINK pages (15 R482, R488, R503, R519) -/

/-- A lane shuts down, or is off already; a shut-down that runs goes on, without the enable that was pending (15 R488). -/
def Lane.shut (l : Lane) (now : Nat) : Lane :=
  if l.st = 0 then l else if l.st = 4 ∨ l.st = 5 then { l with st := 4 } else { l with st := 4, due := now + usTicks 10 }

/-- The last lock of an ACTIVE port has gone. -/
def State.noteLoss (s : State) (p : Nat) : State :=
  if (s.lockedLanes p).isEmpty then s.updPort p (fun x => { x with lostTick := s.now }) else s

/-- LANE_CTRL.en has changed from `old` to `new` (15 R488). -/
def State.laneEnable (s : State) (l : Nat) (old new : Bool) : State :=
  let p := s.lanePort l
  if old && !new then
    let s := s.updLane l (fun x => x.shut s.now)
    if (s.port p).st = 2 then s.noteLoss p else s
  else if new && (s.lane l).st == 4 then (s.updLane l (fun x => { x with st := 5 })).evt (Reg.LANE_EVT l) 8
  else if new && !old && (s.lane l).st == 0 && (s.portLanes p).contains l then
    if (s.port p).st = 1 then s.trainLane false l
    else if (s.port p).st = 2 ∨ (s.port p).st = 3 then s.updLane l (fun x => { x with st := 1 })
    else s
  else s

/-- LINK_CTRL.en has changed from `old` to `new` (15 R482, R488, R505). -/
def State.linkEnable (s : State) (p : Nat) (old new : Bool) : State :=
  if old && !new then
    let st := (s.port p).st
    if st = 0 then s
    else if st = 5 then s.updPort p (fun x => { x with st := 4 })
    else
      let s := if st = 1 ∨ st = 2 then s.portDown p 2 else s
      let s := s.updPort p (fun x => { x with st := 4, due := s.now + usTicks 10 })
      forEach (s.portLanes p) (fun s l => s.updLane l (fun x => x.shut s.now)) s
  else if new && (s.port p).st == 4 then (s.updPort p (fun x => { x with st := 5 })).evt (Reg.LINK_EVT p) 0x20
  else if new && !old && (s.port p).st == 0 then s.trainPort false p
  else s

/-- Ports whose lanes a ×8 neighbour takes go OFF; one whose lanes come back trains. -/
def State.widthChange (s : State) (p : Nat) : State :=
  let q := p + 1
  if p % 2 = 1 then s
  else if s.portTaken q then
    let s := if (s.port q).st = 2 then s.portDown q 2 else s
    s.updPort q (fun x => { x with st := 0 })
  else if (s.port q).st = 0 ∧ s.rb (Reg.LINK_CTRL q) 31 then s.trainPort false q
  else s

/-- A shut-down of a lane is over (15 R488). -/
def State.laneShutDone (s : State) (l : Nat) : State :=
  let p := s.lanePort l
  let pend := (s.lane l).st == 5
  let s := s.updLane l Lane.off
  let s :=
    if pend && ((s.port p).st == 2 || (s.port p).st == 3) then s.updLane l (fun x => { x with st := 1 })
    else if pend && (s.port p).st == 1 then s.trainLane false l
    else s
  if (s.portLanes p).any (fun k => (s.lane k).st == 4 || (s.lane k).st == 5) then s
  else if (s.port p).st = 4 then s.updPort p (fun x => { x with st := 0 })
  else if (s.port p).st = 5 then s.trainPort false p
  else s

/-- A write of LINK_TMSG_SEND (15 R503, R519): L outside 1 to 232 is ignored. -/
def State.tmsgSend (s : State) (p : Nat) (d : Word) : State :=
  let n := fld d 16 8
  if n = 0 ∨ 232 < n then s
  else
    let body := fitBytes n (s.port p).tmsgTx
    let s := s.updPort p (fun x => { x with tmsgTx := [] })
    if (s.port p).st = 2 then
      s.sendMsg p 1 3 (leBytes 2 (fld d 0 16) ++ leBytes 1 (b2n (bit d 31)) ++ leBytes 1 n ++ leBytes 4 0 ++ body)
    else s

/-- A read of LINK_TMSG_RXS: the word, and the state without the oldest message (15 R519). -/
def State.tmsgRead (s : State) (p : Nat) : Word × State :=
  match (s.port p).rx.tmsg with
  | [] => (0, s)
  | m :: rest =>
    (word (2 ^ 31 + m.len * 65536 + m.seq),
     s.updPort p (fun x => { x with rx := { x.rx with tmsg := rest, tmsgOut := m.bytes } }))

/-- A read of LINK_TMSG_RXD: the next word of the message removed. -/
def State.tmsgData (s : State) (p : Nat) : Word × State :=
  let b := (s.port p).rx.tmsgOut
  (word (fieldAt b 0 4), s.updPort p (fun x => { x with rx := { x.rx with tmsgOut := b.drop 4 } }))

/-- A remote register access completes (15 R519). -/
def State.raccDone (s : State) (status : Nat) (data : Option Nat) : State :=
  let s := s.updDev (fun x => { x with racc := none, raccStatus := status })
  let s := match data with
    | some v => s.rset Reg.LINK_RACC_DATA (word v)
    | none => s
  s.evt (Reg.LINK_EVT 0) 0x200

/-- A write of LINK_RACC_CTRL with go (15 R519): ignored while busy. -/
def State.raccGo (s : State) (d : Word) : State :=
  if !bit d 31 || s.ldev.racc.isSome then s
  else
    let t := s.rf Reg.LINK_RACC_TARGET 0 8
    let tag := (s.ldev.raccTag + 1) % 256
    let w := bit d 30
    let s := s.updDev (fun x => { x with raccTag := tag, racc := some ⟨tag, t, w, s.now + s.fwdTicks⟩ })
    match s.routePort t with
    | some p =>
      s.sendMsg p 0 2 (leBytes 1 t ++ leBytes 1 s.ldev.id ++ leBytes 1 (b2n w) ++ leBytes 1 tag
        ++ leBytes 4 (s.rf Reg.LINK_RACC_ADDR 0 26) ++ leBytes 4 (s.rget Reg.LINK_RACC_DATA).toNat)
    | none => s.raccDone stUNREACHABLE none

/-- The origin's access has had no answer within CMD_FWD_TIMEOUT (15 R511): UNREACHABLE. -/
def State.raccTimeout (s : State) : State :=
  match s.ldev.racc with
  | some r => if r.deadline ≤ s.now then s.raccDone stUNREACHABLE none else s
  | none => s

end Sys2Proof.Machine
end

