-- ==== Sys2Proof/Machine/CompOps.lean ====
section
/-! DEFINITION. Compression and decompression of streams, and where a stream's records go (12 R417, 13, 15 R500). -/

namespace Sys2Proof.Machine

/-! ## Placement (13 R428, R441) -/

def State.cstream (s : State) (k : Nat) : Option CStream := mget none s.comp.streams k
def State.updCstream (s : State) (k : Nat) (f : CStream → CStream) : State :=
  s.updComp (fun c => { c with streams := mupd none c.streams k (fun o => o.map f) })
def State.sdict (s : State) (i : Nat) : SDict := mget SDict.reset s.comp.sdicts i
def State.updSdict (s : State) (i : Nat) (f : SDict → SDict) : State :=
  s.updComp (fun c => { c with sdicts := mupd SDict.reset c.sdicts i f })

/-- Streams that compressor `n` serves. -/
def Comp.load (c : Comp) (n : Nat) : Nat :=
  (c.streams.filter (fun e => match e.2 with | some x => x.cmp == n | none => false)).length

/-- The compressor that serves the fewest streams, the lowest-numbered among equals (13 R428). -/
def Comp.pick (c : Comp) : Nat :=
  (List.range 8).foldl (fun b n => if c.load n < c.load b then n else b) 0

/-- A free dynamic slot. -/
def Comp.freeSlot (c : Comp) : Option Nat := (List.range 64).find? (fun j => (mget (0, 0, 0) c.slots j).1 == 0)

/-- An open stream uses static dictionary `i`. -/
def Comp.dictInUse (c : Comp) (i : Nat) : Bool :=
  c.streams.any (fun e => match e.2 with | some x => !x.dyn && x.idx == i | none => false)

/-- STREAM_OPEN finds the compression resources it needs (13 R428). -/
def State.compRoom (s : State) (dyn : Bool) (idx : Nat) : Bool :=
  decide (s.comp.load s.comp.pick < 8) && (if dyn then s.comp.freeSlot.isSome else (s.sdict idx).loaded)

/-- COMP_BLOCK and COMP_RESYNC as a block that begins now takes them (13 R448). -/
def State.blkSet (s : State) : BlkSet := ⟨s.rf Reg.COMP_BLOCK 0 16, s.rb Reg.COMP_BLOCK 31, s.rf Reg.COMP_RESYNC 0 16⟩

/-- Open the compressor's side of a stream. -/
def State.compOpen (s : State) (k : Nat) (dyn : Bool) (idx : Nat) : State :=
  let slot := if dyn then s.comp.freeSlot else none
  let x : CStream := { cmp := s.comp.pick, dyn := dyn, idx := idx, slot := slot, block := [], ts := 0, firstTick := 0,
                       wmSeen := false, dict := [], resetNext := true, since := 0, closed := none, set := s.blkSet }
  s.updComp (fun c => { c with
    streams := mput none c.streams k (some x)
    slots := match slot with | some j => mput (0, 0, 0) c.slots j (1, k, 0) | none => c.slots })

/-- Close it and give back its slot (13 R428). -/
def State.compClose (s : State) (k : Nat) : State :=
  match s.cstream k with
  | none => s
  | some x => s.updComp (fun c => { c with
      streams := mput none c.streams k none
      slots := match x.slot with | some j => mput (0, 0, 0) c.slots j (0, 0, 0) | none => c.slots })

/-! ## Destinations -/

/-- Give a record of a stream to its ring or to the active UP port. -/
def State.toDest (s : State) (k : Nat) (r : Rec) : State :=
  if (s.stream k).up then
    match s.ldev.up with
    | some p => (s.updPort p (fun x => { x with tx := { x.tx with waiting := x.tx.waiting ++ streamFrames k r } })).pump p
    | none => s
  else s.ringGive k r

/-- VC2 of the active UP port has room for another record: none waits for credits. -/
def State.upFree (s : State) : Bool :=
  match s.upPort with
  | some p => s.ldev.rooted && (s.port p).tx.waiting.all (fun f => f.vc != 2)
  | none => false

/-! ## Blocks (13 R430 to R432) -/

/-- Block limit of a stream in bytes (13 R430). -/
def State.blockLimit (s : State) (k : Nat) : Nat :=
  if (s.stream k).up then 65504 else min 65504 (s.ringSize k - 32)

/-- A record fits the block in progress, and the block before it has been verified (13 R430, R442). -/
def State.blockTakes (s : State) (k : Nat) (x : CStream) (r : Rec) : Bool :=
  x.closed.isNone && (x.block.isEmpty || decide (x.block.length + 16 * r.units ≤ s.blockLimit k))

/-- Add a record to the block; the first one brings the settings `b` into effect (13 R448). -/
def CStream.add (x : CStream) (r : Rec) (now : Nat) (b : BlkSet) : CStream :=
  { x with block := x.block ++ r.bytes, ts := if x.block.isEmpty then r.ts else x.ts,
           firstTick := if x.block.isEmpty then now else x.firstTick, wmSeen := x.wmSeen || r.typ == tWATERMARK,
           set := if x.block.isEmpty then b else x.set }

/-- The next record of the stream would take the block above its limit. -/
def State.nextTooLong (s : State) (k : Nat) (x : CStream) : Bool :=
  match s.streamReady k with
  | some e => decide (s.blockLimit k < x.block.length + 16 * e.r.units)
  | none => false

/-- The block closes (13 R430): by its limit, its time, a WATERMARK, or the end of its stream. -/
def State.blockDue (s : State) (k : Nat) (x : CStream) : Bool :=
  x.closed.isNone && !x.block.isEmpty &&
    (decide (x.firstTick + usTicks x.set.us ≤ s.now) || (x.wmSeen && x.set.wm)
      || s.nextTooLong k x || ((s.stream k).st == 2 && s.streamDry k))

/-- Close the block: it awaits its verifier (13 R442). -/
def State.blockClose (s : State) (k : Nat) (x : CStream) : State :=
  let s := s.cntN (Reg.COMP_CMP_IN x.cmp) (x.block.length / 16)
  s.updCstream k (fun x => { x with closed := some ⟨x.block, x.ts⟩, block := [], wmSeen := false })

/-- A CBLOCK or UBLOCK (13 R431, 11 R382). -/
def blockRec (typ k : Nat) (ts : TS48) (n : Nat) (x : CStream) (reset : Bool) (payload : List Byte) : Rec :=
  let r := mkRec typ 4 (0x2000 + k) ts 0 0 (2 + ceilDiv payload.length 16)
    [(20, 4, n), (24, 1, if x.dyn then 128 else x.idx), (25, 1, x.slot.getD 0), (26, 1, b2n reset), (28, 4, payload.length)]
  { r with body := overBytes r.body 16 payload }

/-- The next block of a dynamic stream begins with an empty dictionary (13 R439). -/
def State.resets (s : State) (k : Nat) (x : CStream) : Bool :=
  x.dyn && (x.resetNext || ((s.stream k).up && x.set.resync != 0 && decide (x.set.resync ≤ x.since)))

/-- The static dictionary of a stream holds an uncorrectable byte: the offset of its entry (13 R443). -/
def State.dictFault (s : State) (x : CStream) : Option Nat :=
  if x.dyn then none else (s.firstPoison 4 (128 + x.idx) 0 (4 * (s.sdict x.idx).entries.length)).map (fun o => o / 4 * 4)

/-- The coded payload of a block and the dictionary after it. -/
def State.encodeBlock (s : State) (x : CStream) (reset : Bool) (b : List Byte) : List Byte × Dict :=
  if x.dyn then encodeDyn (if reset then [] else x.dict) b else (encodeStatic (s.sdict x.idx).entries b, [])

/-- Emit a block record. -/
def State.blockOut (s : State) (k : Nat) (x : CStream) (r : Rec) : State :=
  let (r, s) := s.number r
  (s.cntN (Reg.COMP_CMP_OUT x.cmp) r.units).toDest k r

/-- Emit the block uncompressed; a dynamic dictionary resets (13 R432, R439). -/
def State.uncoded (s : State) (k : Nat) (x : CStream) (b : CBlk) : State :=
  let s := s.updCstream k (fun x => { x with closed := none, dict := [], resetNext := true, since := 0 })
  s.blockOut k x (blockRec tUBLOCK k b.ts b.bytes.length x false b.bytes)

/-- Emit the block coded. -/
def State.coded (s : State) (k : Nat) (x : CStream) (b : CBlk) (reset : Bool) (p : List Byte × Dict) : State :=
  let s := s.updCstream k (fun x => { x with
    closed := none, dict := p.2, resetNext := false, since := if reset then 1 else x.since + 1 })
  s.blockOut k x (blockRec tCBLOCK k b.ts b.bytes.length x reset p.1)

/-- The reports of a failed verification (13 R443). -/
def State.verifyFail (s : State) (x : CStream) (fault : Option Nat) : State :=
  let s := (s.cnt Reg.COMP_VFAIL).evt Reg.COMP_EVT 1
  match fault with
  | none => s
  | some off =>
    let s := s.ueReport 4 (128 + x.idx) off false
    let s := s.updSdict x.idx (fun d => { d with loaded := false })
    s.alarm 0x0801 2 x.idx off

/-- The verifier judges the closed block (13 R442, R443); `good` is that the shadow decoding gave the block's input. -/
def State.blockVerify (s : State) (k : Nat) (good : Bool) : State :=
  match s.cstream k with
  | none => s
  | some x =>
    match x.closed with
    | none => s
    | some b =>
      if !x.dyn ∧ !(s.sdict x.idx).loaded then s.uncoded k x b
      else
        let reset := s.resets k x
        let p := s.encodeBlock x reset b.bytes
        if (s.dictFault x).isSome then (s.uncoded k x b).verifyFail x (s.dictFault x)
        else if b.bytes.length ≤ p.1.length then (s.cnt Reg.COMP_UBLK).uncoded k x b
        else if !good then (s.uncoded k x b).verifyFail x none
        else s.coded k x b reset p

/-! ## Egress (12 R417) -/

/-- A stream's destination can take its ready record. -/
def State.destFree (s : State) (k : Nat) (e : Ready) : Bool :=
  match s.cstream k with
  | some x => (if (s.stream k).up then s.upFree else s.ringFree k) && s.blockTakes k x e.r
  | none => if (s.stream k).up then s.upFree else s.ringFree k

/-- The record and stream that an arbiter serves: the highest effective priority, round-robin among equals. -/
def State.arbitrate (s : State) (up : Bool) : Option (Nat × Ready) :=
  let last := mget 63 s.lag.rr (b2n up)
  let order := (List.range 64).map (fun i => (last + 1 + i) % 64)
  order.foldl (fun best k =>
    if (s.stream k).st != 0 && (s.stream k).up == up then
      match s.streamReady k with
      | some e =>
        if s.destFree k e then
          match best with
          | some (_, b) => if b.prio < e.prio then some (k, e) else best
          | none => some (k, e)
        else best
      | none => best
    else best) none

/-- A Lagoon record whose payload had a parity error leaves with POISON (12 R391): bytes are keyed by the queue and the
place in it, and the next record that is written there renews their parity. -/
def State.egressCheck (s : State) (e : Ready) : Rec × State :=
  match e.q with
  | none => (e.r, s)
  | some n =>
    let o := (n % 256) * 16384 + e.pos * 16 % 16384
    if (s.firstPoison 7 (n / 256) o (16 * e.r.units)).isSome then
      ({ e.r with flags := e.r.flags ||| fPOISON }, ((s.clearPoison 7 (n / 256) o (16 * e.r.units)).cnt Reg.LAG_PARITY).evt Reg.LAG_EVT 2)
    else (e.r, s)

/-- One record leaves through an arbiter (12 R417). -/
def State.egress (s : State) (up : Bool) : State :=
  match s.arbitrate up with
  | none => s
  | some (k, e) =>
    let s := s.updLag (fun l => { l with rr := mput 63 l.rr (b2n up) k })
    let (r, s) := (s.serve k e).egressCheck e
    match s.cstream k with
    | some _ => s.updCstream k (fun x => x.add r s.now s.blkSet)
    | none => s.toDest k r

/-! ## Decompression (13 R441, R444, R445) -/

def State.origin (s : State) (p o : Nat) : DOrigin := mget DOrigin.reset s.comp.origins (64 * p + o)
def State.updOrigin (s : State) (p o : Nat) (f : DOrigin → DOrigin) : State :=
  s.updComp (fun c => { c with origins := mupd DOrigin.reset c.origins (64 * p + o) f })

/-- Fields of a block record (11 R382). -/
def Rec.blkLen (r : Rec) : Nat := fieldAt r.body 4 4
def Rec.blkDyn (r : Rec) : Bool := (fieldAt r.body 8 1).testBit 7
def Rec.blkIdx (r : Rec) : Nat := fieldAt r.body 8 1 % 16
def Rec.blkReset (r : Rec) : Bool := (fieldAt r.body 10 1).testBit 0
def Rec.blkBytes (r : Rec) : Nat := fieldAt r.body 12 4
def Rec.blkPayload (r : Rec) : List Byte := (r.body.drop 16).take r.blkBytes

/-- The GAP of a discarded block (13 R445). -/
def blockGap (o : Nat) (r : Rec) : Rec := gapRec 4 (0x2000 + o) 0xFFFFFFFF r.ts r.ts 0 3 0xFF 0xFF 0xFFFF

/-- A block is discarded whole: `flag` of COMP_EVT, 0 for none (13 R445). -/
def State.blockDiscard (s : State) (p o flag : Nat) (r : Rec) : State :=
  let s := (s.cnt Reg.COMP_DEC_DISC).evt Reg.COMP_EVT flag
  let s := if r.blkDyn then s.updOrigin p o (fun d => { d with synced := false, dict := [] }) else s
  let (g, s) := s.number (blockGap o r)
  s.arrive (13 + p) ⟨g, none, some o⟩

/-- The records of a decoded block enter the Lagoon port (12 R392). -/
def State.blockRecords (s : State) (p o : Nat) (l : List Byte) : State :=
  let s := s.cntN (Reg.COMP_DEC_OUT (2 * p + o % 2)) (l.length / 16)
  forEach (recsOf (l.length / 16 + 1) l) (fun s r => s.arrive (13 + p) ⟨r, none, some o⟩) s

/-- A dynamic slot for the origin's decoding, taken at a block with the reset bit (13 R441). -/
def State.takeSlot (s : State) (p o : Nat) : State :=
  match (s.origin p o).slot with
  | some _ => s
  | none =>
    match s.comp.freeSlot with
    | none => s.evt Reg.COMP_EVT 16
    | some j =>
      (s.updOrigin p o (fun d => { d with slot := some j })).updComp (fun c => { c with
        slots := mput (0, 0, 0) c.slots j (2, o, p) })

/-- The output limit of a block (13 R444). -/
def State.outLimit (s : State) (r : Rec) : Nat := min 65536 (s.rf Reg.COMP_RATIO 0 8 * r.blkBytes)

/-- What decoding gave, judged on length and record boundaries (13 R444). -/
def State.blockDone (s : State) (p o : Nat) (r : Rec) (e : DecEnd) : State :=
  match e with
  | .limit => s.blockDiscard p o 2 r
  | .error => s.blockDiscard p o 4 r
  | .ok l dict =>
    if l.length ≠ r.blkLen ∨ !wholeRecs l then s.blockDiscard p o 4 r
    else
      let s := if r.blkDyn then s.updOrigin p o (fun d => { d with dict := dict, synced := true }) else s
      s.blockRecords p o l

/-- A dynamic CBLOCK (13 R441). -/
def State.dynBlock (s : State) (p o : Nat) (r : Rec) (gap : Bool) : State :=
  let s := if r.blkReset then s.takeSlot p o else s
  let d := s.origin p o
  if d.slot.isNone ∨ (!r.blkReset ∧ (gap ∨ !d.synced)) then s.blockDiscard p o 0 r
  else
    let dict := if r.blkReset then [] else d.dict
    s.blockDone p o r (decodeDyn r.blkPayload (s.outLimit r) (codeFuel r.blkPayload) ⟨dict, none, [], 0, false⟩)

/-- A static CBLOCK: with its dictionary unloaded it cannot be decoded (13 R440, R445). -/
def State.staticBlock (s : State) (p o : Nat) (r : Rec) : State :=
  if (s.sdict r.blkIdx).loaded then
    s.blockDone p o r (decodeStatic r.blkPayload (s.outLimit r) (s.sdict r.blkIdx).entries (codeFuel r.blkPayload) 0 [])
  else s.blockDiscard p o 0 r

/-- A UBLOCK is checked for whole records and its length; it resets a dynamic dictionary (13 R439, R444). -/
def State.ublock (s : State) (p o : Nat) (r : Rec) : State :=
  let l := r.blkPayload
  let s := s.updOrigin p o (fun d => { d with dict := [], synced := false })
  if l.length ≠ r.blkLen ∨ !wholeRecs l then s.blockDiscard p o 4 r else s.blockRecords p o l

/-- The next block of a port is decoded (13 R429). -/
def State.decompress (s : State) (p : Nat) : State :=
  match s.comp.blocks.find? (fun b => b.port == p) with
  | none => s
  | some b =>
    let s := s.updComp (fun c => { c with blocks := c.blocks.erase b })
    let d := s.origin p b.origin
    let gap := match d.lastSeq with | some n => b.r.seq != (n + 1) % 65536 | none => true
    let s := s.updOrigin p b.origin (fun d => { d with lastSeq := some b.r.seq })
    if b.r.typ = tUBLOCK then s.ublock p b.origin b.r
    else if b.r.blkDyn then s.dynBlock p b.origin b.r gap
    else s.staticBlock p b.origin b.r

/-! ## Loads (13 R449 to R451) -/

/-- Decode the compressed form of a load: blocks coded from an empty dynamic dictionary, the first with the reset bit;
`none` when a block is rejected. -/
def loadBlocks (ratio : Nat) : Nat → Bool → Dict → List Byte → Option (List Byte)
  | 0, _, _, _ => none
  | fuel + 1, first, dict, l =>
    if l.isEmpty then some []
    else
      let n := 16 * fieldAt l 2 2
      if n < 48 ∨ l.length < n then none
      else
        let r := Rec.ofBytes (l.take n)
        let p := r.blkPayload
        if r.typ = tUBLOCK then
          (if p.length = r.blkLen then (loadBlocks ratio fuel false [] (l.drop n)).map (p ++ ·) else none)
        else if r.typ = tCBLOCK ∧ r.blkDyn ∧ (!first ∨ r.blkReset) then
          match decodeDyn p (min 65536 (ratio * r.blkBytes)) (codeFuel p) ⟨if r.blkReset then [] else dict, none, [], 0, false⟩ with
          | .ok out d => if out.length = r.blkLen then (loadBlocks ratio fuel false d (l.drop n)).map (out ++ ·) else none
          | _ => none
        else none

/-- A source in its plain or compressed form (13 R451). -/
def State.loadSource (s : State) (comp : Bool) (l : List Byte) : Option (List Byte) :=
  if comp then loadBlocks (s.rf Reg.COMP_RATIO 0 8) (l.length / 48 + 2) true [] l else some l

/-- The entries of a dictionary image (13 R449); `none` when one is malformed. -/
def dictEntries : Nat → Nat → List Byte → Option Dict
  | 0, _, _ => some []
  | n + 1, m, l =>
    let p := fieldAt l 0 2
    if (256 ≤ p ∧ p < 258) ∨ 258 + m ≤ p ∨ fieldAt l 3 1 ≠ 0 then none
    else (dictEntries n (m + 1) (l.drop 4)).map ((p, BitVec.ofNat 8 (fieldAt l 2 1)) :: ·)

/-- A whole dictionary image (13 R449). -/
def dictImage (l : List Byte) : Option SDict :=
  let n := fieldAt l 6 2
  if fieldAt l 0 4 ≠ 0x31434944 ∨ fieldAt l 4 2 ≠ 1 ∨ n = 0 ∨ 65278 < n ∨ (l.drop 12).take 52 ≠ List.replicate 52 0
      ∨ l.length ≠ 64 + 4 * n then none
  else (dictEntries n 0 (l.drop 64)).map (fun d =>
    ⟨true, word (fieldAt l 8 4), word (leNat (Config.shake256 l 4)), d⟩)

end Sys2Proof.Machine
end

