-- ==== Sys2Proof/Machine/LagRows.lean ====
section
/-! DEFINITION. The commands and events of the Lagoon and its streams (12). -/

namespace Sys2Proof.Machine

/-! ## Events -/

/-- 12 R392. -/
def execLagoonIngress (port : Fin 17) (s : State) : Res := .next (s.ingress port.val)

/-- 12 R408. -/
def execPortWatermark (q : QueueN) (s : State) : Res := .next (s.portWatermark q.val)

/-- 12 R403. -/
def execCutThroughReady (q : QueueN) (s : State) : Res := .next (s.qReady q.val)

/-- 12 R404. -/
def execQueueFlushDone (q : QueueN) (s : State) : Res := .next (s.qFlushEnd q.val)

/-- 12 R410. -/
def execMergeRead (k : StrmN) (s : State) : Res := .next ((s.mergeRead k.val).closeRelease k.val)

/-- 12 R410. -/
def execMergeInputStall (k : StrmN) (s : State) : Res := .next (s.mergeStall k.val)

/-- 12 R417. -/
def execEgressServe (up : Bool) (s : State) : Res := .next (s.egress up)

/-! ## QUEUE_CONFIGURE (12 R420, R421) -/

/-- Route `j` of the parameters, for queue `q` at port `p`. -/
def routeOf (e : Entry) (q p j : Nat) : Route :=
  let o := 24 + 16 * j
  ⟨q, p, (e.p (o + 1) 1).testBit 0, e.p o 1, e.p (o + 2) 2, e.p (o + 4) 2, e.p (o + 8) 4⟩

def routesOf (e : Entry) : List Route := (List.range (e.p 22 1)).map (fun j => routeOf e (e.p 0 2) (e.p 3 1) j)

/-- Unnamed bytes of route `j` are 0. -/
def routeClean (e : Entry) (j : Nat) : Bool :=
  let o := 24 + 16 * j
  decide (e.p (o + 1) 1 ≤ 1) && e.zero (o + 6) 2 && e.zero (o + 12) 4

/-- The index range lies in one block of the Island's own indices (12 R395). -/
def ownIndices (port first last : Nat) (blocks : List Nat) : Bool :=
  blocks.any (fun b => decide (b + 16 * port ≤ first) && decide (last ≤ b + 16 * port + 15))

/-- The classes that a local route may name at a port (12 R395): class 0xFF at any port, for what the port carries. -/
def classOk (r : Route) : Bool :=
  if r.cls = 0xFF then true
  else if r.cls = 0 then decide (r.port < 12) && ownIndices r.port r.first r.last [0, 0x100, 0x200]
  else if r.cls = 1 then decide (r.port < 12) && ownIndices r.port r.first r.last [0]
  else if r.cls = 2 then r.port == 0
  else if r.cls = 3 then r.port == 0 || r.mask == 2 ^ 13
  else if r.cls = 5 ∨ r.cls = 6 ∨ r.cls = 7 then r.port == 12
  else false

/-- A route is valid at its port (12 R393, R395, R420). -/
def Route.valid (r : Route) : Bool :=
  if 13 ≤ r.port then r.origin && r.cls == 0xFF && r.first == r.last && decide (r.first ≤ 63) && r.mask == 0
  else !r.origin && decide (r.first ≤ r.last) && r.mask &&& 0xFFC1C000 == 0 && classOk r

/-- Two routes of different queues overlap (12 R394): EPOCH is excepted. -/
def Route.overlaps (a b : Route) : Bool :=
  a.q != b.q && a.port == b.port && a.origin == b.origin
    && (if a.origin then a.first == b.first
        else (a.cls == b.cls || a.cls == 0xFF || b.cls == 0xFF) && decide (a.first ≤ b.last) && decide (b.first ≤ a.last)
          && (a.mask &&& b.mask) &&& (0xFFFFFFFF - 2 ^ 13) != 0)

/-- The queue's routes after the command. -/
def State.newRoutes (s : State) (e : Entry) : List Route :=
  if (e.p 2 1).testBit 2 then routesOf e
  else (s.lag.routes.filter (fun r => r.q == e.p 0 2)).map (fun r => { r with port := e.p 3 1 })

def State.queueParamOk (s : State) (e : Entry) : Bool :=
  let f := e.p 2 1
  let rs := s.newRoutes e
  let others := s.lag.routes.filter (fun r => r.q != e.p 0 2)
  let guars := (s.lag.queues.map (fun x => if x.1 = e.p 0 2 then 0 else x.2.guar)).sum + e.p 12 4
  decide (e.p 0 2 ≤ 4095) && decide (f ≤ 7) && !(f.testBit 0 && f.testBit 1) && decide (e.p 3 1 ≤ 16) && decide (e.p 4 1 ≤ 3)
    && decide (1 ≤ e.p 6 2) && decide (1 ≤ e.p 8 4) && decide (e.p 8 4 ≤ 131072) && decide (e.p 12 4 ≤ e.p 8 4)
    && decide (e.p 16 4 ≤ 2000000) && decide (e.p 22 1 ≤ 32) && e.zero 23 1 && (e.p 22 1 == 0 || f.testBit 2)
    && (List.range (e.p 22 1)).all (routeClean e) && rs.all Route.valid && rs.all (fun r => others.all (fun o => !r.overlaps o))
    && decide (guars ≤ 65536)

/-- The queue is attached to an open stream. -/
def State.attached (s : State) (n : Nat) : Bool :=
  match (s.queue n).stream with | some k => (s.stream k).st != 0 | none => false

/-- The settings of a queue (12 R420). -/
def LQueue.settings (q : LQueue) (e : Entry) (now : TS48) : LQueue :=
  let f := e.p 2 1
  { q with
    st := if f.testBit 0 ∧ q.st = 0 then 1 else if f.testBit 1 ∧ q.st = 1 then 0 else q.st
    flush := q.flush.map (fun x => { x with disable := if f.testBit 0 then false else x.disable || f.testBit 1 })
    port := e.p 3 1, prio := e.p 4 1, cut := e.p 5 1, hbUs := e.p 6 2, quota := e.p 8 4, guar := e.p 12 4, lagUs := e.p 16 4
    ageUs := e.p 20 2, wmLast := if q.port = e.p 3 1 then q.wmLast else now
    wmSet := q.port != e.p 3 1 || (q.wmSet && q.st != 0), wmIn := if q.port = e.p 3 1 then q.wmIn else [] }

/-- A link decompressor keeps an origin's slot only while a route for it remains (13 R441). -/
def State.dropOrigins (s : State) : State :=
  let gone := s.comp.origins.filter (fun e => (s.lag.originDest (13 + e.1 / 64) (e.1 % 64)).isNone)
  s.updComp (fun c => { c with
    origins := c.origins.filter (fun e => !(gone.any (fun g => g.1 == e.1)))
    slots := c.slots.filter (fun e => !(e.2.1 == 2 && gone.any (fun g => g.2.slot == some e.1))) })

def State.queueConfigure (s : State) (tk : Ticket) (e : Entry) : State :=
  let n := e.p 0 2
  let q := s.queue n
  let others := s.lag.routes.filter (fun r => r.q != n)
  if s.attached n ∧ ((e.p 2 1).testBit 1 ∨ e.p 3 1 ≠ q.port) then s.reply tk stWRONG_STATE []
  else if 512 < others.length + (s.newRoutes e).length then s.reply tk stNO_RESOURCE []
  else
    let rs := s.newRoutes e
    let s := s.updQueue n (fun q => q.settings e s.tsNow)
    let s := s.updLag (fun l => { l with routes := others ++ rs })
    s.dropOrigins.poolNote.replyEffect tk stOK []

def cQueueConfigure : CmdSpec :=
  { op := 0x0803, lenOk := fun e => e.len == 3 + 2 * e.p 22 1, paramOk := State.queueParamOk, run := State.queueConfigure }

/-- 12 R420. -/
def execQueueConfigure (m : Master) (s : State) : Res := .next (s.runCmd cQueueConfigure m.val)

/-! ## STREAM_OPEN (12 R423, R424) -/

def inputsOf (e : Entry) : List Nat := (List.range (e.p 3 1)).map (fun i => e.p (16 + 2 * i) 2)

def streamParamOk (e : Entry) : Bool :=
  let f := e.p 1 1
  let qs := inputsOf e
  let k := e.p 3 1
  decide (e.p 0 1 ≤ 63) && decide (f ≤ 7) && (if f.testBit 2 then e.p 2 1 &&& 0x70 == 0 else e.zero 2 1)
    && decide (1 ≤ k) && decide (k ≤ 64)
    && (if f.testBit 0 then e.zero 4 2 else decide (1 ≤ e.p 4 2) && decide (e.p 4 2 ≤ 4096)) && decide (1 ≤ e.p 6 2)
    && decide (e.p 8 4 ≤ 56000) && decide (1 ≤ e.p 12 2) && decide (e.p 14 1 ≤ 3) && e.zero 15 1
    && qs.all (fun q => decide (q ≤ 4095)) && decide (qs.Nodup)
    && (List.range (4 * ceilDiv k 4 - k)).all (fun i => e.zero (16 + 2 * (k + i)) 2)

/-- MB/s of a channel's raw export (07 R264). -/
def State.rawCharge (s : State) (c : Nat) : Nat := ceilDiv 3000 (s.rf (Reg.CH_CONV c) 0 13)

/-- The export ledger (07 R264, 12 R424). -/
def State.exportUsed (s : State) : Nat :=
  (s.ch.map (fun e => if e.2.cap.raw then s.rawCharge e.1 else 0)).sum
    + (s.lag.streams.map (fun e => if e.2.st = 0 then 0 else e.2.charge)).sum

/-- CH_EXPORT_BUDGET: one register that every CH page shows (07 R266). -/
def State.exportBudget (s : State) : Nat := s.rf (Reg.CH_EXPORT_BUDGET 0) 0 20

/-- The ring of a HOST stream is set up on its function (12 R424, 16 R547). -/
def State.ringSetUp (s : State) (k pf : Nat) : Bool :=
  s.sec.straps.pcieEn && s.rb (Reg.HOSTIF_SR_CFG k) 31 && s.ringPf k == pf && (s.ring k).st != 0

def State.streamWrong (s : State) (e : Entry) : Bool :=
  let k := e.p 0 1
  (s.stream k).st != 0
    || (inputsOf e).any (fun n => (s.queue n).st == 0 || (match (s.queue n).stream with | some j => (s.stream j).st != 0 | none => false))
    || (if (e.p 1 1).testBit 1 then s.upPort.isNone else !s.ringSetUp k (e.p 14 1))

def State.streamShort (s : State) (e : Entry) : Bool :=
  decide (s.exportBudget < s.exportUsed + e.p 8 4) || decide (16384 < s.lag.storeUsed + e.p 4 2)
    || ((e.p 1 1).testBit 2 && !s.compRoom ((e.p 2 1).testBit 7) (e.p 2 1 % 16))

/-- The stream as it opens (12 R409, R424). -/
def LStream.opened (e : Entry) (ts : TS48) (now seq : Nat) : LStream :=
  let f := e.p 1 1
  { LStream.reset with
    st := 1, prioMode := f.testBit 0, up := f.testBit 1, compress := f.testBit 2, dict := e.p 2 1, pf := e.p 14 1,
    sortMax := e.p 4 2, wmOutUs := e.p 6 2, charge := e.p 8 4, timeoutMs := e.p 12 2,
    inputs := (inputsOf e).map (fun q => ⟨q, ts, now, false⟩), rel := ts, wmOut := ts, order := seq,
    rr := e.p 3 1 - 1 }

/-- The stream needs a static dictionary that a load in the background holds (03 R111). -/
def State.dictLoading (s : State) (e : Entry) : Bool :=
  (e.p 1 1).testBit 2 && !(e.p 2 1).testBit 7 && s.comp.loads.any (fun j => j.idx == e.p 2 1 % 16)

def State.streamOpen (s : State) (tk : Ticket) (e : Entry) : State :=
  let k := e.p 0 1
  if s.streamWrong e then s.reply tk stWRONG_STATE []
  else if s.dictLoading e then s.reply tk stBUSY []
  else if s.streamShort e then s.reply tk stNO_RESOURCE []
  else
    let ts := s.tsNow
    let s := s.updStream k (fun _ => LStream.opened e ts s.now 0)
    let s := forEach (inputsOf e) (fun s n => s.updQueue n (fun q => { q with stream := some k })) s
    let s := if (e.p 1 1).testBit 2 then s.compOpen k ((e.p 2 1).testBit 7) (e.p 2 1 % 16) else s
    let s := if (e.p 1 1).testBit 1 then s else s.updRing k (fun r => { r with last := false, ended := false })
    s.replyAt tk stOK [] ts

def cStreamOpen : CmdSpec :=
  { op := 0x0801, lenOk := fun e => e.len == 2 + ceilDiv (e.p 3 1) 4, paramOk := fun _ e => streamParamOk e,
    run := State.streamOpen }

/-- 12 R423. -/
def execStreamOpen (m : Master) (s : State) : Res := .next (s.runCmd cStreamOpen m.val)

/-! ## STREAM_CLOSE (12 R425) -/

def State.streamClose (s : State) (tk : Ticket) (e : Entry) : State :=
  if (s.stream (e.p 0 1)).st ≠ 1 then s.reply tk stWRONG_STATE []
  else (s.replyPending tk).closeStream (e.p 0 1) ((e.p 1 1).testBit 0) (some tk)

def cStreamClose : CmdSpec :=
  { op := 0x0802, lenOk := lenIs 1,
    paramOk := fun _ e => decide (e.p 0 1 ≤ 63) && decide (e.p 1 1 ≤ 1) && e.zero 2 6, run := State.streamClose }

/-- 12 R425. -/
def execStreamClose (m : Master) (s : State) : Res := .next (s.runCmd cStreamClose m.val)

/-- The compressor's side has nothing left. -/
def State.compDry (s : State) (k : Nat) : Bool :=
  match s.cstream k with | some x => x.block.isEmpty && x.closed.isNone | none => true

/-- The stream's ring has ended, or the stream has none that runs. -/
def State.ringDry (s : State) (k : Nat) : Bool :=
  (s.stream k).up || (s.ring k).st == 0 || (s.ring k).ended

/-- The stream is CLOSED (12 R425): its charge and store entries return, its inputs are detached. -/
def State.streamGone (s : State) (k : Nat) : State :=
  let x := s.stream k
  let s := forEach (x.inputs.map MInput.q) (fun s n => s.updQueue n (fun q => { q with stream := none })) s
  let s := s.compClose k
  let s := s.updStream k (fun _ => { LStream.reset with rel := x.rel })
  match x.close.bind SClose.tk with
  | some tk => s.finish tk stOK []
  | none => s

/-- The last record of a closing stream has been handed over (12 R425): its ring then ends (16 R538), and after that the
stream is CLOSED. -/
def State.streamCloseDone (s : State) (k : Nat) : State :=
  let s := s.closeRelease k
  if (s.stream k).st = 2 ∧ s.streamDry k ∧ s.compDry k then
    let s := if (s.stream k).up ∨ (s.ring k).st = 0 then s else s.ringEnd k
    if s.ringDry k then s.streamGone k else s
  else s

/-- 12 R425. -/
def execStreamCloseDone (k : StrmN) (s : State) : Res := .next (s.streamCloseDone k.val)

/-! ## Compression (13) -/

/-- 13 R430. -/
def execCompressBlockClose (k : StrmN) (s : State) : Res :=
  .next (match s.cstream k.val with
    | some x => if s.blockDue k.val x then s.blockClose k.val x else s
    | none => s)

/-- 13 R442. -/
def execBlockVerify (k : StrmN) (good : Bool) (s : State) : Res := .next (s.blockVerify k.val good)

/-- 13 R444. -/
def execDecompressBlock (p : PortN) (s : State) : Res := .next (s.decompress p.val)

/-! ## DICT_LOAD (13 R450) -/

def dictParamOk (e : Entry) : Bool :=
  decide (e.p 0 1 ≤ 15) && decide (e.p 1 1 ≤ 3)
    && ((e.p 1 1).testBit 1 || (decide (e.p 2 1 ≤ 11) && decide (e.p 3 1 ≤ 7) && e.p 4 4 % 16 == 0
        && decide (e.p 4 4 + e.p 8 4 ≤ 0x40000)))
    && e.zero 12 4

/-- The dictionary becomes unloaded. -/
def State.unloadDict (s : State) (i : Nat) : State := s.updSdict i (fun _ => SDict.reset)

/-- DICT_LOAD (13 R450); an index that a load in the background holds is BUSY (03 R111). -/
def State.dictLoad (s : State) (tk : Ticket) (e : Entry) : State :=
  let i := e.p 0 1
  let held := s.comp.loads.any (fun j => j.idx == i)
  if s.comp.dictInUse i then s.reply tk stWRONG_STATE []
  else if (e.p 1 1).testBit 1 then if held then s.reply tk stBUSY [] else (s.unloadDict i).replyEffect tk stOK []
  else if !s.bankHeld (8 * e.p 2 1 + e.p 3 1) [4, 5] then s.reply tk stWRONG_STATE []
  else if held then s.reply tk stBUSY []
  else (s.replyPending tk).updComp (fun c => { c with
    loads := c.loads ++ [⟨tk, i, e.p 2 1, e.p 3 1, e.p 4 4, e.p 8 4, (e.p 1 1).testBit 0⟩] })

def cDictLoad : CmdSpec := { op := 0x0805, lenOk := lenIs 2, paramOk := fun _ e => dictParamOk e, run := State.dictLoad }

/-- 13 R450. -/
def execDictLoad (m : Master) (s : State) : Res := .next (s.runCmd cDictLoad m.val)

/-- The copy is complete and checked (13 R450, 17 R555). -/
def State.dictLoaded (s : State) (j : DLoad) : State :=
  let s := s.updComp (fun c => { c with loads := c.loads.erase j })
  let (bad, s) := s.readCheck 2 (8 * j.island + j.bank) j.off j.len
  let img := (s.loadSource j.comp (s.bankBytes j.island j.bank j.off j.len)).bind dictImage
  match if bad then none else img with
  | none => (s.unloadDict j.idx).reply j.tk (if bad then stUNCORRECTABLE else stBAD_PARAM) []
  | some d =>
    let s := s.updSdict j.idx (fun _ => d)
    let s := s.clearPoison 4 (128 + j.idx) 0 0x40000
    let s := s.evt Reg.COMP_EVT 8
    s.finish j.tk stOK (leBytes 4 d.id.toNat ++ leBytes 4 d.hash.toNat ++ leBytes 2 d.entries.length ++ leBytes 6 0)

/-- 13 R450. -/
def execDictLoadDone (s : State) : Res :=
  .next (match s.comp.loads with | [] => s | j :: _ => s.dictLoaded j)

/-! ## Rings (16 R537 to R541) -/

/-- 16 R537: the 16 bytes of the descriptor; of another list, its first 16 bytes with zeros for those it lacks (log entry 2). -/
def execDescriptorReadDone (ring : Fin 68) (bytes : List Byte) (s : State) : Res :=
  .next (s.descRead ring.val ((bytes ++ List.replicate 16 0).take 16))

/-- 16 R537. -/
def execRingPoll (ring : Fin 68) (s : State) : Res := .next (s.ringPoll ring.val)

/-- A descriptor read failed (16 R539). -/
def execRingError (ring : Fin 68) (s : State) : Res :=
  .next (if (s.ring ring.val).reading.isSome then
    (s.updRing ring.val (fun r => { r with st := 3, reading := none, err := true })).evt Reg.HOSTIF_EVT 4 else s)

/-- close_us have passed since the buffer's first record (16 R538). -/
def execBufferClose (ring : Fin 68) (s : State) : Res :=
  let k := ring.val
  .next (match (s.ring k).buf with
    | some b =>
      match b.firstTick with
      | some t => if t + s.ringClose k ≤ s.now ∧ s.pfLive (s.ringPf k) then (s.closeBuf k true).ringPump k else s
      | none => s
    | none => s)

/-- The moderation interval ends with a closed buffer to signal (16 R541). -/
def execMsixModeration (k : StrmN) (s : State) : Res :=
  .next (match (s.ring k.val).modEnd with
    | some t =>
      if s.now < t then s
      else if (s.ring k.val).modPend then
        (s.updRing k.val (fun r => { r with modPend := false, modEnd := none })).ringSignal k.val
      else s.updRing k.val (fun r => { r with modEnd := none })
    | none => s)

end Sys2Proof.Machine
end

