-- ==== Sys2Proof/Machine/ChanRegs.lean ====
section
/-! DEFINITION. Writes of the posted registers of a CH page: what is stored and what takes effect (04 R153, 05 R184, 06 R237, 07 R266). -/

namespace Sys2Proof.Machine

/-! ## What is stored -/

/-- Partner position `p` is invalid for a source and remote setting (04 R124). -/
def badPartner (c p src : Nat) (remote : Bool) : Bool := p == c % 4 && (src == 2 || remote)

/-- The descriptor of the CH register at page offset `off`. -/
def chDesc (off : Nat) : Option RegDesc := (pageRegs .ch).find? (fun d => d.covers off)

/-- A written word with its reserved bits 0 and its fields limited as the register's table gives. -/
def chLimited (off : Nat) (w : Word) : Word :=
  match chDesc off with
  | some d => d.limited w
  | none => w

/-- CH_CONV: decimation needs D of at least 16 (05 R174). -/
def storeConv (w : Word) : Word × Bool :=
  if bit w 20 && decide (fld w 0 13 < 16) then (setBit w 20 false, true) else (w, false)

/-- A field in which code 3 stores 0. -/
def storeNo3 (w : Word) (lo : Nat) : Word × Bool := if fld w lo 2 = 3 then (setFld w lo 2 0, true) else (w, false)

/-- CH_EXC_CTRL: code 3 of start or mode stores 0 (04 R153). -/
def storeExc (w : Word) : Word × Bool :=
  let a := storeNo3 w 4
  let b := storeNo3 a.1 1
  (b.1, a.2 || b.2)

/-- What a write of the register at page offset `off` stores (`none`: the register is unchanged), and whether it sets bad_cfg. -/
def State.chStore (s : State) (c off : Nat) (written : Word) : Option Word × Bool :=
  let ctrl := s.rget (Reg.CH_EXC_CTRL c)
  let mux := s.rget (Reg.CH_MUX c)
  let w := chLimited off written
  if off = 0x008 then
    if 9 < fld w 0 4 ∨ badPartner c (fld w 8 2) (fld w 0 4) (bit ctrl 8) then (none, true) else (some w, false)
  else if off = 0x014 then
    if bit w 8 && badPartner c (fld mux 8 2) (fld mux 0 4) true then (none, true) else (some (storeExc w).1, (storeExc w).2)
  else if off = 0x018 then (some (word (s.limitLevel c (fld ctrl 1 2) w.toNat)), false)
  else if off = 0x020 then (some (word (clampNat (s.rf (Reg.CH_EXC_WIDTH c) 0 16 + 100) 60000000 w.toNat)), false)
  else if off = 0x100 then (some (storeConv w).1, (storeConv w).2)
  else if off = 0x104 then (some (w &&& 1), false)
  else if off = 0x200 ∨ off = 0x204 then (some (storeNo3 w 28).1, (storeNo3 w 28).2)
  else if off = 0x260 then if 191 < fld w 16 8 then (none, true) else (some w, false)
  else if off = 0x320 then (some ((storeNo3 w 30).1 &&& 0xDFFFFFFF), (storeNo3 w 30).2)
  else (some w, false)

/-! ## What takes effect -/

/-- A write of CH_CONV.div recharges the ledger; over the budget export stops (07 R265). -/
def State.recharge (s : State) (c : Nat) (old : Word) : State :=
  if (s.capc c).raw && fld old 0 13 != s.rf (Reg.CH_CONV c) 0 13 && decide (s.exportBudget < s.exportUsed) then
    (s.rawStop c).chEvt c evEXPORT_STOP
  else s

/-- CH_EXC_CTRL has changed (04 R134, R137, R138). -/
def State.excCtrlChanged (s : State) (c : Nat) (old : Word) : State :=
  let w := s.rget (Reg.CH_EXC_CTRL c)
  let s := if fld old 4 2 = fld w 4 2 then s
    else
      let s := s.updFe c (fun f => { f with runs := [], convDue := [] })
      if fld w 4 2 = 0 then s.updCv c (fun v => v.chainFresh (v.set.chainStart s.qtz true s.now)) else s
  if bit w 0 && !bit old 0 then s.excEnable c
  else if bit old 0 && !bit w 0 then s.excDisable c
  else s

/-- CH_OPEN_TEST has changed: the first step of a new interval comes one interval later (04 R146). -/
def State.openTestChanged (s : State) (c : Nat) (old : Word) : State :=
  let n := s.rf (Reg.CH_OPEN_TEST c) 0 16
  if n = fld old 0 16 then s
  else s.updFe c (fun f => { f with testNext := if n = 0 then none else some (s.now + n * 150000) })

/-- CH_FREQ_CTRL has changed (06 R223): enabling, and a change of src, open a new gate sequence; VW holds the unit (06 R225). -/
def State.freqChanged (s : State) (c : Nat) (old : Word) : State :=
  let w := s.rget (Reg.CH_FREQ_CTRL c)
  if (s.fe c).vwOn then s
  else if bit w 31 then (if bit old 31 && fld old 30 1 == fld w 30 1 then s else s.startFreq c)
  else s.updFreq c (fun _ => FreqU.reset)

/-- The effect of a completed write of the register at `off`, which held `old`; `w` is the word written. -/
def State.chEffect (s : State) (c off : Nat) (old w : Word) : State :=
  if off = 0x008 ∨ off = 0x00C then s.applyInput c
  else if off = 0x014 then s.excCtrlChanged c old
  else if off = 0x030 then s.openTestChanged c old
  else if off = 0x100 then (s.convChanged c old).recharge c old
  else if off = 0x104 then (if bit w 1 then s.bgRestart c else s)
  else if off = 0x200 ∨ off = 0x204 then s.discChanged c (off / 4 % 2) old
  else if off = 0x240 then s.freqChanged c old
  else if off = 0x260 then (if old = s.rget (Reg.CH_IVL_CTRL c) then s else s.ivlRestart c old)
  else if off = 0x270 ∨ off = 0x274 then (if (s.fe c).src = 7 ∧ !(s.charOn c) then s.restartTp c else s)
  else if off = 0x320 then
    let s := s.capMode c
    if bit w 29 then s.capArm c else s
  else if off = 0x324 then s.capJudge c
  else s

/-- A write of CH_CORR: samples before this tick keep the old pair (05 R169). -/
def State.corrNote (s : State) (c off : Nat) : State :=
  if off = 0x140 + 4 * (s.fe c).gain then s.noteCorr c else s

/-- A posted write of a CH page completes (02 R66, 04 R154). -/
def State.chApply (s : State) (c off : Nat) (w : Word) : State :=
  let a := 0x100000 + c * 0x4000 + off
  let old := s.rget a
  let r := s.chStore c off w
  let s := if r.2 then s.chEvt c evBAD_CFG else s
  match r.1 with
  | none => s
  | some v => (((s.corrNote c off).rset a v).chEffect c off old w)

/-! ## Configuration by command (04 R155 to R157, 06 R239, R243, R244, 07 R268, R269) -/

/-- Channel and offset of a register. -/
def State.posted (s : State) (c : Nat) : Option Posted := mget none s.bus.posted (0x100000 + c * 0x4000)

/-- A command waits for a posted write of the page, which completes first (04 R156). -/
def State.settlePosted (s : State) (c : Nat) : State :=
  match s.posted c with
  | none => s
  | some p =>
    (s.updBus (fun b => { b with posted := mput none b.posted (0x100000 + c * 0x4000) none })).chApply c (p.addr % 0x1000) p.value

/-- The command judges the registers of its channels as they are after their pending posted writes (03 R112, 04 R156). -/
def State.settleMask (s : State) (e : Entry) : State := forEach (e.mask 0 24) (fun s c => s.settlePosted c) s

/-- The value that a register of channel `c` has after the writes `l` of (offset, word). -/
def State.after (s : State) (c off : Nat) (l : List (Nat × Word)) : Word :=
  match l.find? (fun e => e.1 == off) with
  | some e => e.2
  | none => s.rget (0x100000 + c * 0x4000 + off)

/-- A written value lies in the range of its register, and its reserved bits are 0 (04 R156). -/
def chInRange (off : Nat) (w : Word) : Bool :=
  chLimited off w == w &&
    (if off = 0x008 then decide (fld w 0 4 ≤ 9)
     else if off = 0x014 then fld w 4 2 != 3 && fld w 1 2 != 3
     else if off = 0x200 ∨ off = 0x204 then fld w 28 2 != 3
     else if off = 0x260 then decide (fld w 16 8 ≤ 191)
     else if off = 0x320 then fld w 30 2 != 3
     else true)

/-- A validated word as its register keeps it: CH_CAP_CTRL.arm reads 0 (07 R267). -/
def chKept (off : Nat) (w : Word) : Word := if off = 0x320 then w &&& 0xDFFFFFFF else w

/-- Put validated values into their registers, and then into effect (04 R156, R157). -/
def State.chWrites (s : State) (c : Nat) (l : List (Nat × Word)) : State :=
  let s := s.settlePosted c
  let base := 0x100000 + c * 0x4000
  let olds := l.map (fun e => (e.1, s.rget (base + e.1), e.2))
  let s := forEach l (fun s e => s.rset (base + e.1) (chKept e.1 e.2)) s
  forEach olds (fun s e => s.chEffect c e.1 e.2.1 e.2.2) s

/-- A CH_EXC_CTRL with enable = 1 ends a channel's FAULT (04 R157). -/
def State.endFault (s : State) (c : Nat) (l : List (Nat × Word)) : State :=
  if (s.fe c).exc = .fault ∧ l.any (fun e => e.1 == 0x014 && bit e.2 0) then s.excStart c else s

/-- Word values of a command: the selected registers with their values. -/
def selected (sel : Nat) (l : List (Nat × Nat)) (e : Entry) : List (Nat × Word) :=
  (l.zipIdx.filter (fun x => sel.testBit x.2)).map (fun x => (x.1.1, word (e.p x.1.2 4)))

/-- Parameters that no selected register uses are not judged. -/
def rangesOk (l : List (Nat × Word)) : Bool := l.all (fun e => chInRange e.1 e.2)

end Sys2Proof.Machine
end

