-- ==== Sys2Proof/Machine/HkOps.lean ====
section
/-! DEFINITION. The housekeeping converter: triggers, scans and conversions (05 R193 to R202). -/

namespace Sys2Proof.Machine

/-! HK_EVT (05 R200). -/
def hkDONE : Nat := 1
def hkOVERRUN : Nat := 2
def hkLIMIT : Nat := 4

/-- Trigger source in HK_CTRL (05 R195). -/
def State.hkSrc (s : State) : Nat := s.rf Reg.HK_CTRL 0 2

/-- A trigger at tick `t` awaits its judgement (05 R196). -/
def State.hkTrig (s : State) (t : Nat) : State := s.updHk (fun h => { h with trigs := h.trigs ++ [⟨t, none⟩] })

/-- The edge of an emitter's pulse is a trigger under the HK_CTRL word `w` (05 R195). -/
def hkSelects (w : Word) (e : Nat × Bool) : Bool := fld w 0 2 == 2 && fld w 18 3 == e.1 && bit w 17 == e.2

/-- The edges up to tick `now` are judged under the HK_CTRL word `w`: those that it selects are triggers, the others are none (05 R195,
R201). -/
def Hk.settle (w : Word) (now : Nat) (h : Hk) : Hk :=
  { h with trigs := h.trigs.filterMap (fun x =>
      match x.edge with
      | some e => if now < x.tick then some x else if hkSelects w e then some ⟨x.tick, none⟩ else none
      | none => some x) }

/-- An edge of emitter `n`'s pulse comes at tick `t`, and may be a trigger then (05 R195). -/
def State.hkEdge (s : State) (n t : Nat) (trailing : Bool) : State :=
  (s.updHk (Hk.settle (s.rget Reg.HK_CTRL) s.now)).updHk (fun h => { h with trigs := h.trigs ++ [⟨t, some (n, trailing)⟩] })

/-- HK_CTRL written (05 R195, R201): a changed source drops the queued trigger, the timer runs from the write that selects it,
and sw_start is a trigger under the source written with it. DESIGN CHOICE (log entry 31). -/
def State.hkCtrl (s : State) (old w : Word) : State :=
  let changed := fld old 0 2 != fld w 0 2
  let s := s.updHk (Hk.settle old s.now)
  let s := if changed then s.updHk (fun h => { h with queued := none }) else s
  let s :=
    if changed then
      s.updHk (fun h => { h with
        timerNext := if fld w 0 2 = 1 then some (s.now + usTicks (s.rf Reg.HK_TIMER 0 24)) else none })
    else s
  if fld w 0 2 = 3 ∧ bit w 8 then s.hkTrig s.now else s

/-- HK_TIMER_EXPIRY (05 R195). -/
def State.hkTimer (s : State) : State :=
  match s.hk.timerNext with
  | none => s
  | some t =>
    if s.now < t then s
    else (s.hkTrig t).updHk (fun h => { h with timerNext := some (t + usTicks (s.rf Reg.HK_TIMER 0 24)) })

/-- The scan of a trigger at tick `t`, with the settings in force (05 R194, R195, R201). DEDUCED (log entry 31). -/
def State.hkScan (s : State) (t : Nat) : Scan :=
  { start := t + 15 * s.rf Reg.HK_DELAY 0 16
    left := bitsOf 16 (s.rf Reg.HK_SCAN_LO 0 16) ++ (bitsOf 16 (s.rf Reg.HK_SCAN_HI 0 16)).map (· + 16)
    done := [], ts := 0, record := s.rb Reg.HK_CTRL 31, running := false }

/-- A trigger is accepted, queued or dropped (05 R196). -/
def State.hkJudge (s : State) (t : Nat) : State :=
  match s.hk.scan, s.hk.queued with
  | none, _ => s.updHk (fun h => { h with scan := some (s.hkScan t) })
  | some _, none => s.updHk (fun h => { h with queued := some (s.hkScan t) })
  | some _, some _ => (s.cnt Reg.HK_OVR_CNT).evt Reg.HK_EVT hkOVERRUN

/-- The earliest trigger that has come by tick `now`. -/
def Hk.due (now : Nat) (h : Hk) : Option HkTrig :=
  (h.trigs.filter (fun x => decide (x.tick ≤ now))).foldl (fun a x =>
    match a with
    | some y => if x.tick < y.tick then some x else a
    | none => some x) none

/-- HK_TRIGGER: the earliest trigger that has come is judged (05 R196). -/
def State.hkTrigger (s : State) : State :=
  let s := s.updHk (Hk.settle (s.rget Reg.HK_CTRL) s.now)
  match s.hk.due s.now with
  | none => s
  | some x => (s.updHk (fun h => { h with trigs := h.trigs.erase x })).hkJudge x.tick

/-- A system conversion falls due at or before tick `t` (05 R197). -/
def Hk.sysBy (h : Hk) (t : Nat) : Bool :=
  match h.sysNext with
  | some n => decide (n ≤ t)
  | none => false

/-- A conversion takes 1 µs; it is sampled 0.25 µs after its start (05 R194, R199). -/
def hkSample : Nat := 375
def hkConvTicks : Nat := 1500

/-- HK_SCAN_START: a scan starts at its tick, unless a system conversion is due or under way (05 R195, R197). -/
def State.hkScanStart (s : State) : State :=
  match s.hk.scan with
  | none => s
  | some sc =>
    let t := max sc.start s.hk.free
    if sc.running ∨ s.now < t ∨ s.hk.sysBy t then s
    else
      s.updHk (fun h => { h with
        scan := some { sc with running := true }
        conv := if sc.left.isEmpty then none else some (t + hkConvTicks) })

/-- One input of a scan has been converted (05 R194). -/
def Scan.took (sc : Scan) (t code : Nat) : Scan :=
  match sc.left with
  | [] => sc
  | n :: rest => { sc with left := rest, done := sc.done ++ [(n, t, code)] }

/-- TS48 of the latest time beacon at tick `t` (01 R20). -/
def State.beaconAt (s : State) (t : Nat) : TS48 := s.tsTick (s.qtz.alignDown 64 t)

/-- HK_CONVERSION: the conversion in progress ends with `code`; the next one follows unless a system conversion is due
(05 R194, R197). The scan's time is that of its first sampling instant (05 R199). -/
def State.hkConversion (s : State) (code : Nat) : State :=
  match s.hk.scan, s.hk.conv with
  | some sc, some e =>
    if s.now < e then s
    else
      let t := e - hkConvTicks + hkSample
      let sc' := sc.took t code
      let s := if sc.done.isEmpty then s.updHk (fun h => { h with scan := some { sc' with ts := s.beaconAt t } })
        else s.updHk (fun h => { h with scan := some sc' })
      s.updHk (fun h => { h with
        conv := if sc'.left.isEmpty ∨ h.sysBy e then none else some (e + hkConvTicks)
        free := max h.free e })
  | _, _ => s

/-- The scan's record: offsets in whole microseconds from the first sampling instant (05 R199, 11 R382). -/
def Scan.record_ (sc : Scan) (num : Nat) (ts : TS48) : Rec :=
  let first := match sc.done with
    | [] => 0
    | e :: _ => e.2.1
  let m := sc.done.length
  mkRec tHK 5 0x80 ts 0 0 (ceilDiv (24 + 4 * m) 16)
    ([(20, 1, m), (21, 1, num % 256)] ++
      (sc.done.zipIdx.map (fun x =>
        [(24 + 4 * x.2, 1, x.1.1), (25 + 4 * x.2, 1, (x.1.2.1 - first) / 1500), (26 + 4 * x.2, 2, x.1.2.2)])).flatten)

/-- Results of a scan: HK_DATA, then the limits (05 R198). -/
def State.hkResult (s : State) (num : Nat) (x : Nat × Nat × Nat) : State :=
  let lim := s.rget (Reg.HK_LIM x.1)
  let out := decide (fld lim 16 12 < x.2.2) || decide (x.2.2 < fld lim 0 12)
  let s := s.rset (Reg.HK_DATA x.1) (word (num % 256 * 2 ^ 24 + 2 ^ 15 + x.2.2))
  let s := s.updHk (fun h => { h with beyond := if out then h.beyond ||| 2 ^ x.1 else h.beyond &&& (2 ^ 32 - 1 - 2 ^ x.1) })
  if out then s.evt Reg.HK_EVT hkLIMIT else s

/-- The next scan follows: that of the queued trigger, not before the end of the scan that has ended (05 R196). -/
def Hk.nextScan (h : Hk) (e : Nat) : Hk :=
  { h with
    scan := h.queued.map (fun q => { q with start := max q.start e })
    queued := none
    conv := none
    scanNum := h.scanNum + 1 }

/-- End of a scan (05 R196, R198, R199). -/
def State.hkEnd (s : State) (sc : Scan) : State :=
  let num := s.hk.scanNum
  let e := max sc.start s.hk.free
  let s := forEach sc.done (fun s x => s.hkResult num x) s
  let s := s.evt Reg.HK_EVT hkDONE
  let s := if sc.record ∧ !sc.done.isEmpty then s.toPort 12 (sc.record_ num sc.ts) else s
  s.updHk (fun h => h.nextScan e)

/-- HK_SCAN_END: every input of the scan has been converted (05 R198). -/
def State.hkScanEnd (s : State) : State :=
  match s.hk.scan with
  | some sc => if sc.running ∧ sc.left.isEmpty then s.hkEnd sc else s
  | none => s

end Sys2Proof.Machine
end

