-- ==== Sys2Proof/Machine/EmOps.lean ====
section
/-! DEFINITION. Emitter drivers: registers, states, sink settings, pulses, heat and the governor (19). -/

namespace Sys2Proof.Machine

/-! EM_EVT and EMIT_EVT (19 R623). -/
def emCFG_BAD : Nat := 0x01
def emOPEN : Nat := 0x02
def emSHORT_TEST : Nat := 0x04
def emSHORT_RUN : Nat := 0x08
def emDERATE : Nat := 0x10
def emTHERM_OFF : Nat := 0x20
def emTHERM_FAULT : Nat := 0x40
def emENABLE_PEND : Nat := 0x80
def emitTHERM : Nat := 1
def emitFAULT : Nat := 2
def emitGOV_LIMIT : Nat := 4

def State.emEvt (s : State) (n flags : Nat) : State := s.evt (Reg.EM_EVT n) flags

/-! ## States (19 R612, R613, R620) -/

/-- EM_STATUS (19 R623). -/
def Emitter.status (x : Emitter) : Word :=
  word (x.st * 2 ^ 29 + b2n (decide (x.d < 256)) * 2 ^ 28 + x.shortEm * 2 ^ 25 + b2n x.shortGnd * 2 ^ 24 + x.d * 2 ^ 8)

/-- TEST begins (19 R612). -/
def Emitter.test (x : Emitter) (now : Nat) : Emitter :=
  { x with st := 1, due := now + usTicks 20, shortEm := 0, shortGnd := false }

/-- A write of en = 1 (19 R612, R613). FAULT ends by it when en was 0. -/
def State.emEnable (s : State) (n : Nat) (endFault : Bool) : State :=
  let x := s.emitter n
  if s.retired then s
  else if x.st = 0 ∨ (x.st = 5 ∧ endFault) then s.updEmitter n (fun x => x.test s.now)
  else if x.st = 3 then (s.updEmitter n (fun x => { x with st := 4 })).emEvt n emENABLE_PEND
  else s

/-- What a write of en = 0 leaves of the state (19 R612, R613). -/
def Emitter.disabled (x : Emitter) (now : Nat) : Emitter :=
  if x.st = 1 ∨ x.st = 2 then { x with st := 3, due := now + usTicks 20 }
  else if x.st = 4 then { x with st := 3 }
  else x

def State.emDisable (s : State) (n : Nat) : State := s.updEmitter n (fun x => x.disabled s.now)

/-- FAULT is entered: the status names the neighbour, 8 for GND (19 R620). -/
def State.emFault (s : State) (n short flag : Nat) : State :=
  let s := s.updEmitter n (fun x => { x with st := 5, shortEm := if short < 8 then short else 0, shortGnd := short == 8 })
  let s := (s.emEvt n flag).evt Reg.EMIT_EVT emitFAULT
  s.alarm 0x0E01 2 n (s.emitter n).status.toNat

/-- The pin-pair test ends (19 R620). -/
def State.emTestDone (s : State) (n : Nat) (short : Option Nat) : State :=
  let x := s.emitter n
  if x.st ≠ 1 ∨ s.now < x.due then s
  else
    match short with
    | none => s.updEmitter n (fun x => { x with st := 2 })
    | some k => s.emFault n k emSHORT_TEST

/-- The ramp-down ends (19 R612, R613). -/
def State.emRampDone (s : State) (n : Nat) : State :=
  let x := s.emitter n
  if s.now < x.due then s
  else if x.st = 3 then s.updEmitter n (fun x => { x with st := 0 })
  else if x.st = 4 then s.updEmitter n (fun x => x.test s.now)
  else s

/-! ## Sink settings (19 R616, R617) -/

/-- min(g, d) of emitter `n`. -/
def State.emFactor (s : State) (n : Nat) : Nat := min s.emit.g (s.emitter n).d

/-- EM_CTRL.sink (19 R614). -/
def State.emSink (s : State) (n : Nat) : Nat := s.rf (Reg.EM_CTRL n) 28 2

/-- The latest spread-period boundary (19 R615). -/
def Emitter.boundary (x : Emitter) (q : Quartz) : Nat := q.alignDown (65536 * x.slot) q.now

/-- Values pend only from writes completed before the boundary (19 R616). -/
def Emitter.applyPend (x : Emitter) (b imax factor : Nat) (follow : Bool) : Emitter :=
  let y := { x with bound := b, factor := if follow then x.factor else factor }
  if x.pendTick < b then
    { y with
      code := min imax (x.levelPend.getD x.code), onCount := x.onPend.getD x.onCount, slot := x.slotPend.getD x.slot
      levelPend := none, onPend := none, slotPend := none }
  else { y with code := min imax x.code }

/-- SPREAD_BOUNDARY: a boundary that has not been taken (19 R616, R617). -/
def State.spreadBoundary (s : State) (n : Nat) : State :=
  let x := s.emitter n
  if x.boundary s.qtz ≤ x.bound then s
  else
    s.updEmitter n (fun x =>
      x.applyPend (x.boundary s.qtz) (s.rf (Reg.EM_IMAX n) 0 10) (s.emFactor n) (s.emSink n == 2))

/-- A value awaits its boundary: the one of a boundary that has come is taken first (19 R616). -/
def State.emPend (s : State) (n : Nat) (f : Emitter → Emitter) : State :=
  let s := s.spreadBoundary n
  s.updEmitter n (fun x => { f x with pendTick := s.now })

/-- Tick of the next spread-period boundary. -/
def Emitter.nextBoundary (x : Emitter) (q : Quartz) : Nat := x.boundary q + 65536 * x.slot

/-! ## The sink's output (19 R612, R614, R615, R617): views of the state -/

/-- Slot `j` of a spread period with on-count `k` is on (19 R615). -/
def slotOn (k j : Nat) : Bool := decide (j * k / 65536 < (j + 1) * k / 65536)

/-- Slot of the spread period at the current tick. -/
def Emitter.slotNow (x : Emitter) (q : Quartz) : Nat := (q.now - x.boundary q) / x.slot

/-- The sink is on in the current tick: in RUN, in the on slots of SPREAD, and in FOLLOW for ceil(width) ticks from the first tick at or
after the leading edge (19 R614). -/
def State.sinkOn (s : State) (n : Nat) : Bool :=
  let x := s.emitter n
  x.st == 2 &&
    (if s.emSink n = 1 then slotOn x.onCount (x.slotNow s.qtz)
     else if s.emSink n = 2 then
      match x.lastPulse with
      | some t =>
        let e := match x.scheds.find? (fun p => p.1 ≤ t) with | some p => p.2 | none => EmSched.reset
        let a := t + ceilDiv e.fine 1024
        decide (a ≤ s.now) && decide (s.now < a + ceilDiv e.width 1024)
      | none => false
     else false)

/-- The code of the applied current (19 R617): its unit is 350 / 1,023 mA. -/
def State.sinkCode (s : State) (n : Nat) : Nat :=
  if s.sinkOn n then (s.emitter n).code * (s.emitter n).factor / 256 else 0

/-! ## Schedules (19 R618, R619) -/

/-- The schedule that the registers hold. -/
def State.emSchedReg (s : State) (n : Nat) : EmSched :=
  { period := (s.rget (Reg.EM_PERIOD n)).toNat, coarse := s.rf (Reg.EM_PHASE n) 10 22, fine := s.rf (Reg.EM_PHASE n) 0 10
    width := s.rf (Reg.EM_WIDTH n) 0 18
    isl := if s.rb (Reg.EM_CTRL n) 24 then some (s.rf (Reg.EM_CTRL n) 16 4) else none }

/-- The schedule in effect at tick `t`. -/
def Emitter.schedAt (x : Emitter) (t : Nat) : EmSched :=
  match x.scheds.find? (fun p => p.1 ≤ t) with
  | some p => p.2
  | none => EmSched.reset

/-- Schedules that can still matter at `now`: those to come, and the one in effect. -/
def Emitter.kept (x : Emitter) (now : Nat) : List (Nat × EmSched) :=
  x.scheds.filter (fun p => decide (now < p.1)) ++ (x.scheds.find? (fun p => p.1 ≤ now)).toList

/-- A schedule written at `now` holds from the first pulse whose tick lies at least 96 ticks later (19 R619). -/
def Emitter.reschedule (x : Emitter) (now : Nat) (e : EmSched) : Emitter :=
  if (x.scheds.head?.map Prod.snd).getD EmSched.reset = e then x else { x with scheds := (now + 96, e) :: x.kept now }

def State.emResched (s : State) (n : Nat) : State := s.updEmitter n (fun x => x.reschedule s.now (s.emSchedReg n))

/-- Ticks up to `now` at which the schedule `e` would place a pulse: the latest of FREE, every one of ISLAND (19 R618). -/
def EmSched.ticks (e : EmSched) (now pll : Nat) (bounds : List (Nat × Nat)) : List Nat :=
  match e.isl with
  | none => if e.coarse < e.period ∧ pll + e.coarse ≤ now then [now - (now - pll - e.coarse) % e.period] else []
  | some i => (bounds.filter (fun p => p.1 == i)).map (fun p => p.2 + e.coarse)

/-- The earliest tick at which a pulse falls due and has not been placed. -/
def Emitter.pulseTick (x : Emitter) (now pll : Nat) : Option Nat :=
  let es := EmSched.reset :: x.scheds.map Prod.snd
  let ts := es.flatMap (fun e => (e.ticks now pll x.bounds).filter (fun t =>
    decide (t ≤ now) && decide (x.due ≤ t) && decide (x.schedAt t = e) &&
      (match x.lastPulse with | some l => decide (l < t) | none => true)))
  ts.foldl (fun a t => some (match a with | some b => min b t | none => t)) none

/-- TS48 of a leading edge: that of its tick and the fine offset, rounded (19 R619). -/
def State.emEdgeTs (s : State) (t fine : Nat) : TS48 :=
  s.tsTick t + BitVec.ofNat 48 ((fine * s.qtz.inc.toNat + 2 ^ 25) / 2 ^ 26)

/-- A pulse is placed at tick `t` (19 R618, R619, R617; 05 R195). -/
def State.emPlace (s : State) (n t : Nat) : State :=
  let e := (s.emitter n).schedAt t
  let ts := s.emEdgeTs t e.fine
  let f := if s.emSink n = 2 then s.emFactor n else (s.emitter n).factor
  let s := s.updEmitter n (fun x => { x with lastPulse := some t, factor := f })
  let s := (s.rset (Reg.EM_LAST_TS_LO n) (word ts.toNat)).rset (Reg.EM_LAST_TS_HI n) (word (ts.toNat / 2 ^ 32))
  let s := s.cnt (Reg.EM_PULSES n)
  (s.hkEdge n (t + ceilDiv e.fine 1024) false).hkEdge n (t + ceilDiv (e.fine + e.width) 1024) true

/-- EM_PULSE: pulses are placed in RUN, the one state in which en = 1 and TEST has passed since en became 1 (19 R618). DEDUCED (log
entry 58). -/
def State.emPulse (s : State) (n : Nat) : State :=
  let x := s.emitter n
  if x.st ≠ 2 then s
  else
    match x.pulseTick s.now s.qtz.pll with
    | some t => s.emPlace n t
    | none => s

/-! ## Heat (19 R621, R622) -/

/-- The range of a thermistor code and its factor (19 R621). -/
def thermZone (c tderate toff : Nat) : Nat × Nat :=
  if 4000 ≤ c then (3, 0)
  else if tderate ≤ c then (0, 256)
  else if c ≤ toff then (2, 0)
  else (1, 256 * (c - toff) / (tderate - toff))

/-- What the entry to a range raises (19 R621). -/
def State.zoneEntered (s : State) (n zone c : Nat) : State :=
  if zone = 1 then s.emEvt n emDERATE
  else if zone = 2 then ((s.emEvt n emTHERM_OFF).evt Reg.EMIT_EVT emitTHERM).alarm 0x0E02 1 n c
  else if zone = 3 then (s.emEvt n emTHERM_FAULT).evt Reg.EMIT_EVT emitTHERM
  else s

/-- The thermal factor after a system conversion of HK16 + n with code `c` (19 R621). -/
def State.emThermal (s : State) (n c : Nat) : State :=
  let z := thermZone c (s.rf (Reg.EM_TDERATE n) 0 12) (s.rf (Reg.EM_TOFF n) 0 12)
  let old := (s.emitter n).zone
  let s := s.updEmitter n (fun x => { x with d := z.2, zone := z.1 })
  if z.1 = old then s else s.zoneEntered n z.1 c

/-- Period of an emitter's pulses: EM_PERIOD, or that of its Island (19 R618, R622). -/
def State.emPeriod (s : State) (n : Nat) : Nat :=
  match ((s.emitter n).schedAt s.now).isl with
  | none => ((s.emitter n).schedAt s.now).period
  | some i =>
    match (s.island i).cfg with
    | some c => c.ticks
    | none => 0

/-- Duty of an emitter, as a fraction (19 R622). -/
def State.emDuty (s : State) (n : Nat) : Nat × Nat :=
  if s.emSink n = 1 then ((s.emitter n).onCount, 65536)
  else if s.emSink n = 2 then (((s.emitter n).schedAt s.now).width, 1024 * s.emPeriod n)
  else (0, 1)

/-- P_req in µW, as a fraction: V_ball and I of EM_IMEAS (19 R622). -/
def State.emPower (s : State) : Nat × Nat :=
  ((List.range 8).filter (fun n => (s.emitter n).st == 2)).foldl
    (fun a n =>
      let m := s.rget (Reg.EM_IMEAS n)
      let q := s.emDuty n
      let num := fld m 0 16 * fld m 16 10 * 350 * q.1
      let den := 1023 * q.2
      if den = 0 then a else (a.1 * den + num * a.2, a.2 * den))
    (0, 1)

/-- The largest multiple of 1/256, at most 1, that keeps the power within `lim` µW. -/
def gFor (p : Nat × Nat) (lim : Nat) : Nat := if p.1 = 0 then 256 else min 256 (lim * 256 * p.2 / p.1)

/-- The new factor: it rises only to a value that keeps 5.7 W (19 R622). -/
def newG (cur : Nat) (p : Nat × Nat) : Nat :=
  if gFor p 6000000 < cur then gFor p 6000000 else max cur (gFor p 5700000)

/-- EM_IMEAS as measured (19 R623): emitters beyond the list keep theirs. -/
def State.emMeas (s : State) (l : List (BitVec 10 × BitVec 16)) : State :=
  forEach ((l.take 8).zipIdx) (fun s x => s.rset (Reg.EM_IMEAS x.2) (word (x.1.1.toNat * 65536 + x.1.2.toNat))) s

/-- EM_GOVERNOR (19 R622). -/
def State.emGovernor (s : State) (meas : List (BitVec 10 × BitVec 16)) : State :=
  if s.now < s.emit.govNext then s
  else
    let s := s.emMeas meas
    let p := s.emPower
    let g := newG s.emit.g p
    let fell := s.emit.g == 256 && decide (g < 256)
    let s := s.updEmit (fun e => { e with g := g, preq := satNat 65535 (p.1 / (1000 * p.2)), govNext := e.govNext + msTicks 10 })
    if fell then s.evt Reg.EMIT_EVT emitGOV_LIMIT else s

/-- EM_SINK_OUT_OF_COMPLIANCE (19 R617). -/
def State.emOpen (s : State) (n : Nat) : State := if (s.emitter n).st = 2 then s.emEvt n emOPEN else s

/-- EM_SHORT_RUN (19 R620). -/
def State.emShortRun (s : State) (n short : Nat) : State := if (s.emitter n).st = 2 then s.emFault n short emSHORT_RUN else s

/-! ## Registers (19 R623) -/

/-- The descriptor of the EMIT register at page offset `off`. -/
def emDesc (off : Nat) : Option RegDesc := (pageRegs .emit).find? (fun d => d.covers off)

def emLimited (off : Nat) (w : Word) : Word :=
  match emDesc off with
  | some d => d.limited w
  | none => w

/-- A coarse offset at or above the period under FREE (19 R619). -/
def phaseBad (ctrl period phase : Word) : Bool := !bit ctrl 24 && decide (period.toNat ≤ fld phase 10 22)

/-- What a write of emitter `n`'s register `r` stores (`none`: unchanged), and whether it sets cfg_bad (19 R614, R619, R621). -/
def State.emStore (s : State) (n r : Nat) (w : Word) : Option Word × Bool :=
  if r = 0x04 then (if fld w 28 2 = 3 then (some (setFld w 28 2 0), true) else (some w, false))
  else if r = 0x0C then (some (word (min (s.rf (Reg.EM_IMAX n) 0 10) w.toNat)), false)
  else if r = 0x1C then
    if phaseBad (s.rget (Reg.EM_CTRL n)) (s.rget (Reg.EM_PERIOD n)) w then (none, true) else (some w, false)
  else if r = 0x24 then if s.rf (Reg.EM_TOFF n) 0 12 < w.toNat then (some w, false) else (none, true)
  else if r = 0x28 then if w.toNat < s.rf (Reg.EM_TDERATE n) 0 12 then (some w, false) else (none, true)
  else (some w, false)

/-- What a stored value does; `force`: EMIT_CONFIGURE, whose en = 1 ends FAULT (19 R612, R616, R619, R620). -/
def State.emEffect (s : State) (n r : Nat) (old w : Word) (force : Bool) : State :=
  if r = 0x04 then
    let s := s.emResched n
    if bit w 31 then s.emEnable n (force || !bit old 31) else s.emDisable n
  else if r = 0x0C then s.emPend n (fun x => { x with levelPend := some w.toNat })
  else if r = 0x10 then s.emPend n (fun x => { x with onPend := some w.toNat })
  else if r = 0x14 then s.emPend n (fun x => { x with slotPend := some w.toNat })
  else if r = 0x18 ∨ r = 0x1C ∨ r = 0x20 then s.emResched n
  else s

/-- A posted write of the EMIT page completes (02 R66, 19 R623). -/
def State.emApply (s : State) (off : Nat) (written : Word) : State :=
  if off < 0x100 ∨ 0x300 ≤ off then s
  else
    let n := (off - 0x100) / 64
    let r := (off - 0x100) % 64
    let old := s.rget (0x50000 + off)
    let st := s.emStore n r (emLimited off written)
    let s := if st.2 then s.emEvt n emCFG_BAD else s
    match st.1 with
    | none => s
    | some v => (s.rset (0x50000 + off) v).emEffect n r old v false

/-! ## EMIT_CONFIGURE (19 R625) -/

/-- Registers of EMIT_CONFIGURE in select order, with their parameter bytes. -/
def emRegs : List (Nat × Nat) :=
  [(0x04, 8), (0x0C, 12), (0x10, 16), (0x14, 20), (0x18, 24), (0x1C, 28), (0x20, 32), (0x24, 36), (0x28, 40)]

/-- The selected registers and their words. -/
def emWrites (e : Entry) : List (Nat × Word) :=
  (emRegs.zipIdx.filter (fun x => (e.p 1 2).testBit x.2)).map (fun x => (x.1.1, word (e.p x.1.2 4)))

def emMask (e : Entry) : List Nat := bitsOf 8 (e.p 0 1)

/-- The value that a register of emitter `n` has after the writes. -/
def State.emAfter (s : State) (n r : Nat) (l : List (Nat × Word)) : Word :=
  match l.find? (fun e => e.1 == r) with
  | some e => e.2
  | none => s.rget (0x50100 + 64 * n + r)

/-- The values are in range and agree with each other on emitter `n`. -/
def State.emOk (s : State) (l : List (Nat × Word)) (n : Nat) : Bool :=
  let has := fun r => l.any (fun e => e.1 == r)
  !((has 0x18 || has 0x1C || has 0x04) && phaseBad (s.emAfter n 0x04 l) (s.emAfter n 0x18 l) (s.emAfter n 0x1C l))
    && !((has 0x24 || has 0x28) && decide ((s.emAfter n 0x24 l).toNat ≤ (s.emAfter n 0x28 l).toNat))

/-- A pending posted write of the page completes first (04 R156). -/
def State.emSettle (s : State) : State :=
  match mget none s.bus.posted 0x50000 with
  | none => s
  | some p => (s.updBus (fun b => { b with posted := mput none b.posted 0x50000 none })).emApply (p.addr % 0x1000) p.value

def State.emitOk (s : State) (e : Entry) : Bool :=
  let l := emWrites e
  !(emMask e).isEmpty && e.p 1 2 != 0 && decide (e.p 1 2 < 2 ^ 9) && decide (e.p 3 1 ≤ 1) && e.zero 4 4 && e.zero 44 4
    && l.all (fun x => emLimited (0x100 + x.1) x.2 == x.2 && !(x.1 == 0x04 && fld x.2 28 2 == 3))
    && (emMask e).all (fun n => s.emSettle.emOk l n)

/-- Write an emitter's selected registers, then let them take effect. -/
def State.emWriteAll (s : State) (l : List (Nat × Word)) (n : Nat) : State :=
  let base := 0x50100 + 64 * n
  let olds := l.map (fun x => (x.1, s.rget (base + x.1), x.2))
  let s := forEach l (fun s x => s.rset (base + x.1) x.2) s
  forEach olds (fun s x => s.emEffect n x.1 x.2.1 x.2.2 true) s

/-- Least common multiple of the selected emitters' spread periods, as multiples of 65,536 ticks. -/
def State.emCommon (s : State) (ns : List Nat) : Nat := ns.foldl (fun a n => Nat.lcm a (s.emitter n).slot) 1

/-- Boundary of all selected emitters at which SYNC values apply: the first common one (19 R625). DEDUCED (log entry 58). -/
def State.emSyncTick (s : State) (ns : List Nat) : Nat :=
  s.qtz.alignDown (65536 * s.emCommon ns) s.now + 65536 * s.emCommon ns

/-- Tick of the last effect of the command (04 R157): the boundary for level, on-count and slot, 96 ticks for a schedule. -/
def State.emEffectTick (s : State) (e : Entry) : Nat :=
  let ns := emMask e
  let sel := e.p 1 2
  let b :=
    if sel &&& 0x0E = 0 then s.now
    else if (e.p 3 1).testBit 0 then s.emSyncTick ns
    else ns.foldl (fun a n => max a ((s.emitter n).nextBoundary s.qtz)) s.now
  max b (if sel &&& 0x70 = 0 then s.now else s.now + 96)

/-- SYNC: level, on-count and slot wait for the common boundary. -/
def State.emSync (s : State) (e : Entry) : State :=
  if (e.p 3 1).testBit 0 ∧ e.p 1 2 &&& 0x0E ≠ 0 then
    let b := s.emSyncTick (emMask e)
    forEach (emMask e) (fun s n => s.updEmitter n (fun x => { x with pendTick := b - 1 })) s
  else s

def State.emitConfigure (s : State) (tk : Ticket) (e : Entry) : State :=
  let l := emWrites e
  if (e.p 1 2).testBit 1 ∧ (emMask e).any (fun n => decide (s.rf (Reg.EM_IMAX n) 0 10 < e.p 12 4)) then s.reply tk stREFUSED []
  else
    let s := s.emSettle
    let s := (forEach (emMask e) (fun s n => s.emWriteAll l n) s).emSync e
    s.replyAt tk stOK [] (s.tsTick (s.emEffectTick e))

def cEmitConfigure : CmdSpec := { op := 0x0E01, lenOk := lenIs 6, paramOk := State.emitOk, run := State.emitConfigure }

end Sys2Proof.Machine
end

