-- ==== Sys2Proof/Machine/QuartzOps.lean ====
section
/-! DEFINITION. Changes of the time, epochs, reading the time and following a neighbour (14). -/

namespace Sys2Proof.Machine

/-! QTZ_EVT (14 R477). -/
def qeINC : Nat := 0x002
def qeSET : Nat := 0x004
def qeSTEP : Nat := 0x008
def qeINC_CLAMP : Nat := 0x010
def qeCHG_BUSY : Nat := 0x020
def qeREFUSED : Nat := 0x040
def qeVOTE : Nat := 0x080
def qeFOLLOW_LOST : Nat := 0x200

/-! ## Epochs (11 R377) -/

/-- An EPOCH of time `t` goes to every Island port and to the control port with one number (12 R392, R394). -/
def State.epoch (s : State) (t : QTime) (reasons : Nat) : State :=
  let (r, s) := s.number (mkRec tEPOCH 3 0 t.ts 0 s.xHold 3
    [(20, 6, t.sec.toNat), (28, 4, t.ns.toNat), (32, 4, t.frac.toNat), (36, 1, reasons), (37, 1, s.ref.st)])
  (forEach (List.range 12) (fun s i => s.markItem i r) s).arrive 12 ⟨r, none, none⟩

/-- A set or step falls due in the current tick: its EPOCH takes every reason of the tick (11 R377, 14 R461). -/
def State.chgNow (s : State) : Bool :=
  match s.qtz.chg with
  | some c => c.tick == s.now
  | none => false

/-- The EPOCH of the pending reasons, unless a change of this tick will carry them. -/
def State.duesEpoch (s : State) : State :=
  if s.qtz.reasons = 0 ∨ s.chgNow then s
  else (s.epoch s.qtz.reasonTime s.qtz.reasons).updQtz (fun q => { q with reasons := 0 })

/-! ## INC (14 R455, R456) -/

/-- The nearer limit of an INC (14 R455). -/
def clampInc (v : Nat) : BitVec 36 := BitVec.ofNat 36 (clampNat incMin.toNat incMax.toNat v)

/-- INC as QTZ_INC shows it: the value written last. -/
def State.incReg (s : State) : Nat := (s.rget Reg.QTZ_INC_LO).toNat + s.rf Reg.QTZ_INC_HI 0 4 * 2 ^ 32

/-- TIME_EVENT INCREMENT and the replies of an INC that has been applied (14 R456, R481). -/
def State.incDone (s : State) (p : IncPend) (old : BitVec 36) : State :=
  let ts := s.tsTick p.tick
  let s := s.updQtz (fun q => { q with incPend := none })
  let s := s.timeEvent 10 ts p.inc.toNat old.toNat
  let s := s.evt Reg.QTZ_EVT qeINC
  forEach p.tks (fun s tk => s.replyAt tk stOK [] ts) s

/-- Report an applied INC, if there is one. -/
def State.incReport (s : State) : State :=
  match s.qtz.incPend with
  | some p =>
    match p.old with
    | some o => s.incDone p o
    | none => s
  | none => s

/-- Commands that wait for an INC not yet applied. -/
def Quartz.incTks (q : Quartz) : List Ticket :=
  match q.incPend with
  | some p => p.tks
  | none => []

/-- An INC commits and awaits its apply tick; one not yet applied is replaced (14 R456). -/
def State.incCommit (s : State) (v : BitVec 36) (tks : List Ticket) : State :=
  let s := s.incReport
  let s := s.rset Reg.QTZ_INC_LO (word v.toNat)
  let s := s.rset Reg.QTZ_INC_HI (word (v.toNat / 2 ^ 32))
  s.updQtz (fun q => { q with incPend := some ⟨v, s.applyTick, q.incTks ++ tks, none⟩ })

/-- A committed write of QTZ_INC (14 R455). -/
def State.incWrite (s : State) (v : Nat) : State :=
  let s := if (clampInc v).toNat = v then s else s.evt Reg.QTZ_EVT qeINC_CLAMP
  s.incCommit (clampInc v) []

/-! ## Steps and sets (14 R457 to R460) -/

/-- A guarded commit of QTZ_STEP: J in TS48 LSB (14 R457). -/
def State.stepCommit (s : State) (j : Int) : State :=
  if s.qtz.chg.isSome then s.evt Reg.QTZ_EVT qeCHG_BUSY
  else s.updQtz (fun q => { q with chg := some ⟨.step j, s.applyTick, none⟩ })

/-- Full time of a reference TS48 on the current scale, on the TS48 grid (14 R459, 11 R378), in 2^-32 ns. -/
def State.fullOf (s : State) (r : TS48) : Int :=
  (s.qtz.time.full / (2 ^ 16 : Nat) + tsDiff r s.tsNow) * (2 ^ 16 : Nat)

/-- J of a change in 2^-32 ns (14 R458, R459). -/
def State.jump (s : State) (k : ChgKind) : Int :=
  match k with
  | .set t r => t - s.fullOf r
  | .step j => j * (2 ^ 16 : Nat)

/-- The change is a set. -/
def ChgKind.isSet (k : ChgKind) : Bool :=
  match k with
  | .set _ _ => true
  | .step _ => false

/-- |J| exceeds QTZ_JUMP_LIMIT, which counts while time_valid is set; all ones is no limit (14 R458, R477). -/
def State.overLimit (s : State) (j : Int) : Bool :=
  s.qtz.timeValid && s.rget Reg.QTZ_JUMP_LIMIT != 0xFFFFFFFF
    && decide ((s.rget Reg.QTZ_JUMP_LIMIT).toNat * 2 ^ 32 < j.natAbs)

/-- A signed 64-bit field, saturating. -/
def sat64 (v : Int) : Int := clampInt (-(2 ^ 63 : Nat)) ((2 ^ 63 - 1 : Nat)) v

/-- QTZ_CHG_TS: the tick and the kind of the last change (14 R460). -/
def State.noteChg (s : State) (kind : Nat) : State :=
  (s.rset Reg.QTZ_CHG_TS_LO (word s.tsNow.toNat)).rset Reg.QTZ_CHG_TS_HI (word (s.tsNow.toNat / 2 ^ 32 + kind * 2 ^ 30))

/-- Load all three copies with a time (14 R460). -/
def Quartz.load (q : Quartz) (t : QTime) : Quartz :=
  { q with a := { q.a with t := t }, b := { q.b with t := t }, c := { q.c with t := t } }

/-- The reply of a set or step command (14 R479). -/
def State.chgReply (s : State) (tk : Option Ticket) (st : Nat) (j : Int) : State :=
  match tk with
  | some tk => s.replyAt tk st (leBytesInt 8 (sat64 (j / (2 ^ 32 : Nat)))) s.tsNow
  | none => s

/-- A change that is applied (14 R460). -/
def State.applyChg (s : State) (set : Bool) (j : Int) (tk : Option Ticket) : State :=
  let reasons := s.qtz.reasons ||| (if set then 4 else 8)
  let s := s.updQtz (fun q => { q.endScale.load (QTime.ofFull (q.time.full + j)) with
    changes := q.changes + 1, timeValid := q.timeValid || set, reasons := 0 })
  let s := s.timeEvent (if set then 6 else 7) s.tsNow (sat64 (j / (2 ^ 32 : Nat))) (j % (2 ^ 32 : Nat))
  let s := s.epoch s.qtz.time reasons
  let s := s.noteChg (if set then 1 else 2)
  let s := s.evt Reg.QTZ_EVT (if set then qeSET else qeSTEP)
  s.chgReply tk stOK j

/-- A change that is refused (14 R460): cause 0 limit, 1 negative result. A step of the servo leaves it in ACQUIRE. -/
def State.refuseChg (s : State) (j : Int) (cause : Nat) (tk : Option Ticket) : State :=
  let s := s.timeEvent 8 s.tsNow (sat64 (j / (2 ^ 32 : Nat))) cause
  let s := s.cnt Reg.QTZ_REFUSE_CNT
  let s := s.evt Reg.QTZ_EVT qeREFUSED
  let s := s.noteChg 3
  let s := s.updQtz (fun q => { q with servo := { q.servo with pi := q.servo.pi && q.servo.follow == 2 } })
  (s.chgReply tk stREFUSED j).duesEpoch

/-- A set or step at its apply tick (14 R458, R459). -/
def State.change (s : State) (c : Chg) : State :=
  let j := s.jump c.kind
  let s := s.updQtz (fun q => { q with chg := none })
  if s.overLimit j then s.refuseChg j 0 c.tk
  else if s.qtz.time.full + j < 0 then s.refuseChg j 1 c.tk
  else s.applyChg c.kind.isSet j c.tk

/-! ## Voting (14 R463) -/

/-- Mask of the copies that differ from the vote in any bit. -/
def Quartz.marks (q : Quartz) : Nat :=
  let v := q.time
  let i := vote q.a.inc q.b.inc q.c.inc
  b2n (q.a != ⟨v, i⟩) + 2 * b2n (q.b != ⟨v, i⟩) + 4 * b2n (q.c != ⟨v, i⟩)

/-- The copies as the voter sees them. -/
def copyOf (c : QCopy) : QCopyS := ⟨⟨c.sec, c.ns, c.frac⟩, c.inc⟩

/-- Reload the copies of a mask from the vote. -/
def Quartz.reload (q : Quartz) (mask : Nat) : Quartz :=
  let v : QCopyS := ⟨q.time, q.inc⟩
  { q with a := if mask.testBit 0 then v else q.a, b := if mask.testBit 1 then v else q.b,
           c := if mask.testBit 2 then v else q.c, voteBad := q.voteBad &&& (7 - mask % 8) }

/-- The voted INC lies outside its range. -/
def Quartz.badInc (q : Quartz) : Bool :=
  let i := (vote q.a.inc q.b.inc q.c.inc).toNat
  decide (i < incMin.toNat) || decide (incMax.toNat < i)

/-- All three copies differ, or the voted INC is out of range (14 R463). -/
def State.voteLost (s : State) (mask : Nat) : State :=
  let s := s.updQtz (fun q => { q.reload mask with timeValid := false })
  s.alarm 0x0A02 2 7 0

/-- INC of all copies from the value applied last, which is used in its place. -/
def Quartz.reloadInc (q : Quartz) : Quartz :=
  { q with a := { q.a with inc := q.lastInc }, b := { q.b with inc := q.lastInc }, c := { q.c with inc := q.lastInc } }

/-- The voter finds a copy that differs (14 R463). -/
def State.voteCheck (s : State) : State :=
  let m := s.qtz.marks
  if s.qtz.badInc then
    let s := s.evt Reg.QTZ_EVT qeVOTE
    (s.updQtz Quartz.reloadInc).voteLost 7
  else if m = 0 then s
  else
    let s := s.evt Reg.QTZ_EVT qeVOTE
    if m = 7 then s.voteLost 7
    else s.updQtz (fun q => { q with voteBad := q.voteBad ||| m, badTick := if q.voteBad = 0 then s.now else q.badTick })

/-- At a second boundary the marked copies are reloaded (14 R463). -/
def State.voteReload (s : State) : State :=
  let m := s.qtz.voteBad
  if m = 0 then s
  else (s.updQtz (fun q => q.reload m)).timeEvent 9 s.tsNow m (s.now - s.qtz.badTick : Nat)

/-! ## Holdover (06 R233, R236) -/

/-- Seconds in the current holdover, or the last one, saturating (06 R236). -/
def State.holdSeconds (s : State) : Nat :=
  satNat 65535 (if s.ref.st = 1 ∨ s.ref.st = 2 then (s.now - s.ref.holdFrom) / 1500000000 else s.ref.holdS)

/-- At a second boundary in HOLDOVER a TIME_EVENT carries the seconds spent in it (06 R233). -/
def State.holdEvent (s : State) : State :=
  if s.ref.st = 1 then s.timeEvent 1 s.qtz.reasonTime.ts s.holdSeconds 0 else s

/-! ## Following a neighbour (14 R465 to R474) -/

def State.timeMaster (s : State) : Bool := s.rb Reg.QTZ_CTRL 31
def State.servoEn (s : State) : Bool := s.rb Reg.QTZ_CTRL 30
/-- probe_us; below 50 stores 50. -/
def State.probeUs (s : State) : Nat := max 50 (s.rf Reg.QTZ_CTRL 0 16)

/-- The followed port. -/
def State.followPort (s : State) : Option Nat := if s.timeMaster then none else s.ldev.up

/-- Mean of the last valid exchanges. DEDUCED (log entry 44). -/
def mean (l : List Int) : Int := if l.isEmpty then 0 else l.sum / (l.length : Int)

/-- QTZ_OFFSET of a port: signed, saturating at ±(2^31 − 1) (14 R468). -/
def State.offsetOf (s : State) (p : Nat) : Int := clampInt (-(2 ^ 31 - 1 : Nat)) ((2 ^ 31 - 1 : Nat)) (mean (s.probe p).offsets)
/-- QTZ_DELAY of a port: saturating at 0xFFFF_FFFF. -/
def State.delayOf (s : State) (p : Nat) : Int := clampInt 0 0xFFFFFFFF (mean (s.probe p).delays)

/-- A port that probes: the active UP or a standby UP (14 R466). -/
def State.probes (s : State) (p : Nat) : Bool := (s.port p).st == 2 && (s.ldev.up == some p || (s.port p).role == 2)

/-- Send a delay probe (14 R466). -/
def State.probeSend (s : State) (p : Nat) : State :=
  let n := ((s.probe p).num + 1) % 65536
  let s := s.updProbe p (fun x => { x with
    num := n, out := some (n, s.tsNow, s.now, s.qtz.changes), nextTick := s.now + usTicks s.probeUs, resent := false })
  s.sendMsg p 1 1 (leBytes 2 n)

/-- Answer a probe (14 R466, 15 R499, R502): t3 is set at departure. -/
def State.echo (s : State) (p : Nat) (m : Msg) : State :=
  let s := s.cnt (banked Reg.QTZ_PROBE_CNT p)
  s.sendMsg p 1 2 (leBytes 2 (fieldAt m.payload 0 2) ++ leBytes 2 0 ++ leBytes 4 m.changes ++ leBytes 6 m.ts.toNat ++ leBytes 2 0
    ++ leBytes 6 0)

/-- An exchange that counts (14 R468, R473, R474). -/
def State.exchange (s : State) (p : Nat) (delay offset : Int) : State :=
  let s := s.updProbe p (fun x => { x with delays := (delay :: x.delays).take 16, offsets := (offset :: x.offsets).take 16 })
  let s := s.cnt (banked Reg.QTZ_PROBE_CNT p)
  if s.followPort = some p then
    s.updQtz (fun q => { q with servo := { q.servo with
      exchanges := q.servo.exchanges + 1, lastValid := s.now, follow := if q.servo.follow = 3 then 1 else q.servo.follow,
      pi := q.servo.pi && q.servo.follow != 3, prev := if q.servo.follow = 3 then none else q.servo.prev } })
  else s

/-- An exchange that does not count (14 R469). -/
def State.exchangeFail (s : State) (p : Nat) : State := s.cnt (banked Reg.QTZ_PROBE_FAIL p)

/-- An ECHO completes the exchange of the probe it answers (14 R468, R469). -/
def State.takeEcho (s : State) (p : Nat) (m : Msg) : State :=
  match (s.probe p).out with
  | none => s
  | some (n, t1, _, chg) =>
    if n ≠ fieldAt m.payload 0 2 then s
    else
      let dUp := tsDiff (BitVec.ofNat 48 (fieldAt m.payload 8 6)) t1
      let dDown := tsDiff m.ts (BitVec.ofNat 48 (fieldAt m.payload 16 6))
      let delay := (dUp + dDown) / 2
      let asym := (s.rget (banked Reg.QTZ_ASYM p)).toInt
      let bad := m.resent || (s.probe p).resent || (fieldAt m.payload 2 1).testBit 0 || s.qtz.changes != chg
        || decide ((65535 * 65536 : Int) < delay)
      let s := s.updProbe p (fun x => { x with out := none })
      if bad then s.exchangeFail p else s.exchange p delay ((dUp - dDown - asym) / 2)

/-- A servo write of INC (14 R473). -/
def State.servoInc (s : State) (v : Int) : State :=
  let s := s.incWrite v.toNat
  s.updQtz (fun q => { q with servo := { q.servo with written := ((clampInc v.toNat).toNat :: q.servo.written).take 64 } })

/-- Ticks of one servo interval: 16 exchanges. -/
def State.servoTicks (s : State) : Int := (usTicks (16 * s.probeUs) : Nat)

/-- The acquiring half of the loop ("Acquiring a neighbour"). Divisions truncate toward zero. -/
def State.servoAcquire (s : State) (th : Int) : State :=
  match s.qtz.servo.prev with
  | none => s.updQtz (fun q => { q with servo := { q.servo with prev := some th } })
  | some prev =>
    let lock := (s.incReg : Int) + Int.tdiv ((th - prev) * 65536) s.servoTicks
    let s := s.servoInc lock
    let s := s.stepCommit (th + Int.tdiv (th - prev) 2)
    s.updQtz (fun q => { q with servo := { q.servo with incLock := lock, integ := 0, prev := none, pi := true, good := 0 } })

/-- The proportional and integral half of the loop. -/
def State.servoPi (s : State) (th : Int) : State :=
  let integ := s.qtz.servo.integ + th
  let adj := Int.tdiv th 8 + Int.tdiv integ 256
  let s := s.servoInc (s.qtz.servo.incLock + Int.tdiv (adj * 65536 + s.servoTicks / 2) s.servoTicks)
  s.updQtz (fun q => { q with servo := { q.servo with integ := integ } })

/-- The servo state after an interval (14 R473): LOCKED after four intervals below 100 ps, ACQUIRE above 1 ns. -/
def Servo.judge (v : Servo) (th : Int) : Servo :=
  if 65536 < th.natAbs then { v with follow := 1, good := 0, pi := false }
  else
    let good := if 10 * th.natAbs < 65536 then v.good + 1 else 0
    { v with good := good, follow := if 4 ≤ good then 2 else v.follow }

/-- One servo interval (14 R473). -/
def State.servo (s : State) (p : Nat) : State :=
  let th := s.offsetOf p
  let pi := s.qtz.servo.pi
  let s := s.updQtz (fun q => { q with servo := { q.servo with exchanges := 0 } })
  if !pi then s.servoAcquire th
  else
    let s := s.updQtz (fun q => { q with servo := q.servo.judge th })
    if s.qtz.servo.pi then s.servoPi th else s.servoAcquire th

/-- The servo loses its port (14 R474). -/
def State.followLost (s : State) (p us : Nat) : State :=
  let w := s.qtz.servo.written
  let s := s.updQtz (fun q => { q with servo := { q.servo with follow := 3, pi := false, prev := none, good := 0, exchanges := 0 } })
  let s := if w.isEmpty then s else s.incWrite (w.sum / w.length)
  (s.evt Reg.QTZ_EVT qeFOLLOW_LOST).alarm 0x0A01 1 p us

/-! ## Reads with an effect (14 R464, R471, R472) -/

/-- A read of QTZ_NOW_FRAC latches the beacon's time for the master. -/
def State.readNow (s : State) (m : Nat) : Word × State :=
  (s.qtz.beacon.frac, s.updQtz (fun q => { q with nowLatch := mput none q.nowLatch m (some q.beacon) }))

/-- The time whose NS and SEC a master reads. -/
def State.nowSeen (s : State) (m : Nat) : QTime := (mget none s.qtz.nowLatch m).getD s.qtz.beacon

/-- QTZ_MSG_INFO of a stamp. -/
def Stamp.info (x : Stamp) : Word := word (2 ^ 31 + b2n x.rx * 2 ^ 30 + x.port % 4 * 2 ^ 28 + x.seq % 65536)

/-- A read of QTZ_MSG_INFO removes the oldest stamp and latches its TS48. -/
def State.readMsg (s : State) (m : Nat) : Word × State :=
  match s.qtz.msgFifo with
  | [] => (0, s)
  | x :: rest => (x.info, s.updQtz (fun q => { q with msgFifo := rest, msgLatch := mput 0 q.msgLatch m x.ts }))

/-- A read of QTZ_PTM_T1_LO latches T1_HI and RTT for the master. -/
def State.readPtm (s : State) (m : Nat) : Word × State :=
  let q := s.qtz.ptm
  let hi := word (q.dialog % 65536 * 65536 + q.t1.toNat / 2 ^ 32)
  (word q.t1.toNat, s.updQtz (fun x => { x with ptm := { x.ptm with latch := mput none x.ptm.latch m (some (hi, q.rtt)) } }))

/-! ## PTM (16 R544) -/

/-- The PTM Requester is enabled in PF0 (16 R544, R691). -/
def State.ptmReady (s : State) : Bool := (s.pf 0).ptmEn && s.qtz.ptm.out.isNone

/-- Stamps of the PTM path: a Request that leaves now, and a ResponseD that came the time `ago` before, less the delays of 01 R19 and 14
R467. -/
def State.ptmSent (s : State) : TS48 := s.tsNow - Config.strobeDelay 16 - Config.serLatency 16
def State.ptmCame (s : State) (ago : TS48) : TS48 := s.tsNow - ago - Config.strobeDelay 16 - Config.desLatency 16

/-- Run one dialog. -/
def State.ptmStart (s : State) : State :=
  (s.updQtz (fun q => { q with ptm := { q.ptm with out := some (s.ptmSent, s.now) } })).emitOut .ptmRequest

/-- A write of HOSTIF_PTM_CTRL.trigger (16 R544). -/
def State.ptmTrigger (s : State) : State := if s.ptmReady then s.ptmStart else s

end Sys2Proof.Machine
end

