-- ==== Sys2Proof/Machine/RefRows.lean ====
section
/-! DEFINITION. The reference monitor and the PPS input (06 R231 to R236). -/

namespace Sys2Proof.Machine

/-! QTZ_REF_EVT (06 R236). -/
def reREF_LOST : Nat := 1
def reREF_BACK : Nat := 2
def rePPS_LOST : Nat := 4
def rePPS_BACK : Nat := 8

/-- Ticks per TREF period of a frequency code (06 R231). -/
def trefTicks (sel : Nat) : Nat := if sel = 0 then 150 else if sel = 1 then 60 else if sel = 2 then 15 else 12

/-- The state of the monitor, with the line HOLD (06 R236, 08 R270). -/
def State.refState (s : State) (st : Nat) : State :=
  let s := s.updRef (fun r => { r with st := st, miss := 0, good := 0 })
  s.setLine 190 (st == 1) ⟨190, s.tsNow, false, none⟩ s.now

/-- HOLDOVER begins; a return from RELOCK goes on with the holdover that has begun (06 R232, R234). -/
def State.holdover (s : State) : State :=
  let s := if s.ref.st = 0 then s.updRef (fun r => { r with holdFrom := s.now, holdS := 0 }) else s
  s.refState 1

/-- TREF is lost: four windows have closed empty (06 R232). -/
def State.refLost (s : State) : State :=
  let s := s.holdover.evt Reg.QTZ_REF_EVT reREF_LOST
  s.timeEvent 0 s.tsNow 0 0

/-- A window has closed: counts of the windows in a row without and with an edge. -/
def RefMon.window (r : RefMon) (edge : Bool) : RefMon :=
  { r with
    nextWin := r.nextWin + trefTicks r.sel
    miss := if edge then 0 else min 4 (r.miss + 1)
    good := if edge then min 64 (r.good + 1) else 0 }

/-- What the counts lead to (06 R232, R234). -/
def State.windowJudge (s : State) : State :=
  if s.ref.miss = 4 ∧ s.ref.st = 0 then s.refLost
  else if s.ref.miss = 4 ∧ s.ref.st = 2 then s.holdover
  else if s.ref.good = 64 ∧ s.ref.st = 1 then s.refState 2
  else s

/-- TREF_WINDOW_CLOSE: `edge` when an edge fell into the window. The monitor runs from the first lock (06 R232, R236). -/
def State.windowClose (s : State) (edge : Bool) : State :=
  if s.ref.st = 3 ∨ s.now < s.ref.nextWin then s else (s.updRef (fun r => r.window edge)).windowJudge

/-- REF_BACK: acquisition completes and the divider reseats; the phase offset is dropped (06 R234). -/
def State.refBack (s : State) (shift : Int) : State :=
  if s.ref.st ≠ 2 then s
  else
    let s := s.updRef (fun r => { r with holdS := s.holdSeconds, nextWin := s.now + trefTicks r.sel + trefTicks r.sel / 4 })
    let s := (s.refState 0).evt Reg.QTZ_REF_EVT reREF_BACK
    s.timeEvent 2 s.tsNow shift 0

/-- Frequency code under the strap and QTZ_REF_CTRL (06 R231). -/
def State.refSel (s : State) : Nat :=
  if s.rb Reg.QTZ_REF_CTRL 2 then s.rf Reg.QTZ_REF_CTRL 0 2 else s.sec.straps.trefSel.toNat

/-- QTZ_REF_CTRL written: a changed frequency puts the PLL into HOLDOVER with the new divider (06 R231). -/
def State.refSelect (s : State) : State :=
  if s.refSel = s.ref.sel then s
  else
    let s := s.updRef (fun r => { r with sel := s.refSel, nextWin := s.now + trefTicks s.refSel + trefTicks s.refSel / 4 })
    if s.ref.st = 3 then s else s.holdover

/-! ## PPS (06 R235) -/

/-- 1 s and 100 µs in ticks. -/
def ppsNominal : Nat := 1500000000
def ppsSlack : Nat := 150000

/-- Two edges lie 1 s ± 100 µs apart. -/
def ppsApart (a b : Nat) : Bool := decide (ppsNominal ≤ b - a + ppsSlack) && decide (b - a ≤ ppsNominal + ppsSlack)

/-- The monitor after an edge at the current tick: an edge outside its window counts as a missing one. -/
def RefMon.ppsEdge (r : RefMon) (now : Nat) : RefMon :=
  match r.ppsLast with
  | none => { r with ppsLast := some now }
  | some l =>
    if ppsApart l now then { r with ppsLast := some now, ppsOk := true, ppsBad := 0, ppsGood := true, ppsLost := false }
    else { r with ppsLast := some now, ppsBad := r.ppsBad + 1, ppsGood := false }

/-- PPS has returned after a loss (06 R235). -/
def State.ppsBack (s : State) (ts : TS48) (was : Bool) : State :=
  if was && !s.ref.ppsLost then (s.timeEvent 5 ts 0 0).evt Reg.QTZ_REF_EVT rePPS_BACK else s

/-- PPS_IN_EDGE: the tick is the first after the synchroniser, less 3 (06 R235). -/
def State.ppsIn (s : State) : State :=
  let ts := s.tsAt (-3)
  let was := s.ref.ppsLost
  let s := (s.timeEvent 3 ts 0 0).linePulse 188 ts false
  (s.updRef (fun r => r.ppsEdge s.now)).ppsBack ts was

/-- Windows of the PPS that have passed without an edge since the last one. DEDUCED (log entry 45). -/
def RefMon.ppsMissed (r : RefMon) (now : Nat) : Nat :=
  match r.ppsLast with
  | none => 0
  | some l => (now - l - ppsSlack) / ppsNominal

/-- PPS_LOST: two expected edges in a row have not come (06 R235). -/
def State.ppsGone (s : State) : State :=
  if s.ref.ppsLost || decide (s.ref.ppsBad + s.ref.ppsMissed s.now < 2) then s
  else
    let s := s.updRef (fun r => { r with ppsOk := false, ppsLost := true, ppsGood := false, ppsBad := 0 })
    (s.timeEvent 4 s.tsNow 0 0).evt Reg.QTZ_REF_EVT rePPS_LOST

/-! ## Rows -/

/-- TREF_WINDOW_CLOSE (06 R232). -/
def execTrefWindowClose (edge : Bool) (s : State) : Res := .next (s.windowClose edge)

/-- REF_BACK (06 R234): TS48 by which the TREF edge moved against the held clock. -/
def execRefBack (shift : TS48) (s : State) : Res := .next (s.refBack shift.toInt)

/-- PPS_IN_EDGE (06 R235). -/
def execPpsInEdge (s : State) : Res := .next s.ppsIn

/-- PPS_LOST (06 R235). -/
def execPpsLost (s : State) : Res := .next s.ppsGone

end Sys2Proof.Machine
end

