-- ==== Sys2Proof/Machine/EngDecode.lean ====
section
/-! DEFINITION. The instruction words of the reduction engines: fields, the instruction that a word spells, and its legality
(09 R319 to R328, R333). -/

namespace Sys2Proof.Machine

/-- The instructions of an engine (09 R322 to R333). -/
inductive EOp where
  | add | sub | and | or | xor | sll | srl | sra | slt | sltu | min | max | minu | maxu | adds | subs | abs | clz
  | addi | andi | ori | xori | slli | srli | srai | lui
  | mul | mulh | mulhu | mac | div | divu | rem | remu
  | cmp | cmpi | getsr | setsr | pand | por | pxor | pandn
  | ldb | ldbu | ldh | ldhu | ldw | stb | sth | stw | ldv | stv | aadd | aswp
  | vadd | vsub | vadds | vsubs | vmul | vmulh | vmac | vmin | vmax | vand | vor | vxor | vsra | vsrl | vsll | vsel | vcmp | vabs
  | vsplat | vins | vext | vextu | vrsum | vrmax | vrmin
  | pop | fwd | push | ctxld | ctxst | evt
  | br | bp | jal | jr | loop | yield | eop
  deriving DecidableEq, Repr

/-! ## Fields (09 R319) -/

def wMajor (w : Word) : Nat := fld w 26 6
def wRd (w : Word) : Nat := fld w 21 5
def wRa (w : Word) : Nat := fld w 16 5
def wRb (w : Word) : Nat := fld w 11 5
def wImm (w : Word) : Nat := fld w 0 16
def wSp (w : Word) : Nat := fld w 13 3
def wOff (w : Word) : Int := signedOf 13 (fld w 0 13)
def wFn (w : Word) : Nat := fld w 0 6
/-- Format V. -/
def wVd (w : Word) : Nat := fld w 23 3
def wVa (w : Word) : Nat := fld w 20 3
def wVb (w : Word) : Nat := fld w 17 3
def wW (w : Word) : Bool := bit w 16
def wM (w : Word) : Bool := bit w 15
def wP (w : Word) : Nat := fld w 13 2
def wAmt (w : Word) : Nat := fld w 8 5
def wCond (w : Word) : Nat := fld w 8 3
/-- Format VS. -/
def wRs (w : Word) : Nat := fld w 18 5
def wLane (w : Word) : Nat := fld w 15 3
def wVsW (w : Word) : Bool := bit w 14
/-- Format P. -/
def wPd (w : Word) : Nat := fld w 24 2
def wPa (w : Word) : Nat := fld w 22 2
def wPb (w : Word) : Nat := fld w 20 2
/-- Format S. -/
def wB (w : Word) : Nat := fld w 25 1
def wSPd (w : Word) : Nat := fld w 21 2
def wN (w : Word) : Nat := fld w 4 6

/-! ## Opcodes -/

def intOps : List EOp :=
  [.add, .sub, .and, .or, .xor, .sll, .srl, .sra, .slt, .sltu, .min, .max, .minu, .maxu, .adds, .subs, .abs, .clz]
def mulOps : List EOp := [.mul, .mulh, .mulhu, .mac, .div, .divu, .rem, .remu]
def predOps : List EOp := [.pand, .por, .pxor, .pandn]
def memOps : List EOp := [.ldb, .ldbu, .ldh, .ldhu, .ldw, .stb, .sth, .stw, .ldv, .stv, .aadd, .aswp]
def vecOps : List EOp :=
  [.vadd, .vsub, .vadds, .vsubs, .vmul, .vmulh, .vmac, .vmin, .vmax, .vand, .vor, .vxor, .vsra, .vsrl, .vsll, .vsel, .vcmp,
   .vabs]
def vsOps : List EOp := [.vsplat, .vins, .vext, .vextu, .vrsum, .vrmax, .vrmin]
def strOps : List EOp := [.pop, .fwd, .push, .ctxld, .ctxst, .evt]
def ctlOps : List EOp := [.br, .bp, .jal, .jr, .loop, .yield, .eop]
def immOps : List EOp := [.addi, .andi, .ori, .xori]
def shiftOps : List EOp := [.slli, .srli, .srai]

/-- The instruction that the opcode fields of a word name. -/
def opOf (w : Word) : Option EOp :=
  let m := wMajor w
  if m = 0x00 then intOps[wFn w]?
  else if m = 0x01 then mulOps[wFn w]?
  else if m = 0x02 then some .cmp
  else if m = 0x03 then some (if bit w 0 then .setsr else .getsr)
  else if m = 0x04 then predOps[fld w 0 2]?
  else if 0x08 ≤ m ∧ m ≤ 0x0B then immOps[m - 0x08]?
  else if m = 0x0C then shiftOps[fld w 5 2]?
  else if m = 0x0D then some .lui
  else if m = 0x0E then some .cmpi
  else if 0x10 ≤ m ∧ m ≤ 0x1B then memOps[m - 0x10]?
  else if m = 0x20 then vecOps[wFn w]?
  else if m = 0x21 then vsOps[fld w 0 3]?
  else if m = 0x28 then strOps[fld w 0 4]?
  else if 0x30 ≤ m ∧ m ≤ 0x36 then ctlOps[m - 0x30]?
  else none

def EOp.isVShift : EOp → Bool
  | .vsra | .vsrl | .vsll => true
  | _ => false

/-- Lanes of a vector with 16-bit or 32-bit lanes (09 R314). -/
def laneN (w32 : Bool) : Nat := if w32 then 4 else 8
def laneW (w32 : Bool) : Nat := if w32 then 32 else 16

/-- Bits of format V that the instruction does not use are 0 (09 R319, R326). -/
def legalV (op : EOp) (w : Word) : Bool :=
  let usesVb := !(op.isVShift || op == .vabs)
  let usesP := wM w || op == .vsel || op == .vcmp
  (usesVb || wVb w == 0) && (usesP || wP w == 0) && !(wM w && (op == .vsel || op == .vcmp))
    && (if op.isVShift then true else if op == .vcmp then fld w 11 2 == 0 else wAmt w == 0)
    && fld w 6 2 == 0 && !(op == .vmac && wW w) && !(op == .vcmp && wVd w != 0)

def legalVs (op : EOp) (w : Word) : Bool :=
  fld w 3 11 == 0
    && (match op with
        | .vins | .vext | .vextu => decide (wLane w < laneN (wVsW w))
        | _ => wLane w == 0)
    && !((op == .vrmax || op == .vrmin) && wRs w == 31)

/-- Bits that an instruction does not use are 0, and its fields hold defined values (09 R319, R320). -/
def legal (op : EOp) (w : Word) : Bool :=
  match op with
  | .abs | .clz => wRb w == 0 && fld w 6 5 == 0
  | .add | .sub | .and | .or | .xor | .sll | .srl | .sra | .slt | .sltu | .min | .max | .minu | .maxu | .adds | .subs => fld w 6 5 == 0
  | .mul | .mulh | .mulhu | .mac | .div | .divu | .rem | .remu => fld w 6 5 == 0
  | .cmp => fld w 23 3 == 0 && fld w 3 8 == 0
  | .cmpi => true
  | .getsr => wRa w == 0 && fld w 1 10 == 0
  | .setsr => wRa w == 0 && fld w 1 10 == 0 && wRb w == 7
  | .pand | .por | .pxor | .pandn => fld w 2 18 == 0
  | .addi | .andi | .ori | .xori => true
  | .slli | .srli | .srai => fld w 7 9 == 0
  | .lui => wRa w == 0
  | .ldb | .ldbu | .ldh | .ldhu | .ldw | .stb | .sth | .stw => decide (wSp w ≤ 5)
  | .ldv | .stv => decide (wSp w ≤ 5) && fld w 24 2 == 0
  | .aadd | .aswp => fld w 0 11 == 0
  | .vadd | .vsub | .vadds | .vsubs | .vmul | .vmulh | .vmac | .vmin | .vmax | .vand | .vor | .vxor | .vsra | .vsrl | .vsll
  | .vsel | .vcmp | .vabs => legalV op w
  | .vsplat | .vins | .vext | .vextu | .vrsum | .vrmax | .vrmin => legalVs op w
  | .pop => bit w 25 == false && fld w 23 2 == 0 && wRa w == 0 && fld w 10 6 == 0 && wN w == 0
  | .fwd | .push => fld w 4 22 == 0
  | .ctxld => fld w 23 2 == 0 && fld w 10 6 == 0 && wN w == 0
  | .ctxst => fld w 23 2 == 0 && wRa w == 0 && fld w 10 6 == 0 && wN w == 0
  | .evt => wRd w == 0 && wRa w != 31 && fld w 10 6 == 0
  | .br | .bp | .jal | .loop => true
  | .jr => wRd w == 0 && wImm w == 0
  | .yield | .eop => fld w 0 26 == 0

/-- The instruction that a word spells; `none` is ILLEGAL (09 R320). -/
def engDecode (w : Word) : Option EOp := (opOf w).filter (fun op => legal op w)

/-! ## Issue (09 R321): what an instruction waits for, and when its results are ready -/

/-- Keys of the results whose readiness is kept: scalar r, vector r, predicate r, context buffer b, its store path, the
output buffer, the current record, and the accumulator path of VMAC. -/
def rkV (r : Nat) : Nat := 32 + r
def rkP (r : Nat) : Nat := 40 + r
def rkC (b : Nat) : Nat := 44 + b
def rkCs (b : Nat) : Nat := 46 + b
def rkOut : Nat := 48
def rkIn : Nat := 49
def rkAcc (r : Nat) : Nat := 50 + r

def loadSrc (w : Word) : List Nat :=
  match wSp w with
  | 1 => [rkIn]
  | 3 => [rkC 0]
  | 4 => [rkC 1]
  | _ => []

def storeSrc (w : Word) : List Nat :=
  match wSp w with
  | 2 => [rkOut]
  | 3 => [rkC 0, rkCs 0]
  | 4 => [rkC 1, rkCs 1]
  | _ => []

/-- What an instruction reads. -/
def EOp.reads (op : EOp) (w : Word) : List Nat :=
  match op with
  | .abs | .clz | .addi | .andi | .ori | .xori | .slli | .srli | .srai | .cmpi | .jr => [wRa w]
  | .add | .sub | .and | .or | .xor | .sll | .srl | .sra | .slt | .sltu | .min | .max | .minu | .maxu | .adds | .subs => [wRa w, wRb w]
  | .mul | .mulh | .mulhu | .div | .divu | .rem | .remu | .cmp | .aadd | .aswp => [wRa w, wRb w]
  | .mac => [wRa w, wRb w, wRd w]
  | .lui | .getsr | .br | .jal | .yield | .eop | .pop => []
  | .setsr | .loop => [wRd w]
  | .pand | .por | .pxor | .pandn => [rkP (wPa w), rkP (wPb w)]
  | .ldb | .ldbu | .ldh | .ldhu | .ldw | .ldv => wRa w :: loadSrc w
  | .stb | .sth | .stw => wRa w :: wRd w :: storeSrc w
  | .stv => wRa w :: rkV (wRd w) :: storeSrc w
  | .vmac => [rkV (wVa w), rkV (wVb w), rkAcc (wVd w)] ++ (if wM w then [rkP (wP w)] else [])
  | .vsel => [rkV (wVa w), rkV (wVb w), rkP (wP w)]
  | .vcmp => [rkV (wVa w), rkV (wVb w)]
  | .vsra | .vsrl | .vsll | .vabs => rkV (wVa w) :: (if wM w then [rkP (wP w)] else [])
  | .vadd | .vsub | .vadds | .vsubs | .vmul | .vmulh | .vmin | .vmax | .vand | .vor | .vxor =>
    [rkV (wVa w), rkV (wVb w)] ++ (if wM w then [rkP (wP w)] else [])
  | .vsplat | .vins => [wRs w]
  | .vext | .vextu | .vrsum | .vrmax | .vrmin => [rkV (wVd w)]
  | .fwd => [rkOut, rkIn]
  | .push => [rkOut]
  | .ctxld => [wRa w, rkC (wB w)]
  | .ctxst => [rkC (wB w)]
  | .evt => [wRa w, wRa w + 1]
  | .bp => [rkP (wPd w)]

/-- What an instruction writes, with the result latency in island cycles. -/
def EOp.writes (op : EOp) (w : Word) : List (Nat × Nat) :=
  match op with
  | .mul | .mulh | .mulhu | .mac => [(wRd w, 3)]
  | .div | .divu | .rem | .remu => [(wRd w, 18)]
  | .cmp | .cmpi => [(rkP (if op = .cmp then fld w 21 2 else wSPd w), 1)]
  | .pand | .por | .pxor | .pandn => [(rkP (wPd w), 1)]
  | .ldb | .ldbu | .ldh | .ldhu | .ldw => [(wRd w, 2)]
  | .ldv => [(rkV (wRd w), 2), (rkAcc (wRd w), 2)]
  | .aadd | .aswp => [(wRd w, 0)]
  | .vmac => [(rkV (wVd w), 4), (rkAcc (wVd w), 1)]
  | .vcmp => [(rkP (wP w), 2)]
  | .vadd | .vsub | .vadds | .vsubs | .vmul | .vmulh | .vmin | .vmax | .vand | .vor | .vxor | .vsra | .vsrl | .vsll | .vsel
  | .vabs | .vsplat | .vins => [(rkV (wVd w), 2), (rkAcc (wVd w), 2)]
  | .vext | .vextu | .vrsum => [(wRs w, 3)]
  | .vrmax | .vrmin => [(wRs w, 3), (wRs w + 1, 3)]
  | .pop => [(rkP (wSPd w), 1), (rkIn, 2)]
  | .ctxld => [(rkP (wSPd w), 0), (rkC (wB w), 0)]
  | .ctxst => [(rkP (wSPd w), 1), (rkCs (wB w), 7)]
  | .add | .sub | .and | .or | .xor | .sll | .srl | .sra | .slt | .sltu | .min | .max | .minu | .maxu | .adds | .subs | .abs
  | .clz | .addi | .andi | .ori | .xori | .slli | .srli | .srai | .lui | .getsr | .jal | .loop => [(wRd w, 1)]
  | .setsr | .stb | .sth | .stw | .stv | .fwd | .push | .evt | .br | .bp | .jr | .yield | .eop => []

/-- Issue cycles of an instruction that does not branch. -/
def EOp.issue : EOp → Nat
  | .div | .divu | .rem | .remu => 18
  | _ => 1

end Sys2Proof.Machine
end

