-- ==== Sys2Proof/Machine/StraitOps.lean ====
section
/-! DEFINITION. Straits: writing an item, the pending marker and its GAP, reading, flushing (01 R31 to R41), and the turns of
the island link (01 R23). -/

namespace Sys2Proof.Machine

/-! ## Pointers (01 R31 to R34) -/

/-- Gray code of a pointer (01 R31). -/
def gray (n : Nat) : Nat := n ^^^ (n / 2)

/-- The tick from which the other side, clocked at `f` steps of 1.5625 MHz, sees a pointer that advances now: at its second edge
after it at the earliest, at the third at the latest (01 R34). Which of them is a free value. DESIGN CHOICE (log entry 36). -/
def seenFrom (now f free : Nat) : Nat := now + 1 + 960 / f + (Config.freeWord free).toNat % (1920 / f)

/-- Take such a tick. -/
def State.crossing (s : State) (f : Nat) : Nat × State := (seenFrom s.now f s.freeCtr, { s with freeCtr := s.freeCtr + 1 })

/-- Words of pops that the writer does not see yet. -/
def Strait.unseen (x : Strait) (now : Nat) : Nat := ((x.freed.filter (fun e => decide (now < e.1))).map Prod.snd).sum

/-- Words in use as the writer samples them (01 R33): the write pointer less its copy of the read pointer. -/
def Strait.used (x : Strait) (now : Nat) : Nat := entWords x.ents + x.unseen now

/-- The tick from which the reader sees the entries up to the next item; a GAP comes with the item after it (01 R37). -/
def headSeen : List SEnt → Nat
  | .item it :: _ => it.tick
  | .gap _ :: l => headSeen l
  | _ => 0

/-- The reader's empty flag (01 R33, R34, R40): no item that it sees, or a flush in progress. -/
def Strait.empty (x : Strait) (now : Nat) : Bool := x.ents.isEmpty || x.flush.isSome || decide (now < headSeen x.ents)

/-- The reader takes the head: the writer sees its words free from tick `t` on (01 R34). -/
def Strait.pop (x : Strait) (now t : Nat) : Strait :=
  let w := entWords (x.ents.take 1)
  { x with ents := x.ents.tail, rd := x.rd + w, freed := x.freed.filter (fun e => decide (now < e.1)) ++ [(t, w)] }

/-- The pointers as they cross, in Gray code, of a Strait of `n` slots (01 R31). -/
def Strait.wrGray (x : Strait) (n : Nat) : Nat := gray (x.wr % (2 * n))
def Strait.rdGray (x : Strait) (n : Nat) : Nat := gray (x.rd % (2 * n))

/-! ## Writing (01 R33 to R38) -/

/-- The reserve slot holds a GAP that the reader has not taken. -/
def Strait.resv (x : Strait) : Bool := x.ents.any SEnt.isGap

/-- `words` can be stored in a Strait of `n` slots of which `used` are taken: every segment of at most 16 words finds the 16 words
of the full flag free (01 R32, R33). -/
def fits (n used words : Nat) : Bool := decide (used + 16 * ceilDiv words 16 ≤ n)

/-- A record of which only a segment is there, as the pending marker names it. -/
def segOf (ts : TS48) (k : Nat × Nat) : Rec := ⟨k.1, 0, 0, 0, k.2, ts, 0, []⟩

/-- Torn records after an item: those that end with it are over. -/
def Strait.tornAfter (x : Strait) (it : Item) : List (Nat × Nat) :=
  x.torn.filter (fun k => !(it.recs.any (fun r => r.key == k)))

/-- Records of an item that arrive: those of which no segment is lost. -/
def Strait.wholeRecs (x : Strait) (it : Item) : List Rec := it.recs.filter (fun r => !x.torn.contains r.key)

/-- What is lost when an item is dropped and no earlier loss has counted (01 R32): its whole records, and those that begin or go on
in it. -/
def Strait.lostBy (x : Strait) (it : Item) : List Rec :=
  x.wholeRecs it ++ (it.part.filter (fun k => !(x.tornAfter it).contains k)).map (segOf it.ts)

/-- A dropped item in the pending marker (01 R36): one item, with its stamp, named by a record of it, or by none where it holds several. -/
def Item.mark (it : Item) (d : Option Dropped) (lost : List Rec) : Option Dropped :=
  match lost with
  | [] => d
  | r :: l =>
    let m := Dropped.add d { r with ts := it.ts } 1
    some { m with src := if l.all (fun y => y.key == r.key && y.cls == r.cls) then m.src else none }

/-- Drop an item into the pending marker (01 R36). -/
def Strait.drop (x : Strait) (it : Item) : Strait :=
  { x with
    pend := it.mark x.pend (x.lostBy it)
    torn := (x.tornAfter it).filter (fun k => !it.part.contains k) ++ it.part }

/-- Store an item, and with it the GAP that the pending marker gives (01 R37); the reader sees it from tick `t` on. DEDUCED (log entry 36). -/
def Strait.store (x : Strait) (idx : Nat) (it : Item) (t : Nat) : Strait :=
  { x with
    ents := x.ents ++ (x.pend.map (fun d => SEnt.gap (d.gap idx 0))).toList ++ [.item { it with recs := x.wholeRecs it, tick := t }]
    pend := none
    torn := x.tornAfter it
    wr := x.wr + it.words }

/-- The writer of a Strait of `n` slots takes an item of `words` words at tick `now` (01 R33, R38); while a flush discards, it always does. -/
def Strait.takes (x : Strait) (n now words : Nat) : Bool := x.flush.isSome || (!x.resv && fits n (x.used now) words)

/-- An item reaches the write port of a Strait of `n` slots whose GAP records carry index `idx` (01 R35 to R38). -/
def Strait.put (x : Strait) (n idx now t : Nat) (it : Item) : Strait :=
  if x.takes n now it.words then x.store idx it t else x.drop it

/-! ## Flushing (01 R40, R41) -/

/-- Records that a list of entries leaves open, given those open before it. -/
def openChains : List (Nat × Nat) → List SEnt → List (Nat × Nat)
  | o, [] => o
  | o, .item it :: l =>
    openChains ((o.filter (fun k => !(it.recs.any (fun r => r.key == k)))) ++ it.part.filter (fun k => !o.contains k)) l
  | o, _ :: l => openChains o l

/-- Discard one entry into a flush in progress: its whole records, and each record of which it is the first segment that comes. A GAP
is one. -/
def SFlush.entry (f : SFlush) (torn : List (Nat × Nat)) : SEnt → SFlush
  | .item it =>
    let whole := it.recs.filter (fun r => !torn.contains r.key && !f.cut.contains r.key)
    let left := f.cut.filter (fun k => !(it.recs.any (fun r => r.key == k)))
    let new := it.part.filter (fun k => !left.contains k && !torn.contains k)
    { f with whole := f.whole + whole.length, part := f.part + new.length, cut := left ++ new }
  | .gap _ => { f with whole := f.whole + 1 }
  | .token _ => f

/-- Discard entries into a flush in progress. -/
def SFlush.add (f : SFlush) (torn : List (Nat × Nat)) (l : List SEnt) : SFlush := l.foldl (fun f h => f.entry torn h) f

/-- A flush of this Strait has not produced its FLUSH record (01 R41). -/
def Strait.flushing (x : Strait) : Bool := x.flush.isSome || x.ents.any SEnt.isToken

/-- The reader's pointer moves to the write pointer, which empties it, and it discards from now on (01 R40, steps 1 and 2); a second
flush joins. -/
def Strait.startFlush (x : Strait) (cause : Nat) : Strait :=
  if x.flushing then x
  else
    { x with
      ents := [], flush := some (SFlush.add ⟨cause, 0, 0, []⟩ x.torn x.ents), torn := x.torn ++ openChains [] x.ents, rd := x.wr, freed := [] }

/-- The FLUSH record of a Strait with index `idx`. -/
def Strait.flushRec (x : Strait) (f : SFlush) (idx : Nat) (ts : TS48) : Rec :=
  let g := f.add (x.torn.filter (fun k => !f.cut.contains k)) x.ents
  Machine.flushRec idx g.whole g.part (match x.pend with | some d => d.count | none => 0) ts f.cause

/-- The writer writes the token: what is still there is discarded, the marker is cleared, and the reader meets the FLUSH
record in the token's place (01 R40, steps 3 to 6). -/
def Strait.writeToken (x : Strait) (idx : Nat) (ts : TS48) : Strait :=
  match x.flush with
  | none => x
  | some f =>
    { x with
      ents := [.token (x.flushRec f idx ts)], pend := none, torn := openChains x.torn x.ents, flush := none, rd := x.wr, wr := x.wr + 1 }

/-! ## The island link (01 R21, R23, R25, R26) -/

/-- Place of an item's source in the round-robin: its channel in the Island, or 16 for marks. -/
def Item.turn (it : Item) : Nat := if it.ch = markCh then 16 else it.ch % 16

/-- The sources in turn after the one served last. -/
def linkTurns (last : Nat) : List Nat := (List.range 17).map (fun i => (last + 1 + i) % 17)

/-- The first item of source `k`, when it has crossed the link (01 R26). -/
def firstOf (q : List Item) (now k : Nat) : Option Item :=
  (q.find? (fun it => it.turn == k)).filter (fun it => decide (it.tick + 4 ≤ now))

/-- The item whose turn it is in a class. -/
def pickItem (q : List Item) (last now : Nat) : Option Item := (linkTurns last).findSome? (firstOf q now)

/-- Slots of an inbound Strait (01 R42). -/
def inSlots : Nat := 4096

/-- The Island takes an item from a class of its link into its inbound Strait (01 R42), where the reader sees it from tick `t` on. An
item of `w` words takes `w` of the link's seven word slots a tick (01 R21). -/
def Island.take (x : Island) (i now t : Nat) (it : Item) : Island :=
  { x with strait := x.strait.put inSlots (0x1200 + i) now t it, linkAt := max x.linkAt (7 * now) + it.words }

/-- A word slot of the current tick is free (01 R21). -/
def Island.linkOpen (x : Island) (now : Nat) : Bool := decide (x.linkAt < 7 * (now + 1))

/-- Words of the Strait that a read-out or spill item leaves free: a pause of 2 µs at 2.0 G words/s (01 R42). -/
def roSpare : Nat := 4000

/-- A read-out or spill item may enter: it leaves the Strait the room that live items may need, and is never dropped (01 R25,
12 R402). DESIGN CHOICE (log entry 36). -/
def Island.roOpen (x : Island) (now : Nat) (it : Item) : Bool := x.strait.takes (inSlots - roSpare) now it.words

/-- One turn of an island link (01 R23, R25). -/
def Island.linkTurn (x : Island) (i now t : Nat) : Island :=
  if !x.linkOpen now then x
  else
    match pickItem x.evq x.rrEv now with
    | some it => ({ x with evq := x.evq.erase it, rrEv := it.turn }).take i now t it
    | none =>
      match pickItem x.smq x.rrSm now with
      | some it => ({ x with smq := x.smq.erase it, rrSm := it.turn }).take i now t it
      | none =>
        match pickItem x.roq x.rrRo now with
        | some it => if x.roOpen now it then ({ x with roq := x.roq.erase it, rrRo := it.turn }).take i now t it else x
        | none => x

/-- STRAIT_PUSH: a turn of the link of Island `i`, whose reader runs at the Island's clock. -/
def State.linkTurn (s : State) (i : Nat) : State :=
  let r := s.crossing (s.island i).freq
  r.2.updIsland i (fun x => x.linkTurn i s.now r.1)

/-! ## Delivery (09 R303 to R305, 11 R379, 12 R392) -/

/-- Slots of an engine's Straits (09 R299). -/
def engSlots : Nat := 1024

/-- The engine of Island `i` that channel `c` is bound to (09 R303). -/
def State.boundTo (s : State) (i c : Nat) : Option Nat :=
  if c / 16 ≠ i then none
  else ((List.range 16).find? (fun j => (s.engine (16 * i + j)).bind.testBit (c % 16))).map (16 * i + ·)

/-- Engine `e` takes a record of its channel (09 R304). -/
def State.engTakes (s : State) (e : Nat) (r : Rec) : Bool :=
  (s.engine e).st.runs && (s.engine e).img.inTypes.testBit r.typ && decide (r.units ≤ 1024)

/-- A record enters an engine's input FIFO (09 R304, R305). DEDUCED (log entry 39). -/
def State.engInput (s : State) (e : Nat) (r : Rec) : State :=
  let t := s.crossing (s.island (e / 16)).freq
  t.2.updEngine e (fun x => { x with
    input := x.input.put engSlots (0x1000 + e) s.now t.1 ⟨r.idx % 256, 0, r.units, r.ts, s.now, [r], [], 0, none⟩ })

/-- A record leaves Island `i` toward the routing table: a channel's is numbered here (11 R379). -/
def State.toRouting (s : State) (i : Nat) (r : Rec) : State :=
  if r.cls = 0 ∨ r.cls = 4 then s.toPort i r else s.arrive i ⟨r, none, none⟩

/-- A record from the inbound Strait of Island `i` goes to the engine bound to its channel, or past the engines. -/
def State.hand (s : State) (i : Nat) (r : Rec) : State :=
  match if r.cls = 0 then s.boundTo i (r.idx % 256) else none with
  | some e => if s.engTakes e r then s.engInput e r else s.toRouting i r
  | none => s.toRouting i r

/-- A record of a spill goes past the engines to its queue (12 R397). -/
def State.spillArrive (s : State) (i q : Nat) (r : Rec) : State :=
  let (r, s) := s.number r
  s.arrive i ⟨r, some q, none⟩

/-- An item leaves the inbound Strait of Island `i`: its records go to their consumers (01 R22). -/
def State.deliverItem (s : State) (i : Nat) (it : Item) : State :=
  match it.spillQ with
  | some q => forEach it.recs (fun s r => s.spillArrive i q r) s
  | none => forEach it.recs (fun s r => s.hand i r) s

/-- The reader of an Island's inbound Strait takes its head, where it sees one (01 R33 to R35). The writer runs at the sample clock. -/
def State.popInbound (s : State) (i : Nat) : State :=
  if (s.island i).strait.empty s.now then s
  else
    match (s.island i).strait.ents with
    | [] => s
    | h :: _ =>
      let t := s.crossing 960
      let s := t.2.updIsland i (fun x => { x with strait := x.strait.pop s.now t.1 })
      match h with
      | .item it => s.deliverItem i it
      | .gap r | .token r => s.toRouting i r

/-- A QUEUE_FLUSH no longer waits for engine `e` (12 R422). -/
def State.engFlushed (s : State) (e : Nat) : State :=
  (s.updLag (fun l => { l with jobs := l.jobs.map (fun j => { j with engs := j.engs.erase e }) })).flushJobsDone

/-- The reader of an engine's outbound Strait takes its head (09 R313). -/
def State.popOutbound (s : State) (e : Nat) : State :=
  if (s.engine e).output.empty s.now then s
  else
    match (s.engine e).output.ents with
    | [] => s
    | h :: _ =>
      let t := s.crossing (s.island (e / 16)).freq
      let s := t.2.updEngine e (fun x => { x with output := x.output.pop s.now t.1 })
      match h with
      | .item it => forEach it.recs (fun s r => s.arrive (e / 16) ⟨r, none, none⟩) s
      | .gap r => s.toRouting (e / 16) r
      | .token r => (s.toRouting (e / 16) r).engFlushed e

/-- The head of an engine's input FIFO leaves it. -/
def State.popInput (s : State) (e : Nat) : State :=
  let t := s.crossing (s.island (e / 16)).freq
  t.2.updEngine e (fun x => { x with input := x.input.pop s.now t.1 })

/-- The GAP at the head of an engine's input FIFO is counted and bypasses the engine (09 R305). -/
def State.inputGap (s : State) (e : Nat) (r : Rec) : State :=
  (((s.popInput e).updEngine e (fun x => { x with ingap := true })).toRouting (e / 16) r).cntN
    (Reg.ISL_ENG_INGAP (e / 16) (e % 16)) (fieldAt r.body 4 4)

/-- GAP and FLUSH records at the head of an engine's input FIFO bypass the engine (09 R305). -/
def State.inputHead (s : State) (e : Nat) (h : SEnt) : State :=
  match h with
  | .gap r => s.inputGap e r
  | .token r => (s.popInput e).toRouting (e / 16) r
  | .item _ => s

/-- Bring an item to the head of an engine's input FIFO. -/
def State.settleInput : Nat → State → Nat → State
  | 0, s, _ => s
  | n + 1, s, e =>
    match (s.engine e).input.ents with
    | [] => s
    | h :: _ => if (s.engine e).input.empty s.now then s else
      match h with
      | .item _ => s
      | _ => State.settleInput n (s.inputHead e h) e

def State.inputReady (s : State) (e : Nat) : State := s.settleInput ((s.engine e).input.ents.length) e

/-! ## Flushes by Strait -/

/-- Start a flush of an engine's outbound Strait: what awaits the commit lies before the token too. -/
def Eng.flushOut (x : Eng) (cause : Nat) : Eng :=
  if x.output.flushing then x
  else
    { x with output := ({ x.output with ents := x.output.ents ++ x.per.held }).startFlush cause, per := { x.per with held := [] } }

/-- The token of an outbound Strait. -/
def Eng.tokenOut (x : Eng) (e : Nat) (ts : TS48) : Eng :=
  match x.output.flush with
  | none => x
  | some _ =>
    { x with
      output := ({ x.output with ents := x.output.ents ++ x.per.held }).writeToken (0x1100 + e) ts
      per := { x.per with held := [], pend := none } }

def State.straitFlush (s : State) (x : StraitSel) (cause : Nat) : State :=
  match x with
  | .inbound i => s.updIsland i.val (fun x => { x with strait := x.strait.startFlush cause })
  | .engineIn e => s.updEngine e.val (fun x => { x with input := x.input.startFlush cause })
  | .engineOut e => s.updEngine e.val (fun x => x.flushOut cause)

def State.straitToken (s : State) (x : StraitSel) : State :=
  match x with
  | .inbound i => s.updIsland i.val (fun x => { x with strait := x.strait.writeToken (0x1200 + i.val) s.beacon })
  | .engineIn e => s.updEngine e.val (fun x => { x with input := x.input.writeToken (0x1000 + e.val) s.beacon })
  | .engineOut e => s.updEngine e.val (fun x => x.tokenOut e.val s.beacon)

def State.straitPop (s : State) (x : StraitSel) : State :=
  match x with
  | .inbound i => s.popInbound i.val
  | .engineIn e => s.inputReady e.val
  | .engineOut e => s.popOutbound e.val

end Sys2Proof.Machine
end

