-- ==== Sys2Proof/Machine/EngOps.lean ====
section
/-! DEFINITION. Engine operations: registers and lanes, faults and aborts, issue of an instruction, memory spaces, the outbound
FIFO and items (09). -/

namespace Sys2Proof.Machine

/-! ## Registers (09 R314) -/

def EngRegs.sreg (x : EngRegs) (r : Nat) : Word := if r = 0 then 0 else mget 0 x.s r
/-- s0 discards writes. -/
def EngRegs.setS (x : EngRegs) (r : Nat) (v : Word) : EngRegs := if r = 0 then x else { x with s := mput 0 x.s r v }
def EngRegs.vreg (x : EngRegs) (r : Nat) : Vec := mget 0 x.v r
def EngRegs.setV (x : EngRegs) (r : Nat) (v : Vec) : EngRegs := { x with v := mput 0 x.v r v }
def EngRegs.preg (x : EngRegs) (r : Nat) : Byte := mget 0 x.p r
def EngRegs.setP (x : EngRegs) (r : Nat) (v : Byte) : EngRegs := { x with p := mput 0 x.p r v }
/-- Hardware sets STICKY bits (09 R317). -/
def EngRegs.stick (x : EngRegs) (bits : Nat) : EngRegs := { x with sticky := x.sticky ||| word bits }
def EngRegs.jump (x : EngRegs) (pc : Nat) : EngRegs := { x with pc := pc }
def EngRegs.cbuf (x : EngRegs) (b : Nat) : CtxBuf := if b = 0 then x.c0 else x.c1
def EngRegs.setC (x : EngRegs) (b : Nat) (c : CtxBuf) : EngRegs := if b = 0 then { x with c0 := c } else { x with c1 := c }

def State.updRegs (s : State) (e : Nat) (f : EngRegs → EngRegs) : State := s.updEngine e (fun x => { x with r := f x.r })
def State.updPer (s : State) (e : Nat) (f : EngPeriod → EngPeriod) : State := s.updEngine e (fun x => { x with per := f x.per })

/-- All predicate bits equal to `b` (09 R324). -/
def pbits (b : Bool) : Byte := if b then 0xFF else 0

/-! ## Lanes (09 R314, R326) -/

def vlane (w32 : Bool) (v : Vec) (i : Nat) : Nat := v.toNat / 2 ^ (laneW w32 * i) % 2 ^ laneW w32
def slane (w32 : Bool) (v : Vec) (i : Nat) : Int := signedOf (laneW w32) (vlane w32 v i)
/-- The vector whose lane `i` is `f i`. -/
def ofLanes (w32 : Bool) (f : Nat → Nat) : Vec :=
  BitVec.ofNat 128 (((List.range (laneN w32)).map (fun i => f i % 2 ^ laneW w32 * 2 ^ (laneW w32 * i))).sum)
/-- Predicate bit of lane `i` (09 R314). -/
def plane (w32 : Bool) (p : Byte) (i : Nat) : Bool := p.getLsbD (if w32 then 2 * i else i)
/-- Predicate bits that lane results write: a 32-bit lane writes two. -/
def ofPlanes (w32 : Bool) (f : Nat → Bool) : Byte :=
  BitVec.ofNat 8 (((List.range 8).map (fun i => b2n (f (if w32 then i / 2 else i)) * 2 ^ i)).sum)

/-- Lanes that a format V instruction writes. -/
def EngRegs.written (x : EngRegs) (w : Word) (i : Nat) : Bool := !wM w || plane (wW w) (x.preg (wP w)) i

/-- The condition codes of a compare (09 R324). -/
def condOf (c : Nat) (sa sb : Int) (ua ub : Nat) : Bool :=
  if c = 0 then ua == ub else if c = 1 then ua != ub else if c = 2 then decide (sa < sb) else if c = 3 then decide (sb ≤ sa)
  else if c = 4 then decide (ua < ub) else if c = 5 then decide (ub ≤ ua) else c == 6

/-! ## Time on the Island's clock (09 R299) -/

/-- Island cycles since the current period start (09 R316). -/
def State.engCyc (s : State) (i : Nat) : Nat := (s.now - (s.island i).startTick) * (s.island i).freq / 960

/-- Ticks that `n` island cycles take, rounded up. -/
def State.cycTicks (s : State) (i n : Nat) : Nat := ceilDiv (n * 960) (s.island i).freq

/-- The earliest of some TS48s. -/
def earliest (t : TS48) (l : List TS48) : TS48 := l.foldl (fun a b => if tsLt b a then b else a) t

/-- TS48 of the boundary that ends the current period (09 R309): its mark's once the sense die has sent it; before, that of the next boundary
or of an anchor that comes first, which is a boundary too (10 R366). -/
def State.perEnd (s : State) (i : Nat) : TS48 :=
  match (s.island i).marked, (s.island i).marks.find? (fun m => m.bnd) with
  | some m, _ => m.ts
  | none, some m => m.ts
  | none, none => earliest (s.tsTick (s.island i).nextB) ((s.island i).pend.map (fun p => p.anchor))

/-- An item belongs to the current period (09 R309). -/
def State.current (s : State) (i : Nat) (r : Rec) : Bool := tsLt r.ts (s.perEnd i)

/-- The record at the head of an engine's input FIFO. -/
def Strait.headRec (x : Strait) : Option Rec :=
  match x.ents with
  | .item it :: _ => it.recs.head?
  | _ => none

/-- The head of the input FIFO of engine `e` when it is an item of the current period. -/
def State.engHead (s : State) (e : Nat) : Option Rec :=
  if (s.engine e).input.empty s.now then none
  else (s.engine e).input.headRec.filter (fun r => s.current (e / 16) r)

/-- Records in an input FIFO. -/
def Strait.recs (x : Strait) : List Rec := x.ents.flatMap (fun h => match h with | .item it => it.recs | _ => [])

/-- Items of the current period in the input FIFO (09 R316). -/
def State.engDepth (s : State) (e : Nat) : Nat :=
  ((s.engine e).input.recs.filter (fun r => s.current (e / 16) r)).length

/-- An engine has finished the period (09 R312). -/
def State.engFinished (s : State) (e : Nat) : Bool :=
  match (s.engine e).st with
  | .done => true
  | .wait => s.engDepth e == 0
  | _ => false

/-! ## Aborts and faults (09 R312, R334, R335; 10 R355, R356) -/

/-- The invocation ends: cycles in RUN are counted (21 R652). -/
def State.leaveRun (s : State) (e : Nat) : State :=
  if (s.engine e).st = .run then
    let c := s.engCyc (e / 16)
    let s := s.perf_ 8 2 e (c - (s.engine e).runFrom)
    s.updPer e (fun p => { p with cycles := c })
  else s

/-- The reader discards the entries that `keep` refuses. -/
def Strait.keepOnly (x : Strait) (now t : Nat) (keep : SEnt → Bool) : Strait :=
  let w := entWords (x.ents.filter (fun h => !keep h))
  { x with
    ents := x.ents.filter keep, rd := x.rd + w
    freed := x.freed.filter (fun e => decide (now < e.1)) ++ (if w = 0 then [] else [(t, w)]) }

/-- Entries of the current period leave an input FIFO. -/
def State.dropCurrent (s : State) (e : Nat) : State :=
  let keep := fun (h : SEnt) => match h with
    | .item it => !(it.recs.all (fun r => s.current (e / 16) r))
    | _ => true
  let t := s.crossing (s.island (e / 16)).freq
  t.2.updEngine e (fun x => { x with input := x.input.keepOnly s.now t.1 keep })

/-- Contexts that engine `e` has staged in the period. -/
def Island.stagedBy (x : Island) (e : Nat) : List Upd := x.staged.filter (fun u => u.eng == some e)

/-- Records among outbound entries. -/
def entRecs (l : List SEnt) : Nat := (l.filter (fun h => match h with | .item _ => true | _ => false)).length

/-- The period's record of an abort with cause `cause` (10 R357). -/
def EngPeriod.abort (p : EngPeriod) (cause unread updates cycles pc : Nat) : EngPeriod :=
  { p with
    aborted := some cause, unread := p.unread + unread, withdrawn := entRecs p.held, updates := updates, cycles := cycles
    pc := pc, held := [] }

/-- A store, which an abort leaves to its bank (09 R312). -/
def ShOp.isStore : ShOp → Bool
  | .store _ => true
  | _ => false

/-- What an abort discards in the engine (09 R312). -/
def Eng.abandon (x : Eng) (cause unread updates cycles : Nat) : Eng :=
  { x with
    st := .done, sh := x.sh.filter (fun a => a.1.isStore), per := x.per.abort cause unread updates cycles x.issued, output := { x.output with pend := x.per.pend }
    r := { x.r with cur := none, c0 := { x.r.c0 with req := none }, c1 := { x.r.c1 with req := none } } }

/-- The sequence counters of an engine rewind with its outbound pointer (11 R379). DEDUCED (log entry 37). -/
def State.rewindSeq (s : State) (e : Nat) : State :=
  let p := (s.engine e).per
  { s with seqs := mput 0 (mput 0 s.seqs (seqKey 1 e tFEATURE) p.seqF) (seqKey 1 e tCONTEXT) p.seqC }

/-- The current period of engine `e` is aborted (09 R312). -/
def State.abortEng (s : State) (e cause : Nat) : State :=
  let i := e / 16
  let x := s.engine e
  let cyc := s.engCyc i
  let unread := s.engDepth e + b2n x.r.cur.isSome
  let s := if x.st = .run then s.perf_ 8 2 e (cyc - x.runFrom) else s
  let s := s.dropCurrent e
  let s := s.rewindSeq e
  let s := s.updEngine e (fun y => y.abandon cause unread ((s.island i).stagedBy e).length cyc)
  let s := s.updIsland i (fun y => { y with staged := y.staged.filter (fun u => u.eng != some e) })
  let s := s.cnt (Reg.ISL_ENG_ABORTS i (e % 16))
  s.evt (Reg.ISL_EVT i) 2

/-- What waits in a stopping engine's input FIFO bypasses it (09 R304). -/
def State.drainInput (s : State) (e : Nat) : State :=
  let l := (s.engine e).input.ents
  let t := s.crossing (s.island (e / 16)).freq
  let s := t.2.updEngine e (fun x => { x with input := x.input.keepOnly s.now t.1 (fun _ => false) })
  forEach l (fun s h => match h with
    | .item it => forEach it.recs (fun s r => s.toRouting (e / 16) r) s
    | .gap r => (s.toRouting (e / 16) r).cntN (Reg.ISL_ENG_INGAP (e / 16) (e % 16)) (fieldAt r.body 4 4)
    | .token r => s.toRouting (e / 16) r) s

/-- An engine enters FAULT (09 R335): its channels bypass and the device raises ALARM 0x0601. -/
def State.enterFault (s : State) (e : Nat) : State :=
  let s := (s.updEngine e (fun x => { x with st := .fault, stopPend := false })).drainInput e
  let x := s.engine e
  s.alarm 0x0601 2 e (x.cause + x.faultPc * 2 ^ 16 + x.consec * 2 ^ 32)

/-- A fault (09 R334, R335). -/
def State.engFault (s : State) (e cause : Nat) : State :=
  let s := s.updEngine e (fun x => { x with cause := cause, faultPc := x.issued, consec := min 16 (x.consec + 1) })
  let s := (s.evt (Reg.ISL_EVT (e / 16)) 1).abortEng e cause
  if cause = 8 ∨ 16 ≤ (s.engine e).consec then s.enterFault e else s

def fILLEGAL : Nat := 1
def fALIGN : Nat := 2
def fRANGE : Nat := 3
def fWRITE_RO : Nat := 4
def fBANK : Nat := 5
def fPUSH : Nat := 6
def fPC : Nat := 7
def fIMEM_ECC : Nat := 8

/-! ## Issue (09 R306, R319 to R321) -/

/-- The word at the PC of an engine that executes: it is in RUN, in a running period of its Island. -/
def State.engFetch (s : State) (e : Nat) : Option Word :=
  let x := s.engine e
  if x.st = .run ∧ (s.island (e / 16)).phase = .run then some (mget 0 x.imem x.r.pc) else none

/-- Registers and buffers that a load still under way will write. -/
def ShOp.dest : ShOp → List Nat
  | .load rd _ _ => [rd]
  | .loadV vd => [rkV vd, rkAcc vd]
  | .store _ => []
  | .aadd rd _ => [rd]
  | .aswp rd _ => [rd]

def CtxBuf.busy (c : CtxBuf) (b : Nat) : List Nat :=
  match c.req with
  | some q => [rkC b, rkCs b, rkP q.pd]
  | none => []

def Eng.outstanding (x : Eng) : List Nat :=
  ((x.sh.flatMap (fun a => a.1.dest)) ++ x.r.c0.busy 0 ++ x.r.c1.busy 1).filter (fun k => k != 0)

/-- The interlock lets the instruction issue at island cycle `c` (09 R321). -/
def Eng.ready (x : Eng) (op : EOp) (w : Word) (c : Nat) : Bool :=
  decide (x.busy ≤ c) && (op.reads w).all (fun k => decide (mget 0 x.rdy k ≤ c))
    && (op.reads w ++ (op.writes w).map Prod.fst).all (fun k => !x.outstanding.contains k)

/-- The instruction issues at island cycle `c`: the PC moves on and its results get their cycles. -/
def Eng.issue (x : Eng) (op : EOp) (w : Word) (c : Nat) : Eng :=
  { x with
    issued := x.r.pc, busy := c + op.issue, r := x.r.jump ((x.r.pc + 1) % 4096)
    rdy := (op.writes w).foldl (fun m p => if p.1 = 0 then m else mput 0 m p.1 (c + p.2)) x.rdy }

/-- An uncorrectable word is fetched (09 R334, 17 R555). -/
def State.imemBad (s : State) (e : Nat) : Option Nat := s.firstPoison 0 e (4 * (s.engine e).r.pc) 4

def State.imemFault (s : State) (e off : Nat) : State :=
  let s := s.ueReport 0 e off false
  (s.updEngine e (fun x => { x with issued := x.r.pc })).engFault e fIMEM_ECC

/-- Engine `e` executes an instruction `op` when one is in issue there; `f` is its effect. -/
def State.engStep (s : State) (e : Nat) (op : EOp) (f : State → Word → State) : State :=
  match s.engFetch e with
  | none => s
  | some w =>
    match s.imemBad e with
    | some off => s.imemFault e off
    | none =>
      if engDecode w = some op ∧ (s.engine e).ready op w (s.engCyc (e / 16)) then
        f (s.updEngine e (fun x => x.issue op w (s.engCyc (e / 16)))) w
      else s

/-- An instruction that changes registers alone. -/
def State.engRegs (s : State) (e : Nat) (op : EOp) (f : EngRegs → Word → EngRegs) : State :=
  s.engStep e op (fun s w => s.updRegs e (fun x => f x w))

/-- rd ← ra op rb, with STICKY bits (09 R322). -/
def State.intR (s : State) (e : Nat) (op : EOp) (f : Word → Word → Word × Nat) : State :=
  s.engRegs e op (fun x w =>
    let r := f (x.sreg (wRa w)) (x.sreg (wRb w))
    (x.setS (wRd w) r.1).stick r.2)

/-- rd ← ra op imm. -/
def State.intI (s : State) (e : Nat) (op : EOp) (f : Word → Word → Word) : State :=
  s.engRegs e op (fun x w => x.setS (wRd w) (f (x.sreg (wRa w)) w))

/-- pd ← pa op pb. -/
def State.predP (s : State) (e : Nat) (op : EOp) (f : Byte → Byte → Byte) : State :=
  s.engRegs e op (fun x w => x.setP (wPd w) (f (x.preg (wPa w)) (x.preg (wPb w))))

/-- A lane-wise instruction: `f` gives lane `i` and whether it saturated (09 R326). -/
def State.vecV (s : State) (e : Nat) (op : EOp) (f : EngRegs → Word → Nat → Nat × Bool) : State :=
  s.engRegs e op (fun x w =>
    let w32 := wW w || op == .vmac
    let on := fun i => !wM w || plane w32 (x.preg (wP w)) i
    let v := ofLanes w32 (fun i => if on i then (f x w i).1 else vlane w32 (x.vreg (wVd w)) i)
    let sat := (List.range (laneN w32)).any (fun i => on i && (f x w i).2)
    (x.setV (wVd w) v).stick (if sat then skSAT else 0))

/-- Lanes of va and vb. -/
def State.vec2 (s : State) (e : Nat) (op : EOp) (f : Nat → Int → Int → Int × Bool) : State :=
  s.vecV e op (fun x w i =>
    let r := f (laneW (wW w)) (slane (wW w) (x.vreg (wVa w)) i) (slane (wW w) (x.vreg (wVb w)) i)
    (unsignedOf (laneW (wW w)) r.1, r.2))

/-- Bitwise on va and vb. -/
def State.vecB (s : State) (e : Nat) (op : EOp) (f : Vec → Vec → Vec) : State :=
  s.vecV e op (fun x w i => (vlane (wW w) (f (x.vreg (wVa w)) (x.vreg (wVb w))) i, false))

/-! ## Memory spaces (09 R315, R325) -/

def spaceSize (sp : Nat) : Nat :=
  if sp = 0 then 0x8000 else if sp = 1 then 0x4000 else if sp = 2 then 0x800 else if sp = 5 then 0x200000 else 128

/-- The effective address of an access of `size` bytes. -/
def memAddr (x : EngRegs) (w : Word) (size : Nat) : Nat := unsignedOf 32 ((x.sreg (wRa w)).toNat + wOff w * size)

/-- Misalignment and range (09 R315). -/
def addrFault (sp a size : Nat) : Option Nat :=
  if a % size ≠ 0 then some fALIGN else if spaceSize sp < a + size then some fRANGE else none

/-- Engine `e` may access the shared bank of address `a` (09 R302, 17 R558, R563). -/
def State.mayBank (s : State) (e a : Nat) : Bool :=
  let b := s.bank (8 * (e / 16) + a / 0x40000)
  !b.refuses && b.hand.isNone && ((b.owner == 1 && b.index == e) || (b.owner == 2 && b.index == e / 16))

/-- A shared access is queued (09 R300); one to a bank in retention wakes it. -/
def State.shQueue (s : State) (e a : Nat) (op : ShOp) : State :=
  if s.mayBank e a then
    (s.updEngine e (fun x => { x with sh := x.sh ++ [(op, a)] })).wakeBank (8 * (e / 16) + a / 0x40000)
  else s.engFault e fBANK

/-- Bytes that a load from a space other than SH returns. -/
def Eng.spaceBytes (x : Eng) (sp a n : Nat) : List Byte :=
  if sp = 0 then bytesAt x.dmem a n
  else if sp = 1 then (match x.r.cur with | some r => fitBytes n ((r.bytes.drop a).take n) | none => List.replicate n 0)
  else if sp = 2 then bytesAt x.r.out a n
  else ((x.r.cbuf (sp - 3)).bytes.drop a).take n

/-- A read of IN lies past the record (09 R315). -/
def Eng.pastIn (x : Eng) (sp a n : Nat) : Bool :=
  sp == 1 && (match x.r.cur with | some r => decide (16 * r.units < a + n) | none => true)

/-- STICKY bits and error reports of a load (09 R315, R318). -/
def State.loadFlags (s : State) (e sp a n : Nat) : State :=
  let s := if (s.engine e).pastIn sp a n then s.updRegs e (fun x => x.stick skOOB) else s
  if sp = 0 then
    let (bad, s) := s.readCheck 1 e a n
    if bad then s.updRegs e (fun x => x.stick skPOISON) else s
  else s

/-- The value of a load: `n` bytes, sign-extended when `sgn`. -/
def loadVal (l : List Byte) (sgn : Bool) : Word :=
  if sgn then BitVec.ofInt 32 (signedOf (8 * l.length) (leNat l)) else word (leNat l)

/-- A scalar load of `n` bytes (09 R325). -/
def State.engLoad (s : State) (e : Nat) (op : EOp) (n : Nat) (sgn : Bool) : State :=
  s.engStep e op (fun s w =>
    let x := s.engine e
    let a := memAddr x.r w n
    match addrFault (wSp w) a n with
    | some c => s.engFault e c
    | none =>
      if wSp w = 5 then s.shQueue e a (.load (wRd w) n sgn)
      else (s.loadFlags e (wSp w) a n).updRegs e (fun r => r.setS (wRd w) (loadVal (x.spaceBytes (wSp w) a n) sgn)))

/-- A store of `n` bytes may be written to a space (09 R315). -/
def Eng.writable (x : Eng) (sp a n : Nat) : Bool :=
  if sp = 0 then decide (x.img.scratchBase ≤ a) && decide (a + n ≤ x.img.scratchBase + x.img.scratchLen)
  else if sp = 1 then false
  else if sp = 3 ∨ sp = 4 then decide (16 ≤ a)
  else true

def EngRegs.putSpace (x : EngRegs) (sp a : Nat) (l : List Byte) : EngRegs :=
  if sp = 2 then { x with out := putBytes x.out a l }
  else x.setC (sp - 3) { x.cbuf (sp - 3) with bytes := overBytes (x.cbuf (sp - 3)).bytes a l }

/-- Store bytes to a space other than SH. -/
def State.spaceStore (s : State) (e sp a : Nat) (l : List Byte) : State :=
  if sp = 0 then (s.updEngine e (fun x => { x with dmem := putBytes x.dmem a l })).clearPoison 1 e a l.length
  else s.updRegs e (fun x => x.putSpace sp a l)

/-- A store (09 R325): `f` gives its bytes. -/
def State.engStore (s : State) (e : Nat) (op : EOp) (n : Nat) (f : EngRegs → Word → List Byte) : State :=
  s.engStep e op (fun s w =>
    let x := s.engine e
    let a := memAddr x.r w n
    match addrFault (wSp w) a n with
    | some c => s.engFault e c
    | none =>
      if !x.writable (wSp w) a n then s.engFault e fWRITE_RO
      else if wSp w = 5 then s.shQueue e a (.store (f x.r w))
      else s.spaceStore e (wSp w) a (f x.r w))

/-- An atomic on a word of the shared memory (09 R301, R325). -/
def State.engAtomic (s : State) (e : Nat) (op : EOp) (f : Nat → Word → ShOp) : State :=
  s.engStep e op (fun s w =>
    let r := (s.engine e).r
    let a := (r.sreg (wRa w)).toNat
    match addrFault 5 a 4 with
    | some c => s.engFault e c
    | none => s.shQueue e a (f (wRd w) (r.sreg (wRb w))))

/-! ## Shared banks (09 R300, R301; 17 R554) -/

/-- Engines of Island `i` in the order in which bank `b` looks at them. -/
def State.bankTurns (s : State) (i b : Nat) : List Nat :=
  (List.range 16).map (fun k => 16 * i + (mget 15 (s.island i).bankLast b + 1 + k) % 16)

/-- The engine whose access bank `b` of Island `i` serves next: that access is the oldest of its engine. DEDUCED (log entry 38). -/
def State.bankNext (s : State) (i b : Nat) : Option Nat :=
  (s.bankTurns i b).find? (fun e => match (s.engine e).sh with | (_, a) :: _ => a / 0x40000 == b | [] => false)

/-- A register of engine `e` takes a value from a bank; it is ready `lat` cycles later (09 R321). -/
def Eng.shResult (x : Eng) (ks : List Nat) (lat c : Nat) (f : EngRegs → EngRegs) : Eng :=
  { x with r := f x.r, rdy := (ks.filter (fun k => k != 0)).foldl (fun m k => mput 0 m k (c + lat)) x.rdy }

/-- A bank answers a load or atomic with destination keys `ks`. -/
def State.shReturn (s : State) (e : Nat) (ks : List Nat) (lat : Nat) (bad : Bool) (f : EngRegs → EngRegs) : State :=
  let c := s.engCyc (e / 16)
  (s.updEngine e (fun x => x.shResult ks lat c f)).updRegs e (fun r => if bad then r.stick skPOISON else r)

/-- The effect of one access at its bank. -/
def State.shEffect (s : State) (e a : Nat) (op : ShOp) : State :=
  let i := e / 16
  let b := a / 0x40000
  let o := a % 0x40000
  match op with
  | .load rd n sgn =>
    let l := s.bankBytes i b o n
    let (bad, s) := s.readCheck 2 (8 * i + b) o n
    s.shReturn e [rd] 8 bad (fun r => r.setS rd (loadVal l sgn))
  | .loadV vd =>
    let l := s.bankBytes i b o 16
    let (bad, s) := s.readCheck 2 (8 * i + b) o 16
    s.shReturn e [rkV vd, rkAcc vd] 8 bad (fun r => r.setV vd (BitVec.ofNat 128 (leNat l)))
  | .store l => s.bankWrite i b o l
  | .aadd rd v =>
    let old := word (leNat (s.bankBytes i b o 4))
    let (bad, s) := s.readCheck 2 (8 * i + b) o 4
    let s := if bad then s else s.bankWrite i b o (leBytes 4 (old + v).toNat)
    s.shReturn e [rd] 10 bad (fun r => r.setS rd old)
  | .aswp rd v =>
    let old := word (leNat (s.bankBytes i b o 4))
    let (bad, s) := s.readCheck 2 (8 * i + b) o 4
    let s := s.bankWrite i b o (leBytes 4 v.toNat)
    s.shReturn e [rd] 10 bad (fun r => r.setS rd old)

/-- Bank `b` of Island `i` has served no access in the current island cycle (09 R300). -/
def Island.bankFree (x : Island) (b now : Nat) : Bool :=
  match mget 0 x.bankAt b with
  | 0 => true
  | t + 1 => decide (t < now) && (decide (t < x.startTick) || decide ((t - x.startTick) * x.freq / 960 < (now - x.startTick) * x.freq / 960))

/-- Bank `b` of Island `i` serves one access (09 R300). -/
def State.shServe (s : State) (i b : Nat) : State :=
  if (s.bank (8 * i + b)).st ≠ 0 ∨ !((s.island i).bankFree b s.now) then s
  else
    match s.bankNext i b with
    | none => s
    | some e =>
      match (s.engine e).sh with
      | [] => s
      | (op, a) :: rest =>
        let s := s.updEngine e (fun x => { x with sh := rest })
        let s := s.updIsland i (fun x => { x with
          bankLast := mput 15 x.bankLast b (e % 16), bankAt := mput 0 x.bankAt b (s.now + 1) })
        s.shEffect e a op

/-! ## Outbound FIFO (09 R313, R328, R329) -/

/-- The reserve slot of the outbound FIFO is occupied. -/
def Eng.outResv (x : Eng) : Bool := x.output.resv || x.per.held.any SEnt.isGap

def Eng.outUsed (x : Eng) (now : Nat) : Nat := x.output.used now + entWords x.per.held

/-- A record is stored in the outbound FIFO, after the GAP of the pending marker. -/
def Eng.outStore (x : Eng) (e : Nat) (r : Rec) (now : Nat) : Eng :=
  { x with
    per := { x.per with held := x.per.held ++ (x.output.pend.map (fun d => SEnt.gap (d.gap (0x1100 + e) 0))).toList
      ++ [.item ⟨r.idx % 256, 0, r.units, r.ts, now, [r], [], 0, none⟩] }
    output := { x.output with pend := none } }

/-- PUSH and FWD write a record (09 R313): 1,024 words can be held. The copy takes one cycle a word (09 R321). -/
def State.outPush (s : State) (e : Nat) (r : Rec) : State :=
  let i := e / 16
  let x := s.engine e
  let s := s.updEngine e (fun x => { x with rdy := mput 0 x.rdy rkOut (s.engCyc i + r.units) })
  if x.outResv || decide (engSlots < x.outUsed s.now + r.units) then
    let s := s.updEngine e (fun x => { x with output := { x.output with pend := some (Dropped.add x.output.pend r 1) } })
    (s.cnt (Reg.ISL_ENG_HOLDDROP i (e % 16))).evt (Reg.ISL_EVT i) 16
  else
    let s := s.updEngine e (fun x => x.outStore e r s.now)
    (s.cnt (Reg.ISL_ENG_PUSHED i (e % 16))).perf_ 8 1 e 1

/-- The record in OUT as the device completes it, without its number (09 R329). -/
def EngRegs.outRec (x : EngRegs) (e : Nat) : Rec :=
  let h := bytesAt x.out 0 16
  let n := fieldAt h 2 2
  let f := BitVec.ofNat 8 (fieldAt h 1 1) &&& ~~~ (BitVec.ofNat 8 (fLATE + fPOISON))
  { typ := fieldAt h 0 1, flags := f.toNat + (if bit x.sticky 3 then fPOISON else 0), dev := 0, cls := 1, idx := e,
    ts := BitVec.ofNat 48 (fieldAt h 8 6), seq := 0, body := bytesAt x.out 16 (16 * (n - 1)) }

/-- The type and length that PUSH admits (09 R329). -/
def EngRegs.outOk (x : EngRegs) : Bool :=
  let h := bytesAt x.out 0 16
  (fieldAt h 0 1 == tFEATURE || fieldAt h 0 1 == tCONTEXT) && decide (1 ≤ fieldAt h 2 2) && decide (fieldAt h 2 2 ≤ 128)

/-! ## Items (09 R310, R328) -/

/-- The item at the head of the input FIFO becomes current (09 R309, R310). -/
def State.takeItem (s : State) (e : Nat) (r : Rec) : State :=
  let i := e / 16
  let s := (s.popInput e).updEngine e (fun x => { x with r := { x.r with cur := some r } })
  let s := (s.cnt (Reg.ISL_ENG_ITEMS i (e % 16))).perf_ 8 0 e 1
  if tsLt r.ts (s.island i).startTs then (s.cnt (Reg.ISL_LATE_IN i)).evt (Reg.ISL_EVT i) 32 else s

/-- An engine enters an invocation at a PC in RUN (09 R307, R310), from island cycle `c` on; STICKY.ingap sets (09 R305). -/
def Eng.enter (x : Eng) (pc c : Nat) : Eng :=
  { x with
    st := .run, busy := c, runFrom := c, ingap := false
    r := (x.r.jump pc).stick (if x.ingap then skINGAP else 0) }

/-- Where a branch leads (09 R333): a target outside the code faults. -/
def State.branchTo (s : State) (e : Nat) (t : Int) : State :=
  if t < 0 ∨ (s.engine e).img.codeWords ≤ t.toNat then s.engFault e fPC
  else s.updRegs e (fun x => x.jump t.toNat)

/-- A taken branch issues for two cycles (09 R321). -/
def State.takenBranch (s : State) (e : Nat) (t : Int) : State :=
  (s.updEngine e (fun x => { x with busy := x.busy + 1 })).branchTo e t

end Sys2Proof.Machine
end

