-- ==== Sys2Proof/Machine/CtxOps.lean ====
section
/-! DEFINITION. Point contexts: reading, loading, staging, committing (09 R330, R331; 10 R344 to R361). -/

namespace Sys2Proof.Machine

/-! ## The store (10 R345) -/

/-- The bank of a context and its byte offset there (17 R556). -/
def ctxBank (id : Nat) : Nat := 96 + id / 2048
def ctxOff (id : Nat) : Nat := id % 2048 * 128

/-- A context as 128 bytes (10 R345). -/
def Ctx.bytes (c : Ctx) (id : Nat) : List Byte :=
  leBytes 2 id ++ leBytes 1 c.kind ++ leBytes 1 c.island ++ leBytes 1 (b2n c.unrel + 2 * b2n c.host) ++ leBytes 1 0
    ++ leBytes 2 c.commits ++ leBytes 6 c.ts.toNat ++ leBytes 2 0 ++ fitBytes 112 c.state

/-- A context becomes UNRELIABLE (10 R360). -/
def State.ctxBad (s : State) (id : Nat) : State :=
  let i := (s.ctxOf id).island
  let s := s.updCtx id (fun c => { c with unrel := true })
  if i < 12 then s.evt (Reg.ISL_PER_EVT i) 32 else s

/-- A read of a context: an uncorrectable error makes it UNRELIABLE (17 R555). -/
def State.ctxCheck (s : State) (id : Nat) : State :=
  let (bad, s) := s.readCheck 3 (ctxBank id) (ctxOff id) 128
  if bad then s.ctxBad id else s

/-- A write of bytes 16 to 127 clears their poison (17 R554). -/
def State.ctxClean (s : State) (id : Nat) : State := s.clearPoison 3 (ctxBank id) (ctxOff id + 16) 112

/-- The Island has a period configured. -/
def State.configured (s : State) (i : Nat) : Bool := (s.island i).cfg.isSome

/-- A commit of Island `i` runs: reads of its contexts wait (10 R353). -/
def State.committing (s : State) (i : Nat) : Bool :=
  match (s.island i).phase with | .commit _ => true | _ => false

/-! ## CTXLD and CTXST (09 R330, R331) -/

/-- Requests ahead at the context port. -/
def State.ctxAhead (s : State) : Nat :=
  (s.eng.map (fun x => b2n x.2.r.c0.req.isSome + b2n x.2.r.c1.req.isSome)).sum

/-- Engine `e` requests context `id` into buffer `b` (09 R321, R330): 32 ns and 2 cycles, and 1 ns for each request ahead. -/
def State.ctxRequest (s : State) (e b id pd : Nat) : State :=
  let due := s.now + 48 + s.cycTicks (e / 16) 2 + ceilDiv (3 * s.ctxAhead) 2
  s.updRegs e (fun x => x.setC b { x.cbuf b with req := some ⟨id, pd, due⟩ })

/-- The update that engine `e` has staged for a context. -/
def State.ownUpd (s : State) (e id : Nat) : Option Upd :=
  (s.island (e / 16)).staged.find? (fun u => u.eng == some e && u.id == id)

/-- A CTXLD of context `id` by engine `e` succeeds (09 R330). -/
def State.ctxLoads (s : State) (e id : Nat) : Bool :=
  let c := s.ctxOf id
  let k := (s.engine e).img.ctxKind
  c.island == e / 16 && (k == 0 || k == c.kind) && !c.unrel

/-- The bytes that a successful CTXLD returns: the committed context with this engine's own update. -/
def State.ctxSeen (s : State) (e id : Nat) : List Byte :=
  let l := (s.ctxOf id).bytes id
  match s.ownUpd e id with
  | some u => overBytes l 16 (fitBytes 112 u.state)
  | none => l

/-- A CTXLD completes in buffer `b`. -/
def State.ctxLoaded (s : State) (e b : Nat) (q : CtxReq) : State :=
  let s := if (s.ctxOf q.id).island = e / 16 then s.ctxCheck q.id else s
  let good := s.ctxLoads e q.id
  let l := s.ctxSeen e q.id
  s.updRegs e (fun x =>
    (x.setC b (if good then ⟨some q.id, l, none⟩ else { x.cbuf b with req := none })).setP q.pd (pbits good))

/-- The buffer of engine `e` whose request is due. -/
def State.ctxDue (s : State) (e : Nat) : Option (Nat × CtxReq) :=
  [0, 1].findSome? (fun b => ((s.engine e).r.cbuf b).req.bind (fun q => if q.due ≤ s.now then some (b, q) else none))

/-- The context port answers engine `e` when the context's bank is ON; a bank without power refuses the access, a fault of cause BANK
(17 R558). -/
def State.ctxDone (s : State) (e : Nat) : State :=
  match s.ctxDue e with
  | none => s
  | some (b, q) =>
    if (s.bank (ctxBank q.id)).refuses then (s.updRegs e (fun x => x.setC b { x.cbuf b with req := none })).engFault e fBANK
    else if (s.bank (ctxBank q.id)).st = 0 then s.ctxLoaded e b q
    else s.wakeBank (ctxBank q.id)

/-- Stage an update of engine `e` (09 R331): one that the engine staged before for the context is replaced. -/
def Island.stage (x : Island) (e : Nat) (u : Upd) : Island :=
  { x with staged := x.staged.filter (fun v => !(v.eng == some e && v.id == u.id)) ++ [u] }

/-- Another engine has staged the context too. -/
def Island.conflicts (x : Island) (e id : Nat) : Bool :=
  x.staged.any (fun v => v.eng != some e && v.eng.isSome && v.id == id) && !(x.staged.any (fun v => v.eng == some e && v.id == id))

/-- The Island has not yet staged 1,024 updates in the period (09 R331). -/
def Island.stageRoom (x : Island) : Bool := decide (x.staged.length < 1024)

/-- CTXST of buffer `b` by engine `e` with predicate `pd` (09 R331). -/
def State.ctxStage (s : State) (e b pd : Nat) : State :=
  let i := e / 16
  let r := (s.engine e).r
  match (r.cbuf b).id with
  | none => s.updRegs e (fun x => x.setP pd 0)
  | some id =>
    if !(s.island i).stageRoom then
      ((s.updRegs e (fun x => x.setP pd 0)).cnt (Reg.ISL_STAGE_FULL i)).evt (Reg.ISL_EVT i) 8
    else
      let clash := (s.island i).conflicts e id
      let s := s.updIsland i (fun x => x.stage e ⟨some e, id, (r.cbuf b).bytes.drop 16, bit r.sticky 3, false⟩)
      let s := s.updRegs e (fun x => x.setP pd 0xFF)
      if clash then (s.cnt (Reg.ISL_CTX_CONFLICT i)).evt (Reg.ISL_EVT i) 4 else s

/-! ## Applying updates (10 R351, R352) -/

/-- A context after an update (10 R345): `again` when the commit has already changed it. -/
def Ctx.apply (c : Ctx) (u : Upd) (ts : TS48) (again : Bool) : Ctx :=
  { c with
    unrel := c.unrel && !u.clear, host := u.eng.isNone, commits := if again then c.commits else (c.commits + 1) % 65536
    ts := ts, state := u.state }

/-- An update is not applied (10 R352). -/
def State.ctxSkip (s : State) (i : Nat) : State := (s.cnt (Reg.ISL_CTX_SKIP i)).evt (Reg.ISL_PER_EVT i) 8

/-- Apply one update in the commit of Island `i`; `done` lists the contexts that the commit has changed. A bank without power refuses it
(17 R558), which is counted as an update that is not applied. DESIGN CHOICE (log entry 53). -/
def State.applyUpd (s : State) (i : Nat) (ts : TS48) (done : List Nat) (u : Upd) : State × List Nat :=
  let s := if (s.bank (ctxBank u.id)).refuses then s else s.ctxCheck u.id
  if (s.bank (ctxBank u.id)).refuses then (s.ctxSkip i, done)
  else if u.poisoned then ((s.ctxBad u.id).ctxSkip i, done)
  else if (s.ctxOf u.id).unrel && !u.clear then (s.ctxSkip i, done)
  else
    let s := (s.updCtx u.id (fun c => c.apply u ts (done.contains u.id))).ctxClean u.id
    (s.updIsland i (fun x => { x with applied := x.applied + 1 }), u.id :: done)

/-- Among updates of one context the last in the list stands (09 R331). -/
def lastUpds : List Upd → List Upd
  | [] => []
  | u :: l => if l.any (fun v => v.id == u.id) then lastUpds l else u :: lastUpds l

def State.applyAll (s : State) (i : Nat) (ts : TS48) (l : List Upd) : State × List Nat :=
  l.foldl (fun a u => a.1.applyUpd i ts a.2 u) (s, [])

/-- Apply updates that an Island has staged (10 R352): engine updates first, then those of CTX_WRITE, which win. -/
def State.applyList (s : State) (i : Nat) (ts : TS48) (l : List Upd) : State :=
  let es := lastUpds (l.filter (fun u => u.eng.isSome))
  let hs := lastUpds (l.filter (fun u => u.eng.isNone))
  let clash := (hs.filter (fun h => es.any (fun e => e.id == h.id))).length
  let s := (s.applyAll i ts (es ++ hs)).1
  let s := s.cntN (Reg.ISL_CTX_CONFLICT i) clash
  if clash = 0 then s else s.evt (Reg.ISL_EVT i) 4

/-- The bank of an update does not make it wait (17 R558). -/
def State.updReady (s : State) (u : Upd) : Bool := !(s.bank (ctxBank u.id)).waits

/-- Apply what an Island has staged; updates whose bank is not ON wait for it, and wake it (17 R558). -/
def State.applyStaged (s : State) (i : Nat) (ts : TS48) : State :=
  let l := (s.island i).staged
  let late := l.filter (fun u => !s.updReady u)
  let s := s.updIsland i (fun x => { x with applied := 0, staged := [], late := late })
  forEach late (fun s u => s.wakeBank (ctxBank u.id)) (s.applyList i ts (l.filter (fun u => s.updReady u)))

/-- The running commit of Island `i` still waits for a bank (17 R558). -/
def State.lateWaits (s : State) (i : Nat) : Bool := (s.island i).late.any (fun u => !s.updReady u)

/-- The updates that waited are applied. -/
def State.applyLate (s : State) (i : Nat) (ts : TS48) : State :=
  let l := (s.island i).late
  (s.updIsland i (fun x => { x with late := [] })).applyList i ts l

end Sys2Proof.Machine
end

