-- ==== Sys2Proof/Machine/HostReads.lean ====
section
/-! DEFINITION. The BAR2 window: its regions, reads and their completions (16 R526, R528). -/

namespace Sys2Proof.Machine

/-- A region of BAR2 with the byte offset in it (16 R526). -/
inductive Bar2 where
  /-- Submission queues: byte of the command SRAM. -/
  | queue (a : Nat)
  /-- Boot window. -/
  | boot (a : Nat)
  /-- Context window. -/
  | ctx (a : Nat)
  /-- A shared bank. -/
  | bank (n off : Nat)
  | none
  deriving DecidableEq, Repr

/-- The region at an offset; the boot window only while it is open (20 R637). -/
def bar2 (bootOpen : Bool) (off : Nat) : Bar2 :=
  if off < 0x80000 then .queue off
  else if 0x400000 ≤ off ∧ off < 0x800000 then (if bootOpen then .boot (off - 0x400000) else .none)
  else if 0x800000 ≤ off ∧ off < 0x1000000 then .ctx (off - 0x800000)
  else if 0x1000000 ≤ off ∧ off < 0x2800000 then .bank ((off - 0x1000000) / 0x40000) (off % 0x40000)
  else .none

/-- The boot window is open: the device awaits a pushed image (20 R637). -/
def State.bootOpen (s : State) : Bool := s.sec.start.step == 17

/-- The region that an access of BAR2 reaches. -/
def State.bar2At (s : State) (off : Nat) : Bar2 := bar2 s.bootOpen off

/-- PF `m` exchanges requests with the host: the link is out of reset and configured (16 R529, R547). -/
def State.hostServed (s : State) : Bool := s.sec.straps.pcieEn && !s.host.perst && s.host.cfgReady

/-- The managed bank behind a region. -/
def Bar2.managed : Bar2 → Option Nat
  | .bank n _ => some n
  | .ctx a => some (96 + a / 0x40000)
  | _ => Option.none

/-- Bytes of the context window. -/
def State.ctxWindow (s : State) (a n : Nat) : List Byte :=
  (((List.range (n / 128 + 2)).flatMap (fun k => (s.ctxOf (a / 128 + k)).bytes (a / 128 + k))).drop (a % 128)).take n

/-- The data of a read. -/
def State.bar2Data (s : State) (r : Bar2) (n : Nat) : List Byte :=
  match r with
  | .queue a => bytesAt s.cmd.sram a n
  | .boot a => bytesAt s.sec.bootWin a n
  | .ctx a => s.ctxWindow a n
  | .bank k off => s.bankBytes (k / 8) (k % 8) off n
  | .none => []

/-- The check of the memory read (17 R555). -/
def State.bar2Check (s : State) (r : Bar2) (n : Nat) : Bool × State :=
  match r with
  | .queue a => s.readCheck 6 0 a n
  | .ctx a => s.readCheck 3 (96 + a / 0x40000) (a % 0x40000) n
  | .bank k off => s.readCheck 2 k off n
  | _ => (false, s)

/-- Complete a read with its data (16 R528). -/
def State.readDone (s : State) (pf off n : Nat) : State :=
  let r := s.bar2At off
  let c := s.bar2Check r n
  (c.2.perfM 2 0 (some pf) pf (some off) n).complete pf (c.2.bar2Data r n) false c.1

/-- A read that the device refuses: Completer Abort, counted (16 R542). -/
def State.readAbort (s : State) (pf : Nat) : State := (s.cnt Reg.HOSTIF_CPL_ABORT).complete pf [] true false

/-- A read of contexts waits while an Island that owns one of them commits (10 R353). -/
def State.readHeld (s : State) (r : Bar2) (n : Nat) : Bool :=
  match r with
  | .ctx a => (List.range (n / 128 + 2)).any (fun k =>
      let id := a / 128 + k
      decide (128 * id < a + n) && decide ((s.ctxOf id).island < 12) && s.committing (s.ctxOf id).island)
  | _ => false

/-- An access waits. -/
def State.barWait (s : State) (w : BarWait) : State := s.updHost (fun h => { h with waits := h.waits ++ [w] })

/-- A read as its bank stands: it waits, completes or is aborted (10 R353, 16 R528, 17 R558). -/
def State.readTry (s : State) (pf off n : Nat) : State :=
  let r := s.bar2At off
  if r.managed.any (fun k => (s.bank k).refuses) then s.readAbort pf
  else if r.managed.any (fun k => (s.bank k).waits) then (forEach r.managed.toList (fun s k => s.wakeBank k) s).barWait ⟨pf, off, n, none⟩
  else if s.readHeld r n then s.barWait ⟨pf, off, n, none⟩
  else s.readDone pf off n

/-! ## Writes (16 R527, 17 R558) -/

/-- A dropped access of BAR2: its log entry (02 R74). -/
def State.bar2Log (s : State) (pf kind flag off : Nat) (w : Word) : State := s.logAcc pf kind flag off w true

/-- Write bytes where the region takes them: queue, boot window or bank. -/
def State.bar2Put (s : State) (r : Bar2) (l : List Byte) : State :=
  match r with
  | .queue a => (s.updCmd (fun c => { c with sram := putBytes c.sram a l })).clearPoison 6 0 a l.length
  | .boot a => s.updSec (fun x => { x with bootWin := putBytes x.bootWin a l })
  | .bank n off => s.bankWrite (n / 8) (n % 8) off l
  | _ => s

/-- A write that is done, counted. -/
def State.bar2Done (s : State) (pf off : Nat) (r : Bar2) (l : List Byte) : State :=
  (s.bar2Put r l).perfM 2 1 (some pf) pf (some off) l.length

/-- A write of a bank as the bank stands: it waits, is written, or is dropped (17 R558). -/
def State.bankTry (s : State) (pf off : Nat) (l : List Byte) : State :=
  let r := s.bar2At off
  if r.managed.any (fun k => (s.bank k).refuses) then s.bar2Log pf 4 rcLOCK_VIOL off (word (leNat (l.take 4)))
  else if r.managed.any (fun k => (s.bank k).waits) then
    (forEach r.managed.toList (fun s k => s.wakeBank k) s).barWait ⟨pf, off, l.length, some l⟩
  else s.bar2Done pf off r l

/-- A waiting access goes on. -/
def State.barGo (s : State) (w : BarWait) : State :=
  match w.data with
  | some l => s.bankTry w.pf w.off l
  | none => s.readTry w.pf w.off w.n

/-- Waiting accesses go on. -/
def State.readsGo (s : State) : State :=
  forEach s.host.waits (fun s w => s.barGo w) (s.updHost (fun h => { h with waits := [] }))

end Sys2Proof.Machine
end

