-- ==== Sys2Proof/Machine/PlanOps.lean ====
section
/-! DEFINITION. The clock and voltage of an Island: what its engines require, and V_min (09 R340, 10 R359, 18 R602). -/

namespace Sys2Proof.Machine

/-! ## Requirement (09 R340) -/

/-- Island cycles that an engine's kernel declares for a period. -/
def Eng.budget (x : Eng) : Nat := x.img.budgetStart + x.itemsMax * x.img.budgetItem

/-- Engines of an Island that run or will start. -/
def State.busyEngs (s : State) (i : Nat) : List Nat :=
  (List.range 16).filter (fun j => (s.engine (16 * i + j)).st.runs || (s.engine (16 * i + j)).startPend)

/-- Steps of 1.5625 MHz that budgets `l` need in a period of `p` ticks. -/
def stepsFor (l : List Nat) (p : Nat) : Nat := (l.map (fun b => if p = 0 then 0 else ceilDiv (b * 960) p)).foldl max 0

/-- ISL_FREQ_REQ at a period of `p` ticks. -/
def State.freqAt (s : State) (i p : Nat) : Nat :=
  stepsFor ((s.busyEngs i).map (fun j => (s.engine (16 * i + j)).budget)) p

/-- ISL_FREQ_REQ.freq. -/
def State.freqReq (s : State) (i : Nat) : Nat :=
  match (s.island i).cfg with | some c => s.freqAt i c.ticks | none => 0

/-! ## V_min (18 R602) -/

/-- The `k`-th fused point, in steps. -/
def fusePoint (k : Nat) : Nat := if k = 0 then 480 else 448 + 64 * k

/-- V_fuse of Island `i` at step `f`, in 1/6400 mV: linear between the fused points. -/
def vFuseAt (i f : Nat) : Int :=
  let k := min 7 (if f < 512 then 0 else (f - 448) / 64)
  let a : Int := Config.vFuse i k
  let b : Int := Config.vFuse i (k + 1)
  64 * a + (b - a) * ((f : Int) - fusePoint k) * (64 / (fusePoint (k + 1) - fusePoint k) : Nat)

/-- Scrub agent of an Island's memories (17 R564): compute Islands 0 to 11; the memory, compression and triad Islands have
12, 13 and 14, the others none. -/
def scrubAgent (i : Nat) : Option Nat :=
  if i < 12 then some i else if i = 17 then some 12 else if i = 13 then some 13 else if i = 16 then some 14 else none

/-- Ring-oscillator drift of the last report in 0.001 % (18 R601). -/
def State.roDrift (s : State) (i : Nat) : Int := signedOf 16 (s.rf (Reg.TRIAD_RO_DRIFT i) 0 16)

/-- Round up to 5 mV, from 1/6400 mV. -/
def roundup5 (v : Int) : Nat := (ceilDiv v.toNat 32000) * 5

/-- V_min of Island `i` at step `f`, in mV. -/
def State.vMin (s : State) (i f : Nat) : Nat :=
  let sram := match scrubAgent i with | some a => mget 0 s.mem.vmin a | none => 0
  roundup5 (max (vFuseAt i f + 256 * s.roDrift i) (6400 * sram : Nat) + (6400 * s.triad.guard : Nat))

/-- Clock and regulator of a compute Island reach 1.5 GHz and 0.85 V (01 R27). -/
def reachable (o : Nat × Nat) : Nat × Nat := (min 960 o.1, min 850 o.2)

/-- The change that the start of a period makes: the planner's order, raised to what the period requires (10 R359). -/
def State.dueChange (s : State) (i : Nat) : Option (Nat × Nat) :=
  let x := s.island i
  let o := x.plan.getD (x.freq, x.vdd)
  let req := s.freqReq i
  let o := if o.1 < req then reachable (req, max o.2 (s.vMin i req)) else o
  if o = (x.freq, x.vdd) then none else some o

/-! ## MARGIN_POLICY RUN (18 R610) -/

/-- No change that the planner has ordered is still to come (18 R605). -/
def State.planIdle (s : State) : Bool :=
  (List.range 12).all (fun i => (s.island i).plan.isNone) && s.triad.svcStep.all (fun e => e.2.isNone)

/-- A compute Island without a period changes at once (01 R28, 18 R605). -/
def State.planNow (s : State) (i : Nat) (o : Nat × Nat) : State :=
  (s.updIsland i (fun x => { x with freq := o.1, vdd := o.2, plan := none })).evt Reg.TRIAD_EVT 512

/-- The final OK of MARGIN_POLICY RUN follows the last change. -/
def State.runProgress (s : State) : State :=
  if s.planIdle then forEach s.triad.runJobs (fun s tk => s.finish tk stOK []) (s.updTriad (fun t => { t with runJobs := [] })) else s

end Sys2Proof.Machine
end

