-- ==== Sys2Proof/Machine/PerOps.lean ====
section
/-! DEFINITION. Periods: boundaries and marks, commits, period starts, and the commands that wait for them (09 R307, R312,
R313; 10 R347 to R359). -/

namespace Sys2Proof.Machine

def islEngs (i : Nat) : List Nat := (List.range 16).map (16 * i + ·)

/-! ## Boundaries and deadlines (10 R347 to R349) -/

/-- G of 10 R348. -/
def PerCfg.graceTicks (c : PerCfg) : Nat := c.ticks * c.frac / 256

/-- Emitters note the boundaries of an Island that their pulses may follow, for the longest offset (19 R618). -/
def Emitter.noteBoundary (x : Emitter) (i b : Nat) : Emitter :=
  if x.scheds.any (fun p => p.2.isl == some i) then
    { x with bounds := x.bounds.filter (fun p => decide (b < p.2 + 2 ^ 22)) ++ [(i, b)] }
  else x

def State.emBoundary (s : State) (i b : Nat) : State :=
  forEach (List.range 8) (fun s n => s.updEmitter n (fun x => x.noteBoundary i b)) s

/-- The boundary at tick `b` of an Island under configuration `c`: its mark goes to the Island, and the deadline and the next
boundary are set (10 R347 to R349). -/
def Island.boundary (x : Island) (c : PerCfg) (b : Nat) (ts : TS48) : Island :=
  { x with
    marks := x.marks ++ [⟨true, c.graceTicks == 0, b, ts⟩], nextB := b + c.ticks
    deadlines := if c.graceTicks = 0 then x.deadlines else x.deadlines ++ [(b + c.graceTicks, b)] }

/-- What else follows the boundary ticks of an Island: period Slates (21 R657) and pulses (19 R618). -/
def State.boundaryOut (s : State) (i b : Nat) : State := (s.slatePeriod i b).emBoundary i b

def State.boundary (s : State) (i : Nat) (c : PerCfg) (b : Nat) : State :=
  (s.updIsland i (fun x => x.boundary c b (s.tsTick b))).boundaryOut i b

/-- The configuration whose anchor has come (10 R366). -/
def State.anchorDue (s : State) (i : Nat) : Option PerCfg :=
  (s.island i).pend.find? (fun p => !tsLt s.tsNow p.anchor)

/-- The Island's boundary tick that is due, unless the anchor of another configuration has come first (10 R347, R366). -/
def State.perBoundary (s : State) (i : Nat) : Option PerCfg :=
  (s.island i).cfg.filter (fun c => !c.unconf && decide ((s.island i).nextB ≤ s.now)
    && ((s.anchorDue i).all (fun p => decide ((s.island i).nextB < s.firstTick p.anchor))))

/-- A boundary tick of a configured Island (10 R349). -/
def State.boundaryTick (s : State) (i : Nat) : State :=
  match s.perBoundary i with
  | none => s
  | some c => s.boundary i c (s.island i).nextB

/-- A deadline tick (10 R349). -/
def State.deadlineTick (s : State) (i : Nat) : State :=
  match (s.island i).deadlines.find? (fun d => decide (d.1 ≤ s.now)) with
  | none => s
  | some d => s.updIsland i (fun x => { x with marks := x.marks ++ [⟨false, true, d.2, s.tsTick d.1⟩], deadlines := x.deadlines.erase d })

/-! ## Jobs -/

/-- A job no longer waits for Island `i`, unless it came too late for what ends. -/
def IslJob.done (j : IslJob) (i : Nat) (ts : TS48) : IslJob :=
  if j.late.contains i then { j with late := j.late.erase i }
  else if j.islands.contains i then { j with islands := j.islands.erase i, ts := ts } else j

/-- Answer the jobs that wait for no Island: their final OK carries the TS48 of the last (03 R113). -/
def State.replyJobs (s : State) (l : List IslJob) : State :=
  forEach (l.filter (fun j => j.islands.isEmpty)) (fun s j => s.replyAt j.tk stOK [] j.ts) s

def stillWaiting (l : List IslJob) : List IslJob := l.filter (fun j => !j.islands.isEmpty)

/-- PERIOD_CONFIGURE: Island `i` has applied the configuration of an anchor. -/
def State.perJobDone (s : State) (i : Nat) (anchor : TS48) : State :=
  let l := s.ctx.perJobs.map (fun j => if j.ts = anchor then j.done i anchor else j)
  (s.updCtxs (fun c => { c with perJobs := stillWaiting l })).replyJobs l

def State.writeJobsDone (s : State) (i : Nat) (ts : TS48) : State :=
  let l := s.ctx.writeJobs.map (fun j => j.done i ts)
  (s.updCtxs (fun c => { c with writeJobs := stillWaiting l })).replyJobs l

def State.assignJobsDone (s : State) (i : Nat) (ts : TS48) : State :=
  let l := s.ctx.assignJobs.map (fun j => j.done i ts)
  (s.updCtxs (fun c => { c with assignJobs := stillWaiting l })).replyJobs l

def State.startJobsDone (s : State) (i : Nat) (ts : TS48) : State :=
  let l := s.ctx.startJobs.map (fun j => j.done i ts)
  (s.updCtxs (fun c => { c with startJobs := stillWaiting l })).replyJobs l

def State.stopJobsDone (s : State) (i : Nat) (ts : TS48) : State :=
  let l := s.ctx.stopJobs.map (fun j => j.done i ts)
  (s.updCtxs (fun c => { c with stopJobs := stillWaiting l })).replyJobs l

/-! ## Taking marks (10 R350) -/

/-- Every running engine of the Island has finished (09 R312). -/
def State.allFinished (s : State) (i : Nat) : Bool :=
  (islEngs i).all (fun e => !(s.engine e).st.runs || s.engFinished e)

/-- commit_at is DEADLINE. -/
def Island.atDeadline (x : Island) : Bool := match x.cfg with | some c => c.deadlineMode | none => false

/-- EARLY, with the boundary mark taken and every engine finished: the commit is to begin. -/
def State.earlyCommit (s : State) (i : Nat) : State :=
  let x := s.island i
  if x.phase = .run ∧ x.marked.isSome ∧ x.atDeadline = false ∧ s.allFinished i then
    s.updIsland i (fun x => { x with phase := .ready })
  else s

/-- A deadline mark, or a boundary mark that is one: it forces the commit of the period that has ended. -/
def Island.force (x : Island) : Island := if x.phase = .run ∧ x.marked.isSome then { x with phase := .ready } else x

/-- The Island can act on a boundary mark: the period before is not ending any more. -/
def Island.takesBoundary (x : Island) : Bool := decide (x.phase = .run) && x.marked.isNone

/-- The mark that the Island acts on next: the first of its FIFO, but a boundary mark that it cannot act on yet does not hold
up the deadline marks behind it (an anchor may come before the deadline of the period before: log entry 39). -/
def Island.nextMark (x : Island) : Option Mark := x.marks.find? (fun m => !m.bnd || x.takesBoundary)

/-- The deadline of the period that ended at tick `b`: it forces that commit if it has not yet happened (10 R350). -/
def Island.deadline (x : Island) (b : Nat) : Island :=
  if x.marked.any (fun m => m.b == b) then x.force
  else { x with marks := x.marks.map (fun m => if m.bnd && m.b == b then { m with dl := true } else m) }

/-- The Island takes a mark. -/
def State.takeMark (s : State) (i : Nat) : State :=
  match (s.island i).nextMark with
  | none => s
  | some m =>
    let s := s.updIsland i (fun x => { x with marks := x.marks.erase m })
    if m.bnd then
      let s := s.updIsland i (fun x => { x with marked := some m })
      if m.dl then s.updIsland i Island.force else s.earlyCommit i
    else s.updIsland i (fun x => x.deadline m.b)

/-! ## Commit (10 R351 to R357) -/

/-- Step 1: an engine that has not finished is aborted at the deadline (10 R355). -/
def State.deadlineAbort (s : State) (e : Nat) : State :=
  if (s.engine e).st.runs ∧ s.engFinished e = false then
    ((s.abortEng e 0).cnt (Reg.ISL_DEADLINE_CNT (e / 16))).evt (Reg.ISL_PER_EVT (e / 16)) 4
  else s

/-- Number a channel record that leaves its Island at the commit (11 R379). -/
def State.numberHeld (s : State) (h : SEnt) : SEnt × State :=
  match h with
  | .item it =>
    match it.recs with
    | [r] => if r.cls = 0 then let (r, s) := s.number r; (.item { it with recs := [r] }, s) else (h, s)
    | _ => (h, s)
  | _ => (h, s)

def State.numberAll (s : State) (l : List SEnt) : List SEnt × State :=
  l.foldl (fun a h => let r := a.2.numberHeld h; (a.1 ++ [r.1], r.2)) ([], s)

/-- The GAP of what the period dropped last is released with its records, where the reserve slot is free (09 R313, 01 R37). -/
def Eng.gapHeld (x : Eng) (e : Nat) : Eng :=
  match x.output.pend with
  | some d =>
    if x.outResv then x
    else { x with per := { x.per with held := x.per.held ++ [.gap (d.gap (0x1100 + e) 0)] }, output := { x.output with pend := none } }
  | none => x

/-- Entries that the writer publishes: the reader sees them from tick `t` on. -/
def Strait.publish (x : Strait) (l : List SEnt) (t : Nat) : Strait :=
  { x with ents := x.ents ++ l.map (SEnt.seen t), wr := x.wr + entWords l }

/-- Clock of the merge Island in steps of 1.5625 MHz (01 R29). -/
def mergeSteps : Nat := 800

/-- Step 4: an engine's outbound pointer is published (09 R313). -/
def State.publish (s : State) (e : Nat) : State :=
  let s := s.updEngine e (fun x => x.gapHeld e)
  let (l, s) := s.numberAll (s.engine e).per.held
  let t := s.crossing mergeSteps
  t.2.updEngine e (fun x => { x with output := x.output.publish l t.1, per := { x.per with held := [] } })

/-- The PERIOD_DROP record of an aborted engine (10 R357, 11 R382). -/
def State.periodDrop (s : State) (e cause : Nat) : Rec :=
  let x := s.island (e / 16)
  let p := (s.engine e).per
  mkRec tPERIOD_DROP 1 e x.startTs 0 0 3
    [(20, 4, x.num), (24, 1, cause), (25, 1, b2n x.replan), (26, 2, p.pc), (28, 4, p.itemsDone), (32, 4, p.unread),
     (36, 4, p.withdrawn), (40, 2, p.updates), (44, 4, p.cycles)]

/-- The engine's part of a commit after the updates (10 R351 steps 4 and 5, R359): cycles used are those up to its last end
of an invocation. -/
def State.commitEng (s : State) (e : Nat) : State :=
  let i := e / 16
  let x := s.engine e
  if x.st.runs = false ∧ x.per.aborted = none then s
  else
    let s := match x.per.aborted with
      | none => s.publish e
      | some c => s.toPort i (s.periodDrop e c)
    let late := decide (x.budget < x.per.cycles)
    let s := if late then (s.cnt (Reg.ISL_OVER_BUDGET i)).evt (Reg.ISL_PER_EVT i) 16 else s
    let fault := match x.per.aborted with | some c => decide (1 ≤ c ∧ c ≤ 8) | none => false
    s.updEngine e (fun y => { y with
      cycLast := x.per.cycles, maxCyc := min 0xFFFFFFFF (max y.maxCyc x.per.cycles)
      consec := if fault then y.consec else 0, per := { y.per with aborted := none, pend := y.output.pend } })

/-- Engine `e`'s sequence counters are those of this commit (09 R313). -/
def State.seqBase (s : State) (e : Nat) : State :=
  let f := mget 0 s.seqs (seqKey 1 e tFEATURE)
  let c := mget 0 s.seqs (seqKey 1 e tCONTEXT)
  s.updPer e (fun p => { p with seqF := f, seqC := c })

/-- The commit of Island `i` (10 R351): it lasts 64 ns and 2 ns for each update applied (10 R353). -/
def State.commit (s : State) (i : Nat) : State :=
  let ts := (s.island i).endTs
  let s := forEach (islEngs i) (fun s e => s.deadlineAbort e) s
  let s := s.applyStaged i ts
  let s := forEach (islEngs i) (fun s e => (s.commitEng e).seqBase e) s
  let ns := 64 + 2 * (s.island i).applied
  s.updIsland i (fun x => { x with
    commitNs := ns, commitTs := ts, phase := .commit (s.now + ceilDiv (3 * ns) 2) })

/-! ## Hand-over of contexts (10 R365) -/

/-- A context as CTX_ASSIGN leaves it. -/
def Ctx.assigned (c : Ctx) (island kind : Nat) (clear : Bool) : Ctx :=
  if clear then { kind := kind, island := island, unrel := false, host := true, commits := 0, ts := 0, state := List.replicate 112 0 }
  else { c with kind := kind, island := island }

def State.assignCtx (s : State) (id island kind : Nat) (clear : Bool) : State :=
  let s := s.updCtx id (fun c => c.assigned island kind clear)
  if clear then (s.wakeBank (ctxBank id)).ctxClean id else s

/-- The contexts of a range that Island `i` owns. -/
def State.ownedIn (s : State) (a : AssignPend) : List Nat :=
  ((List.range a.count).map (a.first + ·)).filter (fun id => (s.ctxOf id).island == a.fromIsl)

/-- What waits for Island `i` after a commit of it: what came during that commit waits for the next one. -/
def CtxStore.afterHand (c : CtxStore) (i : Nat) : CtxStore :=
  let rest := c.assign.filter (fun a => a.fromIsl != i || a.late)
  { c with assign := rest.map (fun a => if a.fromIsl == i then { a with late := false } else a) }

/-- After a commit of Island `i`, the contexts that wait for it change hands; several changes of one context act in their order. -/
def State.handContexts (s : State) (i : Nat) : State :=
  let l := (s.ctx.assign.filter (fun a => a.fromIsl == i && !a.late)).map (fun a => (a, s.ownedIn a))
  forEach l (fun s p => forEach p.2 (fun s id => s.assignCtx id p.1.island p.1.kind p.1.clear) s) (s.updCtxs (fun c => c.afterHand i))

/-- What follows a commit whose boundary has the TS48 `ts`: contexts change hands and the commands that wait for it answer. -/
def State.commitServed (s : State) (i : Nat) (ts : TS48) : State := ((s.writeJobsDone i ts).handContexts i).assignJobsDone i ts

/-- What commands have left during the last commit is written at once, as the Island has no further one. DESIGN CHOICE (log entry 39). -/
def State.lastWrites (s : State) (i : Nat) (ts : TS48) : State := ((s.applyStaged i ts).applyLate i ts).commitServed i ts

/-- The Island becomes unconfigured after its last commit (10 R366); a change that it still owes is made at once (01 R28). -/
def State.unconfigure (s : State) (i : Nat) : State :=
  match (s.island i).cfg with
  | some c =>
    if c.unconf then
      let s := (s.lastWrites i (s.island i).commitTs).updIsland i (fun x => { x with
        cfg := none, phase := .run, marked := none, marks := [], deadlines := [], renew := false, num := 0 })
      let s := match (s.island i).plan with
        | some o => (s.planNow i o).runProgress
        | none => s
      s.perJobDone i c.anchor
    else s
  | none => s

/-- A commit ends, when the banks of its updates are ON (17 R558): its readers go on, contexts change hands and the commands that wait for it answer. -/
def State.commitDone (s : State) (i : Nat) : State :=
  match (s.island i).phase with
  | .commit due =>
    if s.now < due then s
    else if s.lateWaits i then forEach (s.island i).late (fun s u => s.wakeBank (ctxBank u.id)) s
    else
      let ts := (s.island i).commitTs
      let s := (s.applyLate i ts).updIsland i (fun x => { x with phase := .start })
      ((s.commitServed i ts).unconfigure i).readsGo
  | _ => s

/-! ## Period start (09 R307, 10 R359) -/

/-- The engine's state at a period start (09 R307 steps 2 to 4); accesses that wait at a shared bank go on waiting (09 R300). -/
def Eng.fresh (x : Eng) : Eng :=
  { x with
    perNum := if x.startPend then 0 else (x.perNum + 1) % 2 ^ 32
    maxCyc := if x.startPend then 0 else x.maxCyc, consec := if x.startPend then 0 else x.consec, startPend := false
    dmem := zeroBytes x.dmem x.img.scratchBase x.img.scratchLen
    r := { EngRegs.reset with out := x.r.out }, rdy := []
    per := { EngPeriod.reset with pend := x.per.pend, seqF := x.per.seqF, seqC := x.per.seqC } }

/-- Engine `e` stops at a period start. -/
def State.stopEng (s : State) (e : Nat) : State :=
  ((s.updEngine e (fun x => { x with st := .stopped, stopPend := false })).drainInput e).evt (Reg.ISL_EVT (e / 16)) 128

/-- Engine `e` at a period start of its Island. -/
def State.engPeriod (s : State) (e : Nat) : State :=
  let x := s.engine e
  if x.st.runs ∧ x.stopPend then s.stopEng e
  else if x.st.runs ∨ x.startPend then
    let s := if x.startPend then s.evt (Reg.ISL_EVT (e / 16)) 64 else s
    let s := s.clearPoison 1 e x.img.scratchBase x.img.scratchLen
    s.updEngine e (fun x => x.fresh.enter x.img.entryStart (x.img.scratchLen / 64))
  else s

/-- The Island's new period (10 R347): its TS48 is that of the boundary. -/
def Island.newPeriod (x : Island) (now : Nat) (paused : Bool) : Island :=
  { x with
    startTick := now, startTs := x.endTs, marked := none, num := if x.renew then 0 else (x.num + 1) % 2 ^ 32
    renew := false, replan := paused, phase := .run }

def State.newPeriod (s : State) (i : Nat) (paused : Bool) : State :=
  let s := s.updIsland i (fun x => x.newPeriod s.now paused)
  let s := forEach (islEngs i) (fun s e => s.engPeriod e) s
  let ts := (s.island i).startTs
  (s.startJobsDone i ts).stopJobsDone i ts

/-- The planner's change between commit and period start, with its pause (01 R28, 10 R359, 18 R605). -/
def State.planChange (s : State) (i : Nat) (o : Nat × Nat) : State :=
  let s := s.updIsland i (fun x => { x with freq := o.1, vdd := o.2, plan := none, phase := .pause (s.now + usTicks 2) })
  ((s.evt (Reg.ISL_PER_EVT i) 2).evt Reg.TRIAD_EVT 512).runProgress

/-- A period start of Island `i`. -/
def State.periodStart (s : State) (i : Nat) : State :=
  match (s.island i).phase with
  | .start =>
    match s.dueChange i with
    | some o => s.planChange i o
    | none => (s.updIsland i (fun x => { x with plan := none })).runProgress.newPeriod i false
  | .pause due => if s.now < due then s else s.newPeriod i true
  | _ => s

/-- The anchor of a configuration (10 R366): its boundary is the first tick whose TS48 is at or after the anchor (10 R347). -/
def State.anchor (s : State) (i : Nat) : State :=
  match s.anchorDue i with
  | none => s
  | some p =>
    let b := s.firstTick p.anchor
    let s := s.boundaryTick i
    let s := (s.updIsland i (fun x => { x with pend := x.pend.erase p })).evt (Reg.ISL_PER_EVT i) 1
    match (s.island i).cfg with
    | none =>
      if p.unconf then s.perJobDone i p.anchor
      else
        let s := s.updIsland i (fun x => { x with
          cfg := some p, nextB := b + p.ticks, startTs := s.tsTick b, marked := none, renew := true, phase := .start })
        (s.boundaryOut i b).perJobDone i p.anchor
    | some c =>
      let s := if c.unconf then s.perJobDone i c.anchor else s
      let s := (s.updIsland i (fun x => { x with cfg := some p, renew := true })).boundary i p b
      if p.unconf then s else s.perJobDone i p.anchor

end Sys2Proof.Machine
end

