-- ==== Sys2Proof/Machine/IslRows.lean ====
section
/-! DEFINITION. Straits and island links (01), kernels (09 R336 to R341), periods and contexts (10): commands and events. -/

namespace Sys2Proof.Machine

/-! ## Straits (01, 12 R422) -/

/-- 01 R23, R35. -/
def execStraitPush (i : Isl) (s : State) : Res := .next (s.linkTurn i.val)
/-- 01 R35. -/
def execStraitPop (x : StraitSel) (s : State) : Res := .next (s.straitPop x)
/-- 01 R40. -/
def execStraitFlush (x : StraitSel) (cause : Byte) (s : State) : Res := .next (s.straitFlush x cause.toNat)
/-- 01 R40. -/
def execStraitFlushToken (x : StraitSel) (s : State) : Res := .next (s.straitToken x)

/-- Engines that have a route into a queue of a list (12 R422). -/
def State.enginesInto (s : State) (qs : List Nat) : List Nat :=
  (List.range 192).filter (fun e => s.lag.routes.any (fun r =>
    qs.contains r.q && r.port == e / 16 && !r.origin && (r.cls == 1 || r.cls == 0xFF) && decide (r.first ≤ e)
      && decide (e ≤ r.last)))

def State.queueFlush (s : State) (tk : Ticket) (e : Entry) : State :=
  let qs := (List.range (e.p 2 2)).map (e.p 0 2 + ·)
  let es := if (e.p 4 1).testBit 0 then s.enginesInto qs else []
  let s := s.updLag (fun l => { l with jobs := l.jobs ++ [⟨tk, qs, es, 0, 0⟩] })
  let s := forEach es (fun s k => s.updEngine k (fun x => x.flushOut 1)) s
  forEach qs (fun s q => s.qFlush q 1 false) s

def cQueueFlush : CmdSpec :=
  { op := 0x0804, lenOk := lenIs 1
    paramOk := fun _ e => decide (1 ≤ e.p 2 2) && decide (e.p 2 2 ≤ 4096) && decide (e.p 0 2 + e.p 2 2 ≤ 4096)
      && decide (e.p 4 1 ≤ 1) && e.zero 5 3
    run := State.queueFlush }

/-- 12 R422. -/
def execQueueFlush (m : Master) (s : State) : Res := .next (s.runCmd cQueueFlush m.val)

/-! ## Kernel images (09 R336, R337) -/

/-- The header of an image (09 R336). -/
def imageOf (h : List Byte) : Image :=
  { kid := word (fieldAt h 8 4), kver := word (fieldAt h 12 4), codeWords := fieldAt h 16 2, scratchBase := fieldAt h 20 2
    scratchLen := fieldAt h 22 2, entryStart := fieldAt h 24 2, entryItem := fieldAt h 26 2, inTypes := fieldAt h 28 2
    ctxKind := fieldAt h 30 1, budgetStart := fieldAt h 32 4, budgetItem := fieldAt h 36 4 }

/-- The fields lie in the ranges of 09 R336. -/
def headerOk (h : List Byte) : Bool :=
  let x := imageOf h
  let data := fieldAt h 18 2
  fieldAt h 0 4 == 0x314B5952 && fieldAt h 4 2 == 1 && decide (fieldAt h 6 2 ≤ 1)
    && decide (1 ≤ x.codeWords) && decide (x.codeWords ≤ 4096) && decide (data ≤ 32768) && data % 16 == 0
    && x.scratchBase % 64 == 0 && x.scratchLen % 64 == 0 && decide (x.scratchBase + x.scratchLen ≤ 32768)
    && decide (x.entryStart < x.codeWords) && decide (x.entryItem < x.codeWords) && x.inTypes &&& 0xFC01 == 0
    && (decide (fieldAt h 31 1 ≤ 3) || fieldAt h 31 1 == 0xFF) && (h.drop 40).all (fun b => b == 0)
    && (x.scratchLen == 0 || decide (data ≤ x.scratchBase))

/-- Bytes of key and signature in an image. -/
def sigLen (h : List Byte) : Nat := if fieldAt h 6 2 = 1 then 64 + 29792 else 0

def imageLen (h : List Byte) : Nat := 256 + sigLen h + 4 * fieldAt h 16 2 + fieldAt h 18 2

/-- The key hash that a key slot names (09 R337, 20 R640): 0xFF is the vendor root. -/
def State.keyHash (s : State) (k : Nat) : List Byte :=
  if k = 0xFF then s.sec.fuses.root else mget (List.replicate 32 0) s.sec.fuses.slots k

/-- Key slot `k` may sign (09 R337, 20 R639, R641): in MANUFACTURE the vendor root alone. -/
def State.keyUsable (s : State) (k : Nat) : Bool :=
  k == 0xFF || (s.lifecycle != 0 && s.sec.fuses.programmed.getLsbD k && !s.sec.fuses.revoked.getLsbD k)

/-- A signature verifies under key slot `k` (09 R337, 20 R638): `ctx` is its context string. -/
def State.verifies (s : State) (ctx : String) (k : Nat) (key msg sig : List Byte) : Bool :=
  s.keyUsable k && Config.shake256 key 32 == s.keyHash k && Config.slhVerify ctx key msg sig

/-- What a signature covers: header, code and data. -/
def signedPart (l : List Byte) : List Byte := l.take 256 ++ l.drop (256 + sigLen l)

def State.kernelVerifies (s : State) (l : List Byte) : Bool :=
  s.verifies "ryngo-kernel" (fieldAt l 31 1) ((l.drop 256).take 64) (signedPart l) ((l.drop 320).take 29792)

/-! ## KERNEL_LOAD (09 R338) -/

def kernelParamOk (e : Entry) : Bool :=
  decide (e.p 0 1 ≤ 11) && decide (e.p 1 1 ≤ 7) && e.zero 2 2 && e.p 4 4 % 16 == 0 && decide (e.p 4 4 + e.p 8 4 ≤ 0x40000)
    && e.p 12 2 != 0 && e.zero 14 2

/-- Engines of Island `i` that a mask selects. -/
def maskEngs (i m : Nat) : List Nat := (bitsOf 16 m).map (16 * i + ·)

/-- A KERNEL_LOAD or KERNEL_START in the background holds engine `k` (03 R111). -/
def State.engHeld (s : State) (k : Nat) : Bool :=
  (s.engine k).startPend || s.ctx.loads.any (fun j => (maskEngs j.island j.mask).contains k)

def State.kernelLoad (s : State) (tk : Ticket) (e : Entry) : State :=
  let i := e.p 0 1
  if (maskEngs i (e.p 12 2)).any (fun k => (s.engine k).st.runs) then s.reply tk stWRONG_STATE []
  else if !s.bankHeld (8 * i + e.p 1 1) [4, 5] then s.reply tk stWRONG_STATE []
  else if (maskEngs i (e.p 12 2)).any s.engHeld then s.reply tk stBUSY []
  else (s.replyPending tk).updCtxs (fun c => { c with
    loads := c.loads ++ [⟨tk, i, e.p 1 1, e.p 4 4, e.p 8 4, e.p 12 2⟩] })

def cKernelLoad : CmdSpec := { op := 0x0601, lenOk := lenIs 2, paramOk := fun _ e => kernelParamOk e, run := State.kernelLoad }

/-- 09 R338. -/
def execKernelLoad (m : Master) (s : State) : Res := .next (s.runCmd cKernelLoad m.val)

/-- An engine without an image, its memories cleared. -/
def Eng.unloaded (x : Eng) : Eng :=
  { x with
    st := .stopped, loaded := false, startPend := false, stopPend := false, img := Image.none, imem := [], dmem := [], consec := 0 }

/-- Code words from index `n` on. -/
def codeOf : Nat → Nat → List Byte → SMap Word
  | 0, _, _ => []
  | k + 1, n, l => let m := codeOf k (n + 1) (l.drop 4); mput 0 m n (word (fieldAt l 0 4))

/-- An engine with the image `l` loaded. -/
def Eng.load (x : Eng) (l : List Byte) : Eng :=
  let code := l.drop (256 + sigLen l)
  let n := fieldAt l 16 2
  { x.unloaded with
    loaded := true, img := imageOf l, imem := codeOf n 0 code
    dmem := putBytes [] 0 ((code.drop (4 * n)).take (fieldAt l 18 2)) }

/-- A load writes both memories of an engine: poison goes, and the data memory's code is the one selected (17 R551, R554). -/
def State.loadEng (s : State) (e : Nat) (f : Eng → Eng) (meas : Option (List Byte)) : State :=
  let s := (s.updEngine e f).clearPoison 0 e 0 0x4000
  let s := s.clearPoison 1 e 0 0x8000
  let strong := s.rb (Reg.MEMCTL_ENG_ECC (e / 32)) (e % 32)
  let s := s.updMem (fun m => { m with strong := mput false m.strong e strong })
  s.updSec (fun x => { x with kern := mput none x.kern e meas })

/-- The status of a load (09 R338, 17 R555). -/
def State.loadStatus (s : State) (j : KLoad) (bad : Bool) (l : List Byte) : Nat :=
  if bad then stUNCORRECTABLE
  else if j.len < 256 ∨ headerOk (l.take 256) = false ∨ imageLen l ≠ j.len then stBAD_PARAM
  else if fieldAt l 6 2 = 0 then (if s.lifecycle = 1 then stOK else stLOCKED)
  else if s.kernelVerifies l then stOK else stSIG_INVALID

def State.kernelLoaded (s : State) (j : KLoad) : State :=
  let s := s.updCtxs (fun c => { c with loads := c.loads.erase j })
  let (bad, s) := s.readCheck 2 (8 * j.island + j.bank) j.off j.len
  let l := s.bankBytes j.island j.bank j.off j.len
  let st := s.loadStatus j bad l
  let es := maskEngs j.island j.mask
  if st = stOK then
    let meas := Config.shake256 (signedPart l) 32
    let s := forEach es (fun s e => s.loadEng e (fun x => x.load l) (some meas)) s
    s.finish j.tk stOK (leBytes 4 (fieldAt l 8 4) ++ leBytes 4 (fieldAt l 12 4) ++ leBytes 2 j.mask ++ leBytes 6 0)
  else
    let s := forEach es (fun s e => s.loadEng e Eng.unloaded none) s
    let s := if st = stSIG_INVALID then s.evt Reg.SEC_EVT 4 else s
    s.reply j.tk st []

/-- 09 R338. -/
def execKernelLoadDone (s : State) : Res :=
  .next (match s.ctx.loads with | [] => s | j :: _ => s.kernelLoaded j)

/-! ## KERNEL_START and KERNEL_STOP (09 R339 to R341) -/

/-- The binding that engine `j` of the Island would have. -/
def State.bindOf (s : State) (e : Entry) (j : Nat) : Nat :=
  if (e.p 1 1).testBit 0 then (s.engine (16 * e.p 0 1 + j)).bind else e.p (8 + 2 * j) 2

/-- No channel in two masks of a list. -/
def disjointMasks : Nat → List Nat → Bool
  | _, [] => true
  | acc, m :: l => acc &&& m == 0 && disjointMasks (acc ||| m) l

def State.startParamOk (s : State) (e : Entry) : Bool :=
  let sel := bitsOf 16 (e.p 2 2)
  let run := (s.busyEngs (e.p 0 1)).filter (fun j => !sel.contains j)
  decide (e.p 0 1 ≤ 11) && decide (e.p 1 1 ≤ 1) && e.p 2 2 != 0
    && disjointMasks 0 (sel.map (s.bindOf e) ++ run.map (s.bindOf e))

/-- Engines of the Island in the order in which a KERNEL_START gives them their channels: those that run or will start come first. -/
def State.bindOrder (s : State) (e : Entry) : List Nat :=
  let run := fun j => (bitsOf 16 (e.p 2 2)).contains j || (s.busyEngs (e.p 0 1)).contains j
  (List.range 16).filter run ++ (List.range 16).filter (fun j => !run j)

/-- Bindings after a KERNEL_START: every engine takes the channels of its mask that no engine before it has taken, as a channel has one
engine (09 R303, R339). DEDUCED (log entry 37). -/
def State.rebind (s : State) (e : Entry) : State :=
  ((s.bindOrder e).foldl (fun (a : State × Nat) j =>
    (a.1.updEngine (16 * e.p 0 1 + j) (fun x => { x with bind := s.bindOf e j &&& (65535 - a.2) }), a.2 ||| s.bindOf e j)) (s, 0)).1

def State.kernelStart (s : State) (tk : Ticket) (e : Entry) : State :=
  let i := e.p 0 1
  let es := maskEngs i (e.p 2 2)
  if es.any (fun k => !(s.engine k).loaded || (s.engine k).st != .stopped) then s.reply tk stWRONG_STATE []
  else
    match (s.island i).cfg with
    | none => s.reply tk stWRONG_STATE []
    | some c =>
      if es.any s.engHeld then s.reply tk stBUSY [] else
      let t := forEach es (fun t k => t.updEngine k (fun x => { x with startPend := true, itemsMax := e.p 4 4 })) s
      if (s.island i).fmax < t.freqAt i c.ticks then s.reply tk stREFUSED []
      else
        let s := forEach es (fun s k => s.updEngine k (fun x => { x with startPend := true, itemsMax := e.p 4 4 }))
          ((s.replyPending tk).rebind e)
        s.updCtxs (fun c => { c with startJobs := c.startJobs ++ [⟨tk, [i], 0, []⟩] })

def cKernelStart : CmdSpec := { op := 0x0602, lenOk := lenIs 5, paramOk := State.startParamOk, run := State.kernelStart }

/-- 09 R339. -/
def execKernelStart (m : Master) (s : State) : Res := .next (s.runCmd cKernelStart m.val)

/-- KERNEL_STOP with NOW on one engine (09 R341, 10 R356): a period that is aborted already is not aborted again. -/
def State.stopNow (s : State) (e : Nat) : State :=
  let s := if (s.engine e).st.runs && (s.engine e).per.aborted.isNone then s.abortEng e 9 else s
  let s := (s.updEngine e (fun x => { x with st := .stopped, stopPend := false })).drainInput e
  s.evt (Reg.ISL_EVT (e / 16)) 128

/-- KERNEL_STOP (09 R341). An Island without a period has no period start to wait for. DEDUCED (log entry 37). -/
def State.kernelStop (s : State) (tk : Ticket) (e : Entry) : State :=
  let i := e.p 0 1
  let es := (maskEngs i (e.p 2 2)).filter (fun k => (s.engine k).st != .stopped)
  if es.isEmpty then s.reply tk stWRONG_STATE []
  else if (e.p 1 1).testBit 0 then (forEach es (fun s k => s.stopNow k) s).replyEffect tk stOK []
  else
    let s := forEach es (fun s k => if (s.engine k).st = .fault then s.stopEng k
      else s.updEngine k (fun x => { x with stopPend := true })) s
    let s := s.replyPending tk
    if (s.island i).cfg.isNone then s.replyEffect tk stOK []
    else s.updCtxs (fun c => { c with stopJobs := c.stopJobs ++ [⟨tk, [i], 0, []⟩] })

def cKernelStop : CmdSpec :=
  { op := 0x0603, lenOk := lenIs 1,
    paramOk := fun _ e => decide (e.p 0 1 ≤ 11) && decide (e.p 1 1 ≤ 1) && e.zero 4 4, run := State.kernelStop }

/-- 09 R341. -/
def execKernelStop (m : Master) (s : State) : Res := .next (s.runCmd cKernelStop m.val)

/-! ## Periods (10 R347 to R359) -/

/-- 10 R349. -/
def execPeriodBoundaryTick (i : Isl) (s : State) : Res := .next (s.boundaryTick i.val)
/-- 10 R349. -/
def execDeadlineTick (i : Isl) (s : State) : Res := .next (s.deadlineTick i.val)

/-- 10 R350. -/
def execBoundaryMark (i : Isl) (s : State) : Res :=
  .next (match (s.island i.val).nextMark with | some m => if m.bnd then s.takeMark i.val else s | none => s)
/-- 10 R350. -/
def execDeadlineMark (i : Isl) (s : State) : Res :=
  .next (match (s.island i.val).nextMark with | some m => if m.dl then s.takeMark i.val else s | none => s)
/-- 10 R350. -/
def execEnginesFinished (i : Isl) (s : State) : Res := .next (s.earlyCommit i.val)
/-- 10 R351. -/
def execPeriodCommit (i : Isl) (s : State) : Res :=
  .next (if (s.island i.val).phase = .ready then s.commit i.val else s)
/-- 10 R353. -/
def execCommitDone (i : Isl) (s : State) : Res := .next (s.commitDone i.val)
/-- 09 R307. -/
def execPeriodStart (i : Isl) (s : State) : Res := .next (s.periodStart i.val)
/-- 10 R366. -/
def execPeriodAnchor (i : Isl) (s : State) : Res := .next (s.anchor i.val)

/-! ## PERIOD_CONFIGURE (10 R366) -/

/-- The anchor that the command asks for. -/
def State.anchorOf (s : State) (e : Entry) : TS48 := if e.p 16 6 = 0 then s.tsAt (msTicks 1) else BitVec.ofNat 48 (e.p 16 6)

def State.perParamOk (s : State) (e : Entry) : Bool :=
  let unconf := (e.p 3 1).testBit 1
  let ahead := tsDiff (s.anchorOf e) s.tsNow
  e.p 0 2 != 0 && decide (e.p 0 2 < 4096) && decide (e.p 2 1 ≤ 64) && decide (e.p 3 1 ≤ 3) && e.zero 4 4
    && (unconf || (decide (1500 ≤ e.p 8 8) && decide (e.p 8 8 ≤ 90000000000))) && decide (e.p 8 8 < 2 ^ 37)
    && decide (((usTs 100 : Nat) : Int) ≤ ahead) && decide (ahead ≤ (usTs 2000000 : Nat)) && e.zero 22 2

def State.periodConfigure (s : State) (tk : Ticket) (e : Entry) : State :=
  let is := bitsOf 12 (e.p 0 2)
  let unconf := (e.p 3 1).testBit 1
  if unconf ∧ is.any (fun i => !(s.busyEngs i).isEmpty) then s.reply tk stWRONG_STATE []
  else if !unconf && is.any (fun i => decide ((s.island i).fmax < s.freqAt i (e.p 8 8))) then s.reply tk stREFUSED []
  else
    let a := s.anchorOf e
    let c : PerCfg := ⟨e.p 8 8, e.p 2 1, (e.p 3 1).testBit 0, unconf, a⟩
    let s := forEach is (fun s i => s.updIsland i (fun x => { x with pend := x.pend ++ [c] })) (s.replyPending tk)
    s.updCtxs (fun x => { x with perJobs := x.perJobs ++ [⟨tk, is, a, []⟩] })

def cPeriodConfigure : CmdSpec :=
  { op := 0x0604, lenOk := lenIs 3, paramOk := State.perParamOk, run := State.periodConfigure }

/-- 10 R366. -/
def execPeriodConfigure (m : Master) (s : State) : Res := .next (s.runCmd cPeriodConfigure m.val)

/-! ## CTX_WRITE, CTX_READ, CTX_ASSIGN (10 R363 to R365) -/

/-- Entry `k` of a CTX_WRITE. -/
def cwId (e : Entry) (k : Nat) : Nat := e.p (8 + 120 * k) 2
def cwState (e : Entry) (k : Nat) : List Byte := fitBytes 112 ((e.params.drop (16 + 120 * k)).take 112)
def cwIds (e : Entry) : List Nat := (List.range (e.p 0 1)).map (cwId e)

def cwParamOk (e : Entry) : Bool :=
  e.len == 1 + 15 * e.p 0 1 && decide (e.p 1 1 ≤ 1) && e.zero 2 6
    && (List.range (e.p 0 1)).all (fun k => e.zero (10 + 120 * k) 6) && decide (cwIds e).Nodup

/-- Context `id` awaits a CTX_ASSIGN (10 R363). -/
def State.awaitsAssign (s : State) (id : Nat) : Bool :=
  s.ctx.assign.any (fun a => decide (a.first ≤ id) && decide (id < a.first + a.count) && a.fromIsl == (s.ctxOf id).island)

/-- The owner of a context when that Island is configured. -/
def State.ctxIsl (s : State) (id : Nat) : Option Nat :=
  let i := (s.ctxOf id).island
  if i < 12 ∧ s.configured i then some i else none

/-- A configured Island whose stage cannot take the command's updates. -/
def State.stageFull (s : State) (ids : List Nat) (i : Nat) : Bool :=
  let n := (ids.filter (fun id => s.ctxIsl id == some i)).length
  n != 0 && decide (1024 < (s.island i).staged.length + n)

/-- Banks of contexts that a command reaches, and whether one of them makes it wait (17 R558). -/
def ctxBanks (ids : List Nat) : List Nat := (List.range 32).map (96 + ·) |>.filter (fun n => ids.any (fun id => ctxBank id == n))
def State.ctxWait (s : State) (ids : List Nat) : Bool := (ctxBanks ids).any (fun n => (s.bank n).waits)
def State.ctxWake (s : State) (ids : List Nat) : State := forEach (ctxBanks ids) (fun s n => s.wakeBank n) s
/-- A bank without power refuses (17 R558); the spec names no status, the model answers WRONG_STATE. DESIGN CHOICE (log entry 53). -/
def State.ctxRefused (s : State) (ids : List Nat) : Bool := (ctxBanks ids).any (fun n => (s.bank n).refuses)

/-- Write one context at once, or stage it. -/
def State.ctxWriteOne (s : State) (id : Nat) (l : List Byte) (clear : Bool) : State :=
  match s.ctxIsl id with
  | some i => s.updIsland i (fun x => { x with staged := x.staged ++ [⟨none, id, l, false, clear⟩] })
  | none => (s.updCtx id (fun c => { c with state := l, host := true, unrel := c.unrel && !clear })).ctxClean id

def State.ctxWrite (s : State) (tk : Ticket) (e : Entry) : State :=
  let ids := cwIds e
  let clear := (e.p 1 1).testBit 0
  if !clear && ids.any (fun id => (s.ctxOf id).unrel) then s.reply tk stREFUSED []
  else if s.ctxRefused (ids.filter (fun id => (s.ctxIsl id).isNone)) then s.reply tk stWRONG_STATE []
  else if ids.any s.awaitsAssign then s.reply tk stBUSY []
  else if (List.range 12).any (s.stageFull ids) then s.reply tk stBUSY []
  else
    let is := (List.range 12).filter (fun i => ids.any (fun id => s.ctxIsl id == some i))
    let s := forEach (List.range (e.p 0 1)) (fun s k => s.ctxWriteOne (cwId e k) (cwState e k) clear) s
    if is.isEmpty then s.replyEffect tk stOK []
    else (s.replyPending tk).updCtxs (fun c => { c with writeJobs := c.writeJobs ++ [⟨tk, is, 0, is.filter s.committing⟩] })

def cCtxWrite : CmdSpec :=
  { op := 0x0701, lenOk := fun e => (List.range 16).any (fun n => e.len == 16 + 15 * n), paramOk := fun _ e => cwParamOk e,
    run := State.ctxWrite }

/-- 10 R363; contexts that are written at once wait for their bank (17 R558). -/
def execCtxWrite (m : Master) (s : State) : Res :=
  let ids := (cwIds (s.headEntry m.val)).filter (fun id => (s.ctxIsl id).isNone)
  .next (if s.comesToRun cCtxWrite m.val ∧ s.ctxWait ids then s.ctxWake ids else s.runCmd cCtxWrite m.val)

def crIds (e : Entry) : List Nat := (List.range (e.p 2 1)).map (e.p 0 2 + ·)

def State.ctxRead (s : State) (tk : Ticket) (e : Entry) : State :=
  let ids := crIds e
  if s.ctxRefused ids then s.reply tk stWRONG_STATE [] else
  let s := forEach ids (fun s id => s.ctxCheck id) s
  let l := ids.flatMap (fun id => (s.ctxOf id).bytes id)
  s.reply tk (if ids.any (fun id => (s.ctxOf id).unrel) then stUNCORRECTABLE else stOK) l

def cCtxRead : CmdSpec :=
  { op := 0x0702, lenOk := lenIs 1
    paramOk := fun _ e => decide (1 ≤ e.p 2 1) && decide (e.p 2 1 ≤ 15) && decide (e.p 0 2 + e.p 2 1 ≤ 65536) && e.zero 3 5
    run := State.ctxRead }

/-- A CTX_READ at the head waits while a commit of an Island whose contexts it reads runs (10 R353). -/
def State.readWaits (s : State) (m : Nat) : Bool :=
  (crIds (s.headEntry m)).any (fun id => decide ((s.ctxOf id).island < 12) && s.committing (s.ctxOf id).island)

/-- 10 R364. -/
def execCtxRead (m : Master) (s : State) : Res :=
  let ids := crIds (s.headEntry m.val)
  .next (if s.comesToRun cCtxRead m.val ∧ s.ctxWait ids then s.ctxWake ids
    else if s.comesToRun cCtxRead m.val ∧ s.readWaits m.val then s else s.runCmd cCtxRead m.val)

/-- Contexts of a CTX_ASSIGN: count 0 means 65,536. -/
def caCount (e : Entry) : Nat := if e.p 2 2 = 0 then 65536 else e.p 2 2

def State.ctxAssign (s : State) (tk : Ticket) (e : Entry) : State :=
  let first := e.p 0 2
  let ids := (List.range (caCount e)).map (first + ·)
  let clear := (e.p 6 1).testBit 0
  let is := (List.range 12).filter (fun i => s.configured i && ids.any (fun id => (s.ctxOf id).island == i))
  let now := ids.filter (fun id => (s.ctxIsl id).isNone)
  let s := forEach now (fun s id => s.assignCtx id (e.p 4 1) (e.p 5 1) clear) s
  if is.isEmpty then s.replyEffect tk stOK []
  else
    (s.replyPending tk).updCtxs (fun c => { c with
      assign := c.assign ++ is.map (fun i => ⟨first, caCount e, i, e.p 4 1, e.p 5 1, clear, s.committing i⟩)
      assignJobs := c.assignJobs ++ [⟨tk, is, 0, is.filter s.committing⟩] })

def cCtxAssign : CmdSpec :=
  { op := 0x0703, lenOk := lenIs 1
    paramOk := fun _ e => decide (e.p 0 2 + caCount e ≤ 65536) && (decide (e.p 4 1 ≤ 11) || e.p 4 1 == 0xFF)
      && decide (e.p 6 1 ≤ 1) && e.zero 7 1
    run := State.ctxAssign }

/-- 10 R365. -/
def execCtxAssign (m : Master) (s : State) : Res := .next (s.runCmd cCtxAssign m.val)

end Sys2Proof.Machine
end

