-- ==== Sys2Proof/Machine/SecOps.lean ====
section
/-! DEFINITION. Firmware images, the boot flash, keys, lifecycle and attestation (20 R635 to R650). -/

namespace Sys2Proof.Machine

/-! SEC_EVT and DEV_EVT (20 R645, R646). -/
def seATTEST_DONE : Nat := 0x01
def seFUSE_DONE : Nat := 0x02
def seSIG_FAIL : Nat := 0x04
def sePROG_REFUSED : Nat := 0x08
def seREVOKED : Nat := 0x10
def deSTARTED : Nat := 1
def deWDOG : Nat := 2
def deIMG_FALLBACK : Nat := 4
def deBOOT_FAIL : Nat := 8

/-! ## Boot flash (20 R635, R636) -/

/-- An erased byte of the flash, which is what an unlisted one reads as. DEDUCED (log entry 60). -/
def erased : Byte := 0xFF

/-- Bytes of the flash from address `a` on. -/
def flashBytes (m : SMap Byte) (a : Nat) : Nat → List Byte
  | 0 => []
  | n + 1 => mget erased m a :: flashBytes m (a + 1) n

/-- Program bytes into the flash. -/
def flashPut (m : SMap Byte) (a : Nat) : List Byte → SMap Byte
  | [] => m
  | b :: l => flashPut (mput erased m a b) (a + 1) l

/-- Erase `n` bytes of the flash. -/
def flashErase (m : SMap Byte) (a n : Nat) : SMap Byte := m.filter (fun e => decide (e.1 < a) || decide (a + n ≤ e.1))

def slotBase (k : Nat) : Nat := if k = 0 then 0x10000 else 0x210000

/-- Directory copy `k`, when its magic and CRC-32 are right. -/
def State.dirCopy (s : State) (k : Nat) : Option (List Byte) :=
  let l := flashBytes s.sec.flash (0x1000 * k) 4096
  if fieldAt l 0 4 = 0x52494452 ∧ crc32 (l.take 4092) = fieldAt l 4092 4 then some l else none

/-- The valid directory copy with the higher sequence number, and its place. -/
def State.directory (s : State) : Option (Nat × List Byte) :=
  match s.dirCopy 0, s.dirCopy 1 with
  | none, none => none
  | some a, none => some (0, a)
  | none, some b => some (1, b)
  | some a, some b => if fieldAt a 4 4 < fieldAt b 4 4 then some (1, b) else some (0, a)

/-- The active slot of the directory. -/
def State.activeSlot (s : State) : Option Nat := s.directory.map (fun d => fieldAt d.2 8 1)

def slotValid (d : List Byte) (k : Nat) : Bool := (fieldAt d 9 1).testBit k

/-- Slots in the order a start tries them (20 R629, R636): the active one first; BOOT_SRC 3 tries slot A only. -/
def State.slotOrder (s : State) : List Nat :=
  match s.directory with
  | none => []
  | some (_, d) =>
    let act := fieldAt d 8 1
    ((if s.sec.straps.bootSrc = 3 then [0] else [act, 1 - act]).filter (fun k => decide (k < 2) && slotValid d k))

/-! ## Images (20 R638) -/

/-- What the signature covers, and the measurement hashes: header and body. -/
def fwSigned (l : List Byte) : List Byte := l.take 256 ++ (l.drop 30112).take (fieldAt l 16 4)

/-- Every header byte that has no field is 0. -/
def fwRestZero (l : List Byte) : Bool := (fieldAt l 6 2 == 0) && (fieldAt l 15 1 == 0) && ((l.take 256).drop 20).all (fun b => b == 0)

/-- Header format, without keys and versions. -/
def fwFormat (l : List Byte) : Bool :=
  decide (30112 ≤ l.length) && fieldAt l 0 4 == 0x31574652 && fieldAt l 4 2 == 1 && fieldAt l 16 4 % 16 == 0
    && decide (fieldAt l 16 4 ≤ 1572864) && decide (30112 + fieldAt l 16 4 ≤ l.length) && fwRestZero l
    && (fieldAt l 14 1 == 0xFF || decide (fieldAt l 14 1 ≤ 3)) && decide (fieldAt l 12 2 ≤ 63)

/-- Key and signature. -/
def State.fwSignedOk (s : State) (l : List Byte) : Bool :=
  s.verifies "ryngo-firmware" (fieldAt l 14 1) ((l.drop 256).take 64) (fwSigned l) ((l.drop 320).take 29792)

/-- The security version is at or above the floor. -/
def State.fwFloorOk (s : State) (l : List Byte) : Bool := decide (s.sec.fuses.svnFloor ≤ fieldAt l 12 2)

/-- The image verifies. -/
def State.fwVerifies (s : State) (l : List Byte) : Bool := fwFormat l && s.fwSignedOk l && s.fwFloorOk l

/-- A signature that fails is reported (20 R646). -/
def State.sigReport (s : State) (l : List Byte) : State :=
  if fwFormat l && !s.fwSignedOk l then s.evt Reg.SEC_EVT seSIG_FAIL else s

/-- The image as the running one: `slot` 0 A, 1 B, 2 push. -/
def fwImageOf (slot : Nat) (l : List Byte) : FwImage :=
  { slot := slot, ver := word (fieldAt l 8 4), svn := fieldAt l 12 2, keySlot := fieldAt l 14 1, meas := Config.shake256 (fwSigned l) 32 }

/-- Bytes of the image in work: a slot, or the boot window up to DEV_BOOT_LEN (20 R637). -/
def State.imageBytes (s : State) (slot : Nat) : List Byte :=
  if slot < 2 then flashBytes s.sec.flash (slotBase slot) 0x200000
  else bytesAt s.sec.bootWin 0 (s.rf Reg.DEV_BOOT_LEN 0 23)

/-! ## FW_UPDATE (20 R648) -/

/-- The slot that a target code names: 0xFF is the one not running. -/
def State.fwTarget (s : State) (c : Nat) : Nat := if c = 0xFF then (if s.sec.start.fw.slot = 0 then 1 else 0) else c

/-- Banks that the source covers. -/
def srcBanks (e : Entry) : List Nat :=
  let a := e.p 1 1 * 0x40000 + e.p 4 4
  (List.range 8).filter (fun b => decide (b * 0x40000 < a + e.p 8 4) && decide (a < (b + 1) * 0x40000))

def State.fwUpdateOk (_ : State) (e : Entry) : Bool :=
  let fl := e.p 3 1
  decide (fl < 16) && (decide (e.p 2 1 ≤ 1) || e.p 2 1 == 0xFF) && e.zero 12 4
    && (if fl.testBit 3 then fl == 8 && e.zero 0 2 && e.zero 4 8
        else decide (e.p 0 1 ≤ 11) && decide (e.p 1 1 ≤ 7) && decide (e.p 4 4 < 0x40000)
          && decide (e.p 1 1 * 0x40000 + e.p 4 4 + e.p 8 4 ≤ 0x200000))

/-- The reads of the source: `n` bytes from offset `a` of an Island's banks; a bank in RETENTION wakes, and an uncorrectable byte is
reported (17 R555, R558). -/
def State.srcChecks (s : State) (bank0 : Nat) (bs : List Nat) (a n : Nat) : State :=
  forEach bs (fun s b =>
    let lo := max a (0x40000 * b)
    ((s.wakeBank (bank0 + b)).readCheck 2 (bank0 + b) (lo - 0x40000 * b) (min (a + n) (0x40000 * (b + 1)) - lo)).2) s

def State.fwUpdate (s : State) (tk : Ticket) (e : Entry) : State :=
  let only := (e.p 3 1).testBit 3
  let t := s.fwTarget (e.p 2 1)
  let a := e.p 1 1 * 0x40000 + e.p 4 4
  if !only && (t == s.sec.start.fw.slot || (srcBanks e).any (fun b => !s.bankHeld (8 * e.p 0 1 + b) [4, 5])) then
    s.reply tk stWRONG_STATE []
  else if s.lifecycle = 3 then s.reply tk stLOCKED []
  else if s.triad.mode = 3 then s.reply tk stDEGRADED []
  else if s.sec.fwJob.isSome then s.reply tk stBUSY []
  else
    let img := if only then some (s.imageBytes t)
      else s.loadSource ((e.p 3 1).testBit 1) (bytesAt (s.island (e.p 0 1)).shmem a (e.p 8 4))
    let s := if only then s else s.srcChecks (8 * e.p 0 1) (srcBanks e) a (e.p 8 4)
    (s.replyPending tk).updSec (fun x => { x with fwJob := some ⟨tk, t, e.p 3 1, img⟩ })

def cFwUpdate : CmdSpec := { op := 0x0D01, lenOk := lenIs 2, paramOk := State.fwUpdateOk, run := State.fwUpdate }

/-- A directory copy with the next sequence number, the slot's valid bit and measurement, and, when asked, the active slot. -/
def State.newDirectory (s : State) (slot : Nat) (meas : List Byte) (activate : Bool) : List Byte :=
  let d := match s.directory with
    | some (_, d) => d
    | none => overBytes (List.replicate 4096 0) 0 (leBytes 4 0x52494452)
  let d := overBytes d 4 (leBytes 4 (fieldAt d 4 4 + 1))
  let d := overBytes d 8 (leBytes 1 (if activate then slot else fieldAt d 8 1))
  let d := overBytes d 9 (leBytes 1 (fieldAt d 9 1 ||| 2 ^ slot))
  let d := overBytes d (16 + 32 * slot) (fitBytes 32 meas)
  overBytes d 4092 (leBytes 4 (crc32 (d.take 4092)))

/-- Write the older directory copy. -/
def State.writeDirectory (s : State) (slot : Nat) (meas : List Byte) (activate : Bool) : State :=
  let k := match s.directory with | some (k, _) => 1 - k | none => 0
  let d := s.newDirectory slot meas activate
  s.updSec (fun x => { x with flash := flashPut (flashErase x.flash (0x1000 * k) 0x1000) (0x1000 * k) d })

/-- Erase and program a slot. -/
def State.programSlot (s : State) (slot : Nat) (l : List Byte) : State :=
  s.updSec (fun x => { x with flash := flashPut (flashErase x.flash (slotBase slot) 0x200000) (slotBase slot) (l.take 0x200000) })

/-- RAISE_FLOOR burns the floor. -/
def State.raiseFloor (s : State) (flags : Nat) (l : List Byte) : State :=
  if flags.testBit 2 then s.updSec (fun x => { x with fuses := { x.fuses with svnFloor := max x.fuses.svnFloor (fieldAt l 12 2) } }) else s

/-- Steps 2 to 4, for an image that verifies; `good`: the slot reads back as it was written. -/
def State.fwProgram (s : State) (j : FwJob) (l : List Byte) (good : Bool) : State :=
  let meas := (fwImageOf j.target l).meas
  if j.flags.testBit 3 then (s.writeDirectory j.target meas true).finish j.tk stOK []
  else
    let s := s.programSlot j.target l
    if good then ((s.writeDirectory j.target meas (j.flags.testBit 0)).raiseFloor j.flags l).finish j.tk stOK []
    else s.reply j.tk stHW_FAULT []

/-- FW_UPDATE_DONE. -/
def State.fwDone (s : State) (good : Bool) : State :=
  match s.sec.fwJob with
  | none => s
  | some j =>
    let s := s.updSec (fun x => { x with fwJob := none })
    match j.image with
    | none => s.reply j.tk stSIG_INVALID []
    | some l =>
      if !(fwFormat l && s.fwSignedOk l) then (s.sigReport l).reply j.tk stSIG_INVALID []
      else if !s.fwFloorOk l then s.reply j.tk stREFUSED []
      else s.fwProgram j l good

/-! ## Attestation (20 R643, R644, R649) -/

/-- The bytes of "ryngo-identity". -/
def identityLabel : List Byte := [0x72, 0x79, 0x6E, 0x67, 0x6F, 0x2D, 0x69, 0x64, 0x65, 0x6E, 0x74, 0x69, 0x74, 0x79]

/-- SK.seed, SK.prf and PK.seed from the fused seed (20 R643). -/
def Fuses.identity (f : Fuses) : List Byte := Config.shake256 (f.seed ++ identityLabel) 96

/-- Step 8 generates the identity key (20 R643). -/
def State.identityKey (s : State) : State := s.updSec (fun x => { x with idKey := x.fuses.identity })

/-- The identity public key of 64 bytes: PK.seed and PK.root. -/
def identityPublic (k : List Byte) : List Byte := fitBytes 32 (k.drop 64) ++ fitBytes 32 (Config.slhRoot k)

/-- SEC_KERN_MEAS (20 R644). -/
def State.kernMeas (s : State) : List Byte :=
  Config.shake256 ((List.range 192).flatMap (fun e => (mget none s.sec.kern e).getD (List.replicate 32 0))) 32

def State.attestReport (s : State) (challenge : List Byte) : List Byte :=
  let f := s.sec.fuses
  let st := s.sec.start
  fitBytes 256 (fitBytes 32 challenge ++ leBytes 4 0x0192E1B0 ++ [f.revision] ++ leBytes 1 f.state ++ leBytes 1 st.fw.slot
    ++ leBytes 1 (f.programmed.toNat + 16 * f.revoked.toNat) ++ leBytes 8 f.serial.toNat ++ fitBytes 32 st.fw.meas
    ++ leBytes 4 st.fw.ver.toNat ++ leBytes 2 st.fw.svn ++ leBytes 2 f.svnFloor ++ fitBytes 32 s.kernMeas
    ++ leBytes 1 st.cause ++ leBytes 1 0 ++ leBytes 2 (s.rf Reg.DEV_START 0 10) ++ leBytes 2 (s.rf Reg.DEV_START 16 16))

def State.attest (s : State) (tk : Ticket) (e : Entry) : State :=
  if s.sec.attest.isSome then s.reply tk stBUSY []
  else (s.replyPending tk).updSec (fun x => { x with attest := some (tk, leBytes 32 (e.p 0 32)) })

def cAttest : CmdSpec := { op := 0x0D02, lenOk := lenIs 4, paramOk := fun _ _ => true, run := State.attest }

/-- A result in PARTIAL replies of 254 words and a final OK (03 R89). -/
def State.replyParts : Nat → State → Ticket → List Byte → State
  | 0, s, tk, l => s.finish tk stOK l
  | n + 1, s, tk, l => State.replyParts n (s.reply tk stPARTIAL (l.take 2032)) tk (l.drop 2032)

/-- ATTEST_DONE (20 R649). -/
def State.attestDone (s : State) : State :=
  match s.sec.attest with
  | none => s
  | some (tk, ch) =>
    let r := s.attestReport ch
    let l := r ++ identityPublic s.sec.idKey ++ fitBytes 49856 (Config.slhSign s.sec.idKey "ryngo-attest" r)
    let s := (s.updSec (fun x => { x with attest := none })).evt Reg.SEC_EVT seATTEST_DONE
    State.replyParts 24 s tk l

/-! ## Keys and lifecycle (20 R640, R641, R650) -/

/-- A fuse burn of 20 ms begins. -/
def State.burn (s : State) (w : BurnWhat) (tk : Option Ticket) : State :=
  s.updSec (fun x => { x with burns := x.burns ++ [⟨w, s.now + msTicks 20, tk⟩] })

/-- SEC_PROG_DATA. -/
def State.progData (s : State) : List Byte := (List.range 8).flatMap (fun w => leBytes 4 (s.rget (Reg.SEC_PROG_DATA w)).toNat)

/-- A guarded commit of SEC_PROG_SLOT (20 R640). -/
def State.progSlot (s : State) (w : Word) : State :=
  let k := fld w 0 2
  if fld w 24 8 = 0x5C ∧ s.lifecycle ≤ 1 ∧ s.sec.fuses.programmed.getLsbD k = false then s.burn (.slot k s.progData) none
  else s.evt Reg.SEC_EVT sePROG_REFUSED

/-- A guarded commit of SEC_LC_ADVANCE: the fuse burns at once (20 R641). -/
def State.lcAdvance (s : State) (w : Word) : State :=
  if fld w 24 8 = 0xC3 ∧ fld w 0 2 = s.sec.fuses.lifecycle + 1 then
    (s.updSec (fun x => { x with fuses := { x.fuses with lifecycle := fld w 0 2 } })).evt Reg.SEC_EVT seFUSE_DONE
  else s.evt Reg.SEC_EVT sePROG_REFUSED

/-- What a burn leaves in the fuses. -/
def Fuses.burnt (f : Fuses) : BurnWhat → Fuses
  | .slot k h => { f with programmed := f.programmed ||| BitVec.ofNat 4 (2 ^ k), slots := mput (List.replicate 32 0) f.slots k h }
  | .revoke k => { f with revoked := f.revoked ||| BitVec.ofNat 4 (2 ^ k) }

/-- FUSE_BURN_DONE: the oldest burn ends. -/
def State.burnDone (s : State) : State :=
  match s.sec.burns with
  | [] => s
  | b :: rest =>
    if s.now < b.due then s
    else
      let s := s.updSec (fun x => { x with burns := rest, fuses := x.fuses.burnt b.what })
      let s := s.evt Reg.SEC_EVT (seFUSE_DONE ||| (match b.what with | .revoke _ => seREVOKED | .slot _ _ => 0))
      match b.tk with
      | some tk => s.finish tk stOK []
      | none => s

def State.revokeOk (s : State) (e : Entry) : Bool :=
  decide (e.p 0 1 ≤ 3) && decide (e.p 1 1 + e.p 0 1 = 255) && e.zero 2 6
    && leBytes 8 (e.p 8 8) == (s.keyHash (e.p 0 1)).take 8

def State.revoke (s : State) (tk : Ticket) (e : Entry) : State :=
  let k := e.p 0 1
  if s.sec.fuses.programmed.getLsbD k = false then s.reply tk stWRONG_STATE []
  else if s.sec.start.fw.keySlot = k then s.reply tk stREFUSED []
  else if s.triad.mode = 3 then s.reply tk stDEGRADED []
  else if s.sec.fuses.revoked.getLsbD k then s.reply tk stOK []
  else (s.replyPending tk).burn (.revoke k) (some tk)

def cKeyRevoke : CmdSpec := { op := 0x0D03, lenOk := lenIs 2, paramOk := State.revokeOk, run := State.revoke }

end Sys2Proof.Machine
end

