-- ==== Sys2Proof/Machine/MemOps.lean ====
section
/-! DEFINITION. On-chip memory: banks and their owners, the scrubber, the march test and bulk transfers (17). -/

namespace Sys2Proof.Machine

/-! MEMCTL_EVT (17 R576). -/
def meCE : Nat := 0x001
def meURGENT : Nat := 0x004
def meMT_FAIL : Nat := 0x008
def meREPAIR : Nat := 0x010
def meSPARE_OUT : Nat := 0x020
def meDMA_DONE : Nat := 0x040
def meENABLE_PEND : Nat := 0x080
def meHANDOVER : Nat := 0x100
def meBAD_OWNER : Nat := 0x200

/-! ## Owners (17 R562, R563) -/

/-- An owner that a shared bank may have. -/
def ownerOk (n kind index : Nat) : Bool :=
  decide (n < 96) &&
    (if kind = 1 then decide (index < 192) && index / 16 == n / 8
     else if kind = 2 then index == n / 8
     else decide (3 ≤ kind) && decide (kind ≤ 5) && index == 0)

/-- A hand-over completes (17 R563). -/
def State.handDone (s : State) (n kind index : Nat) : State :=
  (s.updBank n (fun b => { b with owner := kind, index := index, hand := none })).evt Reg.MEMCTL_EVT meHANDOVER

/-- Accesses of engines that bank `n` has still to serve (09 R300, R301). -/
def State.bankQueued (s : State) (n : Nat) : Bool :=
  (List.range 16).any (fun j => (s.engine (16 * (n / 8) + j)).sh.any (fun x => x.2 / 0x40000 == n % 8))

/-- A hand-over begins: it completes at once, or when the accesses that the old owner has issued are served (17 R563). -/
def State.handBank (s : State) (n kind index : Nat) : State :=
  if s.bankQueued n then s.updBank n (fun b => { b with hand := some (kind, index) }) else s.handDone n kind index

/-- A committed write of MEMCTL_BANK_OWNER (17 R563). -/
def State.bankOwnerWrite (s : State) (w : Word) : State :=
  if ownerOk (fld w 24 7) (fld w 16 3) (fld w 0 8) then s.handBank (fld w 24 7) (fld w 16 3) (fld w 0 8)
  else s.evt Reg.MEMCTL_EVT meBAD_OWNER

/-- A pending write of MEMCTL_BANK_OWNER completes before a command of its master (03 R112). -/
def State.memSettle (s : State) : State :=
  match mget none s.bus.posted 0x80000 with
  | none => s
  | some p =>
    ((s.updBus (fun b => { b with posted := mput none b.posted 0x80000 none })).rset p.addr (p.value &&& 0x7F0700FF)).bankOwnerWrite p.value

/-! ## Bank states (17 R557 to R560) -/

/-- Ticks of the clearing of a bank: 4,096 cycles of its Island. -/
def State.clearTicks (s : State) (n : Nat) : Nat := if n < 96 then s.cycTicks (n / 8) 4096 else 6144

/-- Region code of a managed bank (17 R548, R556). -/
def bankRegion (n : Nat) : Nat := if n < 96 then 2 else if n < 128 then 3 else 4

/-- Every byte of a bank reads as 0 (17 R559). -/
def State.zeroBank (s : State) (n : Nat) : State :=
  let s := s.clearPoison (bankRegion n) n 0 0x40000
  if n < 96 then s.updIsland (n / 8) (fun x => { x with shmem := zeroBytes x.shmem (0x40000 * (n % 8)) 0x40000 })
  else if n < 128 then
    s.updCtxs (fun c => { c with ctx := c.ctx.filterMap (fun e => if e.1 / 2048 = n - 96 then e.2.zeroed.map (fun x => (e.1, x)) else some e) })
  else if n < 144 then s.updComp (fun c => { c with sdicts := c.sdicts.filter (fun e => decide (e.1 ≠ n - 128)) })
  else s

/-- SHUTDOWN is entered: the owner becomes NONE (17 R559); from ENABLE_PENDING it goes on (17 R560). DEDUCED (log entry 53). -/
def State.bankOff (s : State) (n : Nat) : State :=
  let st := (s.bank n).st
  if st = 2 ∨ st = 5 then s
  else if st = 6 then s.updBank n (fun b => { b with st := 5 })
  else s.updBank n (fun b => { b with st := 5, owner := 0, index := 0, entering := false, due := s.now + usTicks 5, hand := none })

/-- MEM_RETAIN ON (17 R557). -/
def State.bankOn (s : State) (n : Nat) : State :=
  let st := (s.bank n).st
  if st = 1 then s.wakeBank n
  else if st = 2 then s.updBank n (fun b => { b with st := 4, fromOff := true, due := s.now + usTicks 10 })
  else if st = 5 then (s.updBank n (fun b => { b with st := 6 })).evt Reg.MEMCTL_EVT meENABLE_PEND
  else s

/-- RETENTION is entered from ON (17 R557). -/
def State.bankRetain (s : State) (n : Nat) : State :=
  if (s.bank n).st = 0 then
    s.updBank n (fun b => { b with st := 1, entering := true, due := s.now + usTicks 1, retFrom := s.now })
  else s

def State.bankTo (s : State) (n state : Nat) : State :=
  if state = 0 then s.bankOn n else if state = 1 then s.bankRetain n else if state = 2 then s.bankOff n else s

/-! ## Commands in progress (17 R578, R579) -/

/-- A bank has reached the state that a MEM_RETAIN names. -/
def Bank.reached (b : Bank) (state : Nat) : Bool := b.st == state && !b.entering

/-- The banks that a job has not handed over: not ON yet, or with accesses of the old owner to serve. -/
def State.handLeft (s : State) (n : Nat) : Bool := (s.bank n).st != 0 || (s.bank n).hand.isSome

/-- One step of a job: banks that are ON are handed over; banks that have come ON enter RETENTION if it is asked. -/
def State.jobStep (s : State) (j : MemJob) : State × MemJob :=
  match j.owner with
  | some o =>
    let l := j.banks.filter (fun n => (s.bank n).st == 0 && !j.begun.contains n)
    let s := forEach l (fun s n => s.handBank n o.1 o.2) s
    (s, { j with banks := j.banks.filter s.handLeft, begun := j.begun ++ l })
  | none =>
    match j.state with
    | none => (s, { j with banks := [] })
    | some t =>
      let s := if t = 1 then forEach j.banks (fun s n => s.bankRetain n) s else s
      (s, { j with banks := j.banks.filter (fun n => !(s.bank n).reached t) })

/-- The final reply of a job that has ended. -/
def State.jobEnd (s : State) (j : MemJob) : State :=
  if j.banks.isEmpty then s.finish j.tk stOK [] else s.updMem (fun m => { m with jobs := m.jobs ++ [j] })

/-- Jobs go on. -/
def State.jobsGo (s : State) : State :=
  forEach s.mem.jobs (fun s j => let r := s.jobStep j; r.1.jobEnd r.2) (s.updMem (fun m => { m with jobs := [] }))

/-- After a bank has changed state, waiting accesses are served and then jobs go on (17 R558, R563). -/
def State.memProgress (s : State) : State := s.readsGo.jobsGo

/-- A hand-over completes when bank `n` has served the accesses of the old owner (17 R563); that of a posted write completes with it. -/
def State.handGo (s : State) (n : Nat) : State :=
  match (s.bank n).hand with
  | none => s
  | some o =>
    if s.bankQueued n || (mget none s.bus.posted 0x80000).any (fun p => fld p.value 24 7 == n) then s
    else (s.handDone n o.1 o.2).jobsGo

/-- BANK_OWNER_HANDOVER: the pending write of MEMCTL_BANK_OWNER begins its hand-over; it still waits for accesses of the old owner. -/
def State.handPosted (s : State) (w : Word) : State × Bool :=
  let n := fld w 24 7
  if ownerOk n (fld w 16 3) (fld w 0 8) && s.bankQueued n then
    (s.updBank n (fun b => { b with hand := some (fld w 16 3, fld w 0 8) }), true)
  else (s, false)

/-! ## Scrub agents (17 R564 to R568) -/

/-- Agent of a bank (17 R564). -/
def bankAgent (n : Nat) : Nat := if n < 96 then n / 8 else if n < 128 then 12 else 13

def State.scrub (s : State) (a : Nat) : Scrub := mget Scrub.reset s.mem.scrub a
def State.updScrub (s : State) (a : Nat) (f : Scrub → Scrub) : State :=
  s.updMem (fun m => { m with scrub := mupd Scrub.reset m.scrub a f })

def State.bankIsOn (s : State) (n : Nat) : Bool := (s.bank n).st == 0

/-- A line of 64 bytes that agent `a` scrubs: strong, and in a bank that is ON (17 R548, R564). -/
def State.agentLine (s : State) (a region unit line : Nat) : Bool :=
  if region = 0 then decide (unit < 192) && unit / 16 == a && decide (line < 256)
  else if region = 1 then decide (unit < 192) && unit / 16 == a && decide (line < 512) && mget false s.mem.strong unit
  else if region = 2 then decide (unit < 96) && unit / 8 == a && decide (line < 4096) && s.bankIsOn unit
  else if region = 3 then a == 12 && decide (96 ≤ unit) && decide (unit < 128) && decide (line < 4096) && s.bankIsOn unit
  else if region = 4 then a == 13 && decide (128 ≤ unit) && decide (unit < 208) && decide (line < 4096) && s.bankIsOn unit
  else if region = 5 then a == 14 && decide (unit < 3) && decide (line < 65536)
  else region == 6 && a == 14 && unit == 0 && decide (line < 16384)

/-- Key of a line in the agents' lists. -/
def lineKey (region unit line : Nat) : Nat := (region * 256 + unit) * 65536 + line

/-- Lines of a list that agent `a` scrubs now. -/
def State.agentSeen (s : State) (a : Nat) (l : SMap Bool) : Nat :=
  (l.filter (fun e => s.agentLine a (e.1 / 2 ^ 24) (e.1 / 65536 % 256) (e.1 % 65536))).length

/-- Lines of a lap of agent `a` (17 R564). -/
def State.agentLines (s : State) (a : Nat) : Nat :=
  let on := fun lo n => 4096 * ((List.range n).filter (fun k => s.bankIsOn (lo + k))).length
  if a < 12 then 4096 + 512 * ((islEngList a).filter (fun e => mget false s.mem.strong e)).length + on (8 * a) 8
  else if a = 12 then on 96 32
  else if a = 13 then on 128 80
  else 212992
where
  /-- Engines of a compute Island's agent. -/
  islEngList (a : Nat) : List Nat := (List.range 16).map (16 * a + ·)

/-- Single-bit errors are corrected and counted (17 R552). -/
def State.ceCount (s : State) (region n : Nat) : State :=
  if n = 0 then s else ((s.cntN Reg.MEMCTL_CE n).perf_ 9 0 region n).evt Reg.MEMCTL_EVT meCE

/-- An uncorrectable byte found by an agent: it is poisoned, reported and raises ALARM 0x0B01; a context becomes UNRELIABLE
(17 R553, R568; 10 R360). -/
def State.scrubUe (s : State) (region unit line : Nat) : State :=
  match s.firstPoison region unit (64 * line) 64 with
  | none => s
  | some o =>
    let s := s.ueReport region unit o true
    let s := s.alarm 0x0B01 1 (s.rget Reg.MEMCTL_UE_LOC).toNat (s.rget Reg.MEMCTL_UE_OFF).toNat
    if region = 3 then s.ctxBad ((unit - 96) * 2048 + line / 2) else s

/-- An agent reads and checks a line; `errs` gives the bytes in error by place, with true for a double-bit error (17 R565). DESIGN CHOICE (log entry 54). -/
def State.scrubRead (s : State) (region unit line : Nat) (errs : List (Nat × Bool)) : State :=
  let s := s.ceCount region (errs.filter (fun e => !e.2)).length
  let s := s.updMem (fun m => { m with
    poison := (errs.filter (fun e => e.2)).foldl (fun p e => mput false p (memKey region unit (64 * line + e.1)) true) m.poison })
  s.scrubUe region unit line

/-- The line is next: while a bank that is ON waits to be scrubbed first, only its lines are (17 R567). -/
def State.mayVisit (s : State) (a region unit : Nat) : Bool :=
  match (s.scrub a).next.find? (fun b => s.bankIsOn b.1) with
  | none => true
  | some b => decide (2 ≤ region) && decide (region ≤ 4) && unit == b.1

/-- One line is done: in the lap, and in its bank where that is scrubbed first, until all its 4,096 lines are. -/
def Scrub.visited (x : Scrub) (region unit line : Nat) : Scrub :=
  let k := lineKey region unit line
  let put (b : Nat × SMap Bool) : Nat × SMap Bool :=
    if decide (2 ≤ region) && decide (region ≤ 4) && unit == b.1 then (b.1, mput false b.2 k true) else b
  { x with seen := mput false x.seen k true, next := (x.next.map put).filter (fun b => decide (b.2.length < 4096)) }

/-- The lap completes: its duration in µs, and urgency ends (17 R564, R566). -/
def State.lapEnd (s : State) (a : Nat) : State :=
  if s.agentSeen a (s.scrub a).seen < s.agentLines a then s
  else
    let s := s.rset (Reg.MEMCTL_SCRUB_LAP a) (word (satNat (2 ^ 32 - 1) ((s.now - (s.scrub a).start) / 1500)))
    s.updScrub a (fun x => { x with start := s.now, seen := [], urgent := false })

/-- SCRUB_LINE (17 R565). -/
def State.scrubLine (s : State) (a region unit line : Nat) (errs : List (Nat × Bool)) : State :=
  if s.agentLine a region unit line && s.mayVisit a region unit then
    ((s.scrubRead region unit line errs).updScrub a (fun x => x.visited region unit line)).lapEnd a
  else s

/-- SCRUB_URGENT (17 R566). -/
def State.scrubUrgent (s : State) (a : Nat) : State :=
  let x := s.scrub a
  if x.urgent ∨ s.now - x.start ≤ usTicks (s.rget Reg.MEMCTL_SCRUB_URGENT_LAP).toNat then s
  else (s.updScrub a (fun x => { x with urgent := true })).evt Reg.MEMCTL_EVT meURGENT

/-- A bank that has spent longer than one lap in RETENTION is scrubbed next (17 R567). -/
def State.scrubNext (s : State) (n from_ : Nat) : State :=
  let a := bankAgent n
  if usTicks (s.rget (Reg.MEMCTL_SCRUB_LAP a)).toNat < s.now - from_ then
    s.updScrub a (fun x => { x with next := x.next.filter (fun b => b.1 != n) ++ [(n, [])] })
  else s

/-! ## Events of the banks (17 R557, R559) -/

/-- BANK_RETENTION_ENTERED. -/
def State.retentionEntered (s : State) (n : Nat) : State :=
  let b := s.bank n
  if b.st ≠ 1 ∨ !b.entering ∨ s.now < b.due then s
  else (s.updBank n (fun b => { b with entering := false })).memProgress

/-- BANK_WAKE_DONE. -/
def State.wakeDone (s : State) (n : Nat) : State :=
  let b := s.bank n
  if b.st ≠ 4 ∨ s.now < b.due then s
  else if b.fromOff then s.updBank n (fun x => { x with st := 3, fromOff := false, due := b.due + s.clearTicks n })
  else ((s.updBank n (fun x => { x with st := 0 })).scrubNext n b.retFrom).memProgress

/-- BANK_CLEAR_DONE: the bank reads as 0 and has its default owner (17 R559). -/
def State.clearDone (s : State) (n : Nat) : State :=
  let b := s.bank n
  if b.st ≠ 3 ∨ s.now < b.due then s
  else ((s.zeroBank n).updBank n (fun b => { Bank.reset n with keep := b.keep })).memProgress

/-- BANK_SHUTDOWN_DONE: OFF, or WAKING for a pending enable (17 R557). -/
def State.shutdownDone (s : State) (n : Nat) : State :=
  let b := s.bank n
  if s.now < b.due then s
  else if b.st = 5 then (s.updBank n (fun b => { b with st := 2 })).memProgress
  else if b.st = 6 then s.updBank n (fun x => { x with st := 4, fromOff := true, due := b.due + usTicks 10 })
  else s

/-! ## March test (17 R569 to R572) -/

/-- Array of a line: each managed bank, each engine's memories, each MiB of triad and command memory (17 R571). -/
def memArray (region unit line : Nat) : Nat :=
  if region ≤ 1 then 256 + unit
  else if region ≤ 4 then unit
  else if region = 5 then 512 + 4 * unit + line / 16384
  else 524

/-- MEMCTL_MT_POS (17 R576). -/
def mtPos (region unit line : Nat) : Word := word (region * 2 ^ 24 + unit * 2 ^ 16 + line)

/-- What a test of a line of the running PASS shows (17 R580). -/
def State.passNote (s : State) (inPass : Bool) (f : PassJob → PassJob) : State :=
  if inPass then s.updMem (fun m => { m with pass := m.pass.map f }) else s

/-- A failed line is mapped to a spare, or stays in service (17 R571). -/
def State.mtRepair (s : State) (inPass : Bool) (region unit line : Nat) : State :=
  let k := memArray region unit line
  if mget 0 s.mem.spares k < 8 then
    let s := (s.updMem (fun m => { m with spares := mupd 0 m.spares k (· + 1) })).passNote inPass (fun p => { p with repairs := p.repairs + 1 })
    (s.cnt Reg.MEMCTL_MT_REPAIR).evt Reg.MEMCTL_EVT meREPAIR
  else
    let s := s.passNote inPass (fun p => { p with spareOut := true })
    (s.evt Reg.MEMCTL_EVT meSPARE_OUT).alarm 0x0B02 2 (mtPos region unit line).toNat 0

def State.mtFail (s : State) (inPass : Bool) (region unit line : Nat) : State :=
  let s := (s.cnt Reg.MEMCTL_MT_FAIL).evt Reg.MEMCTL_EVT meMT_FAIL
  (s.passNote inPass (fun p => { p with fails := p.fails + 1 })).mtRepair inPass region unit line

/-- The line's Vmin enters the highest of the pass (17 R572). -/
def State.mtVmin (s : State) (a v : Nat) : State :=
  let s := s.updMem (fun m => { m with vmin := mupd 0 m.vmin a (max · v) })
  s.rset Reg.MEMCTL_MT_VMIN (word (max (s.rf Reg.MEMCTL_MT_VMIN 0 10) v))

/-- The running PASS has not tested the line yet: it tests every line once (17 R580). -/
def State.passWants (s : State) (region unit line : Nat) : Bool :=
  match s.mem.pass with
  | some p => !(mget false p.seen (lineKey region unit line))
  | none => false

/-- Word-line underdrive is on for the test, and its rate in lines per ms (17 R569, R572, R580): those of the PASS that wants the line, or
of MEMCTL_MT_CTRL. -/
def State.mtMargin (s : State) (inPass : Bool) : Bool :=
  match s.mem.pass with
  | some p => if inPass then p.margin else s.rb Reg.MEMCTL_MT_CTRL 30
  | none => s.rb Reg.MEMCTL_MT_CTRL 30
def State.mtRate (s : State) (inPass : Bool) : Nat :=
  match s.mem.pass with
  | some p => if inPass then p.rate else s.rf Reg.MEMCTL_MT_CTRL 0 16
  | none => s.rf Reg.MEMCTL_MT_CTRL 0 16

/-- The rate admits another test (17 R569): a ms begins with the first test after the last one ended. DESIGN CHOICE (log entry 54). -/
def Scrub.mtMay (x : Scrub) (now rate : Nat) : Bool := decide (x.mtFrom + msTicks 1 ≤ now) || decide (x.mtCount < rate)
def Scrub.mtTook (x : Scrub) (now : Nat) : Scrub :=
  if x.mtFrom + msTicks 1 ≤ now then { x with mtFrom := now, mtCount := 1 } else { x with mtCount := x.mtCount + 1 }

/-- MARCH_TEST_LINE: the line is read corrected, tested and written back (17 R569 to R572). -/
def State.marchLine (s : State) (a region unit line : Nat) (errs : List (Nat × Bool)) (fail : Bool) (vmin : Nat) : State :=
  let inPass := s.passWants region unit line
  if s.agentLine a region unit line && (s.rb Reg.MEMCTL_MT_CTRL 31 || inPass) && (s.scrub a).mtMay s.now (s.mtRate inPass) then
    let margin := s.mtMargin inPass
    let s := (s.scrubRead region unit line errs).updScrub a (fun x => x.mtTook s.now)
    let s := (s.cnt Reg.MEMCTL_MT_LINES).rset Reg.MEMCTL_MT_POS (mtPos region unit line)
    let s := s.passNote inPass (fun p => { p with seen := mput false p.seen (lineKey region unit line) true })
    let s := if fail then s.mtFail inPass region unit line else s
    if margin && !fail then s.mtVmin a vmin else s
  else s

/-! ## Bulk transfers (17 R573 to R575) -/

def stDma (s : State) (st : Nat) : State := s.updMem (fun m => { m with dma := { m.dma with status := st } })

/-- The parameters of a transfer are valid (17 R573). DEDUCED (log entry 55). -/
def State.dmaOk (s : State) : Bool :=
  let src := s.rget Reg.MEMCTL_DMA_SRC
  let dst := s.rget Reg.MEMCTL_DMA_DST
  let len := s.rf Reg.MEMCTL_DMA_LEN 0 19
  let dev := s.rf Reg.MEMCTL_DMA_DEV 0 8
  decide (fld src 24 7 < 96) && decide (fld dst 24 7 < 96) && decide (len % 16 = 0) && decide (16 ≤ len) && decide (len ≤ 262144)
    && decide (fld src 0 18 % 16 = 0) && decide (fld dst 0 18 % 16 = 0)
    && decide (fld src 0 18 + len ≤ 262144) && decide (fld dst 0 18 + len ≤ 262144) && dev != 0 && dev != 255

/-- Send a BULK message on its route (17 R574). -/
def State.sendBulk (s : State) (dev op status tag bank last off : Nat) (data : List Byte) : State :=
  match s.routePort dev with
  | none => s
  | some p =>
    s.sendMsg p 3 0 (leBytes 1 dev ++ leBytes 1 s.link.dev.id ++ leBytes 1 op ++ leBytes 1 status ++ leBytes 2 tag ++ leBytes 1 bank
      ++ leBytes 1 last ++ leBytes 4 off ++ leBytes 2 data.length ++ leBytes 2 0 ++ data)

/-- Send the WRITEs of a transfer from offset `k` on; an uncorrectable source read ends it (17 R575). -/
def State.bulkSend : Nat → State → (dev tag src so dst doff len k : Nat) → State
  | 0, s, _, _, _, _, _, _, _, _ => s
  | fuel + 1, s, dev, tag, src, so, dst, doff, len, k =>
    let n := min 224 (len - k)
    let r := s.readCheck 2 src (so + k) n
    if r.1 then
      (r.2.updMem (fun m => { m with dma := { m.dma with uncorr := true } })).sendBulk dev 0 0 tag dst 1 (doff + k) []
    else
      let s := s.sendBulk dev 0 0 tag dst (b2n (decide (len ≤ k + n))) (doff + k) (s.bankBytes (src / 8) (src % 8) (so + k) n)
      if len ≤ k + n then s else s.bulkSend fuel dev tag src so dst doff len (k + n)

/-- A write of 1 to MEMCTL_DMA_CTRL.go (17 R573). -/
def State.dmaGo (s : State) (d : Word) : State :=
  if !bit d 0 || s.mem.dma.busy then s
  else if !s.dmaOk then stDma s stBAD_PARAM
  else
    let src := s.rget Reg.MEMCTL_DMA_SRC
    let dst := s.rget Reg.MEMCTL_DMA_DST
    let b := fld src 24 7
    if !s.bankHeld b [3] then stDma s stREFUSED
    else
      let tag := (s.mem.dma.tag + 1) % 65536
      let s := s.wakeBank b
      let s := s.updMem (fun m => { m with
        dma := { m.dma with busy := true, tag := tag, deadline := s.now + s.fwdTicks, uncorr := false } })
      s.bulkSend 1200 (s.rf Reg.MEMCTL_DMA_DEV 0 8) tag b (fld src 0 18) (fld dst 24 7) (fld dst 0 18) (s.rf Reg.MEMCTL_DMA_LEN 0 19) 0

/-- The running transfer ends (17 R575). -/
def State.dmaEnd (s : State) (st : Nat) : State :=
  (s.updMem (fun m => { m with
    dma := { m.dma with busy := false, status := if m.dma.uncorr then stUNCORRECTABLE else st } })).evt Reg.MEMCTL_EVT meDMA_DONE

/-- A WRITE is refused: one DONE, and nothing further of the transfer is written (17 R575). -/
def State.bulkRefuse (s : State) (origin tag status : Nat) : State :=
  (s.updMem (fun m => { m with dma := { m.dma with refused := m.dma.refused ++ [(origin, tag)] } })).sendBulk origin 1 status tag 0 0 0 []

/-- A BULK WRITE for this device (17 R575). -/
def State.bulkTake (s : State) (m : Msg) : State :=
  let f := fun o n => fieldAt m.payload o n
  let n := f 6 1
  let origin := f 1 1
  let tag := f 4 2
  let off := f 8 4
  let data := (m.payload.drop 16).take (f 12 2)
  let last := decide (f 7 1 % 2 = 1)
  if s.mem.dma.refused.contains (origin, tag) then
    if last then s.updMem (fun m => { m with dma := { m.dma with refused := m.dma.refused.filter (· != (origin, tag)) } }) else s
  else if (s.bank n).refuses then s.bulkRefuse origin tag stWRONG_STATE
  else if 96 ≤ n ∨ s.bankHeld n [3] = false ∨ 0x40000 < off + data.length then s.bulkRefuse origin tag stREFUSED
  else
    let s := (s.wakeBank n).bankWrite (n / 8) (n % 8) off data
    if last then s.sendBulk origin 1 stOK tag 0 0 0 [] else s

/-- A BULK message for another device goes on (15 R511). -/
def State.bulkPass (s : State) (m : Msg) : State :=
  match s.routePort (fieldAt m.payload 0 1) with
  | some p => s.sendMsg p 3 0 m.payload
  | none => s

/-- A BULK DONE ends the transfer that it names (17 R575). -/
def State.bulkDone (s : State) (m : Msg) : State :=
  if s.mem.dma.busy ∧ s.mem.dma.tag = fieldAt m.payload 4 2 then s.dmaEnd (fieldAt m.payload 3 1) else s

/-- A BULK message of op `op` at the head of a port's VC3 (17 R574). -/
def State.onBulk (s : State) (p op : Nat) (f : State → Msg → State) : State :=
  match s.headMsg p 3 0 with
  | none => s
  | some m =>
    if fieldAt m.payload 2 1 ≠ op then s
    else if fieldAt m.payload 0 1 = s.link.dev.id then f (s.takeMsg p m) m
    else (s.takeMsg p m).bulkPass m

/-- No DONE within CMD_FWD_TIMEOUT (17 R575). -/
def State.dmaTimeout (s : State) : State :=
  if s.mem.dma.busy ∧ s.mem.dma.deadline ≤ s.now then s.dmaEnd stTIMEOUT else s

/-! ## Commands (17 R578 to R580) -/

def bankRange (a n : Nat) : List Nat := (List.range n).map (a + ·)

def State.assignOk (s : State) (e : Entry) : Bool :=
  let a := e.p 0 1
  let n := e.p 1 1
  decide (a < 96) && decide (1 ≤ n) && decide (n ≤ 8) && decide (a / 8 = (a + n - 1) / 8) && e.zero 3 1 && e.zero 6 2
    && ownerOk a (e.p 2 1) (e.p 4 2)

/-- A bank is being copied by KERNEL_LOAD, DICT_LOAD or a bulk transfer (17 R578). -/
def State.bankCopied (s : State) (n : Nat) : Bool :=
  s.ctx.loads.any (fun j => 8 * j.island + j.bank == n) || s.comp.loads.any (fun j => 8 * j.island + j.bank == n)
    || (s.mem.dma.busy && s.rf Reg.MEMCTL_DMA_SRC 24 7 == n)

def State.memAssign (s : State) (tk : Ticket) (e : Entry) : State :=
  let s := s.memSettle
  let bs := bankRange (e.p 0 1) (e.p 1 1)
  if bs.any (fun n => (s.bank n).refuses || (s.bank n).st == 6) then s.reply tk stWRONG_STATE []
  else if bs.any (fun n => s.bankCopied n) then s.reply tk stBUSY []
  else if bs.all (fun n => s.bankIsOn n && !s.bankQueued n) then
    (forEach bs (fun s n => s.handBank n (e.p 2 1) (e.p 4 2)) s).replyEffect tk stOK []
  else
    let s := (forEach bs (fun s n => s.wakeBank n) s).replyPending tk
    let r := s.jobStep ⟨tk, bs, none, some (e.p 2 1, e.p 4 2), []⟩
    r.1.jobEnd r.2

def cMemAssign : CmdSpec := { op := 0x0B01, lenOk := lenIs 1, paramOk := State.assignOk, run := State.memAssign }

def State.retainOk (_ : State) (e : Entry) : Bool :=
  let st := e.p 4 1
  decide (1 ≤ e.p 2 2) && decide (e.p 0 2 + e.p 2 2 ≤ 208) && (decide (st ≤ 2) || st == 0xFF) && decide (e.p 5 1 ≤ 2) && e.zero 6 2

/-- A context of the bank is assigned (10 R345). -/
def State.ctxHeld (s : State) (n : Nat) : Bool :=
  s.ctx.ctx.any (fun c => c.1 / 2048 == n - 96 && decide (c.2.island < 12))

/-- A dictionary bank is loaded or in use (13 R447, R450). -/
def State.dictHeld (s : State) (n : Nat) : Bool :=
  if n < 144 then (mget SDict.reset s.comp.sdicts (n - 128)).loaded || s.comp.loads.any (fun j => j.idx == n - 128)
  else (mget (0, 0, 0) s.comp.slots (n - 144)).1 != 0

/-- OFF is refused for a bank (17 R579). -/
def State.offRefused (s : State) (n : Nat) : Bool :=
  if n < 96 then (s.bank n).owner == 1 || (s.bank n).owner == 3 else if n < 128 then s.ctxHeld n else s.dictHeld n

/-- KEEP bits (17 R561, R579). -/
def State.setKeep (s : State) (flags : Nat) (n : Nat) : State :=
  s.updBank n (fun b => { b with keep := if flags = 1 then true else if flags = 2 then false else b.keep })

def State.memRetain (s : State) (tk : Ticket) (e : Entry) : State :=
  let s := s.memSettle
  let bs := bankRange (e.p 0 2) (e.p 2 2)
  let st := e.p 4 1
  if st = 2 ∧ bs.any (fun n => s.offRefused n) then s.reply tk stWRONG_STATE []
  else
    let s := s.replyPending tk
    let s := forEach bs (fun s n => (s.setKeep (e.p 5 1) n).bankTo n st) s
    let r := s.jobStep ⟨tk, bs, if st = 0xFF then none else some st, none, []⟩
    (r.1.jobEnd r.2).memProgress

def cMemRetain : CmdSpec := { op := 0x0B02, lenOk := lenIs 1, paramOk := State.retainOk, run := State.memRetain }

def State.memTestOk (_ : State) (e : Entry) : Bool := decide (e.p 0 1 ≤ 2) && decide (e.p 1 1 ≤ 1) && e.zero 4 4

/-- MEMCTL_MT_CTRL as STOP or BACKGROUND writes it (17 R580). -/
def State.mtCtrl (s : State) (e : Entry) : State :=
  let rate := if e.p 2 2 = 0 then s.rf Reg.MEMCTL_MT_CTRL 0 16 else e.p 2 2
  s.rset Reg.MEMCTL_MT_CTRL (word ((if e.p 0 1 = 1 then 2 ^ 31 else 0) + e.p 1 1 * 2 ^ 30 + rate))

/-- A pass starts: every line once; its highest Vmin starts anew (17 R572, R580). -/
def State.passStart (s : State) (tk : Ticket) (margin : Bool) (rate : Nat) : State :=
  (s.updMem (fun m => { m with pass := some ⟨tk, margin, rate, [], 0, 0, false⟩, vmin := [] })).rset Reg.MEMCTL_MT_VMIN 0

def State.memTest (s : State) (tk : Ticket) (e : Entry) : State :=
  if e.p 0 1 < 2 then (s.mtCtrl e).replyEffect tk stOK []
  else if s.mem.pass.isSome then s.reply tk stBUSY []
  else (s.replyPending tk).passStart tk ((e.p 1 1).testBit 0) (if e.p 2 2 = 0 then s.rf Reg.MEMCTL_MT_CTRL 0 16 else e.p 2 2)

def cMemTest : CmdSpec := { op := 0x0B03, lenOk := lenIs 1, paramOk := State.memTestOk, run := State.memTest }

/-- MEM_TEST_PASS_DONE (17 R580). -/
def State.passDone (s : State) : State :=
  match s.mem.pass with
  | none => s
  | some p =>
    if (List.range 15).all (fun a => decide (s.agentLines a ≤ s.agentSeen a p.seen)) then
      let v := if p.margin then s.rf Reg.MEMCTL_MT_VMIN 0 10 else 0
      (s.updMem (fun m => { m with pass := none })).finish p.tk (if p.spareOut then stHW_FAULT else stOK)
        (leBytes 4 p.seen.length ++ leBytes 2 p.fails ++ leBytes 2 p.repairs ++ leBytes 2 v ++ leBytes 6 0)
    else s

end Sys2Proof.Machine
end

