-- ==== Sys2Proof/Machine/TriadOps.lean ====
section
/-! DEFINITION. The triad's members and modes, Touchstone and the margin planner (18). -/

namespace Sys2Proof.Machine

/-! TRIAD_EVT (18 R607). -/
def teFENCED : Nat := 0x001
def teREADMITTED : Nat := 0x002
def teDEGRADED : Nat := 0x004
def teRESTART : Nat := 0x008
def teHALTED : Nat := 0x010
def teVOTER_FAIL : Nat := 0x020
def teSELFTEST_FAIL : Nat := 0x040
def teREPORT : Nat := 0x080
def teEXHAUSTED : Nat := 0x100
def teREPLAN : Nat := 0x200
def teCOMMON : Nat := 0x400

/-! ## Members and modes (18 R583) -/

/-- The triad has taken over: the start has ended (20 R630). -/
def State.triadOn (s : State) : Bool := s.sec.start.step == 0

def State.voting (s : State) : List Nat := (List.range 3).filter (fun n => (s.member n).st == 0)

def maskOf (l : List Nat) : Nat := l.foldl (fun m n => m ||| 2 ^ n) 0

/-- One change of the triad (18 R595). -/
def State.switch (s : State) (flags : Nat) : State := (s.cnt Reg.TRIAD_SWITCHES).evt Reg.TRIAD_EVT flags

/-- The mode; ALARM_N is released when TRIPLEX or DUPLEX is first reached (18 R598); and the control pause, which begins with COPY
or TEST and lasts until control runs again (18 R595). -/
def Triad.setMode (t : Triad) (mode now : Nat) : Triad :=
  let t' := { t with
    mode := mode, reached := t.reached || decide (mode < 2), alarm := t.alarm && (t.reached || !decide (mode < 2)) }
  if t.runs && !t'.runs then { t' with pauseFrom := now }
  else if !t.runs && t'.runs then { t' with pauseMaxUs := max t.pauseMaxUs ((now - t.pauseFrom) / 1500) }
  else t'

def State.setMode (s : State) (mode : Nat) : State := s.updTriad (fun t => t.setMode mode s.now)

/-- HALTED (18 R594). -/
def State.halt (s : State) : State :=
  let last := s.triad.mode
  let s := s.setMode 6
  let s := s.updTriad (fun t => { t with due := s.now + msTicks 100, donorTest := none })
  (s.switch teHALTED).alarm 0x0C15 3 last 0

/-- A self-test failure (18 R607). -/
def State.stFail (s : State) : State := (s.cnt Reg.TRIAD_ST_FAIL).evt Reg.TRIAD_EVT teSELFTEST_FAIL

/-- A member begins its full self-test of 1 ms (18 R588). -/
def State.memberTest (s : State) (n : Nat) : State := s.updMember n (fun m => { m with st := 2, due := s.now + msTicks 1 })

/-- Copy targets lose what they have received and start again with their self-test (18 R590, R592). -/
def State.abandonCopy (s : State) : State :=
  forEach ((List.range 3).filter (fun n => (s.member n).st == 3)) (fun s n => s.memberTest n) s

/-- The minority is fenced (18 R587). -/
def State.fence (s : State) (n cause : Nat) : State :=
  let s := (s.memberTest n).updMember n (fun m => { m with cause := cause })
  let s := (s.setMode 1).switch teFENCED
  s.alarm 0x0C10 1 n cause

/-- The two voting members disagree (18 R592). -/
def State.twoTest (s : State) : State :=
  let s := (s.abandonCopy.setMode 4).switch 0
  s.updTriad (fun t => { t with due := s.now + msTicks 1, donorTest := none })

/-- A disagreement of voting member `n` (18 R584, R587, R592). -/
def State.disagree (s : State) (n cause : Nat) : State :=
  if (s.member n).st ≠ 0 then s
  else
    let s := s.cnt Reg.TRIAD_VOTE_DIS
    if s.triad.mode = 0 then s.fence n cause
    else if s.triad.mode = 1 ∨ (s.triad.mode = 2 ∧ s.voting.length = 2) then s.twoTest
    else s

/-- TRIAD_DISAGREEMENT (18 R584): in COPY with the non-donor under test there is no vote. -/
def State.disagreement (s : State) (n cause : Nat) : State :=
  if s.triadOn && decide (s.triad.mode < 4) && s.triad.donorTest.isNone then s.disagree n cause else s

/-! ## Self-test slices and checkpoints (18 R585, R586, R593) -/

/-- The next multiple of a period after the current tick, from a due tick. -/
def nextDue (due per now : Nat) : Nat := due + per * ((now - due) / per + 1)

/-- All voting members differ from the expected value (18 R585). -/
def State.commonMode (s : State) : State := (s.evt Reg.TRIAD_EVT teCOMMON).alarm 0x0C17 3 0 0

/-- The voter failed to name the member it forced (18 R586). -/
def State.voterFail (s : State) (f : Option Nat) : State :=
  match f with
  | some n => (s.evt Reg.TRIAD_EVT teVOTER_FAIL).alarm 0x0C16 3 n 0
  | none => s

/-- The signatures of a slice: `l` are the voting members that differ from the expected value (18 R585, R591). DEDUCED (log entry 56). -/
def State.signatures (s : State) (l : List Nat) : State :=
  let s := forEach l (fun s _ => s.stFail) s
  if l.isEmpty then s
  else if s.triad.mode = 3 then s.halt
  else if l = s.voting then s.commonMode
  else forEach l (fun s n => s.disagree n 1) s

/-- SELFTEST_SLICE (18 R585, R586). -/
def State.slice (s : State) (bad : Nat) (voter : Option Nat) : State :=
  if s.triadOn && s.triad.runs && decide (s.triad.nextSlice ≤ s.now) then
    let s := s.updTriad (fun t => { t with nextSlice := nextDue t.nextSlice (msTicks 1) s.now })
    (s.signatures (s.voting.filter (fun n => bad.testBit n))).voterFail voter
  else s

/-- Bytes of a working region, and of it without the completion log (18 R581). -/
def workLen : Nat := 0x200000
def workKept : Nat := 0x1F0000

/-- A member's memory after a checkpoint: the working region, without the completion log, is copied into the checkpoint region (18
R593). -/
def checkpointed (m : SMap Byte) : SMap Byte :=
  m.filter (fun e => decide (e.1 < workLen))
    ++ (m.filter (fun e => decide (e.1 < workKept))).map (fun e => (e.1 + workLen, e.2))
    ++ m.filter (fun e => decide (workLen + workKept ≤ e.1))

/-- A member's memory after a RESTART: the working region comes back, the completion log stays (18 R593). -/
def restored (m : SMap Byte) : SMap Byte :=
  (m.filter (fun e => decide (workLen ≤ e.1) && decide (e.1 < workLen + workKept))).map (fun e => (e.1 - workLen, e.2))
    ++ m.filter (fun e => decide (workKept ≤ e.1))

/-- CHECKPOINT, at a command boundary: `bad` is the member whose signature differs; one survivor has nothing to compare (18 R593). -/
def State.checkpoint (s : State) (bad : Option Nat) : State :=
  if s.triadOn && s.triad.runs && !s.inTurn && decide (s.triad.nextCkpt ≤ s.now) then
    let s := s.updTriad (fun t => { t with nextCkpt := nextDue t.nextCkpt (msTicks 10) s.now })
    match bad with
    | some n => s.disagree n 1
    | none =>
      (forEach s.voting (fun s n => s.updMember n (fun m => { m with mem := checkpointed m.mem })) s).updTriad (fun t => { t with
        ckptNum := t.ckptNum + 1, replay := 0 })
  else s

/-! ## Re-admission (18 R588 to R590) -/

/-- Ticks of a copy with its start and join (18 R589). -/
def copyTicks : Nat := 1125000

/-- Copy targets wait, and no other member's test is about to end: the copy starts from the first voting member. -/
def State.copyStart (s : State) : State :=
  let wait := (List.range 3).any (fun n => (s.member n).st == 2 && decide ((s.member n).due ≤ s.now))
  if wait || !((List.range 3).any (fun n => (s.member n).st == 3)) || !(s.triad.mode == 1 || s.triad.mode == 3) then s
  else
    let s := (s.setMode 2).switch 0
    s.updTriad (fun t => { t with donor := s.voting.headD 0, due := s.now + copyTicks })

/-- A failed test of a fenced member: it is tested again 100 ms after this one began, or retired (18 R588). -/
def State.testFailed (s : State) (n : Nat) : State :=
  let k := (s.member n).fails + 1
  let s := (s.stFail).updMember n (fun m => { m with fails := k, st := if 8 ≤ k then 4 else 1, due := m.due + msTicks 99 })
  if 8 ≤ k then (s.switch 0).alarm 0x0C12 2 n k else s

/-- FENCED_SELFTEST_DONE (18 R588): while two members test each other it waits. -/
def State.fencedDone (s : State) (n : Nat) (pass : Bool) : State :=
  let m := s.member n
  if m.st = 2 ∧ m.due ≤ s.now ∧ (s.triad.mode = 1 ∨ s.triad.mode = 3) then
    (if pass then s.updMember n (fun m => { m with st := 3, fails := 0 }) else s.testFailed n).copyStart
  else s

/-- MEMBER_RETEST (18 R588). -/
def State.retest (s : State) (n : Nat) : State :=
  if (s.member n).st = 1 ∧ (s.member n).due ≤ s.now then s.memberTest n else s

/-- COPY_DONE: the targets join, with their memory written whole (18 R589, 17 R554). -/
def State.copyDone (s : State) : State :=
  if s.triad.mode ≠ 2 ∨ s.triad.donorTest.isSome ∨ s.now < s.triad.due then s
  else
    let ts := (List.range 3).filter (fun n => (s.member n).st == 3)
    let d := (s.member s.triad.donor).mem
    let s := forEach ts (fun s n => (s.updMember n (fun m => { m with st := 0, mem := d })).clearPoison 5 n 0 0x400000) s
    let s := (s.setMode (if s.voting.length = 3 then 0 else 1)).switch teREADMITTED
    s.alarm 0x0C11 0 (maskOf ts) s.triad.donor

/-- DONOR_FAIL (18 R590): the donor leaves and the non-donor tests itself. Without a non-donor the triad halts. -/
def State.donorFail (s : State) : State :=
  if s.triad.mode ≠ 2 ∨ s.triad.donorTest.isSome then s
  else
    match s.voting.filter (fun n => n != s.triad.donor) with
    | [] => s.halt
    | k :: _ => s.updTriad (fun t => { t with donorTest := some k, due := s.now + msTicks 1 })

/-- The others than `k`, unless retired, test themselves (18 R590, R592). -/
def State.testOthers (s : State) (k : Nat) : State :=
  forEach ((List.range 3).filter (fun n => n != k && (s.member n).st != 4)) (fun s n => s.memberTest n) s

/-- SIMPLEX on member `k` (18 R590, R592). -/
def State.simplex (s : State) (k why : Nat) : State :=
  let s := (s.testOthers k).setMode 3
  let s := (s.updTriad (fun t => { t with donorTest := none })).switch teDEGRADED
  s.alarm 0x0C13 2 k why

/-- NON_DONOR_SELFTEST_DONE (18 R590). -/
def State.nonDonorDone (s : State) (pass : Bool) : State :=
  match s.triad.donorTest with
  | none => s
  | some k =>
    if s.triad.mode ≠ 2 ∨ s.now < s.triad.due then s
    else if pass then s.simplex k 0
    else s.stFail.halt

/-- TWO_MEMBER_TEST_DONE: `pass` has the bits of the members that passed (18 R592). -/
def State.twoDone (s : State) (pass : Nat) : State :=
  if s.triad.mode ≠ 4 ∨ s.now < s.triad.due then s
  else
    let v := s.voting
    let good := v.filter (fun n => pass.testBit n)
    let bad := v.filter (fun n => !pass.testBit n)
    let s := forEach bad (fun s n => s.stFail.updMember n (fun m => { m with fails := m.fails + 1, cause := 1 })) s
    match good with
    | [] => s.halt
    | [k] => s.simplex k 1
    | _ => ((s.setMode 5).switch teRESTART).updTriad (fun t => { t with due := s.now + 525000 })

/-- The command `tk` gives no reply any more: what it has begun goes on without it (03 R118). -/
def State.withdraw (s : State) (tk : Ticket) : State :=
  let s := s.updCmd (fun c => { c with running := none, atBeacon := c.atBeacon.filter (fun r => r.tk != tk) })
  let s := s.updQtz (fun q => { q with
    chg := q.chg.map (fun c => if c.tk = some tk then { c with tk := none } else c)
    incPend := q.incPend.map (fun p => { p with tks := p.tks.filter (fun k => k != tk) }) })
  let s := s.updPerf (fun p => { p with slate := p.slate.map (fun x => { x with tks := x.tks.filter (fun k => k != tk) }) })
  s.updLag (fun l => { l with jobs := l.jobs.filter (fun j => j.tk != tk) })

/-- The command that ran when the disagreement arose returns DEGRADED, and is not executed again (03 R118). -/
def State.degrade (s : State) : State :=
  match s.cmd.running with
  | none => s
  | some tk => if s.works tk then (s.withdraw tk).reply tk stDEGRADED [] else s

/-- RESTART_DONE: control resumes from the checkpoint in DUPLEX (18 R593). -/
def State.restartDone (s : State) : State :=
  if s.triad.mode ≠ 5 ∨ s.now < s.triad.due then s
  else
    let s := forEach s.voting (fun s n => s.updMember n (fun m => { m with mem := restored m.mem })) s
    (((s.setMode 1).switch 0).alarm 0x0C14 2 s.triad.ckptNum s.triad.replay).degrade

/-- A write of 1 to TRIAD_ALARM.ack (18 R598). -/
def State.alarmAck (s : State) (d : Word) : State := if bit d 30 then s.updTriad (fun t => { t with alarm := false }) else s

/-! ## Plan (18 R602 to R606) -/

/-- Steps of the service Islands' fixed clocks (01 R29). -/
def svcFreq (i : Nat) : Nat := if i = 12 then 800 else if i = 15 then 500 else if i = 16 then 480 else 640

/-- Supply of an Island in mV. -/
def State.supply (s : State) (i : Nat) : Nat := if i < 12 then (s.island i).vdd else mget vddReset s.triad.svcVdd i

/-- Clock of an Island in steps. -/
def State.clockOf (s : State) (i : Nat) : Nat := if i < 12 then (s.island i).freq else svcFreq i

/-- The highest step of 480 to 960 whose V_min is at most `v` mV, searched downward. -/
def State.highest (s : State) (i v : Nat) : Option Nat :=
  ((List.range 481).map (fun k => 960 - k)).find? (fun f => decide (s.vMin i f ≤ v))

/-- F_req of an Island, at least the lowest clock. -/
def State.fReq (s : State) (i : Nat) : Nat := max 480 (s.freqReq i)

/-- Target of a compute Island under the policy (18 R603). -/
def State.target_ (s : State) (i : Nat) : Nat × Nat :=
  let x := s.island i
  if s.triad.policy = 0 then let f := max x.freq (s.fReq i); (f, s.vMin i f)
  else if s.triad.policy = 1 then
    let hold := mget x.vdd s.triad.vHold i
    match s.highest i hold with
    | some f => if f < s.fReq i then (s.fReq i, s.vMin i (s.fReq i)) else (f, hold)
    | none => (s.fReq i, s.vMin i (s.fReq i))
  else (x.freq, x.vdd)

/-- Target of any Island: a service Island keeps its clock (18 R603, 01 R29). -/
def State.planFor (s : State) (i : Nat) : Nat × Nat :=
  if i < 12 then s.target_ i
  else if s.triad.policy = 2 then (svcFreq i, s.supply i) else (svcFreq i, s.vMin i (svcFreq i))

/-- Regulators reach 650 mV at the lowest (01 R27, R29). DEDUCED (log entry 57). -/
def floorV (t : Nat × Nat) : Nat × Nat := (t.1, max 650 t.2)

/-- Action code of a PLAN entry (18 R606). -/
def State.actionOf (s : State) (i : Nat) (t : Nat × Nat) : Nat :=
  if 850 < t.2 then 4
  else b2n (decide (t.2 ≠ s.supply i)) + 2 * b2n (decide (t.1 ≠ s.clockOf i))

/-- The plan of every Island. -/
def State.plans (s : State) : List (Nat × Nat) := (List.range 18).map (fun i => floorV (s.planFor i))

def planAt (l : List (Nat × Nat)) (i : Nat) : Nat × Nat := l.getD i (0, 0)

/-- Headroom of a compute Island in mV (18 R606). -/
def State.headroom (s : State) (i : Nat) : Int := 850 - (s.vMin i (s.fReq i) : Int)

/-- h of 18 R606, in ticks: hours_offset plus the time since the last cold start. -/
def State.hTicks (s : State) : Nat := s.triad.hoursOff * 5400000000000 + s.now

/-- Fit of Island `i`. -/
def State.fitOf (s : State) (i : Nat) : List (Nat × Int) := mget [] s.triad.fits i

/-- A periodic report adds a point; the last 64 count (18 R606). -/
def State.addPoint (s : State) (i : Nat) : State :=
  s.updTriad (fun t => { t with fits := mput [] t.fits i (((s.hTicks, s.headroom i) :: s.fitOf i).take 64) })

/-- years × 10 as the PLAN entry carries it (18 R606). -/
def State.yearsOf (s : State) (i : Nat) : Nat :=
  let l := s.fitOf i
  if s.headroom i ≤ 0 then 0
  else if l.length < 4 then 0xFFFE
  else if Config.fitB l ≤ 10 then 0xFFFF
  else if 65533 < Config.fitYears l s.hTicks then 0xFFFF
  else Config.fitYears l s.hTicks

/-- An order that a newer plan sets aside is not made. -/
def State.dropPlan (s : State) (i : Nat) : State :=
  if 12 ≤ i then s.updTriad (fun x => { x with svcStep := mput none x.svcStep i none }) else s.updIsland i (fun x => { x with plan := none })

/-- Change an Island's operating point: a configured compute Island at its next boundary, another at once, a service Island
in steps of 5 mV (18 R605). -/
def State.applyPlan (s : State) (i : Nat) (t : Nat × Nat) : State :=
  if t = (s.clockOf i, s.supply i) then s.dropPlan i
  else if 12 ≤ i then
    s.updTriad (fun x => { x with svcStep := mput none x.svcStep i (some ⟨t.2, s.now + usTicks 10⟩) })
  else if (s.island i).cfg.isSome then s.updIsland i (fun x => { x with plan := some t })
  else s.planNow i t

/-- ISL_FREQ_REQ.max of each compute Island, from each report (18 R604). -/
def State.planMax (s : State) : State :=
  forEach (List.range 12) (fun s i => s.updIsland i (fun x => { x with fmax := (s.highest i 850).getD 0 })) s

/-- TRIAD_ISL_PLAN (18 R607). -/
def State.planRegs (s : State) (l : List (Nat × Nat)) : State :=
  forEach (List.range 18) (fun s i =>
    let t := planAt l i
    s.rset (Reg.TRIAD_ISL_PLAN i) (word (s.actionOf i t * 2 ^ 29 + t.1 % 1024 * 2 ^ 16 + t.2 % 1024))) s

/-- Islands that the plan leaves exhausted (18 R604). -/
def exhaustedOf (l : List (Nat × Nat)) : List Nat := (List.range 18).filter (fun i => decide (850 < (planAt l i).2))

/-- Mark exhausted Islands, and raise the alarm once per report (18 R604). -/
def State.markExhausted (s : State) (es : List Nat) : State :=
  let s := s.updTriad (fun t => { t with exhausted := es.map (fun i => (i, true)) })
  let s := s.rset Reg.TRIAD_MARGIN_EXH (word (maskOf es))
  if es.isEmpty then s else (s.evt Reg.TRIAD_EVT teEXHAUSTED).alarm 0x0C01 1 (maskOf es) s.triad.policy

/-- The planner runs; in SIMPLEX it applies nothing of its own (18 R591, R604, R605). -/
def State.planRun (s : State) : State :=
  let l := s.plans
  let es := exhaustedOf l
  let s := (s.planRegs l).planMax.markExhausted es
  if s.triad.mode = 3 then s
  else forEach ((List.range 18).filter (fun i => !es.contains i)) (fun s i => s.applyPlan i (planAt l i)) s

/-- SERVICE_VOLT_STEP of service Island 12 + `k` (18 R605). -/
def State.voltStep (s : State) (i : Nat) : State :=
  match mget none s.triad.svcStep i with
  | none => s
  | some v =>
    if s.now < v.due then s
    else
      let cur := s.supply i
      let new := if cur < v.target then min v.target (cur + 5) else max v.target (cur - 5)
      let s := s.updTriad (fun t => { t with
        svcVdd := mput vddReset t.svcVdd i new
        svcStep := mput none t.svcStep i (if new = v.target then none else some ⟨v.target, v.due + usTicks 10⟩) })
      (s.evt Reg.TRIAD_EVT teREPLAN).runProgress

/-! ## Touchstone (18 R599 to R601) -/

/-- A quotient; where the manual does not say how it is rounded, the choice between the two integers is open. -/
def openDiv (tag : Nat) (n d : Int) : Int := if n % d = 0 then n / d else if Config.roundUp tag n d then n / d + 1 else n / d

/-- Ring-oscillator drift in 0.001 % from the two counts of a gate, r0 in 2^-32 (18 R601). -/
def driftOf (i f g : Nat) : Int :=
  let d : Int := (g * Config.r0 i : Nat)
  if d = 0 then (Config.outOfRange16 (f : Int)).toInt else openDiv 1 (100000 * (d - (f * 2 ^ 32 : Nat))) d

/-- A signed 16-bit field. -/
def field16 (v : Int) : Nat := if -32768 ≤ v ∧ v ≤ 32767 then unsignedOf 16 v else (Config.outOfRange16 v).toNat

/-- The measured drifts: Islands beyond the list keep theirs. -/
def State.measure (s : State) (l : List (BitVec 24 × BitVec 24)) : State :=
  forEach ((l.take 18).zipIdx) (fun s x =>
    s.rset (Reg.TRIAD_RO_DRIFT x.2) (word (field16 (driftOf x.2 x.1.1.toNat x.1.2.toNat)))) s

/-- A section: its header and its entries, padded to `units` units in all (11 R382). -/
def section_ (id units : Nat) (l : List Byte) : List Byte := leBytes 2 id ++ leBytes 2 units ++ leBytes 12 0 ++ fitBytes (16 * (units - 1)) l

def secIsland (s : State) : List Byte :=
  section_ 1 10 ((List.range 18).flatMap (fun i =>
    leBytes 1 i ++ leBytes 1 (b2n (mget false s.triad.exhausted i)) ++ leBytes 2 (s.clockOf i) ++ leBytes 2 (s.supply i)
      ++ leBytes 2 (s.rf (Reg.TRIAD_RO_DRIFT i) 0 16)))

def secSram (s : State) : List Byte :=
  section_ 2 9 ((List.range 15).flatMap (fun a =>
    leBytes 1 a ++ leBytes 1 0 ++ leBytes 2 (mget 0 s.mem.vmin a) ++ leBytes 4 (s.rget (Reg.MEMCTL_SCRUB_LAP a)).toNat))

/-- Sum of a channel's four spans. -/
def State.spanSum (s : State) (c : Nat) : Int := ((List.range 4).map (fun k => ((s.td c).mica k).span)).sum

def secMica (s : State) : List Byte :=
  section_ 3 25 ((List.range 192).flatMap (fun c =>
    leBytes 2 (field16 (openDiv 2 (10 * (s.spanSum c - mget 0 s.triad.micaStart c)) 4))))

def secConverter (s : State) : List Byte := section_ 4 13 ((List.range 192).flatMap (fun c => leBytes 1 (s.cv c).drift))

def secLanes (s : State) : List Byte :=
  section_ 5 5 ((List.range 16).flatMap (fun l =>
    leBytes 1 (s.lane l).meritMean ++ leBytes 1 (s.lane l).meritMin ++ leBytes 1 (fld (s.lane l).eq 24 8) ++ leBytes 1 (s.lane l).st))

/-- The last pulse against its set level, in 0.01 %: the voltage in the voltage mode, else the current (18 R600, 04 R131). -/
def State.excDev (s : State) (c : Nat) : Nat :=
  let m := s.rget (Reg.CH_EXC_MEAS c)
  let level : Int := (s.rget (Reg.CH_EXC_LEVEL c)).toNat
  let v : Int := (signedOf 16 (if s.rf (Reg.CH_EXC_CTRL c) 1 2 = 1 then fld m 16 16 else fld m 0 16)).natAbs
  if (s.fe c).exc = .off then 0x8000
  else if level = 0 then (Config.outOfRange16 v).toNat
  else field16 (openDiv 3 (10000 * (v - level)) level)

def secExcitation (s : State) : List Byte := section_ 6 25 ((List.range 192).flatMap (fun c => leBytes 2 (s.excDev c)))

/-- MEMCTL_SCRUB_STAT.urgent (17 R566). -/
def State.urgentMask (s : State) : Nat := maskOf ((List.range 15).filter (fun a => (s.scrub a).urgent))

def secEcc (s : State) : List Byte :=
  let r := fun a => leBytes 4 (s.rget a).toNat
  section_ 7 3 (r Reg.MEMCTL_CE ++ r Reg.MEMCTL_UE ++ r Reg.MEMCTL_MT_FAIL ++ r Reg.MEMCTL_MT_REPAIR
    ++ leBytes 2 (s.rf Reg.MEMCTL_MT_VMIN 0 10) ++ leBytes 2 s.urgentMask
    ++ leBytes 4 (((List.range 15).map (fun a => (s.rget (Reg.MEMCTL_SCRUB_LAP a)).toNat)).foldl max 0)
    ++ leBytes 2 (s.mem.spares.filter (fun e => decide (8 ≤ e.2))).length)

def secPlan (s : State) (l : List (Nat × Nat)) : List Byte :=
  section_ 8 13 ((List.range 12).flatMap (fun i =>
    let t := planAt l i
    leBytes 1 i ++ leBytes 1 (s.actionOf i t) ++ leBytes 1 s.triad.policy ++ leBytes 1 (s.fitOf i).length ++ leBytes 2 t.1
      ++ leBytes 2 t.2 ++ leBytes 2 (field16 (s.headroom i)) ++ leBytes 2 (s.yearsOf i)
      ++ leBytes 2 (field16 (Config.fitA (s.fitOf i))) ++ leBytes 2 (unsignedOf 16 (Config.fitB (s.fitOf i)))))

/-- Sections of a report in ascending order; `mask` 0 is all (18 R600, R609). -/
def State.sections (s : State) (mask : Nat) (l : List (Nat × Nat)) : List (List Byte) :=
  let on := fun k x => if mask = 0 ∨ mask.testBit k then [x] else []
  on 0 (secIsland s) ++ on 1 (secSram s) ++ on 2 (secMica s) ++ on 3 (secConverter s) ++ on 4 (secLanes s) ++ on 5 (secExcitation s)
    ++ on 6 (secEcc s) ++ on 7 (secPlan s l)

/-- The TOUCHSTONE record of a report (11 R382). -/
def State.reportRec (s : State) (cause mask : Nat) (l : List (Nat × Nat)) : Rec :=
  let ss := s.sections mask l
  let r := mkRec tTOUCHSTONE 5 0 s.beacon 0 0 2 [(20, 2, s.triad.num), (22, 1, cause), (23, 1, ss.length)]
  { r with body := r.body ++ ss.flatten }

/-- A report is made (18 R599). -/
def State.report (s : State) : State :=
  let s := s.updTriad (fun t => { t with num := (t.num + 1) % 65536 })
  let s := (s.rset Reg.TRIAD_TS_TS_LO (word s.beacon.toNat)).rset Reg.TRIAD_TS_TS_HI (word (s.beacon.toNat / 2 ^ 32))
  s.evt Reg.TRIAD_EVT teREPORT

/-- TRIAD_ISL_YEARS of the compute Islands. -/
def State.yearsRegs (s : State) : State :=
  forEach (List.range 12) (fun s i => s.rset (Reg.TRIAD_ISL_YEARS i) (word (field16 (s.headroom i) * 65536 + s.yearsOf i))) s

/-- The periodic report: its record, and the plan made from it (18 R599, R606). -/
def State.periodic (s : State) : State :=
  let s := s.report
  let s := (forEach (List.range 12) (fun s i => s.addPoint i) s).yearsRegs
  (s.toPort 12 (s.reportRec 0 0 s.plans)).planRun

/-- A HEALTH_REPORT ends (18 R609). -/
def State.healthDone (s : State) (j : ReportJob) : State :=
  let s := (s.updTriad (fun t => { t with job := none })).report.planMax
  let r := s.reportRec 1 j.mask s.plans
  let s := if j.record then s.toPort 12 r else s
  s.finish j.tk stOK r.body

/-- A periodic report is due (18 R599, R607). -/
def State.reportDue (s : State) : Bool := s.rb Reg.TRIAD_TS_CTRL 31 && decide (s.triad.nextReport ≤ s.now)

/-- TOUCHSTONE_REPORT with the oscillator counts of each Island: the HEALTH_REPORT in progress, else a periodic one. -/
def State.touchstone (s : State) (counts : List (BitVec 24 × BitVec 24)) : State :=
  if !s.triadOn || !s.triad.runs then s
  else
    match s.triad.job with
    | some j => (s.measure counts).healthDone j
    | none =>
      if s.reportDue then
        let s := s.updTriad (fun t => { t with
          nextReport := nextDue t.nextReport (s.rf Reg.TRIAD_TS_CTRL 0 24 * 1500000000) s.now })
        (s.measure counts).periodic
      else s

/-! ## Commands (18 R609, R610) -/

def State.healthReport (s : State) (tk : Ticket) (e : Entry) : State :=
  if s.triad.job.isSome then s.reply tk stBUSY []
  else (s.replyPending tk).updTriad (fun t => { t with job := some ⟨tk, e.p 0 1, (e.p 1 1).testBit 0⟩ })

def cHealthReport : CmdSpec :=
  { op := 0x0C01, lenOk := lenIs 1, paramOk := fun _ e => decide (e.p 1 1 ≤ 1) && e.zero 2 6, run := State.healthReport }

def State.policyOk (_ : State) (e : Entry) : Bool :=
  decide (e.p 0 1 ≤ 2) && decide (e.p 1 1 ≤ 1) && decide (10 ≤ e.p 2 2) && decide (e.p 2 2 ≤ 100) && e.zero 4 4 && e.zero 12 4

/-- The settings of MARGIN_POLICY; V_hold is taken at once (18 R603, R610). -/
def State.setPolicy (s : State) (e : Entry) : State :=
  s.updTriad (fun t => { t with
    policy := e.p 0 1, guard := e.p 2 2, hoursOff := e.p 8 4
    vHold := if e.p 0 1 = 1 then (List.range 12).map (fun i => (i, (s.island i).vdd)) else t.vHold })

def State.marginPolicy (s : State) (tk : Ticket) (e : Entry) : State :=
  if s.triad.mode = 3 then s.reply tk stDEGRADED []
  else
    let s := s.setPolicy e
    if (e.p 1 1).testBit 0 then
      let s := (s.replyPending tk).planRun
      (s.updTriad (fun t => { t with runJobs := t.runJobs ++ [tk] })).runProgress
    else s.replyEffect tk stOK []

def cMarginPolicy : CmdSpec := { op := 0x0C02, lenOk := lenIs 2, paramOk := State.policyOk, run := State.marginPolicy }

end Sys2Proof.Machine
end

