-- ==== Sys2Proof/Machine/StartOps.lean ====
section
/-! DEFINITION. Resets and the start sequence (20 R626 to R638), with what each chapter keeps through a warm start. -/

namespace Sys2Proof.Machine

/-! ## A cold start (20 R626, R627) -/

/-- DEV_STATUS.step while a supply is outside its limits (22 R668): no step of the start runs. DEDUCED (log entry 59). -/
def stepHeld : Nat := 19

/-- Every unit returns to its reset value. Fuses, flash, straps and the level of PERST_N stay; a lifecycle state that was burnt
takes effect (20 R641). -/
def State.coldStart (s : State) (cause : Nat) (bist full : Bool) : State :=
  { State.reset with
    pending := s.pending
    freeCtr := s.freeCtr
    out := s.out
    host := { HostIf.reset with perst := s.host.perst }
    sec := { Sec.reset with
      straps := s.sec.straps
      fuses := { s.sec.fuses with state := s.sec.fuses.lifecycle }
      flash := s.sec.flash
      start := { Start.reset with cause := cause, bist := bist, full := full } } }

/-! ## What a warm start keeps -/

/-- 14 R478: the time, INC and time_valid; the rest of Quartz is reset. -/
def Quartz.warm (q : Quartz) : Quartz :=
  { Quartz.reset with
    now := q.now, pll := q.pll, a := q.a, b := q.b, c := q.c, lastInc := q.inc, timeValid := q.timeValid, changes := q.changes
    secDue := q.secDue, wrapDue := q.wrapDue, reasons := q.reasons, reasonTime := q.reasonTime, beacon := q.beacon }

/-- Registers that a warm start keeps: DEV_WDOG, DEV_CTRL and DEV_WARM_CNT (20 R645), QTZ_JUMP_LIMIT and every QTZ_ASYM (14
R478), EM_IMAX while its page is locked (19 R624), CH_SAT_CNT and CH_DEC_DISC (05 R186), and CH_CORR and CH_TDC_SKEW until step 9 decides
(05 R186, 06 R238). -/
def keepsReg (emLocked : Bool) (a : Nat) : Bool :=
  let b := a % 0x4000000
  b == Reg.DEV_WDOG || b == Reg.DEV_CTRL || b == Reg.DEV_WARM_CNT || b == Reg.QTZ_JUMP_LIMIT || b == Reg.QTZ_ASYM
    || (emLocked && (List.range 8).any (fun n => b == Reg.EM_IMAX n))
    || (decide (0x100000 ≤ b) && decide (b < 0x400000)
      && ((decide (0x140 ≤ b % 0x4000) && decide (b % 0x4000 < 0x160)) || b % 0x4000 == 0x10C || b % 0x4000 == 0x110 || b % 0x4000 == 0x218 || b % 0x4000 == 0x21C))

def State.warmRegs (s : State) : SMap Word := s.regs.filter (fun p => keepsReg (s.rb Reg.EMIT_LOCK 0) p.1)

/-- Banks that carry KEEP; context banks only when all 32 do (17 R561, 10 R368). -/
def State.keptBank (s : State) (n : Nat) : Bool :=
  if 96 ≤ n ∧ n < 128 then (List.range 32).all (fun k => (s.bank (96 + k)).keep) else (s.bank n).keep

/-- The kept banks that hold their contents: ON, in RETENTION, or WAKING from it. DEDUCED (log entry 53). -/
def State.stays (s : State) (n : Nat) : Bool :=
  s.keptBank n && (decide ((s.bank n).st ≤ 1) || ((s.bank n).st == 4 && !(s.bank n).fromOff))

/-- A bank after a warm start: a kept one keeps its state and its owner, ENGINE becoming ISLAND; a KEEP bit stays in any case
(17 R561, R577). -/
def State.warmBank (s : State) (n : Nat) : Bank :=
  let b := s.bank n
  let r := { Bank.reset n with keep := b.keep }
  if s.stays n then
    { r with st := if b.st = 1 then 1 else 0, retFrom := b.retFrom, owner := if b.owner = 1 then 2 else b.owner,
             index := if b.owner = 1 then n / 8 else b.index }
  else r

/-- Poison of kept banks (17 R553, R561). -/
def State.warmPoison (s : State) : SMap Bool :=
  s.mem.poison.filter (fun e =>
    let region := e.1 / 2 ^ 22 / 256
    decide (2 ≤ region) && decide (region ≤ 4) && s.stays (e.1 / 2 ^ 22 % 256))

def State.warmMem (s : State) : Mem :=
  { Mem.reset with
    banks := (List.range 208).foldl (fun m n => mput (Bank.reset n) m n (s.warmBank n)) []
    spares := s.mem.spares
    poison := s.warmPoison }

/-- Islands after a warm start: the contents of their kept banks. -/
def State.warmIsl (s : State) : SMap Island :=
  (List.range 12).foldl (fun m i =>
    mput Island.reset m i { Island.reset with
      shmem := (s.island i).shmem.filter (fun e => s.stays (8 * i + e.1 / 0x40000)) }) []

/-- The context store (10 R368). -/
def State.warmCtx (s : State) : CtxStore :=
  if (List.range 32).all (fun k => s.stays (96 + k)) then { CtxStore.reset with ctx := s.ctx.ctx } else CtxStore.reset

/-- The policy, the guard, hours_offset and the retired members (18 R608). -/
def Triad.warm (t : Triad) : Triad :=
  { Triad.reset with
    policy := t.policy, guard := t.guard, hoursOff := t.hoursOff, vHold := t.vHold, micaStart := t.micaStart
    members := (t.members.filter (fun e => e.2.st == 4)).map (fun e => (e.1, { e.2 with mem := [] })) }

/-- What a port keeps so that its role can return when it has retrained (15 R506, R520): the role and the neighbour. -/
def Port.warm (x : Port) : Port :=
  { Port.reset with role := x.role, neighSerial := x.neighSerial, neighKnown := x.neighKnown }

/-- The ID, the routes, the stored equaliser settings, and what lets the roles return: the ports' roles and neighbours and the enumeration
number (15 R506, R520). DEDUCED (log entry 47). -/
def Link.warm (l : Link) : Link :=
  { Link.reset with
    lanes := (List.range 16).foldl (fun m k =>
      let x := mget Lane.reset l.lanes k
      mput Lane.reset m k { Lane.reset with eqStored := x.eqStored, full := x.full }) []
    ports := (List.range 4).foldl (fun m p => mput Port.reset m p (mget Port.reset l.ports p).warm) []
    dev := { LinkDev.reset with id := l.dev.id, routes := l.dev.routes, enumNum := l.dev.enumNum, hops := l.dev.hops } }

/-- Every vendor-specific capability is reset (16 R546). -/
def Pf.warm (f : Pf) : Pf := { f with rprBase := 0, rprWb := 0, rprEn := false, rprIrq := false }

/-- The endpoint: PERST_N resets it whole; another source leaves it, with its rings reset (16 R530, R546). -/
def HostIf.warm (h : HostIf) (perst : Bool) : HostIf :=
  if perst then { HostIf.reset with perst := true }
  else { h with pfs := (List.range 4).foldl (fun m n => mput Pf.reset m n (mget Pf.reset h.pfs n).warm) [], rings := [] }

/-- System conversions continue; the HK page is reset (05 R202). -/
def Hk.warm (h : Hk) : Hk :=
  { Hk.reset with free := h.free, sysNext := h.sysNext, sysInput := h.sysInput, sys := h.sys, hot := h.hot, warned := h.warned,
                  tripped := h.tripped }

/-- The start-up unit: straps, fuses and flash stay, burns go on, and the firmware copy is kept (20 R629, R632). -/
def Sec.warm (x : Sec) (cause : Nat) (bist full : Bool) : Sec :=
  { Sec.reset with
    straps := x.straps, fuses := x.fuses, flash := x.flash
    burns := x.burns.map (fun b => { b with tk := none })
    start := { Start.reset with
      warm := true, cause := cause, bist := bist, full := full, fw := x.start.fw, charTick := x.start.charTick
      charTemp := x.start.charTemp } }

/-- A converter keeps its stage weights, which the background calibration goes on with, until step 9 decides (05 R186). -/
def Conv.warm (v : Conv) : Conv :=
  { Conv.reset with
    weights := v.weights, bgDone := v.bgDone, bgEdges := v.bgEdges, bgBad := v.bgBad, bgQuiet := v.bgQuiet, converged := v.converged
    paused := v.paused, updates := v.updates }

def State.warmCh (s : State) : SMap Chan :=
  (List.range 192).foldl (fun m c => mput Chan.reset m c { Chan.reset with cv := (s.cv c).warm }) []

/-- Flint at a warm start: line 190 shows the state that the reference monitor keeps (08 R270). -/
def State.warmFlint (s : State) : Flint :=
  { Flint.reset with levels := if s.ref.st = 1 then mput (Level.resetOf 190) [] 190 ⟨true, []⟩ else [] }

/-- The state at the beginning of a warm start. -/
def State.warmState (s : State) (cause : Nat) (bist full : Bool) : State :=
  { State.reset with
    pending := s.pending, freeCtr := s.freeCtr, out := s.out
    qtz := s.qtz.warm
    regs := s.warmRegs
    own := { Own.reset with issued := s.own.issued }
    ch := s.warmCh
    fl := s.warmFlint
    hk := s.hk.warm
    ref := s.ref
    isl := s.warmIsl
    ctx := s.warmCtx
    link := s.link.warm
    host := s.host.warm (cause == 2)
    mem := s.warmMem
    triad := s.triad.warm
    sec := s.sec.warm cause bist full }

/-- What the kept state shows in registers: INC (14 R478), the warm count (20 R645) and the reference in effect (06 R231). -/
def State.warmShow (s : State) (inc : BitVec 36) (cause : Nat) : State :=
  let s := s.rset Reg.QTZ_INC_LO (word inc.toNat)
  let s := (s.rset Reg.QTZ_INC_HI (word (inc.toNat / 2 ^ 32))).cnt Reg.DEV_WARM_CNT
  let s := s.evt Reg.DEV_EVT (if cause = 3 then deWDOG else 0)
  (s.updStart (fun x => { x with since := s.now })).refSelect

/-- A warm start begins, unless a start is under way (20 R626, R627). -/
def State.warmStart (s : State) (cause : Nat) (bist full : Bool) : State :=
  if s.sec.start.step ≠ 0 ∧ s.sec.start.step ≠ 18 then s else (s.warmState cause bist full).warmShow s.qtz.inc cause

/-! ## Steps (20 R630) -/

/-- Step `k` is in progress. -/
def State.toStep (s : State) (k : Nat) : State := s.updStart (fun x => { x with step := k })

/-- Step `k` is shown as skipped. -/
def State.skipped (s : State) (k : Nat) : State := s.updStart (fun x => { x with skipped := x.skipped ||| 2 ^ (k - 1) })

/-- Time stops counting: a wait begins (20 R630). -/
def State.waitStep (s : State) (k : Nat) : State :=
  (s.toStep k).updStart (fun x => { x with acc := x.acc + (s.now - x.since), since := s.now })

/-- BOOT_SRC as it acts: 1 and 2 act as 0 without PCIe (20 R629). -/
def State.bootSrc (s : State) : Nat :=
  let b := s.sec.straps.bootSrc.toNat
  if !s.sec.straps.pcieEn && (b == 1 || b == 2) then 0 else b

/-- The next slot of the flash, or what follows when none is left (20 R636). -/
def State.loadNext (s : State) : State :=
  match s.slotOrder.filter (fun k => !s.sec.start.tried.contains k) with
  | k :: _ =>
    (s.toStep 6).updStart (fun x => { x with tried := x.tried ++ [k], cand := some { FwImage.reset with slot := k }, hashing := false })
  | [] => if s.bootSrc = 2 then s.waitStep 17 else s.toStep 18

/-- Firmware is loaded: from the host, or from the flash (20 R629, R637). -/
def State.loadBegin (s : State) : State := if s.bootSrc = 1 then s.waitStep 17 else s.loadNext

/-- The supply checks end (20 R629, 05 R202): system conversions begin, but in RETIRED; the first falls due after the 20 µs that lie between
two. DESIGN CHOICE (log entry 31). -/
def State.supplyOk (s : State) : State :=
  if s.sec.fuses.state = 3 then s
  else s.updHk (fun h => { h with sysNext := some (h.sysNext.getD (s.now + 30000)) })

/-- After step 1: a warm start skips the fuses and checks the lock. -/
def State.afterSupply (s : State) : State :=
  let s := s.supplyOk
  if s.sec.start.warm then (s.skipped 2).toStep 3 else s.toStep 2

/-- After the lock check of a warm start: the memory test runs when it is asked. -/
def State.afterLock (s : State) : State :=
  let s := s.skipped 3
  if s.sec.start.bist || s.rb Reg.DEV_CTRL 0 then s.toStep 4 else (s.skipped 4).toStep 5

/-- After the clearing, which a warm start shows as skipped (the example of 20: "DEV_START.skipped reads 0x07E"): a warm start hashes the retained copy, unless FULL. -/
def State.afterClear (s : State) : State :=
  let s := if s.sec.start.warm then s.skipped 5 else s
  if s.sec.start.warm && !s.sec.start.full then (s.toStep 6).updStart (fun x => { x with hashing := true }) else s.loadBegin

/-- The hash of the retained copy is known (20 R632). -/
def State.afterHash (s : State) (same : Bool) : State :=
  if same && s.activeSlot == some s.sec.start.fw.slot then ((s.skipped 6).skipped 7).toStep 8 else s.loadBegin

/-- The signature check of the image in work (20 R636 to R638). -/
def State.afterCheck (s : State) : State :=
  let slot := (s.sec.start.cand.getD FwImage.reset).slot
  let l := s.imageBytes slot
  if s.fwVerifies l then (s.updStart (fun x => { x with fw := fwImageOf slot l, cand := none })).toStep 8
  else
    let s := (s.sigReport l).updStart (fun x => { x with cand := none })
    if slot < 2 then (s.evt Reg.DEV_EVT deIMG_FALLBACK).loadNext else (s.evt Reg.DEV_EVT deBOOT_FAIL).waitStep 17

/-- Members that pass their bring-up self-test: a retired one counts as failed (18 R608). -/
def State.bringUp (s : State) (pass : Nat) : List Nat :=
  (List.range 3).filter (fun n => pass.testBit n && (s.member n).st != 4)

/-- The triad takes up its periodic work. -/
def State.triadTimes (s : State) : State :=
  s.updTriad (fun t => { t with
    nextSlice := s.now + msTicks 1, nextCkpt := s.now + msTicks 10
    nextReport := s.now + s.rf Reg.TRIAD_TS_CTRL 0 24 * 1500000000 })

/-- The triad starts on the members that pass (18 R608). -/
def State.triadStart (s : State) (pass : Nat) : State :=
  match s.bringUp pass with
  | [] => (s.toStep 0).halt
  | [k] =>
    let s := (s.testOthers k).setMode 3
    (s.switch teDEGRADED).alarm 0x0C13 2 k 2
  | l =>
    if l.length = 3 then s.setMode 0
    else
      let rest := (List.range 3).filter (fun n => !l.contains n && (s.member n).st != 4)
      (forEach rest (fun s n => s.memberTest n) s).setMode 1

/-- After step 8. -/
def State.afterTriad (s : State) (pass : Nat) : State :=
  let s := (s.triadStart pass).triadTimes.identityKey
  if (s.bringUp pass).isEmpty && s.triad.mode == 6 then s else s.toStep 9

/-- Codes of HK0 and HK1 together. -/
def State.hkSum (s : State) : Nat := mget 0 s.hk.sys 0 + mget 0 s.hk.sys 1

/-- Step 9 of a warm start is skipped: within 5 °C and 24 h of the last characterisation (20 R633). -/
def State.charKept (s : State) : Bool :=
  s.sec.start.warm && !s.sec.start.full &&
    (match s.sec.start.charTick with
     | none => false
     | some t => decide (s.now - t < 24 * 3600 * 1500000000) && decide (s.hkSum ≤ s.sec.start.charTemp + 100)
        && decide (s.sec.start.charTemp ≤ s.hkSum + 100))

/-- Cell addresses that the characterisation loads: eight CH_CORR and two CH_TDC_SKEW of each channel (05 R186, 06 R238). -/
def charCells : List Nat :=
  (List.range 192).flatMap (fun c =>
    (List.range 8).map (fun g => Reg.CH_CORR c g) ++ (List.range 2).map (fun d => Reg.CH_TDC_SKEW c d))

/-- The coefficients found: free values, as the silicon gives them, and the start-up weights. -/
def State.charLoad (s : State) : State :=
  let s := forEach charCells (fun s a => { s.rset a (Config.freeWord s.freeCtr) with freeCtr := s.freeCtr + 1 }) s
  let s := forEach (List.range 192) (fun s c => s.bgRestart c) s
  s.updStart (fun x => { x with charTick := some s.now, charTemp := s.hkSum })

/-- After step 9: the lanes train, fully or from their stored settings (15 R520), but in RETIRED (20 R641). -/
def State.afterChar (s : State) : State :=
  let s := if s.charKept then s.skipped 9 else s.charLoad
  let s := s.toStep 10
  if s.sec.fuses.state = 3 then s
  else forEach [0, 1, 2, 3] (fun s p => s.trainPort (!s.sec.start.warm) p) s

/-- START_STEP_DONE: `pass` holds in step 8 the members that pass, and in a hash-only step 6 in bit 0 whether the hash agrees. -/
def State.stepDone (s : State) (pass : Nat) : State :=
  let k := s.sec.start.step
  if k = 1 then s.afterSupply
  else if k = 2 then s.waitStep 16
  else if k = 3 then s.afterLock
  else if k = 4 then s.toStep 5
  else if k = 5 then s.afterClear
  else if k = 6 then (if s.sec.start.hashing then s.afterHash (pass.testBit 0) else s.toStep 7)
  else if k = 7 then s.afterCheck
  else if k = 8 then s.afterTriad pass
  else if k = 9 then s.afterChar
  else s

/-- The monitor runs from the first lock (06 R231, R236). -/
def State.refFirst (s : State) : State :=
  let s := s.updRef (fun r => { r with sel := s.refSel, nextWin := s.now + trefTicks s.refSel + trefTicks s.refSel / 4 })
  s.refState 0

/-- PLL_LOCK: the time is 0 (14 R478), and the device tick count begins (05 R160); `since` ticks count from the presence of TREF (20 R630, R631). -/
def State.pllLock (s : State) (since : Nat) : State :=
  if s.sec.start.step ≠ 16 then s
  else
    let s := s.updQtz (fun q => { Quartz.reset with now := q.now, pll := q.now })
    let s := s.updRef (fun r => { r with pllLocked := true })
    (s.refFirst.toStep 4).updStart (fun x => { x with acc := x.acc + since, since := s.now })

/-- Sum of the spans of each channel at the end of the start (18 R600). -/
def State.micaNote (s : State) : State :=
  s.updTriad (fun t => { t with micaStart := (List.range 192).foldl (fun m c => mput 0 m c (s.spanSum c)) [] })

/-- Duration of the start in ms, and its skipped steps, in DEV_START. -/
def State.startReg (s : State) : Word :=
  let x := s.sec.start
  word (satNat 65535 ((x.acc + (s.now - x.since)) / 1500000) * 65536 + x.skipped % 1024)

/-- START_COMPLETE (20 R634). -/
def State.startComplete (s : State) : State :=
  if s.sec.start.step ≠ 10 then s
  else
    let s := s.rset Reg.DEV_START s.startReg
    let s := (s.toStep 0).updStart (fun x => { x with endTick := s.now, tried := [] })
    (s.micaNote.evt Reg.DEV_EVT deSTARTED).alarm 0x0101 0 s.sec.start.cause s.sec.start.skipped

/-! ## Sources (20 R626) -/

/-- POWER_ON: the last supply enters its limits, with the straps at the balls (22 R669). -/
def State.powerOn (s : State) (st : Straps) : State := (s.coldStart 0 false false).updSec (fun x => { x with straps := st })

/-- SUPPLY_FAULT (22 R668): the device is in reset until every supply is back. -/
def State.supplyFault (s : State) : State := (s.coldStart 0 false false).toStep stepHeld

/-- DEV_RESET (20 R647). -/
def cDevReset : CmdSpec :=
  { op := 0x0102, lenOk := lenIs 1,
    paramOk := fun _ e => decide (e.p 0 1 ≤ 1) && decide (e.p 1 1 ≤ 3) && e.zero 2 6
    run := fun s tk e =>
      (s.reply tk stOK []).updStart (fun x => { x with
        resetPend := some ⟨s.now + msTicks 1, e.p 0 1 == 1, (e.p 1 1).testBit 0, (e.p 1 1).testBit 1⟩ }) }

/-- DEV_RESET_START (20 R647). -/
def State.resetStart (s : State) : State :=
  match s.sec.start.resetPend with
  | none => s
  | some r => if s.now < r.tick then s else if r.cold then s.coldStart 1 r.bist r.full else s.warmStart 4 r.bist r.full

/-- WATCHDOG_EXPIRY: the watchdog runs outside a start, HALTED and BOOT_FAIL (20 R628). -/
def State.watchdog (s : State) : State :=
  if s.sec.start.step ≠ 0 ∨ s.triad.mode = 6 then s else s.warmStart 3 false false

/-- HALT_RESET_TIMEOUT (18 R594). -/
def State.haltReset (s : State) : State :=
  if s.triad.mode = 6 ∧ s.sec.start.step = 0 ∧ s.triad.due ≤ s.now ∧ s.rb Reg.TRIAD_CTRL 0 then s.warmStart 5 false false else s

/-- PERST_ASSERT: ignored without PCIe (16 R547); the endpoint is held in reset (20 R627). -/
def State.perstAssert (s : State) : State :=
  if !s.sec.straps.pcieEn || s.sec.start.step == stepHeld then s
  else
    let s := s.updHost (fun h => { h with perst := true })
    let s := s.warmStart 2 false false
    s.updHost (fun _ => { HostIf.reset with perst := true })

/-- PERST_RELEASE (20 R627). -/
def State.perstRelease (s : State) : State := s.updHost (fun h => { h with perst := false })

/-- CONFIG_READY (16 R529): PERST_N is released and the supply checks of a cold start have ended. -/
def State.configReady (s : State) : State :=
  if s.sec.straps.pcieEn && !s.host.perst && (s.sec.start.warm || s.sec.start.step != 1) && s.sec.start.step != stepHeld then
    s.updHost (fun h => { h with cfgReady := true })
  else s

/-- A push ends: M0 writes 1 to DEV_BOOT_GO while the window is open (20 R637). -/
def State.bootGo (s : State) (w : Word) : State :=
  if s.sec.start.step = 17 ∧ bit w 0 then
    (s.toStep 7).updStart (fun x => { x with cand := some { FwImage.reset with slot := 2 }, since := s.now })
  else s

end Sys2Proof.Machine
end

