-- ==== Sys2Proof/Machine/HostOps.lean ====
section
/-! DEFINITION. The PCI Express functions: BAR2, resets of functions, configuration writes and MSI-X (16). -/

namespace Sys2Proof.Machine

/-! HOSTIF_EVT (16 R545). -/
def heDROP : Nat := 0x01
def heFLR : Nat := 0x02
def heRING_ERR : Nat := 0x04
def heLINK : Nat := 0x08
def heCFG_BUSY : Nat := 0x40

/-! ## BAR2 (16 R526 to R528) -/

/-- A posted write dropped under 02 R54 (16 R542). DESIGN CHOICE (log entry 52). -/
def State.postedDrop (s : State) (pf : Nat) : State :=
  ((s.cnt Reg.HOSTIF_POSTED_DROP).evt Reg.HOSTIF_EVT heDROP).emitOut (.aerNonFatal pf)

/-- The order of checks of 16 R527, after 03 R81 for the queue windows. DEDUCED (log entry 51). -/
def State.bar2Judge (s : State) (pf off : Nat) (l : List Byte) : State :=
  let r := s.bar2At off
  let w := word (leNat (l.take 4))
  match r with
  | .none => (s.postedDrop pf).bar2Log pf 1 rcBUS_ERR off w
  | .queue a =>
    if a / 0x20000 = pf then s.bar2Done pf off r l else s.bar2Log pf 2 rcNOT_OWNER off w
  | .boot _ =>
    if s.own.owner = some pf ∨ pf = 0 then s.bar2Done pf off r l else s.bar2Log pf 2 rcNOT_OWNER off w
  | .ctx _ =>
    if s.own.owner = some pf then s.bar2Log pf 4 rcLOCK_VIOL off w else s.bar2Log pf 2 rcNOT_OWNER off w
  | .bank n _ =>
    if s.own.owner ≠ some pf then s.bar2Log pf 2 rcNOT_OWNER off w
    else if s.bankHeld n [4] then s.bankTry pf off l
    else s.bar2Log pf 4 rcLOCK_VIOL off w

/-- BAR2_WRITE. -/
def State.bar2Write (s : State) (pf off : Nat) (l : List Byte) : State :=
  if s.hostServed then (s.hostIn pf l.length).bar2Judge pf off l else s

/-- BAR2_READ. -/
def State.bar2Read (s : State) (pf off n : Nat) : State :=
  if !s.hostServed then s
  else if s.bar2At off = .none then (s.bar2Log pf 0 rcBUS_ERR off 0).readAbort pf
  else s.readTry pf off n

/-- A request that PCI Express Base 5.0 calls a malformed TLP (a payload over Max_Payload_Size, a crossing of a 4 KiB boundary): it is
discarded and reported under AER as a fatal error. PRESUMED (log entry 2). -/
def State.malformed (s : State) (pf : Nat) : State := if s.hostServed then s.emitOut (.aerFatal pf) else s

/-- A read of no bytes completes without data (PCI Express Base 5.0). PRESUMED (log entry 2). -/
def State.readNothing (s : State) (pf : Nat) : State := if s.hostServed then s.complete pf [] false false else s

/-! ## Function Level Reset (16 R530, R531) -/

/-- HOST streams of PF `m` that are not CLOSED close without DRAIN. -/
def State.closeHost (s : State) (m : Nat) : State :=
  forEach ((List.range 64).filter (fun k => (s.stream k).st != 0 && !(s.stream k).up && (s.stream k).pf == m))
    (fun s k => s.closeStream k false ((s.stream k).close.bind SClose.tk)) s

/-- Rings of PF `m` are disabled. -/
def State.ringsOff (s : State) (m : Nat) : State :=
  forEach ((List.range 68).filter (fun k => s.ringPf k == m && (s.rb (ringCfg k) 31 || (s.ring k).st != 0)))
    (fun s k => (s.rsetf (ringCfg k) 31 1 0).updRing k (fun r => { HRing.reset with seq := r.seq })) s

/-- Entries of Mm that have not started are discarded; ownership of Mm becomes free; a hand-over to Mm finds it absent. -/
def State.flrMaster (s : State) (m : Nat) : State :=
  let s := s.updCmdq m (fun q => { q with head := q.tail })
  let s := s.updOwn (fun o => { o with
    handover := o.handover.map (fun h => if h.succ = m then { h with flr := true } else h) })
  if s.own.owner = some m then s.freeOwner 0 else s

/-- FLR of PF `m`, to its completion. DEDUCED (log entry 48). -/
def State.flr (s : State) (m : Nat) : State :=
  let s := ((s.closeHost m).ringsOff m).updPf m (fun _ => Pf.reset)
  let s := s.updHost (fun h => { h with waits := h.waits.filter (fun w => w.pf != m) })
  (s.flrMaster m).evt Reg.HOSTIF_EVT heFLR

/-- Hot reset and DL_Down: every function (16 R530). -/
def State.flrAll (s : State) : State := forEach [0, 1, 2, 3] (fun s m => s.flr m) s

/-- PCIE_LINK_CHANGE (16 R530, R542). -/
def State.linkChange (s : State) (up : Bool) (speed width : Nat) : State :=
  if !s.sec.straps.pcieEn || s.host.perst then s
  else
    let sp := if up then speed else 0
    let wd := if up then width else 0
    let changed := s.host.speed != sp || s.host.width != wd
    let down := s.host.up && !up
    let s := s.updHost (fun h => { h with up := up, speed := sp, width := wd })
    let s := if down then s.flrAll else s
    s.evt Reg.HOSTIF_EVT (if changed then heLINK else 0)

/-! ## MSI-X (16 R540) -/

/-- Pending vectors of PF `m` that nothing masks any more send their message. -/
def State.msixFlush (s : State) (m : Nat) : State :=
  let f := s.pf m
  if f.msixEn && !f.msixMask && s.pfLive m then
    forEach ((f.msix.filter (fun e => e.2.pend && !e.2.masked)).map Prod.fst)
      (fun s v => (s.updPf m (fun f => { f with msix := mupd MsixEnt.reset f.msix v (fun e => { e with pend := false }) })).emitOut
        (.msix m v)) s
  else s

/-- Word `w` of a table entry (PCI Express Base 5.0): address, address, data, control. -/
def MsixEnt.put (e : MsixEnt) (w : Nat) (d : Word) : MsixEnt :=
  if w = 0 then { e with addr := e.addr / 2 ^ 32 * 2 ^ 32 + d.toNat / 4 * 4 }
  else if w = 1 then { e with addr := e.addr % 2 ^ 32 + d.toNat * 2 ^ 32 }
  else if w = 2 then { e with data := d }
  else { e with masked := bit d 0 }

/-- MSIX_TABLE_WRITE. -/
def State.msixWrite (s : State) (m v w : Nat) (d : Word) : State :=
  if s.hostServed then
    (s.updPf m (fun f => { f with msix := mupd MsixEnt.reset f.msix v (fun e => e.put w d) })).msixFlush m
  else s

/-! ## Configuration space (16 R531 to R535, R691) -/

/-- RPR_CTRL: an enabled ring starts empty (16 R533, R535). -/
def State.rprCtrl (s : State) (m : Nat) (d : Word) : State :=
  let s := if bit d 0 && !(s.pf m).rprEn then s.updCmdq m (fun q => { q with rpTail := s.rf (Reg.CMD_RP_HEAD m) 0 5 }) else s
  (s.updPf m (fun f => { f with rprEn := bit d 0, rprIrq := bit d 1 })).resumeReplies m

/-- Power states that the function has: D0 and D3hot; another value is discarded (PCI Express Base 5.0). -/
def Pf.power (f : Pf) (d : Word) : Pf :=
  if fld d 0 2 = 3 then { f with d3hot := true } else if fld d 0 2 = 0 then { f with d3hot := false } else f

/-- Address bits of Base Address Register word `k`: BAR0 of 64 MiB, BAR2 of 256 MiB, BAR4 of 16 KiB, each of 64 bits (16 R525). -/
def barMask (k : Nat) : Word :=
  if k % 2 = 1 then 0xFFFFFFFF else if k = 0 then 0xFC000000 else if k = 2 then 0xF0000000 else 0xFFFFC000

/-- Registers of the function's configuration space that act on the device. -/
def Pf.config (f : Pf) (m off : Nat) (d : Word) : Pf :=
  if 0x010 ≤ off ∧ off < 0x028 then { f with bars := mput 0 f.bars ((off - 0x010) / 4) (d &&& barMask ((off - 0x010) / 4)) }
  else if off = 0x004 then { f with busMaster := bit d 2 }
  else if off = 0x044 then f.power d
  else if off = 0x090 then { f with msixEn := bit d 31, msixMask := bit d 30 }
  else if off = 0x150 ∧ m = 0 then { f with ptmEn := bit d 0 }
  else if off = 0x308 then { f with rprBase := f.rprBase / 2 ^ 32 * 2 ^ 32 + d.toNat / 4096 * 4096 }
  else if off = 0x30C then { f with rprBase := f.rprBase % 2 ^ 32 + d.toNat * 2 ^ 32 }
  else if off = 0x310 then { f with rprWb := f.rprWb / 2 ^ 32 * 2 ^ 32 + d.toNat / 4 * 4 }
  else if off = 0x314 then { f with rprWb := f.rprWb % 2 ^ 32 + d.toNat * 2 ^ 32 }
  else f

/-- Header of configuration space (16 R524, R525, R691), by word: IDs; status (capability list) and command; class code and revision of the fuses;
multi-function header; subsystem IDs; capabilities pointer; Interrupt Pin, which reads 0 (00 R5). -/
def State.configHeader (s : State) (m k : Nat) : Word :=
  if k = 0 then 0x01921F3E
  else if k = 1 then word (0x00100000 + at_ 2 (b2n (s.pf m).busMaster))
  else if k = 2 then word (0x11800000 + s.sec.fuses.revision.toNat)
  else if k = 3 then 0x00800000
  else if 4 ≤ k ∧ k < 10 then mget 0 (s.pf m).bars (k - 4) ||| (if k = 4 ∨ k = 8 then 0x4 else if k = 6 then 0xC else 0)
  else if k = 11 then 0x00011F3E
  else if k = 13 then 0x40
  else 0

/-- PCI-compatible capabilities (16 R691): power management, PCI Express with Function Level Reset, 512-byte payloads and extended and
10-bit tags (16 R524), and MSI-X of 256 vectors in BAR4. The numbers of the capabilities and the places of their bits are the standard's.
PRESUMED (log entry 52). -/
def State.configCap (s : State) (m off : Nat) : Word :=
  let f := s.pf m
  if off = 0x040 then 0x00035001
  else if off = 0x044 then word (if f.d3hot then 3 else 0)
  else if off = 0x050 then 0x00029010
  else if off = 0x054 then word (2 + at_ 5 1 + at_ 28 1)
  else if off = 0x074 then word (at_ 16 1 + at_ 17 1)
  else if off = 0x090 then word (0x00FF0011 + at_ 30 (b2n f.msixMask) + at_ 31 (b2n f.msixEn))
  else if off = 0x094 then 0x4
  else if off = 0x098 then 0x2004
  else 0

/-- Headers of the extended capabilities, in the order and with the next pointers of 16 R691: number of the capability in bits [15:0], version 1,
next pointer in bits [31:20]. PRESUMED (log entry 52) for the numbers and the version. -/
def extHeader (m off : Nat) : Nat :=
  let hdr (id next : Nat) : Nat := id + at_ 16 1 + at_ 20 next
  if off = 0x100 then hdr 0x0001 (if m = 0 then 0x148 else 0x300)
  else if off = 0x300 then hdr 0x000B 0
  else if m ≠ 0 then 0
  else if off = 0x148 then hdr 0x001F 0x158
  else if off = 0x158 then hdr 0x0019 0x188
  else if off = 0x188 then hdr 0x0025 0x198
  else if off = 0x198 then hdr 0x0026 0x1C8
  else if off = 0x1C8 then hdr 0x002A 0x1F8
  else if off = 0x1F8 then hdr 0x0027 0x300
  else 0

/-- The extended space: headers, the PTM control word, and the vendor-specific capability of R533. -/
def State.configExt (s : State) (m off : Nat) : Word :=
  let f := s.pf m
  if off = 0x150 then word (if m = 0 then b2n f.ptmEn else 0)
  else if off = 0x304 then word (1 + at_ 16 1 + at_ 20 0x20)
  else if off = 0x308 then word (f.rprBase % 2 ^ 32)
  else if off = 0x30C then word (f.rprBase / 2 ^ 32)
  else if off = 0x310 then word (f.rprWb % 2 ^ 32)
  else if off = 0x314 then word (f.rprWb / 2 ^ 32)
  else if off = 0x318 then word (b2n f.rprEn + at_ 1 (b2n f.rprIrq))
  else if off = 0x31C then word ((s.cmdq m).rpTail + at_ 8 (b2n (s.rpUsed m = 16)))
  else word (extHeader m off)

/-- What the word at offset `off` of PF `m`'s configuration space holds, where the spec gives it. No row of the table reads
configuration space, so this is a view of the state only (log entry 52). -/
def State.configWord (s : State) (m off : Nat) : Word :=
  if off < 0x040 then s.configHeader m (off / 4)
  else if off < 0x100 then s.configCap m off
  else s.configExt m off

/-- CONFIG_WRITE of a whole word; before the configuration space is ready the request is retried (16 R529). -/
def State.configWrite (s : State) (m off : Nat) (d : Word) : State :=
  if !s.hostServed then s
  else if off = 0x318 then s.rprCtrl m d
  else if off = 0x058 ∧ bit d 15 then s.flr m
  else ((s.updPf m (fun f => f.config m off d)).resumeReplies m).msixFlush m

/-- RPR_ENABLE: a write of RPR_CTRL. -/
def State.rprWrite (s : State) (m : Nat) (d : Word) : State := if s.hostServed then s.rprCtrl m d else s

end Sys2Proof.Machine
end

