-- ==== Sys2Proof/Machine/RegRead.lean ====
section
/-! DEFINITION. What a register shows: the RO fields that the state of a unit gives, page by page; every other register shows its
cell. -/

namespace Sys2Proof.Machine

/-- Words 0 and 1 of a TS48. -/
def tsLo (t : TS48) : Word := word t.toNat
def tsHi (t : TS48) : Word := word (t.toNat / 2 ^ 32)

/-- Word `w` of a byte string. -/
def wordAt (l : List Byte) (w : Nat) : Word := word (fieldAt l (4 * w) 4)

/-! ## DEV, OWN, CMD, REGCTL (20 R645, 03, 02) -/

def State.devStatus (s : State) : Word :=
  let x := s.sec.start
  word (at_ 27 x.step + at_ 25 s.lifecycle + at_ 24 (b2n (x.fw.slot == 1)) + at_ 22 s.sec.straps.bootSrc.toNat + at_ 17 (b2n x.warm))

def State.viewDev (s : State) (a off : Nat) : Word :=
  if off = 0x000 then 0x0192E1B0
  else if off = 0x008 then s.devStatus
  else if off = 0x00C then word s.sec.start.cause
  else if off = 0x028 then word s.sec.fuses.serial.toNat
  else if off = 0x02C then word (s.sec.fuses.serial.toNat / 2 ^ 32)
  else if off = 0x030 then s.sec.start.fw.ver
  else s.rget a

def State.ownState (s : State) : Word :=
  match s.own.owner with
  | none => 0
  | some m => word (at_ 31 1 + at_ 28 m + at_ 24 s.own.prio + s.leaseLeft % 2 ^ 20)

/-- OWN_TOKEN is seen through `readSeen`, which knows the reader. -/
def State.viewOwn (s : State) (a off : Nat) : Word :=
  if off = 0x000 then s.ownState
  else if off = 0x010 then word s.own.token.toNat
  else if off = 0x014 then word (s.own.token.toNat / 2 ^ 32)
  else s.rget a

/-- Reply word of the ring of M4 or M6 (03 R84). -/
def State.rpData (s : State) (m : Nat) : Word :=
  if m = 4 ∨ m = 6 then wordAt (bytesAt s.cmd.rp (0x8000 * m + 4 * s.rf (Reg.CMD_RP_ADDR m) 0 13) 4) 0 else 0

def State.cmdStat (s : State) (m : Nat) : Word :=
  word (at_ 8 (satNat 255 (s.cmd.fwd.filter (fun f => f.tk.m == m)).length) + ((s.cmdq m).tail + 128 - (s.cmdq m).head) % 128)

def State.viewCmd (s : State) (a off : Nat) : Word :=
  let m := off / 0x40
  let o := off % 0x40
  if 0x200 ≤ off then s.rget a
  else if o = 0x04 then word (s.cmdq m).head
  else if o = 0x0C then (if m = 4 ∨ m = 6 then word (s.cmdq m).rpTail else 0)
  else if o = 0x18 then s.rpData m
  else if o = 0x20 then s.cmdStat m
  else s.rget a

def State.viewRegctl (s : State) (a off : Nat) : Word :=
  if off = 0x004 then
    match s.bus.guard with
    | none => 0
    | some g => word (at_ 31 1 + at_ 28 g.m + g.addr % 2 ^ 26)
  else s.rget a

/-! ## QTZ (14 R477) -/

/-- QTZ_STATUS.follow. -/
def State.followCode (s : State) : Nat := if s.timeMaster then 0 else s.qtz.servo.follow

def State.qtzStatus (s : State) : Word :=
  let q := s.qtz
  word (at_ 30 s.followCode + at_ 29 (b2n q.timeValid) + at_ 28 (b2n q.incPend.isSome) + at_ 27 (b2n q.chg.isSome) + at_ 24 q.voteBad
    + at_ 22 (s.followPort.getD 0))

def State.refStatus (s : State) : Word :=
  word (at_ 30 s.ref.st + at_ 28 s.refSel + at_ 27 (b2n s.ref.ppsOk) + s.holdSeconds)

/-- The port that QTZ_PORT_SEL names. -/
def State.qtzPort (s : State) : Nat := s.rf Reg.QTZ_PORT_SEL 0 2

/-- The registers that QTZ_PORT_SEL banks; a DOWN port shows no delay and no offset. -/
def State.viewPort (s : State) (a off : Nat) : Word :=
  let p := s.qtzPort
  if off = 0x048 then (if (s.port p).role = 3 then 0 else word (s.delayOf p).toNat)
  else if off = 0x04C then (if (s.port p).role = 3 then 0 else word (unsignedOf 32 (s.offsetOf p)))
  else s.rget (banked a p)

def State.viewQtz (s : State) (a off : Nat) : Word :=
  if off = 0x008 then s.qtzStatus
  else if off = 0x00C then s.qtz.beacon.frac
  else if off = 0x010 then word s.qtz.beacon.ns.toNat
  else if off = 0x014 then word s.qtz.beacon.sec.toNat
  else if off = 0x018 then word (s.qtz.beacon.sec.toNat / 2 ^ 32)
  else if 0x048 ≤ off ∧ off ≤ 0x058 then s.viewPort a off
  else if off = 0x05C then (match s.qtz.msgFifo with | x :: _ => x.info | [] => 0)
  else if off = 0x068 then word s.qtz.ptm.t1.toNat
  else if off = 0x06C then word (at_ 16 (s.qtz.ptm.dialog % 65536) + s.qtz.ptm.t1.toNat / 2 ^ 32)
  else if off = 0x070 then s.qtz.ptm.rtt
  else if off = 0x078 then s.refStatus
  else s.rget a

/-! ## FLINT (08 R294) -/

def State.flintStat (s : State) (f : Nat) : Word :=
  let q := s.seqr f
  word (at_ 31 (b2n q.armed) + at_ 30 (b2n q.loaded) + at_ 29 (b2n (s.holding f)) + at_ 24 q.state + at_ 20 q.prev)

def State.viewSeqr (s : State) (a f o : Nat) : Word :=
  let q := s.seqr f
  if o = 0x00 then s.flintStat f
  else if o = 0x04 then 0
  else if o = 0x24 then word q.c0
  else if o = 0x28 then word q.c1
  else if o = 0x2C then word ((q.tmr 0).value s.now)
  else if o = 0x30 then word ((q.tmr 0).value s.now / 2 ^ 32)
  else if o = 0x34 then word ((q.tmr 1).value s.now)
  else if o = 0x38 then word ((q.tmr 1).value s.now / 2 ^ 32)
  else s.rget a

def State.viewFlint (s : State) (a off : Nat) : Word :=
  if off = 0x044 then
    (if s.rf Reg.FLINT_PROG_ADDR 0 12 ≤ 2111 then mget 0 s.fl.image (s.rf Reg.FLINT_PROG_ADDR 0 12) else 0)
  else if 0x100 ≤ off ∧ off < 0x300 then s.viewSeqr a ((off - 0x100) / 0x40) ((off - 0x100) % 0x40)
  else s.rget a

/-! ## HK, EMIT, TRIAD (05 R200, 19 R623, 18 R607) -/

/-- Input being converted: that of the scan conversion in progress; else that of the system conversion in progress, or of the next one
while nothing is converted. DESIGN CHOICE (log entry 31). -/
def Hk.input (h : Hk) : Nat :=
  match h.conv, h.scan with
  | some _, some x => x.left.headD 0
  | _, _ => h.sysInput

def State.viewHk (s : State) (a off : Nat) : Word :=
  if off = 0x008 then word (at_ 31 (b2n s.hk.scan.isSome) + at_ 30 (b2n s.hk.queued.isSome) + s.hk.input)
  else if off = 0x140 then word s.hk.beyond
  else s.rget a

def State.viewEmit (s : State) (a off : Nat) : Word :=
  if off = 0x004 then word (at_ 16 (satNat 65535 s.emit.preq) + s.emit.g)
  else if 0x100 ≤ off ∧ off < 0x300 ∧ off % 0x40 = 0x08 then (s.emitter ((off - 0x100) / 0x40)).status
  else s.rget a

/-- Members in one of the states given, once the triad has come up. -/
def State.memberMask (s : State) (sts : List Nat) : Nat := maskOf ((List.range 3).filter (fun n => sts.contains (s.member n).st))

/-- Step 8 of the start is done. -/
def State.triadUp (s : State) : Bool := s.sec.start.step == 0 || s.sec.start.step == 9 || s.sec.start.step == 10

def State.triadStatus (s : State) : Word :=
  word (at_ 29 s.triad.mode + at_ 26 (if s.triadUp then s.memberMask [0] else 0) + at_ 23 (s.memberMask [1, 2, 3])
    + at_ 20 (s.memberMask [4]))

def State.viewTriad (s : State) (a off : Nat) : Word :=
  if off = 0x004 then s.triadStatus
  else if 0x008 ≤ off ∧ off ≤ 0x010 then
    let m := s.member ((off - 8) / 4)
    word (at_ 29 m.st + at_ 8 (satNat 255 m.fails) + m.cause)
  else if off = 0x018 then word s.triad.pauseMaxUs
  else if off = 0x01C then word s.triad.ckptNum
  else if off = 0x030 then setFld (s.rget a) 31 1 (b2n s.alarmN)
  else if off = 0x044 then word s.triad.num
  else if off = 0x050 then word (at_ 30 s.triad.policy + s.triad.guard)
  else if off = 0x054 then word s.triad.hoursOff
  else s.rget a

/-! ## PERF (21 R663) -/

def State.snapStat (s : State) : Word :=
  let p := s.perf
  word (at_ 31 (b2n p.slate.isSome) + at_ 30 (b2n p.late) + at_ 24 p.srcLast + p.num % 65536)

/-- A register of the address has a snapshot copy: one of type RO, SEQ or CNT, once a Slate has been taken (21 R660, R662). -/
def snapKind : RegKind → Bool
  | .ro | .seq | .cnt | .cntLo | .cntHi => true
  | _ => false

def State.snapValid (s : State) : Bool :=
  s.perf.valid && (match target (s.rf Reg.PERF_SNAP_ADDR 0 26) with | some t => snapKind t.desc.kind && t.alias_ == 0 | none => false)

def State.viewPerf (s : State) (a off : Nat) : Word :=
  if off = 0x010 then s.snapStat
  else if off = 0x018 then setFld (s.rget a) 31 1 (b2n s.snapValid)
  else if off = 0x01C then (match target (s.rf Reg.PERF_SNAP_ADDR 0 26) with
    | some t => if s.snapValid then mget 0 s.perf.copies t.addr else 0
    | none => 0)
  else s.rget a

/-! ## MEMCTL, LAGOON, COMP (17 R576, 12 R419, 13 R447) -/

def State.bankWord (s : State) (n : Nat) : Word :=
  let b := s.bank n
  word (at_ 29 b.st + at_ 28 (b2n b.keep) + at_ 24 b.owner + at_ 16 b.index + at_ 8 (mget 0 s.mem.spares n))

def State.viewMem (s : State) (a off : Nat) : Word :=
  if off = 0x024 then word s.urgentMask
  else if off = 0x0D4 then word (at_ 31 (b2n s.mem.dma.busy) + s.mem.dma.status)
  else if 0x400 ≤ off ∧ off < 0x740 then s.bankWord ((off - 0x400) / 4)
  else s.rget a

/-- Effective priority of a queue's head record. -/
def State.headPrio (s : State) (n : Nat) : Nat :=
  let q := s.queue n
  match s.qHead n with
  | some e => q.effPrio (s.now - max (e.written + 5) q.headTick)
  | none => q.prio

def State.queueCfg (s : State) (n : Nat) : Word :=
  let q := s.queue n
  word (at_ 30 q.st + at_ 28 q.prio + at_ 26 (s.headPrio n) + at_ 20 q.port + at_ 12 q.cut + q.stream.getD 0x7F)

def State.viewQueue (s : State) (a n off : Nat) : Word :=
  let q := s.queue n
  if off = 0x084 then s.queueCfg n
  else if off = 0x088 then word q.quota
  else if off = 0x08C then word q.guar
  else if off = 0x090 then word q.occ
  else if off = 0x094 then word (at_ 16 q.hbUs + q.ageUs)
  else if off = 0x098 then word q.lagUs
  else if off = 0x09C then tsLo q.wmLast
  else if off = 0x0A0 then tsHi q.wmLast
  else if off = 0x0AC then 0
  else s.rget (banked a n)

def State.streamStat (s : State) (k : Nat) : Word :=
  let x := s.stream k
  let stalls := maskOf ((List.range 7).filter (fun i => match x.inputs[i]? with | some m => m.stalled | none => false))
  word (at_ 30 x.st + at_ 29 (b2n x.prioMode) + at_ 28 (b2n x.up) + at_ 26 x.pf + at_ 25 (b2n x.compress) + at_ 18 stalls
    + x.store.length % 8192)

def State.viewLag (s : State) (a off : Nat) : Word :=
  if off = 0x004 then word s.lag.free
  else if off = 0x008 then word s.lag.reserve
  else if off = 0x00C then word s.lag.poolMin
  else if off = 0x024 then word s.lag.routes.length
  else if off = 0x028 then word s.lag.storeUsed
  else if 0x084 ≤ off ∧ off ≤ 0x0AC then s.viewQueue a (s.rf Reg.LAG_Q_SEL 0 12) off
  else if 0x400 ≤ off ∧ off < 0x800 then
    let k := (off - 0x400) / 16
    if off % 16 = 0 then s.streamStat k
    else if off % 16 = 4 then tsLo (s.stream k).rel
    else if off % 16 = 8 then tsHi (s.stream k).rel
    else s.rget a
  else s.rget a

/-- A link block waits at decompressor `n` (13 R429). -/
def State.decLink (s : State) (n : Nat) : Bool := s.comp.blocks.any (fun b => 2 * b.port + b.origin % 2 == n)

/-- Use of decompressor `n`: a load is shown at the first one without a link block. DEDUCED (log entry 42). -/
def State.decUse (s : State) (n : Nat) : Nat :=
  if s.decLink n then 1
  else if s.comp.loads.any (fun j => j.comp) && (List.range n).all (fun k => s.decLink k) then 2 else 0

/-- Entries of the dictionary that slot `j` holds. -/
def State.slotEntries (s : State) (use k p : Nat) : Nat :=
  if use = 1 then (match s.cstream k with | some x => x.dict.length | none => 0)
  else if use = 2 then (mget DOrigin.reset s.comp.origins (p * 64 + k)).dict.length
  else 0

def State.viewComp (s : State) (a off : Nat) : Word :=
  if off = 0x01C then word (64 - (s.comp.slots.filter (fun e => e.2.1 != 0)).length)
  else if 0x100 ≤ off ∧ off < 0x180 then
    let i := (off - 0x100) / 8
    let d := s.sdict i
    if off % 8 = 0 then word (at_ 31 (b2n d.loaded) + at_ 30 (b2n (s.comp.dictInUse i)) + d.entries.length) else d.hash
  else if 0x200 ≤ off ∧ off < 0x280 ∧ off % 16 = 0 then word (s.comp.load ((off - 0x200) / 16))
  else if 0x300 ≤ off ∧ off < 0x380 ∧ off % 16 = 0 then word (at_ 30 (s.decUse ((off - 0x300) / 16)))
  else if 0x400 ≤ off ∧ off < 0x500 then
    let x := mget (0, 0, 0) s.comp.slots ((off - 0x400) / 4)
    word (at_ 30 x.1 + at_ 24 x.2.1 + at_ 20 x.2.2 + s.slotEntries x.1 x.2.1 x.2.2)
  else s.rget a

/-! ## HOSTIF, SEC (16 R545, 20 R646) -/

def State.hostLink (s : State) : Word := word (at_ 31 (b2n s.host.up) + at_ 24 s.host.speed + at_ 16 s.host.width)

def State.hostStatus (s : State) : Word :=
  word (at_ 31 (b2n s.sec.straps.pcieEn) + at_ 30 (b2n s.serves) + at_ 20 (maskOf ((List.range 4).filter (fun m => (s.pf m).d3hot)))
    + at_ 16 (maskOf ((List.range 4).filter (fun m => (s.pf m).rprEn))))

def State.ringWord (s : State) (k : Nat) : Word := word (at_ 30 (s.ring k).st + (s.ring k).next)

def State.viewHost (s : State) (a off : Nat) : Word :=
  if off = 0x004 then s.hostLink
  else if off = 0x008 then s.hostStatus
  else if 0x100 ≤ off ∧ off < 0x180 ∧ off % 0x20 = 0x0C then s.ringWord (64 + (off - 0x100) / 0x20)
  else if 0x400 ≤ off ∧ off < 0xC00 ∧ off % 0x20 = 0x10 then s.ringWord ((off - 0x400) / 0x20)
  else s.rget a

def State.viewSec (s : State) (a off : Nat) : Word :=
  let f := s.sec.fuses
  let fw := s.sec.start.fw
  if off = 0x004 then word (at_ 31 (b2n (f.state != f.lifecycle)) + at_ 2 f.lifecycle + f.state)
  else if off = 0x008 then word (at_ 4 f.revoked.toNat + f.programmed.toNat)
  else if off = 0x00C then word (at_ 16 fw.svn + fw.keySlot)
  else if off = 0x010 then word f.svnFloor
  else if off = 0x014 then word (b2n (!s.sec.burns.isEmpty))
  else if 0x020 ≤ off ∧ off < 0x040 then wordAt fw.meas ((off - 0x020) / 4)
  else if 0x040 ≤ off ∧ off < 0x060 then wordAt s.kernMeas ((off - 0x040) / 4)
  else if 0x080 ≤ off ∧ off < 0x0A0 then wordAt f.root ((off - 0x080) / 4)
  else if 0x100 ≤ off ∧ off < 0x180 then wordAt (mget (List.replicate 32 0) f.slots ((off - 0x100) / 32)) (off % 32 / 4)
  else s.rget a

/-! ## CH (04 R153, 05 R184, 06 R237, 07 R266) -/

def Front.status (x : Front) (stretched : Bool) : Word :=
  word (at_ 28 x.src + at_ 25 x.gain + at_ 24 (b2n x.settling) + at_ 21 x.exc.code + at_ 20 (b2n x.neg) + at_ 19 (b2n x.openWire)
    + at_ 18 (b2n x.excOpen) + at_ 17 (b2n x.excShort) + at_ 16 (b2n x.reversed) + at_ 15 (b2n (x.clampBalls != 0))
    + at_ 14 (b2n stretched))

/-- A stretched period runs on the channel (04 R150). -/
def Front.stretched (x : Front) : Bool := decide (256 < x.stretch) && !(x.exc == .off || x.exc == .fault)

/-- 2G (05 R177). -/
def ConvSet.twoG (x : ConvSet) : Nat := x.div - 1 + (if x.decEn then x.div * (68 * 2 ^ (x.k - 1) - 5) else 0)

/-- State of an interpolator in tick `now` (06 R211): CALIBRATE begins with V1, 25 ticks before ARMED. -/
def Mica.shown (m : Mica) (now : Nat) : Nat :=
  if m.st = .measure ∧ m.due ≤ now + 1 then MicaState.calibrate.code
  else if m.st = .calibrate ∧ now + 25 < m.due then MicaState.measure.code
  else m.st.code

def State.viewMica (s : State) (c i : Nat) : Word :=
  let m := (s.td c).mica i
  word (at_ 30 (m.shown s.now) + at_ 20 m.v1 + at_ 10 m.v2 + m.span.toNat % 1024)

def Tdc.maskIn (t : Tdc) (st : MicaState) : Nat := maskOf ((List.range 4).filter (fun i => (t.mica i).st == st))

def State.tdcStatus (s : State) (c : Nat) : Word :=
  let t := s.td c
  word (at_ 31 (b2n (mget Disc.reset t.discs 1).s) + at_ 30 (b2n (mget Disc.reset t.discs 0).s) + at_ 24 (t.maskIn .armed)
    + at_ 16 (t.maskIn .fault) + at_ 1 (b2n t.char.isSome) + b2n (t.freq.vw || (s.fe c).vwOn))

def CalJob.stateWord (j : CalJob) : Word := word (at_ 31 1 + at_ 24 (j.gains.headD 0) + at_ 16 j.phase)

/-- Flags of the last valid value, as CH_LAST_HI packs them: SUSPECT, OPEN, CLAMPED, UNSETTLED from bit 30 down. -/
def lastFlagBits (fl : Nat) : Nat :=
  at_ 3 (b2n (fl &&& fSUSPECT != 0)) + at_ 2 (b2n (fl &&& fOPEN != 0)) + at_ 1 (b2n (fl &&& fCLAMPED != 0)) + b2n (fl &&& fUNSETTLED != 0)

/-- Samples of the open window: those up to the last excursion sample and the post samples that have passed (07 R246, R266). -/
def Zs.len (z : Zs) (post : Nat) : Nat :=
  match z.win with
  | some w => satNat 65535 (4096 * w.part + w.samps.length + min post w.quiet.length)
  | none => 0

def State.viewConv (s : State) (a c off : Nat) : Word :=
  let v := s.cv c
  let l := s.lastOf c
  if off = 0x048 then word (unsignedOf 32 l.v)
  else if off = 0x04C then word (at_ 31 (b2n l.stale) + at_ 27 (lastFlagBits l.flags) + l.ts.toNat / 2 ^ 32)
  else if off = 0x054 then tsLo l.ts
  else if off = 0x108 then word (at_ 31 (b2n v.converged) + at_ 30 (b2n v.paused) + at_ 16 v.drift + v.updates % 65536)
  else if off = 0x114 then (match v.cal with | some j => j.stateWord | none => 0)
  else if off = 0x118 then word v.set.twoG
  else if off = 0x11C then word (v.set.twoG / 2 ^ 32)
  else s.rget a

def State.viewCh (s : State) (a c off : Nat) : Word :=
  if off = 0x004 then (s.fe c).status (s.fe c).stretched
  else if off = 0x0F0 then word (at_ 16 (satNat 65535 s.gov.preq) + s.gov.stretch)
  else if off = 0x20C then s.tdcStatus c
  else if 0x220 ≤ off ∧ off < 0x230 then s.viewMica c ((off - 0x220) / 4)
  else if off = 0x30C then word (at_ 31 (b2n (s.chan c).zs.win.isSome) + (s.chan c).zs.len (s.zsPost c))
  else if off = 0x334 then
    word (at_ 29 (s.chan c).cap.st.code + at_ 27 (b2n (s.chan c).cap.raw) + (s.chan c).cap.ring.length)
  else if off = 0x3F0 then s.rget (Reg.CH_EXPORT_BUDGET 0)
  else if off = 0x3F4 then word (satNat (2 ^ 20 - 1) s.exportUsed)
  else s.viewConv a c off

/-! ## LANE, LINK (15 R518, R519) -/

def State.viewLane (s : State) (a l off : Nat) : Word :=
  let x := s.lane l
  let p := s.lanePort l
  if off = 0x008 then word (at_ 29 x.st + at_ 28 (b2n (s.timingLane p == some l)) + at_ 24 p + x.merit)
  else if off = 0x00C then word (at_ 16 x.meritMin + at_ 8 x.meritMean)
  else if off = 0x014 then x.eq
  else if off = 0x018 then x.eqStored
  else if off = 0x020 then word x.gearbox
  else s.rget a

def State.linkStatus (s : State) (p : Nat) : Word :=
  let x := s.port p
  word (at_ 29 x.st + at_ 27 x.role + at_ 26 (b2n (s.ldev.up == some p && s.ldev.rooted)) + at_ 16 (s.lockedMask p) + at_ 8 x.neighId
    + s.ldev.hops)

def State.linkDev (s : State) : Word :=
  let d := s.ldev
  word (at_ 31 (b2n d.root) + at_ 30 (b2n d.rooted) + at_ 29 (b2n d.orphan) + at_ 28 (b2n d.enumActive) + at_ 16 d.id + d.up.getD 0)

def State.viewLink (s : State) (a p off : Nat) : Word :=
  let x := s.port p
  if off = 0x008 then s.linkStatus p
  else if off = 0x00C then word x.neighSerial.toNat
  else if off = 0x010 then word (x.neighSerial.toNat / 2 ^ 32)
  else if 0x030 ≤ off ∧ off < 0x040 then word (mget 0 x.tx.avail ((off - 0x030) / 4))
  else if off = 0x048 then (s.tmsgRead p).1
  else if off = 0x04C then (s.tmsgData p).1
  else if off = 0x200 then s.linkDev
  else if off = 0x204 then word s.ldev.enumNum
  else if off = 0x20C then (match mget none s.ldev.routes (s.rf Reg.LINK_ROUTE_SEL 0 8) with
    | some q => word (at_ 31 1 + q)
    | none => 0)
  else if off = 0x220 then word (at_ 31 (b2n s.ldev.racc.isSome) + s.ldev.raccStatus)
  else s.rget a

/-! ## ISL (09 R342, 10 R367) -/

def State.engMask (s : State) (i : Nat) (f : EngState → Bool) : Nat := maskOf ((List.range 16).filter (fun j => f (s.engine (16 * i + j)).st))

def PerCfg.ctrl (c : PerCfg) : Word := word (at_ 31 1 + at_ 30 (b2n c.deadlineMode) + c.frac)

def State.viewIsl (s : State) (a i off : Nat) : Word :=
  let x := s.island i
  if off = 0x004 then word (at_ 16 (s.engMask i EngState.runs) + s.engMask i (· == .fault))
  else if off = 0x008 then word (at_ 16 x.freq + x.vdd)
  else if off = 0x00C then word (at_ 16 x.fmax + s.freqReq i % 1024)
  else if off = 0x104 then (match x.cfg with | some c => c.ctrl | none => 0)
  else if off = 0x108 then (match x.cfg with | some c => word c.ticks | none => 0)
  else if off = 0x10C then (match x.cfg with | some c => word (c.ticks / 2 ^ 32) | none => 0)
  else if off = 0x110 then (match x.cfg with | some c => tsLo c.anchor | none => 0)
  else if off = 0x114 then (match x.cfg with | some c => tsHi c.anchor | none => 0)
  else if off = 0x118 then word x.num
  else if off = 0x11C then word (at_ 16 x.commitNs + x.applied)
  else if off = 0x120 then word x.staged.length
  else if off = 0x130 then word (s.ctx.ctx.filter (fun e => e.2.island == i)).length
  else if off = 0x134 then tsLo x.commitTs
  else if off = 0x138 then tsHi x.commitTs
  else s.rget a

def Eng.statWord (x : Eng) : Word :=
  word (at_ 29 x.st.code + at_ 28 (b2n x.loaded) + at_ 27 (b2n x.startPend) + at_ 26 (b2n x.stopPend) + x.issued % 4096)

def State.viewEng (s : State) (a e o : Nat) : Word :=
  let x := s.engine e
  if o = 0x00 then x.statWord
  else if o = 0x04 then word x.bind
  else if o = 0x08 then x.img.kid
  else if o = 0x0C then x.img.kver
  else if o = 0x10 then word (at_ 28 x.cause + at_ 16 x.consec + x.faultPc % 4096)
  else if o = 0x2C then word (satNat (2 ^ 32 - 1) x.maxCyc)
  else if o = 0x30 then word x.img.budgetStart
  else if o = 0x34 then word x.img.budgetItem
  else if o = 0x38 then word x.itemsMax
  else if o = 0x3C then word x.cycLast
  else s.rget a

/-! ## Any register -/

/-- A WO register reads as 0 (02 R56); the complement address of a guarded register shows the complement (02 R68); the
posted-write status register shows busy (02 R65). -/
def State.viewKind (s : State) (t : Target) (v : Word) : Word :=
  match t.desc.kind with
  | .wo => 0
  | .grdC => ~~~(s.rget (t.addr - 4))
  | .seq => if t.addr % 0x1000 = 0xFFC then setFld v 0 1 (b2n (mget none s.bus.posted t.page).isSome) else v
  | _ => v

/-- The register as its unit shows it. -/
def State.viewPage (s : State) (t : Target) : Word :=
  let a := t.addr
  let off := t.loc.off
  let u := t.loc.idx
  match t.loc.page with
  | .dev => s.viewDev a off
  | .own => s.viewOwn a off
  | .cmd => s.viewCmd a off
  | .regctl => s.viewRegctl a off
  | .qtz => s.viewQtz a off
  | .flint => s.viewFlint a off
  | .hk => s.viewHk a off
  | .emit => s.viewEmit a off
  | .triad => s.viewTriad a off
  | .perf => s.viewPerf a off
  | .perfCnt => s.rget a
  | .perfSel => s.rget a
  | .memctl => s.viewMem a off
  | .lagoon => s.viewLag a off
  | .comp => s.viewComp a off
  | .hostif => s.viewHost a off
  | .sec => s.viewSec a off
  | .ch => s.viewCh a u off
  | .lane => s.viewLane a u off
  | .link => s.viewLink a u off
  | .isl => s.viewIsl a u off
  | .islEng => s.viewEng a (16 * u + off / 256) (off % 256)

def State.view (s : State) (t : Target) : Word := s.viewKind t (s.viewPage t)

end Sys2Proof.Machine
end

