-- ==== Sys2Proof/Machine/PerfOps.lean ====
section
/-! DEFINITION. Bandwidth windows, dumps of counters and the latching of a Slate (21 R655 to R664). -/

namespace Sys2Proof.Machine

/-! ## Bandwidth (21 R655) -/

/-- Length of a window in µs. -/
def State.bwUs (s : State) : Nat := s.rf Reg.PERF_BW_WIN 0 20

/-- Each meter shows its MB/s of the window that ends. -/
def State.showMeters (s : State) : State :=
  forEach (List.range 20) (fun s m => s.rset (Reg.PERF_BW m) (word (satNat (2 ^ 20 - 1) (mget 0 s.perf.bytes m / s.bwUs)))) s

/-- BW_WINDOW_END: the window that has lasted its length ends, and the next one starts there. -/
def State.bwEnd (s : State) : State :=
  match s.perf.winStart with
  | none => s
  | some t =>
    if t + usTicks s.bwUs ≤ s.now then
      s.showMeters.updPerf (fun p => { p with bytes := [], winStart := some (t + usTicks s.bwUs) })
    else s

/-! ## Dumps (21 R656, R657) -/

/-- Entry `j` of a COUNTERS record (11 R382). -/
def State.dumpEntry (s : State) (first j : Nat) : List Byte :=
  let k := (first + j) % 1024
  let hi := s.rget (Reg.PERF_CNT_HI k)
  leBytes 4 (s.rget (Reg.PERF_CNT_LO k)).toNat ++ leBytes 2 (fld hi 0 16) ++ leBytes 2 (at_ 15 (b2n (bit hi 31)))

/-- The COUNTERS record of group `g`, not numbered (11 R382). -/
def State.dumpRec (s : State) (g : Nat) (ts : TS48) : Rec :=
  let first := s.rf (Reg.PERF_DUMP_CFG g) 0 10
  let n := s.rf (Reg.PERF_DUMP_N g) 0 11
  let head := mkRec tCOUNTERS 6 g ts 0 0 (2 + ceilDiv n 2)
    [(20, 2, first), (22, 2, n), (24, 4, (s.rget (Reg.PERF_DUMP_NUM g)).toNat + 1), (28, 4, s.bwUs)]
  { head with body := overBytes head.body 16 ((List.range n).flatMap (fun j => s.dumpEntry first j)) }

/-- The copy for the dump ring of PF `pf` (21 R657). -/
def State.dumpToRing (s : State) (pf : Nat) (r : Rec) : State :=
  if (s.ring (64 + pf)).st = 1 then s.ringGive (64 + pf) r else s.cnt Reg.PERF_DUMP_SKIP

/-- The record's ways. -/
def State.dumpSend (s : State) (cfg : Word) (r : Rec) : State :=
  let s := if bit cfg 29 then s.arrive 12 ⟨r, none, none⟩ else s
  if bit cfg 28 then s.dumpToRing (fld cfg 24 2) r else s

/-- One dump of group `g` with its latch tick's stamp. -/
def State.dump (s : State) (g : Nat) (ts : TS48) : State :=
  let (r, s) := s.number (s.dumpRec g ts)
  let s := s.dumpSend (s.rget (Reg.PERF_DUMP_CFG g)) r
  s.rset (Reg.PERF_DUMP_NUM g) (s.rget (Reg.PERF_DUMP_NUM g) + 1)

/-- DUMP_PERIODIC: group `g` is enabled without `slate` and its dump tick has come. -/
def State.dumpDue (s : State) (g : Nat) : State :=
  let cfg := s.rget (Reg.PERF_DUMP_CFG g)
  match mget none s.perf.dumpNext g with
  | none => s
  | some t =>
    if bit cfg 31 && !bit cfg 30 && decide (t ≤ s.now) then
      (s.dump g (s.tsTick t)).updPerf (fun p => { p with
        dumpNext := mput none p.dumpNext g (some (t + usTicks (s.rf (Reg.PERF_DUMP_PER g) 0 24))) })
    else s

/-! ## Slate (21 R659, R660) -/

/-- Addresses of a register array. -/
def RegDesc.addrs (d : RegDesc) (base : Nat) : List Nat := (List.range d.num).map (fun j => base + d.off + j * d.stride)

/-- Every register of page number `n` that has a snapshot copy. -/
def snapPage (n : Nat) : List Target :=
  match pageAt n with
  | none => []
  | some (p, _) =>
    (((pageRegs p).filter (fun d => snapKind d.kind)).flatMap (fun d => d.addrs (n * 0x4000))).filterMap target

/-- Island whose clock latches page number `n`: those of the Island and engine pages. -/
def snapIsland (n : Nat) : Option Nat := if 0x140 ≤ n ∧ n < 0x170 then some ((n - 0x140) / 4) else none

/-- The page numbers of BAR0 that hold pages (02 R50). -/
def snapPages : List Nat := (List.range 0x170).filter (fun n => (pageAt n).isSome)

/-- Islands in a planner pause (01 R28). -/
def State.pausedIslands (s : State) : List Nat :=
  (List.range 12).filter (fun i => match (s.island i).phase with | .pause _ => true | _ => false)

/-- Copy the registers of the pages. DEDUCED (log entry 62). -/
def State.snapCopy (s : State) (pages : List Nat) : State :=
  s.updPerf (fun p => { p with
    copies := (pages.flatMap snapPage).foldl (fun m t => mput 0 m t.addr (s.view t)) p.copies })

/-- The groups that dump at every Slate. -/
def State.slateDumps (s : State) (ts : TS48) : State :=
  forEach ((List.range 16).filter (fun g => s.rb (Reg.PERF_DUMP_CFG g) 31 && s.rb (Reg.PERF_DUMP_CFG g) 30))
    (fun s g => s.dump g ts) s

/-- At the Slate tick: every block that runs latches, and the dumps are made. -/
def State.slateFirst (s : State) (p : SlatePend) : State :=
  let l := s.pausedIslands
  let s := s.snapCopy (snapPages.filter (fun n => match snapIsland n with | some i => !l.contains i | none => true))
  let ts := s.tsTick p.tick
  let s := s.slateDumps ts
  let s := (s.rset Reg.REGCTL_SNAP_TS_LO (tsLo ts)).rset Reg.REGCTL_SNAP_TS_HI (tsHi ts)
  s.updPerf (fun q => { q with
    valid := true, srcLast := p.src, late := !l.isEmpty
    slate := some { p with rest := some l } })

/-- Islands that have left their pause latch. -/
def State.slateRest (s : State) (p : SlatePend) (l : List Nat) : State :=
  let now := l.filter (fun i => !s.pausedIslands.contains i)
  let s := s.snapCopy (snapPages.filter (fun n => match snapIsland n with | some i => now.contains i | none => false))
  s.updPerf (fun q => { q with slate := some { p with rest := some (l.filter (fun i => !now.contains i)) } })

/-- Result of SNAP_TAKE (21 R664). -/
def snapResult (num : Nat) : List Byte := leBytes 2 num ++ leBytes 6 0

/-- Every block has latched (21 R660). -/
def State.slateEnd (s : State) (p : SlatePend) : State :=
  let s := (s.updPerf (fun q => { q with slate := none, num := (q.num + 1) % 65536 })).evt Reg.PERF_EVT 2
  forEach p.tks (fun s tk => s.replyAt tk stOK (snapResult s.perf.num) (s.tsTick p.tick)) s

/-- The Slate is over when no Island is left. -/
def State.slateClose (s : State) : State :=
  match s.perf.slate with
  | some p => if p.rest = some [] then s.slateEnd p else s
  | none => s

/-- SLATE_LATCH. -/
def State.slateLatch (s : State) : State :=
  match s.perf.slate with
  | none => s
  | some p =>
    if s.now < p.tick then s
    else
      match p.rest with
      | none => (s.slateFirst p).slateClose
      | some l => (s.slateRest p l).slateClose

/-- SNAP_IN_EDGE: line SNAP pulses (08 R270, R273), and the edge is a trigger with `src_en` bit0. -/
def State.snapIn (s : State) : State :=
  let s := s.linePulse 191 (s.tsAt (-(3 + s.rf Reg.FLINT_TRIGIN 4 8 : Nat))) true
  if s.rb Reg.PERF_SNAP_CTRL 0 then s.slateTrig snPIN s.now s.slateTick [] else s

/-- SNAP_TAKE (21 R664). -/
def cSnapTake : CmdSpec :=
  { op := 0x0103, lenOk := lenIs 0, paramOk := fun _ _ => true,
    run := fun s tk _ =>
      if s.rb Reg.PERF_SNAP_CTRL 31 then s.reply tk stREFUSED []
      else if s.slateBusy s.now then s.reply tk stBUSY []
      else s.slateTrig snCMD s.now s.slateTick [tk] }

end Sys2Proof.Machine
end

