-- ==== Sys2Proof/Machine/RegWrite.lean ====
section
/-! DEFINITION. What a committed register write stores and what it does, page by page. -/

namespace Sys2Proof.Machine

/-- The cell that holds a register: QTZ_PORT_SEL and LAG_Q_SEL bank theirs (14 R477, 12 R419), and every CH page shows one
CH_EXPORT_BUDGET (07 R266). -/
def State.cellOf (s : State) (t : Target) : Nat :=
  if t.loc.page = .qtz ∧ 0x048 ≤ t.loc.off ∧ t.loc.off ≤ 0x058 then banked t.addr s.qtzPort
  else if t.loc.page = .lagoon ∧ 0x084 ≤ t.loc.off ∧ t.loc.off ≤ 0x0AC then banked t.addr (s.rf Reg.LAG_Q_SEL 0 12)
  else if t.loc.page = .ch ∧ t.loc.off = 0x3F0 then Reg.CH_EXPORT_BUDGET 0
  else t.addr

/-! ## Write-only registers -/

/-- CMD_SQ_PORT (03 R81): the next word of the slot at the tail. -/
def State.sqPort (s : State) (m : Nat) (d : Word) : State :=
  let q := s.cmdq m
  if 511 < q.woff then s.evt (Reg.CMD_EVT m) 2
  else
    let a := slotAddr m q.tail + 4 * q.woff
    let s := (s.updCmd (fun c => { c with sram := putBytes c.sram a (leBytes 4 d.toNat) })).clearPoison 6 0 a 4
    s.updCmdq m (fun q => { q with woff := q.woff + 1 })

/-- CMD_DOORBELL (03 R82): the entries up to the new tail are submitted, and counted (21 R652); a tail that is neither the current one nor acceptable sets db_overrun. DEDUCED (log entry 16). -/
def State.doorbell (s : State) (m : Nat) (d : Word) : State :=
  let q := s.cmdq m
  let t := fld d 0 7
  let s := s.updCmdq m (fun q => { q with woff := 0 })
  if t = q.tail then s
  else if (t + 128 - q.tail) % 128 + (q.tail + 128 - q.head) % 128 ≤ 64 then
    (s.updCmdq m (fun q => { q with tail := t })).perfM 3 0 none m none ((t + 128 - q.tail) % 128)
  else s.evt (Reg.CMD_EVT m) 4

/-- LINK_TMSG_TXD (15 R503, R519): the next word of the message; it holds at most 232 bytes. -/
def State.tmsgTxd (s : State) (p : Nat) (d : Word) : State :=
  s.updPort p (fun x => { x with tmsgTx := (x.tmsgTx ++ leBytes 4 d.toNat).take 232 })

/-- A write of a WO register. -/
def State.woWrite (s : State) (t : Target) (d : Word) : State :=
  let off := t.loc.off
  match t.loc.page with
  | .dev => s.bootGo d
  | .cmd => if off % 0x40 = 0 then s.doorbell (off / 0x40) d else s.sqPort (off / 0x40) d
  | .regctl => if bit d 0 then s.slateTrig snCMD s.now s.slateTick [] else s
  | .memctl => s.dmaGo d
  | .lagoon => if bit d 0 then s.qFlush (s.rf Reg.LAG_Q_SEL 0 12) 0 false else s
  | .link =>
    if off = 0x040 then s.tmsgTxd t.loc.idx d
    else if off = 0x044 then s.tmsgSend t.loc.idx d
    else s.raccGo d
  | _ => s

/-! ## Plain registers -/

/-- The highest event number of a class and the number of its indices, 0 where it has none (21 R652). -/
def perfClass (cls : Nat) : Option (Nat × Nat) :=
  if cls = 1 then some (2, 0) else if cls = 2 then some (1, 4) else if cls = 3 then some (2, 0)
  else if cls = 4 then some (2, 4) else if cls = 5 then some (2, 16) else if cls = 6 then some (2, 4)
  else if cls = 7 then some (2, 192) else if cls = 8 then some (2, 192) else if cls = 9 then some (1, 9) else none

/-- A select names an event of the table. DEDUCED (log entry 61). -/
def selOk (w : Word) : Bool :=
  if fld w 28 4 = 0 then true
  else
    match perfClass (fld w 28 4) with
    | none => false
    | some (ev, n) => decide (fld w 22 6 ≤ ev) && (n == 0 || decide (fld w 0 8 < n))

/-- PERF_SEL[k] (21 R652): the count starts at 0; a select outside the table becomes OFF. -/
def State.selWrite (s : State) (k : Nat) (w : Word) : State :=
  let s := (s.rset (Reg.PERF_CNT_LO k) 0).rset (Reg.PERF_CNT_HI k) 0
  if selOk w then s.rset (Reg.PERF_SEL k) w else (s.rset (Reg.PERF_SEL k) (setFld w 28 4 0)).evt Reg.PERF_EVT 8

/-- PERF registers whose writes act (21 R655, R656). -/
def State.perfWrite (s : State) (t : Target) (old w : Word) : State :=
  let off := t.loc.off
  let s := s.rset t.addr w
  if off = 0x004 then s.updPerf (fun p => { p with bytes := [], winStart := some s.now })
  else if 0x200 ≤ off ∧ off % 16 = 0 then
    let g := (off - 0x200) / 16
    if bit w 31 && bit old 31 then s
    else
      s.updPerf (fun p => { p with
        dumpNext := mput none p.dumpNext g (if bit w 31 then some (s.now + usTicks (s.rf (Reg.PERF_DUMP_PER g) 0 24)) else none) })
  else s

/-- LANE_CTRL (15 R488). -/
def State.laneWrite (s : State) (t : Target) (old w : Word) : State :=
  (s.rset t.addr w).laneEnable t.loc.idx (bit old 31) (bit w 31)

/-- LINK_CTRL (15 R482, R488): the ports 1 and 3 have no width code 3, which leaves the width unchanged. -/
def State.linkCtrl (s : State) (t : Target) (old w : Word) : State :=
  let p := t.loc.idx
  let w := if fld w 28 2 = 3 ∧ p % 2 = 1 then setFld w 28 2 (fld old 28 2) else w
  let s := s.rset t.addr w
  let s := if fld w 28 2 = fld old 28 2 then s else s.widthChange p
  s.linkEnable p (bit old 31) (bit w 31)

/-- Stream ring that an HOSTIF offset configures. -/
def srOf (off : Nat) : Option Nat :=
  if 0x400 ≤ off ∧ off < 0xC00 ∧ off % 0x20 ≤ 8 then some ((off - 0x400) / 0x20) else none

/-- A write of a stream ring's base or configuration is refused while the stream is OPEN or CLOSING; a write of en to a ring in
ERROR is not (16 R546), nor that of en = 1 which restarts it (16 R539). -/
def State.ringHeld (s : State) (off : Nat) : Bool :=
  match srOf off with
  | none => false
  | some k => (s.stream k).st != 0 && !(off % 0x20 == 8 && (s.ring k).err)

/-- A ring's configuration: en = 1 starts it at descriptor 0, en = 0 stops it (16 R537, R546). Of a ring in ERROR whose stream
is not CLOSED only en changes. -/
def State.ringCfgWrite (s : State) (k a : Nat) (old w : Word) (enOnly : Bool) : State :=
  let s := s.rset a (if enOnly then setFld old 31 1 (fld w 31 1) else w)
  if bit w 31 then (if (s.ring k).st = 3 then s else s.ringStart k) else if bit old 31 then s.ringOff k else s

/-- HOSTIF registers (16 R544 to R546). -/
def State.hostWriteReg (s : State) (t : Target) (old w d : Word) : State :=
  let off := t.loc.off
  if off = 0x040 then (if bit d 30 then (s.rset t.addr w).ptmTrigger else s.rset t.addr w)
  else if s.ringHeld off then s.evt Reg.HOSTIF_EVT heCFG_BUSY
  else if 0x100 ≤ off ∧ off < 0x180 ∧ off % 0x20 = 8 then s.ringCfgWrite (64 + (off - 0x100) / 0x20) t.addr old w false
  else if 0x400 ≤ off ∧ off < 0xC00 ∧ off % 0x20 = 8 then
    s.ringCfgWrite ((off - 0x400) / 0x20) t.addr old w ((s.stream ((off - 0x400) / 0x20)).st != 0)
  else s.rset t.addr w

/-- TRIAD registers (18 R598, R599, R607). -/
def State.triadWrite (s : State) (t : Target) (w d : Word) : State :=
  let s := s.rset t.addr (if t.loc.off = 0x030 then setFld (s.rget t.addr) 0 2 (fld w 0 2) else w)
  if t.loc.off = 0x030 then s.alarmAck d
  else if t.loc.off = 0x040 then s.updTriad (fun x => { x with nextReport := s.now + fld w 0 24 * 1500000000 })
  else s

/-- A committed write of an RW or RWL register: `w` is what its bits store, `d` the word as written, in which WO bits act. -/
def State.rwWrite (s : State) (t : Target) (w d : Word) : State :=
  let old := s.rget (s.cellOf t)
  let off := t.loc.off
  match t.loc.page with
  | .cmd =>
    let s := s.rset t.addr w
    if off < 0x200 ∧ off % 0x40 = 0x10 then s.resumeReplies (off / 0x40) else s
  | .qtz => if off = 0x074 then (s.rset t.addr w).refSelect else s.rset (s.cellOf t) w
  | .hk => if off = 0x004 then (s.rset t.addr w).hkCtrl old (w ||| (d &&& bitMask 8)) else s.rset t.addr w
  | .triad => s.triadWrite t w d
  | .perf => s.perfWrite t old w
  | .perfSel => s.selWrite (off / 4) w
  | .hostif => s.hostWriteReg t old w d
  | .lane => if off = 0x004 then s.laneWrite t old w else s.rset t.addr w
  | .link => if off = 0x004 then s.linkCtrl t old w else s.rset t.addr w
  | _ => s.rset (s.cellOf t) w

/-- A write of HI commits the pair (02 R58): `lo` is the staged LO. -/
def State.pairWrite (s : State) (t : Target) (lo : Option Word) (w : Word) : State :=
  match t.loc.page with
  | .qtz =>
    s.incWrite ((lo.getD (s.rget (t.addr - 4))).toNat + w.toNat * 2 ^ 32)
  | .hostif =>
    if s.ringHeld t.loc.off then s.evt Reg.HOSTIF_EVT heCFG_BUSY
    else
      (match lo with | some l => s.rset (t.addr - 4) l | none => s).rset t.addr w
  | _ => (match lo with | some l => s.rset (t.addr - 4) l | none => s).rset t.addr w

/-! ## Posted registers -/

/-- The effect of a posted write (02 R66). -/
def State.postApply (s : State) (p : Posted) : State :=
  let off := p.addr % 0x1000
  if 0x100000 ≤ p.addr then s.chApply ((p.addr - 0x100000) / 0x4000) off p.value
  else if p.addr / 0x4000 = 0x0C then s.flintApply off p.value p.lo
  else if p.addr / 0x4000 = 0x14 then s.emApply off p.value
  else
    match target p.addr with
    | some t => (s.rset p.addr (t.desc.limited p.value)).bankOwnerWrite p.value
    | none => s

/-- The posted write pending in the page at `page` takes effect and busy clears (02 R66). -/
def State.postDone (s : State) (page : Nat) (sel : Posted → Bool) : State :=
  match mget none s.bus.posted page with
  | none => s
  | some p => if sel p then (s.updBus (fun b => { b with posted := mput none b.posted page none })).postApply p else s

/-! ## Guarded registers -/

/-- A guarded commit of `w` by master `m` (02 R68; 03 R102, 14 R457, 20 R640, R641). -/
def State.grdCommit (s : State) (m : Nat) (t : Target) (w : Word) : State :=
  let s' := s.rset t.addr (w &&& t.desc.wmask)
  match t.loc.page with
  | .own =>
    if m = 4 ∧ fld w 8 8 = 0xA5 then s'.updOwn (fun o => { o with force := some (fld w 0 4) })
    else s.logAcc m 3 rcGUARD_FAIL (t.addr + 4) (~~~w) false
  | .qtz => if t.loc.off = 0x024 then s'.stepCommit w.toInt else s'
  | .sec => if t.loc.off = 0x200 then s'.progSlot w else s'.lcAdvance w
  | _ => s'

end Sys2Proof.Machine
end

