-- ==== Sys2Proof/Machine/BusOps.lean ====
section
/-! DEFINITION. Register accesses: reads with their latches, and the order of checks on a write (02 R54 to R73). -/

namespace Sys2Proof.Machine

/-! ## Who reaches the registers -/

/-- Accesses of master `m` reach the registers: not while the part is held in reset; M0 to M3 through a configured PCIe link (16
R529), M5 through the active UP port (02 R78), M6 only in DEVELOP (00 R6, 20 R641). DEDUCED (log entry 10). -/
def State.reaches (s : State) (m : Nat) : Bool :=
  s.sec.start.step != 19 &&
    (if m < 4 then s.hostServed else if m = 5 then s.ldev.up.isSome else if m = 6 then s.lifecycle == 1 else true)

/-- The response to master `m`'s access. -/
def State.answer (s : State) (m : Nat) (r : Resp) : State := s.updBus (fun b => { b with resp := mput .none b.resp m r })

/-- The key of a master's latch or staged write in a page (02 R57, R58). -/
def latchKey (page m : Nat) : Nat := page + m

/-! ## Reads (02 R56, R57) -/

/-- The word that master `m` sees: OWN_TOKEN is the owner's alone (03), and QTZ_NOW, QTZ_MSG_TS and PTM show what the master
latched (14 R464, R471, R472). -/
def State.seen (s : State) (m : Nat) (t : Target) : Word :=
  let off := t.loc.off
  match t.loc.page with
  | .own => if (off = 0x010 ∨ off = 0x014) ∧ s.own.owner ≠ some m then 0 else s.view t
  | .qtz =>
    if off = 0x010 then word (s.nowSeen m).ns.toNat
    else if off = 0x014 then word (s.nowSeen m).sec.toNat
    else if off = 0x018 then word ((s.nowSeen m).sec.toNat / 2 ^ 32)
    else if off = 0x060 then tsLo (mget 0 s.qtz.msgLatch m)
    else if off = 0x064 then tsHi (mget 0 s.qtz.msgLatch m)
    else if off = 0x06C then (match mget none s.qtz.ptm.latch m with | some l => l.1 | none => s.view t)
    else if off = 0x070 then (match mget none s.qtz.ptm.latch m with | some l => l.2 | none => s.view t)
    else s.view t
  | _ => s.view t

/-- Reads that take something away or latch for the master (02 R56, 14 R464, R472). -/
def State.readAct (s : State) (m : Nat) (t : Target) : State :=
  let off := t.loc.off
  match t.loc.page with
  | .qtz =>
    if off = 0x00C then (s.readNow m).2 else if off = 0x05C then (s.readMsg m).2 else if off = 0x068 then (s.readPtm m).2 else s
  | .link => if off = 0x048 then (s.tmsgRead t.loc.idx).2 else if off = 0x04C then (s.tmsgData t.loc.idx).2 else s
  | _ => s

/-- The HI register of a pair as the master sees it. -/
def State.hiOf (s : State) (m : Nat) (t : Target) : Word := match target (t.addr + 4) with | some h => s.seen m h | none => 0

/-- The value of a read: HI gives the latch taken for its pair (02 R57). -/
def State.readVal (s : State) (m : Nat) (t : Target) : Word :=
  match t.desc.side with
  | .hi =>
    (match mget none s.bus.latch (latchKey t.page m) with
     | some h => if h.addr + 4 = t.addr then h.value else s.seen m t
     | none => s.seen m t)
  | _ => s.seen m t

/-- What a read leaves: LO latches the HI of its pair (02 R57). -/
def State.readFx (s : State) (m : Nat) (t : Target) : State :=
  match t.desc.side with
  | .lo =>
    let s := s.readAct m t
    s.updBus (fun b => { b with latch := mput none b.latch (latchKey t.page m) (some ⟨t.addr, s.hiOf m t⟩) })
  | _ => s.readAct m t

/-- A read of an unimplemented address (02 R54). -/
def State.readErr (s : State) (m addr : Nat) : State :=
  let s := s.logAcc m 0 rcBUS_ERR addr 0 false
  let s := if m < 4 then s.readAbort m else s
  s.answer m .busError

/-- Bits of the enabled bytes (02 R55). -/
def beMask (be : Nat) : Word :=
  word ((if be.testBit 0 then 0xFF else 0) + (if be.testBit 1 then 0xFF00 else 0) + (if be.testBit 2 then 0xFF0000 else 0)
    + (if be.testBit 3 then 0xFF000000 else 0))

/-- The enabled bytes of a word, lowest first (02 R55). -/
def beBytes (w : Word) (be : Nat) : List Byte := ((List.range 4).filter (fun i => be.testBit i)).map (fun i => BitVec.ofNat 8 (fld w (8 * i) 8))

/-- A register read that has been served: the enabled bytes go to the reader, and the side effects are those of a full read
(02 R55). -/
def State.readReg (s : State) (m : Nat) (t : Target) (be : Nat) : State :=
  let v := s.readVal m t
  let s := s.readFx m t
  let s := if m < 4 then s.complete m (beBytes v be) false false else s
  s.answer m (.data (if be = 15 then v else v &&& beMask be))

/-- A read of a BAR0 address by master `m`, with its byte enables. -/
def State.busReadBe (s : State) (m addr be : Nat) : State :=
  if s.reaches m then
    let s := s.perfM 1 0 none m (some addr) 1
    match target addr with
    | none => s.readErr m addr
    | some t => s.readReg m t be
  else s

/-- A read of a whole register. -/
def State.busRead (s : State) (m addr : Nat) : State := s.busReadBe m addr 15

/-! ## The checks of a write (02 R55, R60, R61) -/

/-- Every field is RW (02 R55): HK_CTRL and HOSTIF_PTM_CTRL hold WO fields, PERF_SNAP_ADDR an RO field. DEDUCED (log entry 14). -/
def Target.allRw (t : Target) : Bool :=
  t.desc.kind == .rw && t.addr != Reg.HK_CTRL && t.addr != Reg.HOSTIF_PTM_CTRL && t.addr != Reg.PERF_SNAP_ADDR

/-- The master whose per-master register of the CMD page this is (03). -/
def Target.perMaster (t : Target) : Option Nat :=
  if t.loc.page = .cmd ∧ t.loc.off < 0x200 ∧ [0x00, 0x08, 0x10, 0x14, 0x1C].contains (t.loc.off % 0x40) then
    some (t.loc.off / 0x40)
  else none

/-- Step 2 lets the write pass (02 R60, R61). -/
def State.mayWrite (s : State) (m : Nat) (t : Target) : Bool :=
  m == 7 ||
    (match t.perMaster with
     | some k => k == m
     | none =>
       s.own.owner == some m || (m == 4 && t.loc.page == .own && (t.loc.off == 0x020 || t.loc.off == 0x024))
         || (m == 0 && s.bootOpen && t.loc.page == .dev && (t.loc.off == 0x020 || t.loc.off == 0x024)))

/-- Block of an address: a region of 02 R50. -/
def blockOf (a : Nat) : Nat × Nat :=
  if a < 0x10000 then (0, a / 0x4000) else if a < 0x100000 then (1, a / 0x10000) else if a < 0x500000 then (2, a / 0x4000)
  else (3, a / 0x10000)

/-- A write that reaches the block of a pending guarded first write ends it, unless it is the second write (02 R69). DEDUCED (log entry 13). -/
def State.guardTouch (s : State) (t : Target) : State :=
  match s.bus.guard with
  | none => s
  | some g =>
    if blockOf g.addr = blockOf t.addr ∧ ¬(t.alias_ = 0 ∧ t.addr = g.addr + 4) then s.guardFail else s

/-- A page's RWL fields are locked (02 R70); CH_EXPORT_BUDGET by the lock register of any CH page (07 R266). -/
def State.rwlLocked (s : State) (t : Target) : Bool :=
  if t.loc.page = .ch ∧ t.loc.off = 0x3F0 then (List.range 192).any (fun c => s.bus.wo1.contains (Reg.CH_LOCK c))
  else s.rb (t.page + 0xFF8) 0

/-- Step 3 ignores the write (02 R52, R60, R70). DEDUCED (log entry 12). -/
def State.locked (s : State) (t : Target) (d : Word) : Bool :=
  match t.desc.kind with
  | .wo1 => s.bus.wo1.contains t.addr
  | .rwl => s.rwlLocked t && (t.alias_ == 0 || (d &&& t.desc.wmask) != 0)
  | _ => false

/-! ## Guarded pairs (02 R68, R69) -/

/-- A write of the guard protocol that fails: the pending first write is discarded, and the write is logged. -/
def State.guardWriteFail (s : State) (m addr : Nat) (d : Word) : State :=
  (s.updBus (fun b => { b with guard := none })).logAcc m 3 rcGUARD_FAIL addr d false

/-- The second write is the complement of the pending first one, of the same master and in time. -/
def State.guardMatch (s : State) (m : Nat) (t : Target) (d : Word) : Option Word :=
  match s.bus.guard with
  | none => none
  | some g => if g.addr + 4 = t.addr ∧ g.m = m ∧ d = ~~~g.value ∧ s.now ≤ g.tick + usTicks 100 then some g.value else none

/-- A write to a guarded register or its complement address. -/
def State.guardWrite (s : State) (m : Nat) (t : Target) (addr : Nat) (d : Word) : State :=
  if t.alias_ ≠ 0 then s.guardWriteFail m addr d
  else if t.desc.kind = .grd then s.guardFail.updBus (fun b => { b with guard := some ⟨m, t.addr, d, s.now⟩ })
  else
    match s.guardMatch m t d, target (t.addr - 4) with
    | some v, some a => (s.updBus (fun b => { b with guard := none })).grdCommit m a v
    | _, _ => s.guardWriteFail m addr d

/-- GUARD_TIMEOUT. -/
def State.guardTimeout (s : State) : State :=
  match s.bus.guard with
  | none => s
  | some g => if g.tick + usTicks 100 ≤ s.now then s.guardFail else s

/-! ## Steps 5 to 7 (02 R57 to R59, R63, R66, R72) -/

/-- Stage a write of LO (02 R58). -/
def State.stage (s : State) (m : Nat) (t : Target) (w : Word) : State :=
  s.updBus (fun b => { b with staged := mput none b.staged (latchKey t.page m) (some ⟨t.addr, w⟩) })

/-- The LO staged for the pair of this HI (02 R58). -/
def State.stagedLo (s : State) (m : Nat) (t : Target) : Option Word :=
  match mget none s.bus.staged (latchKey t.page m) with
  | some h => if h.addr + 4 = t.addr then some h.value else none
  | none => none

/-- A committed HI takes its staged LO with it. -/
def State.unstage (s : State) (m : Nat) (t : Target) : State :=
  if (s.stagedLo m t).isSome then s.updBus (fun b => { b with staged := mput none b.staged (latchKey t.page m) none }) else s

/-- A write to a PST register (02 R60 step 5, R65, R66): busy for at most 2 µs, or 4 µs under a planner pause. DEDUCED (log entry
11). The spec does not say what becomes of a staged LO whose HI write is dropped because the page is busy: it stays staged, as the
dropped write changes nothing. DESIGN CHOICE (log entry 11). -/
def State.postWrite (s : State) (m : Nat) (t : Target) (addr : Nat) (w : Word) : State :=
  if (mget none s.bus.posted t.page).isSome then
    (s.evt (t.page + 0xFFC) 2).logAcc m 5 rcWRITE_LOST addr w false
  else if t.desc.side = .lo then s.stage m t w
  else
    let lo := s.stagedLo m t
    (s.unstage m t).updBus (fun b => { b with posted := mput none b.posted t.page (some ⟨m, t.addr, w, s.now + usTicks 4, lo⟩) })

/-- The sequence number before the events of the current cycle (02 R63). -/
def State.seqBefore (s : State) (a : Nat) : Nat := (fld (s.rget a) 24 8 + 256 - b2n ((s.cycOf a).flags != 0)) % 256

/-- A write to a SEQ register (02 R63), compared with the number before any event of the same cycle, whose flags survive the clear:
bit 0 of the posted-write status is RO and stays. -/
def State.seqWrite (s : State) (m : Nat) (t : Target) (addr : Nat) (d : Word) : State :=
  let a := s.cellOf t
  if fld d 24 8 = s.seqBefore a then s.rset a (setFld (s.rget a) 0 24 ((s.cycOf a).flags % 2 ^ 24))
  else s.logAcc m 6 rcSTALE_CLEAR addr d false

/-- A write to a 32-bit CNT register: the count, with ovf cleared (02 R72), plus the counts of the same cycle; an overflow in that
cycle keeps ovf set (02 R71, R73). -/
def State.cntWrite (s : State) (t : Target) (d : Word) : State :=
  let a := s.cellOf t
  let w := cntAddW (setFld d 31 1 0) (s.cycOf a).incs
  s.rset a (if (s.cycOf a).ovf then w ||| bitMask 31 else w)

/-- A commit of the HI of a 48-bit counter (02 R58, R72), with the counts of the same cycle (02 R71, R73). -/
def State.cntHiWrite (s : State) (t : Target) (lo : Option Word) (d : Word) : State :=
  let c := s.cycOf (t.addr - 4)
  let n := (match lo with | some l => l.toNat + c.incs | none => (s.rget (t.addr - 4)).toNat) + fld d 0 16 * 2 ^ 32
  let o := c.ovf || decide (2 ^ 48 ≤ n)
  (s.rset (t.addr - 4) (word n)).rset t.addr (word (n / 2 ^ 32 % 2 ^ 16) ||| (if o then bitMask 31 else 0))

/-- A lock register, or another WO1 register, takes its first write (02 R70). -/
def State.wo1Write (s : State) (t : Target) (d : Word) : State :=
  (s.rset t.addr (d &&& 1)).updBus (fun b => { b with wo1 := b.wo1 ++ [t.addr] })

/-- A write to an RW or RWL register: LO is staged, HI commits its pair (02 R58). -/
def State.rwCommit (s : State) (m : Nat) (t : Target) (d : Word) : State :=
  let w := t.desc.limited d
  match t.desc.side with
  | .none => s.rwWrite t w d
  | .lo => if t.loc.page = .hostif ∧ s.ringHeld t.loc.off then s.evt Reg.HOSTIF_EVT heCFG_BUSY else s.stage m t w
  | .hi => (s.unstage m t).pairWrite t (s.stagedLo m t) w

/-- A plain write that has passed the checks. -/
def State.commitWrite (s : State) (m : Nat) (t : Target) (addr : Nat) (d : Word) : State :=
  match t.desc.kind with
  | .ro | .grd | .grdC => s
  | .wo => s.woWrite t d
  | .wo1 => s.wo1Write t d
  | .pst => s.postWrite m t addr d
  | .seq => s.seqWrite m t addr d
  | .cnt => s.cntWrite t d
  | .cntLo => s.stage m t d
  | .cntHi => (s.unstage m t).cntHiWrite t (s.stagedLo m t) d
  | .rw | .rwl => s.rwCommit m t d

/-- The word that an alias makes of a register's value (02 R51): 1 SET, 2 CLR, 3 TGL. -/
def aliasVal (k : Nat) (old d : Word) : Word := if k = 1 then old ||| d else if k = 2 then old &&& ~~~d else old ^^^ d

/-- A write through an alias acts on RW, RWL and PST bits alone (02 R51). -/
def State.aliasWrite (s : State) (m : Nat) (t : Target) (addr : Nat) (d : Word) : State :=
  let v := aliasVal t.alias_ (s.rget (s.cellOf t)) (d &&& t.desc.wmask)
  match t.desc.kind with
  | .pst => s.postWrite m t addr v
  | .rw | .rwl => s.rwCommit m t v
  | _ => s

/-- The word that a partial write stands for: the other bytes keep their value, or 0 through an alias (02 R55). -/
def State.widen (s : State) (t : Target) (d : Word) (be : Nat) : Word :=
  if be = 15 then d
  else if t.alias_ = 0 then (s.rget (s.cellOf t) &&& ~~~(beMask be)) ||| (d &&& beMask be)
  else d &&& beMask be

/-- Steps 3 to 7 of 02 R60. -/
def State.judge (s : State) (m : Nat) (t : Target) (addr : Nat) (d : Word) : State :=
  let s := s.guardTouch t
  if s.locked t d then s.logAcc m 4 rcLOCK_VIOL addr d false
  else if t.desc.kind = .grd ∨ t.desc.kind = .grdC then s.guardWrite m t addr d
  else if t.alias_ ≠ 0 then s.aliasWrite m t addr d
  else s.commitWrite m t addr d

/-- A write of step 1 (02 R54). -/
def State.writeErr (s : State) (m addr : Nat) (d : Word) : State :=
  let s := if m < 4 then s.postedDrop m else s
  (s.logAcc m 1 rcBUS_ERR addr d false).answer m .busError

/-- A write of step 2 (02 R60). -/
def State.writeDenied (s : State) (m addr : Nat) (d : Word) : State :=
  (s.logAcc m 2 rcNOT_OWNER addr d false).answer m .notOwner

/-- The order of checks on a write (02 R60). -/
def State.writeReg (s : State) (m addr : Nat) (d : Word) (be : Nat) : State :=
  match target addr with
  | none => s.writeErr m addr d
  | some t =>
    if be ≠ 15 ∧ !t.allRw then s.writeErr m addr d
    else if !s.mayWrite m t then s.writeDenied m addr d
    else (s.judge m t addr (s.widen t d be)).answer m .written

/-- A write by master `m`, counted (21 R652, R655). -/
def State.busWrite (s : State) (m addr : Nat) (d : Word) (be : Nat) : State :=
  if s.reaches m then
    let s := if m < 4 then s.hostIn m 4 else s
    (s.perfM 1 1 none m (some addr) 1).writeReg m addr d be
  else s

/-- A write of a whole word to an address whose register satisfies `p`; any other address is not this command. DEDUCED (log entry 15). -/
def State.busWriteIf (s : State) (p : Target → Bool) (m addr : Nat) (d : Word) : State :=
  match target addr with
  | some t => if p t then s.busWrite m addr d 15 else s
  | none => s

/-! ## Management SPI (02 R75 to R77) -/

/-- Status byte of a response (02 R76). -/
def Resp.spi : Resp → Nat
  | .busError => 0x81
  | .notOwner => 0x82
  | .timeout => 0x83
  | _ => 0x80

/-- The bytes that follow the status byte of a read frame. -/
def Resp.spiData : Resp → List Byte
  | .data w => leBytes 4 w.toNat
  | _ => leBytes 4 0

/-- The response of master `m`'s last access. -/
def State.respOf (s : State) (m : Nat) : Resp := mget .none s.bus.resp m

/-- Bytes driven on MISO after the last MOSI byte: `n` bytes are clocked. -/
def State.driveMiso (s : State) (l : List Byte) (n : Nat) : State := s.updBus (fun b => { b with miso := l.take n })

/-- A frame: whether it reads, its address and data; none when it is incomplete or has another command byte (02 R75, R77). DESIGN CHOICE (log entry 64). -/
def spiFrame (l : List Byte) : Option (Bool × Nat × Word) :=
  if fieldAt l 0 1 = 0x03 ∧ 5 ≤ l.length then some (true, fieldAt l 1 4, 0)
  else if fieldAt l 0 1 = 0x02 ∧ 9 ≤ l.length then some (false, fieldAt l 1 4, word (fieldAt l 5 4))
  else none

/-- The access of a frame that reaches the registers. -/
def State.spiRun (s : State) (rd : Bool) (a : Nat) (d : Word) : State := if rd then s.busRead 4 a else s.busWrite 4 a d 15

/-- Bytes of a frame up to its last MOSI byte of meaning. -/
def spiLen (rd : Bool) : Nat := if rd then 5 else 9

/-- MGMT_SPI_FRAME: the access completes within the first wait byte. While the part is held in reset it drives nothing: the spec does not
say what MISO shows then. DESIGN CHOICE (log entry 10). -/
def State.spiAccess (s : State) (l : List Byte) : State :=
  match spiFrame l with
  | none => s
  | some (rd, a, d) =>
    if s.reaches 4 then
      let s := s.spiRun rd a d
      s.driveMiso (leBytes 1 (s.respOf 4).spi ++ (if rd then (s.respOf 4).spiData else [])) (l.length - spiLen rd)
    else s

/-- SPI_ACCESS_TIMEOUT: an access still not complete after 256 wait bytes is abandoned, and its status follows them (02 R76). A frame that
ends before has seen wait bytes alone, and its access completes (02 R77). -/
def State.spiTimeout (s : State) (l : List Byte) : State :=
  match spiFrame l with
  | none => s
  | some (rd, a, d) =>
    let n := l.length - spiLen rd
    if s.reaches 4 then
      if 256 ≤ n then
        (s.answer 4 .timeout).driveMiso (List.replicate 256 0 ++ leBytes 1 (Resp.timeout).spi ++ (if rd then leBytes 4 0 else [])) n
      else (s.spiRun rd a d).driveMiso (List.replicate 256 0) n
    else s

/-! ## Access over the UP link (02 R78, 15 R511) -/

/-- Status of a REG_RESULT (02 R78). -/
def Resp.status : Resp → Nat
  | .busError => stBAD_PARAM
  | .notOwner => stNOT_OWNER
  | _ => stOK

/-- Data of a REG_RESULT. -/
def Resp.value : Resp → Nat
  | .data w => w.toNat
  | _ => 0

/-- A REG_RESULT to the origin of a REG_ACCESS (15 R499). -/
def State.regResult (s : State) (l : List Byte) (status data : Nat) : State :=
  match s.routePort (fieldAt l 1 1) with
  | some q => s.sendMsg q 0 3 (leBytes 1 (fieldAt l 1 1) ++ leBytes 1 status ++ leBytes 1 0 ++ leBytes 1 (fieldAt l 3 1) ++ leBytes 4 0
      ++ leBytes 4 data)
  | none => s

/-- A REG_ACCESS for this device, on the active UP port. -/
def State.regExec (s : State) (l : List Byte) : State :=
  let s :=
    if (fieldAt l 2 1).testBit 0 then s.busWrite 5 (fieldAt l 4 4) (word (fieldAt l 8 4)) 15
    else s.busRead 5 (fieldAt l 4 4)
  s.regResult l (s.respOf 5).status (s.respOf 5).value

/-- A REG_ACCESS that has arrived at port `p`. -/
def State.regMsg (s : State) (p : Nat) (l : List Byte) : State :=
  let t := fieldAt l 0 1
  if t = s.link.dev.id then (if s.ldev.up = some p then s.regExec l else s)
  else if t = 255 then forEach s.downPorts (fun s q => s.sendMsg q 0 2 l) s
  else
    match s.routePort t with
    | some q => s.sendMsg q 0 2 l
    | none => s.regResult l stUNREACHABLE 0

/-- REG_ACCESS. -/
def State.regAccess (s : State) (p : Nat) : State :=
  match s.headMsg p 0 2 with
  | some m => (s.takeMsg p m).regMsg p m.payload
  | none => s

end Sys2Proof.Machine
end

