-- ==== Sys2Proof/Machine/BusRows.lean ====
section
/-! DEFINITION. Register reads and writes by row, posted effects, the management SPI and the UP link's accesses (02). A row
that names a register or a type of register acts only on such an address. -/

namespace Sys2Proof.Machine

/-- REGISTER_WRITE (02 R60): master, address, word, byte enables. -/
def execRegisterWrite (m : Master) (a : BitVec 26) (d : Word) (be : BitVec 4) (s : State) : Res :=
  .next (s.busWrite m.val a.toNat d be.toNat)

/-- ALIAS_WRITE (02 R51): a write to an alias page. -/
def execAliasWrite (m : Master) (a : BitVec 26) (d : Word) (be : BitVec 4) (s : State) : Res :=
  .next (if a.toNat / 0x1000 % 4 = 0 then s else s.busWrite m.val a.toNat d be.toNat)

/-- PAIR_LO_READ (02 R55, R57): a read with its byte enables; of a LO register it latches HI, and of any other address it is a plain
read. -/
def execPairLoRead (m : Master) (r : BusRead) (s : State) : Res := .next (s.busReadBe m.val r.addr.toNat r.be.toNat)

/-- PAIR_LO_WRITE (02 R58). -/
def execPairLoWrite (m : Master) (a : BitVec 26) (d : Word) (s : State) : Res :=
  .next (s.busWriteIf (fun t => t.desc.side == .lo) m.val a.toNat d)

/-- PAIR_HI_WRITE (02 R58). -/
def execPairHiWrite (m : Master) (a : BitVec 26) (d : Word) (s : State) : Res :=
  .next (s.busWriteIf (fun t => t.desc.side == .hi) m.val a.toNat d)

/-- EVENT_CLEAR (02 R63). -/
def execEventClear (m : Master) (a : BitVec 26) (d : Word) (s : State) : Res :=
  .next (s.busWriteIf (fun t => t.desc.kind == .seq) m.val a.toNat d)

/-- COUNTER_WRITE (02 R72). -/
def execCounterWrite (m : Master) (a : BitVec 26) (d : Word) (s : State) : Res :=
  .next (s.busWriteIf (fun t => t.desc.kind == .cnt || t.desc.kind == .cntLo || t.desc.kind == .cntHi) m.val a.toNat d)

/-- POSTED_WRITE_DONE (02 R66): of the page that holds the address. -/
def execPostedWriteDone (a : BitVec 26) (s : State) : Res := .next (s.postDone (a.toNat / 0x4000 * 0x4000) (fun _ => true))

/-- GUARD_FIRST_WRITE (02 R68). -/
def execGuardFirstWrite (m : Master) (a : BitVec 26) (d : Word) (s : State) : Res :=
  .next (s.busWriteIf (fun t => t.desc.kind == .grd) m.val a.toNat d)

/-- GUARD_SECOND_WRITE (02 R68): to A + 4. -/
def execGuardSecondWrite (m : Master) (a : BitVec 26) (d : Word) (s : State) : Res :=
  .next (s.busWriteIf (fun t => t.desc.kind == .grdC) m.val a.toNat d)

/-- GUARD_TIMEOUT (02 R69). -/
def execGuardTimeout (s : State) : Res := .next s.guardTimeout

/-- LOCK_WRITE (02 R70). -/
def execLockWrite (m : Master) (a : BitVec 26) (d : Word) (s : State) : Res :=
  .next (s.busWriteIf (fun t => t.desc.kind == .wo1) m.val a.toNat d)

/-- REGCTL_SNAP_TAKE (21 R658). -/
def execRegctlSnapTake (m : Master) (d : Word) (s : State) : Res := .next (s.busWrite m.val Reg.REGCTL_SNAP d 15)

/-- MGMT_SPI_FRAME (02 R75): the bytes on MOSI from CS_N falling to CS_N rising. -/
def execMgmtSpiFrame (mosi : List Byte) (s : State) : Res := .next (s.spiAccess mosi)

/-- SPI_ACCESS_TIMEOUT (02 R76). -/
def execSpiAccessTimeout (mosi : List Byte) (s : State) : Res := .next (s.spiTimeout mosi)

/-- SQ_PORT_WRITE (03 R81): by master `m`, to the register of master `q`. -/
def execSqPortWrite (m q : Master) (d : Word) (s : State) : Res := .next (s.busWrite m.val (Reg.CMD_SQ_PORT q.val) d 15)

/-- DOORBELL (03 R82). -/
def execDoorbell (m q : Master) (d : Word) (s : State) : Res := .next (s.busWrite m.val (Reg.CMD_DOORBELL q.val) d 15)

/-- RP_HEAD_WRITE (03 R85). -/
def execRpHeadWrite (m q : Master) (d : Word) (s : State) : Res := .next (s.busWrite m.val (Reg.CMD_RP_HEAD q.val) d 15)

/-! ## Posted writes with a row of their own: they act on the posted write pending in the register's page -/

/-- The pending write of a CH page is one of the register at `off` whose word satisfies `f`. -/
def State.chPosted (s : State) (c off : Nat) (f : Word → Bool) : State :=
  s.postDone (0x100000 + c * 0x4000) (fun p => p.addr % 0x1000 == off && f p.value)

/-- EXC_ENABLE (04 R138). -/
def execExcEnable (c : Ch) (s : State) : Res := .next (s.chPosted c.val 0x014 (fun w => bit w 0))

/-- EXC_DISABLE (04 R137). -/
def execExcDisable (c : Ch) (s : State) : Res := .next (s.chPosted c.val 0x014 (fun w => !bit w 0))

/-- BGCAL_RESTART (05 R184). -/
def execBgcalRestart (c : Ch) (s : State) : Res := .next (s.chPosted c.val 0x104 (fun w => bit w 1))

/-- CAPTURE_ARM (07 R267). -/
def execCaptureArm (c : Ch) (s : State) : Res := .next (s.chPosted c.val 0x320 (fun w => bit w 29))

/-- CAPTURE_MODE_OFF (07 R267). -/
def execCaptureModeOff (c : Ch) (s : State) : Res := .next (s.chPosted c.val 0x320 (fun w => fld w 30 2 == 0))

/-- FLINT_CTRL_ARM (08 R297). -/
def execFlintCtrlArm (f : Fin 8) (s : State) : Res :=
  .next (s.postDone 0x30000 (fun p => p.addr == Reg.FLINT_CTRL f.val && bit p.value 0))

/-- FLINT_CTRL_DISARM (08 R297). -/
def execFlintCtrlDisarm (f : Fin 8) (s : State) : Res :=
  .next (s.postDone 0x30000 (fun p => p.addr == Reg.FLINT_CTRL f.val && bit p.value 1))

/-- BANK_OWNER_HANDOVER (17 R563). -/
def execBankOwnerHandover (s : State) : Res :=
  .next (match mget none s.bus.posted 0x80000 with
    | none => s
    | some p => let r := s.handPosted p.value; if r.2 then r.1 else s.postDone 0x80000 (fun p => p.addr == Reg.MEMCTL_BANK_OWNER))

/-- EM_ENABLE (19 R612). -/
def execEmEnable (n : EmN) (s : State) : Res :=
  .next (s.postDone 0x50000 (fun p => p.addr == Reg.EM_CTRL n.val && bit p.value 31))

/-- EM_DISABLE (19 R612). -/
def execEmDisable (n : EmN) (s : State) : Res :=
  .next (s.postDone 0x50000 (fun p => p.addr == Reg.EM_CTRL n.val && !bit p.value 31))

/-! ## Writes and reads of one register -/

/-- HK_SW_START (05 R195). -/
def execHkSwStart (m : Master) (d : Word) (s : State) : Res := .next (s.busWrite m.val Reg.HK_CTRL d 15)

/-- REF_SELECT_WRITE (06 R231). -/
def execRefSelectWrite (m : Master) (d : Word) (s : State) : Res := .next (s.busWrite m.val Reg.QTZ_REF_CTRL d 15)

/-- QUEUE_FLUSH_WRITE (12 R406). -/
def execQueueFlushWrite (m : Master) (d : Word) (s : State) : Res := .next (s.busWrite m.val Reg.LAG_Q_CTRL d 15)

/-- QTZ_INC_WRITE (14 R455): the write of HI, which commits. -/
def execQtzIncWrite (m : Master) (d : Word) (s : State) : Res := .next (s.busWrite m.val Reg.QTZ_INC_HI d 15)

/-- QTZ_STEP_COMMIT (14 R457): the second write, to A + 4. -/
def execQtzStepCommit (m : Master) (d : Word) (s : State) : Res := .next (s.busWrite m.val (Reg.QTZ_STEP + 4) d 15)

/-- QTZ_NOW_FRAC_READ (14 R464). -/
def execQtzNowFracRead (m : Master) (s : State) : Res := .next (s.busRead m.val Reg.QTZ_NOW_FRAC)

/-- QTZ_MSG_INFO_READ (14 R471). -/
def execQtzMsgInfoRead (m : Master) (s : State) : Res := .next (s.busRead m.val Reg.QTZ_MSG_INFO)

/-- PTM_TRIGGER (16 R544). -/
def execPtmTrigger (m : Master) (d : Word) (s : State) : Res := .next (s.busWrite m.val Reg.HOSTIF_PTM_CTRL d 15)

/-- LANE_ENABLE_WRITE (15 R488): of a LANE_CTRL or a LINK_CTRL. -/
def execLaneEnableWrite (m : Master) (a : BitVec 26) (d : Word) (s : State) : Res :=
  .next (s.busWriteIf (fun t => (t.loc.page == .lane || t.loc.page == .link) && t.loc.off == 0x004) m.val a.toNat d)

/-- REG_ACCESS (02 R78): the message that waits at port `p`. -/
def execRegAccess (p : PortN) (s : State) : Res := .next (s.regAccess p.val)

/-- TMSG_SEND (15 R503). -/
def execTmsgSend (m : Master) (p : PortN) (d : Word) (s : State) : Res := .next (s.busWrite m.val (Reg.LINK_TMSG_SEND p.val) d 15)

/-- TMSG_RX_READ (15 R503). -/
def execTmsgRxRead (m : Master) (p : PortN) (s : State) : Res := .next (s.busRead m.val (Reg.LINK_TMSG_RXS p.val))

/-- RACC_GO (15 R519). -/
def execRaccGo (m : Master) (d : Word) (s : State) : Res := .next (s.busWrite m.val Reg.LINK_RACC_CTRL d 15)

/-- DMA_GO (17 R573). -/
def execDmaGo (m : Master) (d : Word) (s : State) : Res := .next (s.busWrite m.val Reg.MEMCTL_DMA_CTRL d 15)

/-- RING_ENABLE (16 R537): rings 0 to 63 of streams, 64 to 67 the dump rings of PF0 to PF3. -/
def execRingEnable (m : Master) (ring : Fin 68) (d : Word) (s : State) : Res := .next (s.busWrite m.val (ringCfg ring.val) d 15)

/-- ALARM_ACK (18 R598). -/
def execAlarmAck (m : Master) (d : Word) (s : State) : Res := .next (s.busWrite m.val Reg.TRIAD_ALARM d 15)

/-- DEV_BOOT_GO (20 R637). -/
def execDevBootGo (m : Master) (d : Word) (s : State) : Res := .next (s.busWrite m.val Reg.DEV_BOOT_GO d 15)

/-- SEC_PROG_SLOT (20 R640): the second write, to A + 4. -/
def execSecProgSlot (m : Master) (d : Word) (s : State) : Res := .next (s.busWrite m.val (Reg.SEC_PROG_SLOT + 4) d 15)

/-- LIFECYCLE_ADVANCE (20 R641): the second write, to A + 4. -/
def execLifecycleAdvance (m : Master) (d : Word) (s : State) : Res := .next (s.busWrite m.val (Reg.SEC_LC_ADVANCE + 4) d 15)

/-- PERF_SEL_WRITE (21 R652). -/
def execPerfSelWrite (m : Master) (k : Fin 1024) (d : Word) (s : State) : Res := .next (s.busWrite m.val (Reg.PERF_SEL k.val) d 15)

end Sys2Proof.Machine
end

