-- ==== Sys2Proof/Machine/ChanRows.lean ====
section
/-! DEFINITION. Commands and events of the channels: front end (04), conversion (05), time measurement (06), zero suppression and
capture (07). -/

namespace Sys2Proof.Machine

/-! ## CH_CONFIGURE (04 R155 to R157) -/

/-- Registers of CH_CONFIGURE in select order, with their parameter bytes (04 R155). -/
def feRegs : List (Nat × Nat) :=
  [(0x008, 32), (0x00C, 36), (0x010, 40), (0x014, 44), (0x018, 48), (0x01C, 52), (0x020, 56), (0x024, 60), (0x028, 64), (0x02C, 68),
   (0x030, 72), (0x034, 76), (0x038, 80), (0x03C, 84)]

/-- Words of a selection (04 R156). -/
def feWrites (e : Entry) : List (Nat × Word) := selected (e.p 24 4) feRegs e

/-- The resulting settings of one channel are valid: partner, period and level range (04 R124, R131, R132, R156). -/
def State.feOk (s : State) (e : Entry) (c : Nat) : Bool :=
  let l := feWrites e
  let mux := s.after c 0x008 l
  let ctrl := s.after c 0x014 l
  let level := (s.after c 0x018 l).toNat
  let sel := e.p 24 4
  !((sel.testBit 0 || sel.testBit 3) && badPartner c (fld mux 8 2) (fld mux 0 4) (bit ctrl 8))
    && (!(sel.testBit 6) || (decide ((s.after c 0x01C l).toNat + 100 ≤ (s.after c 0x020 l).toNat) && decide ((s.after c 0x020 l).toNat ≤ 60000000)))
    && (!(sel.testBit 4) || (if fld ctrl 1 2 = 1 then decide (10 ≤ level) && decide (level ≤ 25000) else decide (250 ≤ level) && decide (level ≤ 10000)))

def State.configureOk (s : State) (e : Entry) : Bool :=
  !(e.mask 0 24).isEmpty && e.p 24 4 != 0 && decide (e.p 24 4 < 2 ^ 14) && decide (e.p 28 4 ≤ 1) && rangesOk (feWrites e)
    && (e.mask 0 24).all (fun c => (s.settleMask e).feOk e c)

/-- A level lies above its ceiling (04 R156). -/
def State.levelHigh (s : State) (e : Entry) (c : Nat) : Bool :=
  let l := feWrites e
  (e.p 24 4).testBit 4 && decide ((if fld (s.after c 0x014 l) 1 2 = 1 then s.rf (Reg.CH_EXC_MAX c) 16 15 else s.rf (Reg.CH_EXC_MAX c) 0 15)
    < (s.after c 0x018 l).toNat)

def State.configure (s : State) (tk : Ticket) (e : Entry) : State :=
  let cs := e.mask 0 24
  let s := s.settleMask e
  if cs.any (fun c => (s.cv c).cal.isSome) then s.reply tk stBUSY []
  else if cs.any (fun c => s.levelHigh e c) then s.reply tk stREFUSED []
  else (forEach cs (fun s c => (s.chWrites c (feWrites e)).endFault c (feWrites e)) s).replyAt tk stOK [] s.tsNow

def cChConfigure : CmdSpec :=
  { op := 0x0301, lenOk := lenIs 11, paramOk := State.configureOk, run := State.configure }

/-- CH_CONFIGURE (04 R155). -/
def execChConfigure (m : Master) (s : State) : Res := .next (s.runCmd cChConfigure m.val)

/-! ## CH_READ (04 R158) -/

/-- CH_GOV (04 R151). -/
def State.chGov (s : State) : Word := word (s.gov.preq * 65536 + s.gov.stretch)

/-- The answer of CH_READ. -/
def State.chRead (s : State) (c : Nat) : List Byte :=
  let l := s.lastOf c
  let f := s.fe c
  let fl (b : Nat) : Nat := b2n (l.flags &&& b != 0)
  leBytesInt 4 l.v
    ++ leBytes 1 (b2n l.stale + 2 * fl fSUSPECT + 4 * fl fOPEN + 8 * fl fCLAMPED + 16 * b2n f.settling)
    ++ leBytes 1 f.src ++ leBytes 1 f.gain ++ leBytes 1 f.exc.code ++ leBytes 6 l.ts.toNat ++ leBytes 2 0
    ++ leBytes 4 (s.rget (Reg.CH_EXC_MEAS c)).toNat ++ leBytes 4 s.chGov.toNat ++ leBytes 4 f.vwMhz ++ leBytes 4 f.vwNs

def cChRead : CmdSpec :=
  { op := 0x0303, lenOk := lenIs 1, paramOk := fun _ e => decide (e.p 0 2 ≤ 191) && e.zero 2 6
    run := fun s tk e => s.reply tk stOK (s.chRead (e.p 0 2)) }

/-- CH_READ (04 R158). -/
def execChRead (m : Master) (s : State) : Res := .next (s.runCmd cChRead m.val)

/-! ## Front-end events (04) -/

/-- CLAMP_DETECT (04 R122). -/
def execClampDetect (c : Ch) (ball : Fin 4) (age : BitVec 8) (s : State) : Res := .next (s.clampDetect c.val ball.val age.toNat)

/-- CLAMP_END (04 R122). -/
def execClampEnd (c : Ch) (ball : Fin 4) (s : State) : Res := .next (s.updFe c.val (fun f => f.clampEnd ball.val s.now))

/-- SETTLE_END (04 R127). -/
def execSettleEnd (c : Ch) (s : State) : Res :=
  .next (s.updFe c.val (fun f => if f.inWindow s.now then f else { f with settling := false }))

/-- EXC_PULSE_START (04 R132). -/
def execExcPulseStart (c : Ch) (s : State) : Res := .next (s.pulseStart c.val)

/-- EXC_PULSE_END (04 R133). -/
def execExcPulseEnd (c : Ch) (mv ua : BitVec 16) (s : State) : Res := .next (s.pulseEnd c.val mv.toNat ua.toNat)

/-- EXC_DISCHARGE_DONE (04 R138). -/
def execExcDischargeDone (c : Ch) (s : State) : Res := .next (s.dischargeDone c.val)

/-- CHANNEL_TIMER (04 R134). -/
def execChannelTimer (c : Ch) (s : State) : Res := .next (s.channelTimer c.val)

/-- CONV_RUN_START (04 R135). -/
def execConvRunStart (c : Ch) (s : State) : Res := .next (s.convRunStart c.val)

/-- REVERSED_CHECK (04 R140). -/
def execReversedCheck (c : Ch) (sense : BitVec 17) (s : State) : Res := .next (s.reversedCheck c.val sense.toInt)

/-- VW_SWEEP_END (04 R141). -/
def execVwSweepEnd (c : Ch) (mv ua : BitVec 16) (s : State) : Res := .next (s.sweepDone c.val mv.toNat ua.toNat)

/-- VW_LISTEN_START (04 R141). -/
def execVwListenStart (c : Ch) (s : State) : Res := .next (s.listenStart c.val)

/-- VW_GATE_END (04 R142). -/
def execVwGateEnd (c : Ch) (s : State) : Res := .next (s.vwGateEnd c.val)

/-- EXC_SHORT_DETECT (04 R144). -/
def execExcShortDetect (c : Ch) (s : State) : Res := .next (s.shortDetect c.val)

/-- EXC_SHORT_FOLDBACK (04 R144). -/
def execExcShortFoldback (c : Ch) (s : State) : Res := .next (s.shortFoldback c.val)

/-- EXC_OPEN_DETECT (04 R144). -/
def execExcOpenDetect (c : Ch) (s : State) : Res := .next (s.openDetect c.val)

/-- RAIL_DETECT (04 R144). -/
def execRailDetect (c : Ch) (s : State) : Res :=
  .next (if s.rb (Reg.CH_OPEN_TEST c.val) 17 then s.wireOpen c.val else s)

/-- RAIL_ABSENT (04 R144): with steps disabled the condition clears. -/
def execRailAbsent (c : Ch) (s : State) : Res :=
  .next (if s.rf (Reg.CH_OPEN_TEST c.val) 0 16 = 0 then s.wireWhole c.val else s)

/-- OPEN_TEST_STEP (04 R146). -/
def execOpenTestStep (c : Ch) (s : State) : Res := .next (s.openTestStep c.val)

/-- OPEN_TEST_RETURN (04 R146). -/
def execOpenTestReturn (c : Ch) (bad : Bool) (s : State) : Res := .next (s.openTestReturn c.val bad)

/-- EXC_GOVERNOR (04 R150). -/
def execExcGovernor (s : State) : Res := .next s.excGovernor

/-! ## Conversion (05) -/

/-- GROUP_OUTPUT (05 R160). -/
def execGroupOutput (c : Ch) (codes : List (BitVec 12)) (s : State) : Res := .next (s.groupOutput c.val codes)

/-- DIVIDER_RESTART (05 R161). -/
def execDividerRestart (c : Ch) (s : State) : Res := .next (s.dividerRestart c.val)

/-- BGCAL_UPDATE (05 R164): the changes of the stage weights, that of the first stage and those of the others. -/
def execBgcalUpdate (c : Ch) (first : BitVec 16) (rest : List (BitVec 16)) (s : State) : Res :=
  .next (s.bgUpdate c.val ((first :: rest).map BitVec.toInt))

/-- SLOW_OUTPUT (05 R175). -/
def execSlowOutput (c : Ch) (s : State) : Res := .next (s.slowOutput c.val)

/-- Every selected channel uses the one gain of the mask (05 R188). -/
def State.systemOk (s : State) (e : Entry) : Bool := (e.mask 0 24).all (fun c => e.p 24 1 == 2 ^ (s.fe c).gain)

def State.calibrateOk (s : State) (e : Entry) : Bool :=
  !(e.mask 0 24).isEmpty && e.p 24 1 != 0 && decide (e.p 25 1 ≤ 2) && decide (4 ≤ e.p 26 1) && decide (e.p 26 1 ≤ 16) && e.zero 27 5
    && (e.p 25 1 != 2 || (s.settleMask e).systemOk e)

def State.calibrate (s : State) (tk : Ticket) (e : Entry) : State :=
  let cs := e.mask 0 24
  let s := s.settleMask e
  if cs.any (fun c => (s.chan c).held) then s.reply tk stBUSY []
  else
    let s := s.replyPending tk
    let s := forEach cs (fun s c => s.calStart c (e.p 25 1) (e.p 26 1) (bitsOf 8 (e.p 24 1))) s
    { s with calJobs := s.calJobs ++ [⟨tk, cs, cs⟩] }

def cChCalibrate : CmdSpec := { op := 0x0302, lenOk := lenIs 4, paramOk := State.calibrateOk, run := State.calibrate }

/-- CH_CALIBRATE (05 R187). -/
def execChCalibrate (m : Master) (s : State) : Res := .next (s.runCmd cChCalibrate m.val)

/-- CAL_MEASURE_DONE (05 R189): measurement `ph` (0 ZERO, 1 CAL_POS, 2 CAL_NEG, 3 MAIN) is complete; it ends only where it is the one in progress. -/
def execCalMeasureDone (c : Ch) (ph : Fin 4) (s : State) : Res := .next (s.calDone c.val ph.val)

/-- The result word of one channel (05 R192); bytes 2 and 3 are counts of gains. DESIGN CHOICE (log entry 30). -/
def State.calResultWord (s : State) (c : Nat) : List Byte :=
  let v := s.cv c
  let w := s.corrNow c
  leBytes 2 c ++ leBytes 1 v.calW ++ leBytes 1 v.calF ++ leBytes 2 (fld w 0 16) ++ leBytes 2 (fld w 16 16)

/-- The final reply of a calibration (05 R192). -/
def State.calFinish (s : State) (j : ChanJob) : State :=
  let s := { s with calJobs := s.calJobs.erase j }
  s.finish j.tk (if j.chans.all (fun c => (s.cv c).calF == 0) then stOK else stHW_FAULT) (j.chans.flatMap (fun c => s.calResultWord c))

/-- CH_CALIBRATE_DONE (05 R192). -/
def execChCalibrateDone (s : State) : Res :=
  .next (match s.calJobs.find? (fun j => j.left.isEmpty) with
    | some j => s.calFinish j
    | none => s)

/-! ## Time measurement (06) -/

/-- DISC_EDGE (06 R203). -/
def execDiscEdge (c : Ch) (k : Fin 2) (lead : Bool) (frac : BitVec 10) (s : State) : Res :=
  .next (s.discEdge c.val k.val lead frac.toNat)

/-- EDGE_QUALIFY (06 R207). -/
def execEdgeQualify (c : Ch) (k : Fin 2) (s : State) : Res := .next (s.edgeQualify c.val k.val)

/-- MICA_MEASURE_DONE (06 R211). -/
def execMicaMeasureDone (c : Ch) (k : Fin 4) (v : BitVec 10) (s : State) : Res := .next (s.micaMeasured c.val k.val v.toNat)

/-- MICA_REARM_DONE (06 R213). -/
def execMicaRearmDone (c : Ch) (k : Fin 4) (v1 v2 : BitVec 10) (s : State) : Res :=
  .next (s.micaRearmed c.val k.val v1.toNat v2.toNat)

/-- MICA_REFRESH (06 R214). -/
def execMicaRefresh (c : Ch) (k : Fin 4) (s : State) : Res := .next (s.micaRefresh c.val k.val)

/-- HIT_BUILD (06 R218). -/
def execHitBuild (c : Ch) (s : State) : Res := .next (s.buildRec c.val false)

/-- PULSE_EMIT (06 R219). -/
def execPulseEmit (c : Ch) (s : State) : Res := .next (s.buildRec c.val true)

/-- PULSE_LONG_TIMEOUT (06 R208). -/
def execPulseLongTimeout (c : Ch) (k : Fin 2) (s : State) : Res := .next (s.pulseLong c.val k.val)

/-- FREQ_GATE_CLOSE (06 R223). -/
def execFreqGateClose (c : Ch) (s : State) : Res :=
  .next (if s.gateOver c.val false then (s.gateRecord c.val false).nextGate c.val else s)

/-- INTERVAL_DECIDE (06 R228). -/
def execIntervalDecide (c : Ch) (s : State) : Res := .next (s.ivlDecide c.val)

/-- INTERVAL_OVERFLOW (06 R229). -/
def execIntervalOverflow (c : Ch) (s : State) : Res := .next (s.ivlOverflow c.val)

/-- Repetition `m` of the test pulse (06 R230); a characterisation has its own settings (06 R241). -/
def State.tpPulse (s : State) (c m : Nat) : TpPulse :=
  let t := s.td c
  if s.charOn c then ⟨t.tp0 + m * 80, m * 617 % 1024, 256, 2⟩
  else
    let w := s.rget (Reg.CH_TP c)
    let p := s.rget (Reg.CH_TP_PERIOD c)
    ⟨t.tp0 + m * fld p 0 16, m * fld p 16 10 % 1024, (BitVec.ofNat 10 (fld w 16 10)).toInt, fld w 0 8⟩

/-- TEST_PULSE_LAUNCH (06 R230). -/
def execTestPulseLaunch (c : Ch) (s : State) : Res :=
  let t := s.td c.val
  let p := s.tpPulse c.val t.tpM
  .next (if (s.fe c.val).src = 7 ∧ p.tick ≤ s.now then s.updTd c.val (fun t => { t with tpM := t.tpM + 1, tpLast := some p }) else s)

/-- Registers of TDC_CONFIGURE in select order (06 R239); the skews have no parameter. -/
def tdcRegs : List (Nat × Nat) := [(0x200, 32), (0x204, 36), (0x208, 40), (0, 0), (0, 0), (0x270, 48), (0x274, 52)]

def tdcWrites (e : Entry) : List (Nat × Word) := (selected (e.p 24 4) tdcRegs e).filter (fun x => x.1 != 0)

/-- The fused skews come back (06 R239). -/
def State.fusedSkews (s : State) (c sel : Nat) : State :=
  forEach ([0, 1].filter (fun d => sel.testBit (3 + d))) (fun s d => s.rset (Reg.CH_TDC_SKEW c d) (Config.fusedSkew c d)) s

def cTdcConfigure : CmdSpec :=
  { op := 0x0401, lenOk := lenIs 7
    paramOk := fun _ e => !(e.mask 0 24).isEmpty && e.p 24 4 != 0 && decide (e.p 24 4 < 128) && decide (e.p 28 4 ≤ 1) && e.zero 44 4
      && rangesOk (tdcWrites e)
    run := fun s tk e =>
      (forEach (e.mask 0 24) (fun s c => (s.chWrites c (tdcWrites e)).fusedSkews c (e.p 24 4)) s).replyAt tk stOK [] s.tsNow }

/-- TDC_CONFIGURE (06 R239). -/
def execTdcConfigure (m : Master) (s : State) : Res := .next (s.runCmd cTdcConfigure m.val)

/-- A channel's characterisation starts (06 R241). Records in progress, of which samples or edges are still awaited, are dropped.
DESIGN CHOICE (log entry 33). -/
def State.charStart (s : State) (c n : Nat) (skew : Bool) : State :=
  let f := s.fe c
  let s := (s.updFe c (fun f => { f with testEnd := none })).openWindow c
  let s := ((s.switchInput c 7 f.partner f.gain).restartTp c)
  let s := s.updTd c (fun t => { t with
    char := some ⟨n, skew, s.now + 2 ^ (n + 1) * 80, 0, 0, 0, 0, []⟩
    recs := []
    micas := t.micas.map (fun e => if e.2.st = .fault then (e.1, { e.2 with st := .calibrate, fails := 0, due := s.now + 25 }) else e) })
  (s.discOff c 0).discOff c 1

def State.characterise (s : State) (tk : Ticket) (e : Entry) : State :=
  let cs := e.mask 0 24
  let s := s.settleMask e
  if cs.any (fun c => (s.chan c).held) then s.reply tk stBUSY []
  else if cs.any (fun c => (s.fe c).vwOn) then s.reply tk stWRONG_STATE []
  else
    let s := s.replyPending tk
    let s := forEach cs (fun s c => s.charStart c (e.p 24 1) (e.p 25 1 == 1)) s
    { s with charJobs := s.charJobs ++ [⟨tk, cs, cs⟩] }

def cTdcCharacterise : CmdSpec :=
  { op := 0x0402, lenOk := lenIs 4
    paramOk := fun _ e => !(e.mask 0 24).isEmpty && decide (10 ≤ e.p 24 1) && decide (e.p 24 1 ≤ 20) && decide (e.p 25 1 ≤ 1) && e.zero 26 6
    run := State.characterise }

/-- TDC_CHARACTERISE (06 R240). -/
def execTdcCharacterise (m : Master) (s : State) : Res := .next (s.runCmd cTdcCharacterise m.val)

/-- The mean error of a discriminator, rounded half toward +∞; without an edge it is a free value (06 R241). -/
def meanErr (sum : Int) (n free : Nat) : Int :=
  if n = 0 then (Config.freeWord free).toInt else (2 * sum + n) / (2 * n)

/-- The largest |INL| of a code-density histogram of one interpolator, in 0.1 LSB (06 R241). -/
def inlOf (hist : SMap Nat) (i : Nat) : Nat :=
  let cs := (List.range 1024).map (fun b => mget 0 hist (1024 * i + b))
  let total := cs.sum
  if total = 0 then 0
  else
    (cs.foldl (fun (a : Nat × Nat × Nat) n =>
      let cum := a.1 + n
      let b := a.2.1 + 1
      (cum, b, max a.2.2 (10 * (((1024 * cum : Nat) : Int) - (b * total : Nat)).natAbs / total))) (0, 0, 0)).2.2

/-- What a characterisation does to one skew: its new value and whether the change is refused (06 R241). -/
def newSkew (old : Word) (mean : Int) (write : Bool) : Word × Bool :=
  if !write then (old, false)
  else if -6554 ≤ mean ∧ mean ≤ 6554 then (old + BitVec.ofInt 32 mean, false)
  else (old, true)

/-- The result of one channel (06 R242). -/
structure CharRes where
  skew0 : Word
  skew1 : Word
  refused : Bool
  bytes : List Byte
  good : Bool
  deriving DecidableEq, Repr

def State.charResult (s : State) (c : Nat) (j : CharJob) : CharRes :=
  let t := s.td c
  let a := newSkew (s.rget (Reg.CH_TDC_SKEW c 0)) (meanErr j.sum0 j.cnt0 s.freeCtr) j.skew
  let b := newSkew (s.rget (Reg.CH_TDC_SKEW c 1)) (meanErr j.sum1 j.cnt1 (s.freeCtr + 1)) j.skew
  let rot := ([0, 1, 2, 3].filter (fun i => (t.mica i).st != .fault)).map (fun i => 2 ^ i)
  let inl := ([0, 1, 2, 3].map (inlOf j.hist)).foldl max 0
  let span := ([0, 1, 2, 3].map (fun i => (t.mica i).span)).sum / 4
  { skew0 := a.1, skew1 := b.1, refused := a.2 || b.2, good := rot.sum == 15 && !(a.2 || b.2)
    bytes := leBytes 2 c ++ leBytes 1 rot.sum ++ leBytes 1 (satNat 255 inl) ++ leBytes 4 a.1.toNat ++ leBytes 4 b.1.toNat
      ++ leBytesInt 2 span ++ leBytes 1 (b2n (a.2 || b.2)) ++ leBytes 1 0 }

/-- TEST_PULSE takes effect with the registers' settings again. -/
def State.tpAgain (s : State) (c : Nat) : State := if (s.fe c).src = 7 then s.restartTp c else s

/-- A channel's characterisation ends (06 R241). -/
def State.charEnd (s : State) (c : Nat) (r : CharRes) : State :=
  let s := { s with freeCtr := s.freeCtr + 2 }
  let s := (s.rset (Reg.CH_TDC_SKEW c 0) r.skew0).rset (Reg.CH_TDC_SKEW c 1) r.skew1
  ((((s.discOff c 0).discOff c 1).updTd c (fun t => { t with char := none })).restoreInput c).tpAgain c

/-- The replies of a characterisation: results of 127 channels fit one reply (03 R89, 06 R242). -/
def State.charReplies (s : State) (tk : Ticket) (rs : List CharRes) : State :=
  let st := if rs.all (fun r => r.good) then stOK else stHW_FAULT
  if rs.length ≤ 127 then s.finish tk st (rs.flatMap (fun r => r.bytes))
  else (s.reply tk stPARTIAL ((rs.take 127).flatMap (fun r => r.bytes))).finish tk st ((rs.drop 127).flatMap (fun r => r.bytes))

/-- The characterisation of a job's channels is over (06 R241). -/
def State.charDue (s : State) (j : ChanJob) : Bool :=
  j.chans.all (fun c => match (s.td c).char with | some x => decide (x.due ≤ s.now) | none => true)

def State.charFinish (s : State) (j : ChanJob) : State :=
  let r := j.chans.foldl (fun (a : State × List CharRes) c =>
    match (a.1.td c).char with
    | some x => (a.1.charEnd c (a.1.charResult c x), a.2 ++ [a.1.charResult c x])
    | none => a) (s, [])
  ({ r.1 with charJobs := r.1.charJobs.erase j }).charReplies j.tk r.2

/-- TDC_CHARACTERISE_DONE (06 R242). -/
def execTdcCharacteriseDone (s : State) : Res :=
  .next (match s.charJobs.find? (fun j => s.charDue j) with
    | some j => s.charFinish j
    | none => s)

/-- The new gate sequence of FREQ_CONFIGURE (06 R243). -/
def State.freqConfigure (s : State) (tk : Ticket) (e : Entry) : State :=
  let cs := e.mask 0 24
  let s := s.settleMask e
  if cs.any (fun c => (s.fe c).vwOn) then s.reply tk stWRONG_STATE []
  else
    (forEach cs (fun s c => (s.rset (Reg.CH_FREQ_CTRL c) (word (e.p 24 4))).startFreq c) s).replyAt tk stOK [] s.tsNow

def cFreqConfigure : CmdSpec :=
  { op := 0x0403, lenOk := lenIs 4
    paramOk := fun _ e => !(e.mask 0 24).isEmpty && chInRange 0x240 (word (e.p 24 4)) && e.zero 28 4, run := State.freqConfigure }

/-- FREQ_CONFIGURE (06 R243). -/
def execFreqConfigure (m : Master) (s : State) : Res := .next (s.runCmd cFreqConfigure m.val)

/-- The interval unit of a channel is configured (06 R244). -/
def State.ivlConfigure (s : State) (c : Nat) (ctrl win : Word) : State :=
  ((s.rset (Reg.CH_IVL_CTRL c) ctrl).rset (Reg.CH_IVL_WIN c) win).ivlRestart c (s.rget (Reg.CH_IVL_CTRL c))

def cIntervalConfigure : CmdSpec :=
  { op := 0x0404, lenOk := lenIs 4
    paramOk := fun _ e => !(e.mask 0 24).isEmpty && chInRange 0x260 (word (e.p 24 4)) && chInRange 0x264 (word (e.p 28 4))
    run := fun s tk e =>
      (forEach (e.mask 0 24) (fun s c => (s.settlePosted c).ivlConfigure c (word (e.p 24 4)) (word (e.p 28 4))) s).replyEffect tk stOK [] }

/-- INTERVAL_CONFIGURE (06 R244). -/
def execIntervalConfigure (m : Master) (s : State) : Res := .next (s.runCmd cIntervalConfigure m.val)

/-! ## Samples and capture (01 R22, 07) -/

/-- SAMPLE_ITEM_CLOSE (01 R22). -/
def execSampleItemClose (c : Ch) (s : State) : Res :=
  .next (match (s.chan c.val).pack with
    | some p => if p.tick + 64 ≤ s.now then s.packClose c.val else s
    | none => s)

/-- Registers of CAPTURE_CONFIGURE in select order (07 R268). -/
def capRegs : List (Nat × Nat) := [(0x300, 52), (0x304, 56), (0x320, 32), (0x324, 36), (0x328, 40), (0x32C, 44), (0x330, 48)]

def capWrites (e : Entry) : List (Nat × Word) := selected (e.p 24 4) capRegs e

/-- The resulting window needs no spill, or spill is enabled (07 R269). -/
def State.postOk (s : State) (e : Entry) (c : Nat) : Bool :=
  let l := capWrites e
  e.p 24 4 &&& 0x58 == 0 || bit (s.after c 0x330 l) 31
    || decide ((s.after c 0x324 l).toNat + (s.after c 0x328 l).toNat ≤ 65536)

def State.captureOk (s : State) (e : Entry) : Bool :=
  !(e.mask 0 24).isEmpty && decide (e.p 24 4 < 128) && decide (e.p 28 4 ≤ 5) && (e.p 24 4 != 0 || 2 ≤ e.p 28 4) && e.zero 60 4
    && rangesOk (capWrites e) && (e.mask 0 24).all (fun c => (s.settleMask e).postOk e c)

/-- Start raw export (07 R269). -/
def State.rawStart (s : State) (c : Nat) : State :=
  s.updCap c (fun x => if x.raw then x else { x with raw := true, rawFrom := s.now, rawBuf := [] })

def State.capture (s : State) (tk : Ticket) (e : Entry) : State :=
  let cs := e.mask 0 24
  let s := s.settleMask e
  let fl := e.p 28 4
  let add := ((cs.filter (fun c => !(s.capc c).raw)).map (fun c => s.rawCharge c)).sum
  if fl.testBit 1 && decide (s.exportBudget < s.exportUsed + add) then s.reply tk stNO_RESOURCE []
  else
    let s := forEach cs (fun s c => s.chWrites c (capWrites e)) s
    let s := if fl.testBit 1 then forEach cs (fun s c => s.rawStart c) s else s
    let s := if fl.testBit 2 then forEach cs (fun s c => s.rawStop c) s else s
    s.replyAt tk stOK [] s.tsNow

def cCaptureConfigure : CmdSpec := { op := 0x0504, lenOk := lenIs 8, paramOk := State.captureOk, run := State.capture }

/-- CAPTURE_CONFIGURE (07 R268). -/
def execCaptureConfigure (m : Master) (s : State) : Res := .next (s.runCmd cCaptureConfigure m.val)

/-- CAPTURE_FREEZE (07 R253). -/
def execCaptureFreeze (c : Ch) (s : State) : Res := .next (s.captureFreeze c.val)

/-- The end of a READOUT whose items have all crossed the link, or of a spill that was cut short (07 R257, R259). -/
def State.readoutDone (s : State) (c : Nat) : State :=
  match (s.capc c).st, (s.capc c).run with
  | .readout, some r =>
    if s.now < r.due then s
    else if r.spill then (s.capDrain c true).spillEnd c
    else if s.roWaits c then s
    else s.capEnd c false
  | _, _ => s

/-- READOUT_DONE (07 R257). -/
def execReadoutDone (c : Ch) (s : State) : Res := .next (s.readoutDone c.val)

/-- CAPTURE_HOLDOFF_END (07 R257). -/
def execCaptureHoldoffEnd (c : Ch) (s : State) : Res :=
  .next (if (s.capc c.val).st = .holdoff ∧ (s.capc c.val).holdEnd ≤ s.now then
      (s.updCap c.val (fun x => { x with st := .filling })).capJudge c.val
    else s)

/-- SPILL_DRAIN_RESUME (12 R402). -/
def execSpillDrainResume (c : Ch) (s : State) : Res :=
  .next (match (s.capc c.val).run.bind (fun r => r.spillQ) with
    | some q =>
      if (s.capc c.val).stalled && s.spillRoom c.val q then
        (s.updCap c.val (fun x => { x with stalled := false })).capDrain c.val false
      else s
    | none => s)

/-- All samples of a spill are written: the drain ends with the CAPTURE record (07 R258). -/
def State.spillDone (s : State) (c : Nat) : State :=
  match (s.capc c).st, (s.capc c).run with
  | .spill, some r => if r.stop ≤ (s.capc c).written ∨ r.planned.isSome then (s.capDrain c true).spillEnd c else s
  | _, _ => s

/-- SPILL_DRAIN_DONE (07 R258). -/
def execSpillDrainDone (c : Ch) (s : State) : Res := .next (s.spillDone c.val)

/-- SPILL_TRUNCATE (07 R259). -/
def execSpillTruncate (c : Ch) (s : State) : Res := .next (s.spillTruncate c.val)

end Sys2Proof.Machine
end

