-- ==== Sys2Proof/Machine/EmRows.lean ====
section
/-! DEFINITION. Events and the command of the emitters (19). The register writes that enable and disable one stand with the other
posted writes. -/

namespace Sys2Proof.Machine

/-- EM_TEST_DONE (19 R620): the neighbour that the test found, 8 for GND. -/
def execEmTestDone (n : EmN) (short : Option (Fin 9)) (s : State) : Res := .next (s.emTestDone n.val (short.map (·.val)))

/-- EM_RAMPDOWN_DONE (19 R612). -/
def execEmRampdownDone (n : EmN) (s : State) : Res := .next (s.emRampDone n.val)

/-- EM_SHORT_RUN (19 R620). -/
def execEmShortRun (n : EmN) (short : Fin 9) (s : State) : Res := .next (s.emShortRun n.val short.val)

/-- EM_PULSE (19 R618). -/
def execEmPulse (n : EmN) (s : State) : Res := .next (s.emPulse n.val)

/-- SPREAD_BOUNDARY (19 R616). -/
def execSpreadBoundary (n : EmN) (s : State) : Res := .next (s.spreadBoundary n.val)

/-- EM_SINK_OUT_OF_COMPLIANCE (19 R617). -/
def execEmSinkOutOfCompliance (n : EmN) (s : State) : Res := .next (s.emOpen n.val)

/-- EM_GOVERNOR (19 R622): means of each emitter's sink current and ball voltage. -/
def execEmGovernor (meas : List (BitVec 10 × BitVec 16)) (s : State) : Res := .next (s.emGovernor meas)

/-- EMIT_CONFIGURE (19 R625). -/
def execEmitConfigure (m : Master) (s : State) : Res := .next (s.runCmd cEmitConfigure m.val)

end Sys2Proof.Machine
end

