-- ==== Sys2Proof/Machine/EngRows.lean ====
section
/-! DEFINITION. The instructions of the reduction engines (09 R322 to R333). -/

namespace Sys2Proof.Machine

/-! ## Integer (09 R322) -/

/-- Signed saturation of an exact sum. -/
def satWord (v : Int) : Word × Nat := let r := satSigned 32 v; (BitVec.ofInt 32 r.1, if r.2 then skSAT else 0)

def execAdd (e : Fin 192) (s : State) : Res := .next (s.intR e.val .add (fun a b => (a + b, 0)))
def execSub (e : Fin 192) (s : State) : Res := .next (s.intR e.val .sub (fun a b => (a - b, 0)))
def execAnd (e : Fin 192) (s : State) : Res := .next (s.intR e.val .and (fun a b => (a &&& b, 0)))
def execOr (e : Fin 192) (s : State) : Res := .next (s.intR e.val .or (fun a b => (a ||| b, 0)))
def execXor (e : Fin 192) (s : State) : Res := .next (s.intR e.val .xor (fun a b => (a ^^^ b, 0)))
def execSll (e : Fin 192) (s : State) : Res := .next (s.intR e.val .sll (fun a b => (a <<< fld b 0 5, 0)))
def execSrl (e : Fin 192) (s : State) : Res := .next (s.intR e.val .srl (fun a b => (a >>> fld b 0 5, 0)))
def execSra (e : Fin 192) (s : State) : Res := .next (s.intR e.val .sra (fun a b => (a.sshiftRight (fld b 0 5), 0)))
def execSlt (e : Fin 192) (s : State) : Res := .next (s.intR e.val .slt (fun a b => (word (b2n (a.slt b)), 0)))
def execSltu (e : Fin 192) (s : State) : Res := .next (s.intR e.val .sltu (fun a b => (word (b2n (a.ult b)), 0)))
def execMin (e : Fin 192) (s : State) : Res := .next (s.intR e.val .min (fun a b => (if a.slt b then a else b, 0)))
def execMax (e : Fin 192) (s : State) : Res := .next (s.intR e.val .max (fun a b => (if a.slt b then b else a, 0)))
def execMinu (e : Fin 192) (s : State) : Res := .next (s.intR e.val .minu (fun a b => (if a.ult b then a else b, 0)))
def execMaxu (e : Fin 192) (s : State) : Res := .next (s.intR e.val .maxu (fun a b => (if a.ult b then b else a, 0)))
def execAdds (e : Fin 192) (s : State) : Res := .next (s.intR e.val .adds (fun a b => satWord (a.toInt + b.toInt)))
def execSubs (e : Fin 192) (s : State) : Res := .next (s.intR e.val .subs (fun a b => satWord (a.toInt - b.toInt)))
def execAbs (e : Fin 192) (s : State) : Res := .next (s.intR e.val .abs (fun a _ => satWord a.toInt.natAbs))
def execClz (e : Fin 192) (s : State) : Res := .next (s.intR e.val .clz (fun a _ => (word (if a = 0 then 32 else 31 - a.toNat.log2), 0)))

def execAddi (e : Fin 192) (s : State) : Res := .next (s.intI e.val .addi (fun a w => a + BitVec.ofInt 32 (signedOf 16 (wImm w))))
def execAndi (e : Fin 192) (s : State) : Res := .next (s.intI e.val .andi (fun a w => a &&& word (wImm w)))
def execOri (e : Fin 192) (s : State) : Res := .next (s.intI e.val .ori (fun a w => a ||| word (wImm w)))
def execXori (e : Fin 192) (s : State) : Res := .next (s.intI e.val .xori (fun a w => a ^^^ word (wImm w)))
def execSlli (e : Fin 192) (s : State) : Res := .next (s.intI e.val .slli (fun a w => a <<< fld w 0 5))
def execSrli (e : Fin 192) (s : State) : Res := .next (s.intI e.val .srli (fun a w => a >>> fld w 0 5))
def execSrai (e : Fin 192) (s : State) : Res := .next (s.intI e.val .srai (fun a w => a.sshiftRight (fld w 0 5)))
def execLui (e : Fin 192) (s : State) : Res := .next (s.intI e.val .lui (fun _ w => word (wImm w * 65536)))

/-! ## Multiply and divide (09 R323) -/

/-- The high word of an exact product. -/
def hiWord (v : Int) : Word := BitVec.ofInt 32 (v / (2 ^ 32 : Nat))

def execMul (e : Fin 192) (s : State) : Res := .next (s.intR e.val .mul (fun a b => (a * b, 0)))
def execMulh (e : Fin 192) (s : State) : Res := .next (s.intR e.val .mulh (fun a b => (hiWord (a.toInt * b.toInt), 0)))
def execMulhu (e : Fin 192) (s : State) : Res :=
  .next (s.intR e.val .mulhu (fun a b => (word (a.toNat * b.toNat / 2 ^ 32), 0)))
def execMac (e : Fin 192) (s : State) : Res :=
  .next (s.engRegs e.val .mac (fun x w => x.setS (wRd w) (x.sreg (wRd w) + x.sreg (wRa w) * x.sreg (wRb w))))
def execDiv (e : Fin 192) (s : State) : Res :=
  .next (s.intR e.val .div (fun a b => if b = 0 then (0xFFFFFFFF, skDIV0) else (BitVec.ofInt 32 (a.toInt.tdiv b.toInt), 0)))
def execDivu (e : Fin 192) (s : State) : Res :=
  .next (s.intR e.val .divu (fun a b => if b = 0 then (0xFFFFFFFF, skDIV0) else (word (a.toNat / b.toNat), 0)))
def execRem (e : Fin 192) (s : State) : Res :=
  .next (s.intR e.val .rem (fun a b => if b = 0 then (a, skDIV0) else (BitVec.ofInt 32 (a.toInt.tmod b.toInt), 0)))
def execRemu (e : Fin 192) (s : State) : Res :=
  .next (s.intR e.val .remu (fun a b => if b = 0 then (a, skDIV0) else (word (a.toNat % b.toNat), 0)))

/-! ## Compares, predicates, special registers (09 R316, R317, R324) -/

def execCmp (e : Fin 192) (s : State) : Res :=
  .next (s.engRegs e.val .cmp (fun x w =>
    let a := x.sreg (wRa w)
    let b := x.sreg (wRb w)
    x.setP (fld w 21 2) (pbits (condOf (fld w 0 3) a.toInt b.toInt a.toNat b.toNat))))
def execCmpi (e : Fin 192) (s : State) : Res :=
  .next (s.engRegs e.val .cmpi (fun x w =>
    let a := x.sreg (wRa w)
    let b : Word := BitVec.ofInt 32 (signedOf 16 (wImm w))
    x.setP (wSPd w) (pbits (condOf (fld w 23 3) a.toInt b.toInt a.toNat b.toNat))))

/-- A special register of an engine (09 R316). -/
def State.specialReg (s : State) (e n : Nat) : Word :=
  let x := s.engine e
  let ts := (s.island (e / 16)).startTs.toNat
  if n = 0 then word e
  else if n = 1 then (match x.r.cur with | some r => word (r.idx % 256) | none => 0xFFFFFFFF)
  else if n = 2 then word ts
  else if n = 3 then word (ts / 2 ^ 32)
  else if n = 4 then word x.perNum
  else if n = 5 then word (s.engCyc (e / 16))
  else if n = 6 then word (min 65535 (s.engDepth e))
  else if n = 7 then x.r.sticky
  else 0

def execGetsr (e : Fin 192) (s : State) : Res :=
  .next (s.engStep e.val .getsr (fun s w => s.updRegs e.val (fun x => x.setS (wRd w) (s.specialReg e.val (wRb w)))))
def execSetsr (e : Fin 192) (s : State) : Res :=
  .next (s.engRegs e.val .setsr (fun x w => { x with sticky := x.sticky &&& ~~~ (x.sreg (wRd w)) }))

def execPand (e : Fin 192) (s : State) : Res := .next (s.predP e.val .pand (fun a b => a &&& b))
def execPor (e : Fin 192) (s : State) : Res := .next (s.predP e.val .por (fun a b => a ||| b))
def execPxor (e : Fin 192) (s : State) : Res := .next (s.predP e.val .pxor (fun a b => a ^^^ b))
def execPandn (e : Fin 192) (s : State) : Res := .next (s.predP e.val .pandn (fun a b => a &&& ~~~ b))

/-! ## Loads, stores and atomics (09 R325) -/

def execLdb (e : Fin 192) (s : State) : Res := .next (s.engLoad e.val .ldb 1 true)
def execLdbu (e : Fin 192) (s : State) : Res := .next (s.engLoad e.val .ldbu 1 false)
def execLdh (e : Fin 192) (s : State) : Res := .next (s.engLoad e.val .ldh 2 true)
def execLdhu (e : Fin 192) (s : State) : Res := .next (s.engLoad e.val .ldhu 2 false)
def execLdw (e : Fin 192) (s : State) : Res := .next (s.engLoad e.val .ldw 4 false)
def execStb (e : Fin 192) (s : State) : Res := .next (s.engStore e.val .stb 1 (fun x w => leBytes 1 (x.sreg (wRd w)).toNat))
def execSth (e : Fin 192) (s : State) : Res := .next (s.engStore e.val .sth 2 (fun x w => leBytes 2 (x.sreg (wRd w)).toNat))
def execStw (e : Fin 192) (s : State) : Res := .next (s.engStore e.val .stw 4 (fun x w => leBytes 4 (x.sreg (wRd w)).toNat))
def execStv (e : Fin 192) (s : State) : Res := .next (s.engStore e.val .stv 16 (fun x w => leBytes 16 (x.vreg (wRd w)).toNat))

def execLdv (e : Fin 192) (s : State) : Res :=
  .next (s.engStep e.val .ldv (fun s w =>
    let x := s.engine e.val
    let a := memAddr x.r w 16
    match addrFault (wSp w) a 16 with
    | some c => s.engFault e.val c
    | none =>
      if wSp w = 5 then s.shQueue e.val a (.loadV (wRd w))
      else (s.loadFlags e.val (wSp w) a 16).updRegs e.val
        (fun r => r.setV (wRd w) (BitVec.ofNat 128 (leNat (x.spaceBytes (wSp w) a 16))))))

def execAadd (e : Fin 192) (s : State) : Res := .next (s.engAtomic e.val .aadd (fun rd v => .aadd rd v))
def execAswp (e : Fin 192) (s : State) : Res := .next (s.engAtomic e.val .aswp (fun rd v => .aswp rd v))

/-- 09 R300. -/
def execShAccessServed (i : Isl) (b : Fin 8) (s : State) : Res := .next ((s.shServe i.val b.val).handGo (8 * i.val + b.val))

/-! ## Vector (09 R326) -/

def execVadd (e : Fin 192) (s : State) : Res := .next (s.vec2 e.val .vadd (fun _ a b => (a + b, false)))
def execVsub (e : Fin 192) (s : State) : Res := .next (s.vec2 e.val .vsub (fun _ a b => (a - b, false)))
def execVadds (e : Fin 192) (s : State) : Res := .next (s.vec2 e.val .vadds (fun n a b => satSigned n (a + b)))
def execVsubs (e : Fin 192) (s : State) : Res := .next (s.vec2 e.val .vsubs (fun n a b => satSigned n (a - b)))
def execVmul (e : Fin 192) (s : State) : Res := .next (s.vec2 e.val .vmul (fun _ a b => (a * b, false)))
def execVmulh (e : Fin 192) (s : State) : Res := .next (s.vec2 e.val .vmulh (fun n a b => (a * b / (2 ^ n : Nat), false)))
def execVmac (e : Fin 192) (s : State) : Res :=
  .next (s.vecV e.val .vmac (fun x w i =>
    let a := x.vreg (wVa w)
    let b := x.vreg (wVb w)
    let sum := slane true (x.vreg (wVd w)) i + slane false a (2 * i) * slane false b (2 * i)
      + slane false a (2 * i + 1) * slane false b (2 * i + 1)
    let r := satSigned 32 sum
    (unsignedOf 32 r.1, r.2)))
def execVmin (e : Fin 192) (s : State) : Res := .next (s.vec2 e.val .vmin (fun _ a b => (min a b, false)))
def execVmax (e : Fin 192) (s : State) : Res := .next (s.vec2 e.val .vmax (fun _ a b => (max a b, false)))
def execVand (e : Fin 192) (s : State) : Res := .next (s.vecB e.val .vand (fun a b => a &&& b))
def execVor (e : Fin 192) (s : State) : Res := .next (s.vecB e.val .vor (fun a b => a ||| b))
def execVxor (e : Fin 192) (s : State) : Res := .next (s.vecB e.val .vxor (fun a b => a ^^^ b))

def execVsra (e : Fin 192) (s : State) : Res :=
  .next (s.vecV e.val .vsra (fun x w i =>
    (unsignedOf (laneW (wW w)) (slane (wW w) (x.vreg (wVa w)) i / (2 ^ min (laneW (wW w)) (wAmt w) : Nat)), false)))
def execVsrl (e : Fin 192) (s : State) : Res :=
  .next (s.vecV e.val .vsrl (fun x w i => (vlane (wW w) (x.vreg (wVa w)) i / 2 ^ wAmt w, false)))
def execVsll (e : Fin 192) (s : State) : Res :=
  .next (s.vecV e.val .vsll (fun x w i => (vlane (wW w) (x.vreg (wVa w)) i * 2 ^ wAmt w, false)))
def execVsel (e : Fin 192) (s : State) : Res :=
  .next (s.vecV e.val .vsel (fun x w i =>
    (vlane (wW w) (if plane (wW w) (x.preg (wP w)) i then x.vreg (wVa w) else x.vreg (wVb w)) i, false)))
def execVcmp (e : Fin 192) (s : State) : Res :=
  .next (s.engRegs e.val .vcmp (fun x w =>
    let a := x.vreg (wVa w)
    let b := x.vreg (wVb w)
    x.setP (wP w) (ofPlanes (wW w) (fun i =>
      condOf (wCond w) (slane (wW w) a i) (slane (wW w) b i) (vlane (wW w) a i) (vlane (wW w) b i)))))
def execVabs (e : Fin 192) (s : State) : Res :=
  .next (s.vecV e.val .vabs (fun x w i =>
    let r := satSigned (laneW (wW w)) (slane (wW w) (x.vreg (wVa w)) i).natAbs
    (unsignedOf (laneW (wW w)) r.1, r.2)))

/-! ## Vector and scalar (09 R327) -/

def execVsplat (e : Fin 192) (s : State) : Res :=
  .next (s.engRegs e.val .vsplat (fun x w => x.setV (wVd w) (ofLanes (wVsW w) (fun _ => (x.sreg (wRs w)).toNat))))
def execVins (e : Fin 192) (s : State) : Res :=
  .next (s.engRegs e.val .vins (fun x w => x.setV (wVd w) (ofLanes (wVsW w) (fun i =>
    if i = wLane w then (x.sreg (wRs w)).toNat else vlane (wVsW w) (x.vreg (wVd w)) i))))
def execVext (e : Fin 192) (s : State) : Res :=
  .next (s.engRegs e.val .vext (fun x w => x.setS (wRs w) (BitVec.ofInt 32 (slane (wVsW w) (x.vreg (wVd w)) (wLane w)))))
def execVextu (e : Fin 192) (s : State) : Res :=
  .next (s.engRegs e.val .vextu (fun x w => x.setS (wRs w) (word (vlane (wVsW w) (x.vreg (wVd w)) (wLane w)))))

/-- The lanes of a vector, signed. -/
def slanes (w32 : Bool) (v : Vec) : List Int := (List.range (laneN w32)).map (slane w32 v)

def execVrsum (e : Fin 192) (s : State) : Res :=
  .next (s.engRegs e.val .vrsum (fun x w => x.setS (wRs w) (BitVec.ofInt 32 (slanes (wVsW w) (x.vreg (wVd w))).sum)))

/-- The extreme of a list by `better`, with the lowest index that holds it. -/
def extremeOf (better : Int → Int → Bool) : Nat → Int × Nat → List Int → Int × Nat
  | _, best, [] => best
  | n, best, v :: l => extremeOf better (n + 1) (if better v best.1 then (v, n) else best) l

/-- s[rs] takes the extreme and s[rs + 1] its index. -/
def EngRegs.extreme (x : EngRegs) (w : Word) (better : Int → Int → Bool) : EngRegs :=
  let l := slanes (wVsW w) (x.vreg (wVd w))
  let r := extremeOf better 1 (l.headD 0, 0) l.tail
  (x.setS (wRs w) (BitVec.ofInt 32 r.1)).setS (wRs w + 1) (word r.2)

def execVrmax (e : Fin 192) (s : State) : Res := .next (s.engRegs e.val .vrmax (fun x w => x.extreme w (fun a b => decide (b < a))))
def execVrmin (e : Fin 192) (s : State) : Res := .next (s.engRegs e.val .vrmin (fun x w => x.extreme w (fun a b => decide (a < b))))

/-! ## Streams and contexts (09 R328 to R332) -/

def execPop (e : Fin 192) (s : State) : Res :=
  .next (s.engStep e.val .pop (fun s w =>
    let s := s.inputReady e.val
    match s.engHead e.val with
    | some r => (s.takeItem e.val r).updRegs e.val (fun x => x.setP (wSPd w) 0xFF)
    | none => s.updRegs e.val (fun x => x.setP (wSPd w) 0)))

def execFwd (e : Fin 192) (s : State) : Res :=
  .next (s.engStep e.val .fwd (fun s _ =>
    match (s.engine e.val).r.cur with
    | some r => s.outPush e.val r
    | none => s))

def execPush (e : Fin 192) (s : State) : Res :=
  .next (s.engStep e.val .push (fun s _ =>
    let x := (s.engine e.val).r
    if !x.outOk then s.engFault e.val fPUSH
    else
      let (r, s) := s.number (x.outRec e.val)
      s.outPush e.val r))

def execCtxld (e : Fin 192) (s : State) : Res :=
  .next (s.engStep e.val .ctxld (fun s w =>
    s.ctxRequest e.val (wB w) (fld ((s.engine e.val).r.sreg (wRa w)) 0 16) (wSPd w)))

/-- 09 R321. -/
def execCtxldDone (e : Fin 192) (s : State) : Res := .next (s.ctxDone e.val)

def execCtxst (e : Fin 192) (s : State) : Res :=
  .next (s.engStep e.val .ctxst (fun s w => s.ctxStage e.val (wB w) (wSPd w)))

/-- An event of an EV line in the current tick: several merge into one with the latest TS48 (08 R274). -/
def State.evLine (s : State) (l : Nat) (ts : TS48) : State :=
  match s.fl.events.find? (fun v => v.c.line == l && v.tick == s.now) with
  | none => s.linePulse l ts false
  | some v =>
    let best := if tsLt v.c.ts ts then ts else v.c.ts
    (s.updFl (fun f => { f with events := f.events.map (fun x =>
      if x.c.line = l ∧ x.tick = s.now then { x with c := { x.c with ts := best } } else x) })).cnt Reg.FLINT_EV_MERGE

def execEvt (e : Fin 192) (s : State) : Res :=
  .next (s.engStep e.val .evt (fun s w =>
    let x := (s.engine e.val).r
    s.evLine (84 + wN w) (BitVec.ofNat 48 (fld (x.sreg (wRa w + 1)) 0 16 * 2 ^ 32 + (x.sreg (wRa w)).toNat))))

/-! ## Control (09 R308, R333) -/

/-- PC of the instruction that has just issued, and a displacement from it. -/
def State.engTarget (s : State) (e : Nat) (bits : Nat) (w : Word) : Int :=
  ((s.engine e).issued : Int) + signedOf bits (fld w 0 bits)

def execBr (e : Fin 192) (s : State) : Res :=
  .next (s.engStep e.val .br (fun s w => s.takenBranch e.val (s.engTarget e.val 26 w)))

/-- The branch conditions on a predicate (09 R333). -/
def pcond (c : Nat) (p : Byte) : Bool :=
  if c = 0 then p != 0 else if c = 1 then p == 0 else if c = 2 then p == 0xFF else p != 0xFF

def execBp (e : Fin 192) (s : State) : Res :=
  .next (s.engStep e.val .bp (fun s w =>
    if pcond (fld w 22 2) ((s.engine e.val).r.preg (wPd w)) then s.takenBranch e.val (s.engTarget e.val 22 w) else s))

def execJal (e : Fin 192) (s : State) : Res :=
  .next (s.engStep e.val .jal (fun s w =>
    (s.updRegs e.val (fun x => x.setS (wRd w) (word ((s.engine e.val).issued + 1)))).takenBranch e.val
      (s.engTarget e.val 21 w)))

def execJr (e : Fin 192) (s : State) : Res :=
  .next (s.engStep e.val .jr (fun s w => s.takenBranch e.val ((s.engine e.val).r.sreg (wRa w)).toNat))

def execLoop (e : Fin 192) (s : State) : Res :=
  .next (s.engStep e.val .loop (fun s w =>
    let s := s.updRegs e.val (fun x => x.setS (wRd w) (x.sreg (wRd w) - 1))
    if (s.engine e.val).r.sreg (wRd w) ≠ 0 then s.branchTo e.val (s.engTarget e.val 21 w) else s))

/-- YIELD consumes the current item (09 R308, R310). -/
def execYield (e : Fin 192) (s : State) : Res :=
  .next (s.engStep e.val .yield (fun s _ =>
    let n := b2n (s.engine e.val).r.cur.isSome
    (s.leaveRun e.val).updEngine e.val (fun x => { x with
      st := .wait, per := { x.per with itemsDone := x.per.itemsDone + n }, r := { x.r with cur := none } })))

def execEop (e : Fin 192) (s : State) : Res :=
  .next (s.engStep e.val .eop (fun s _ =>
    (s.leaveRun e.val).updEngine e.val (fun x => { x with st := .done, r := { x.r with cur := none } })))

/-- 09 R320. -/
def execIllegalInstruction (e : Fin 192) (s : State) : Res :=
  .next (match s.engFetch e.val with
    | none => s
    | some w =>
      match s.imemBad e.val with
      | some off => s.imemFault e.val off
      | none =>
        if engDecode w = none ∧ (s.engine e.val).busy ≤ s.engCyc (e.val / 16) then
          (s.updEngine e.val (fun x => { x with issued := x.r.pc })).engFault e.val fILLEGAL
        else s)

/-! ## Items (09 R310, R311) -/

/-- An entry may be taken: the Island's period runs. -/
def State.perRuns (s : State) (e : Nat) : Bool := (s.island (e / 16)).phase == .run

/-- 09 R310. -/
def execItemEntry (e : Fin 192) (s : State) : Res :=
  let s := s.inputReady e.val
  .next (match s.engHead e.val with
    | some r =>
      if (s.engine e.val).st = .wait ∧ s.perRuns e.val then
        (s.takeItem e.val r).updEngine e.val (fun x => x.enter x.img.entryItem (s.engCyc (e.val / 16) + 1))
      else s
    | none => s)

/-- 09 R311; after an abort the item is counted for its PERIOD_DROP (10 R356). -/
def execDoneItemDiscard (e : Fin 192) (s : State) : Res :=
  let s := s.inputReady e.val
  .next (match s.engHead e.val with
    | some _ =>
      if (s.engine e.val).st = .done ∧ s.perRuns e.val then
        let s := s.popInput e.val
        if (s.engine e.val).per.aborted.isSome then s.updPer e.val (fun p => { p with unread := p.unread + 1 })
        else s.cnt (Reg.ISL_ENG_EOPDROP (e.val / 16) (e.val % 16))
      else s
    | none => s)

end Sys2Proof.Machine
end

