-- ==== Sys2Proof/Machine/FlintRows.lean ====
section
/-! DEFINITION. The commands and events of the trigger sequencers (08). -/

namespace Sys2Proof.Machine

/-! ## FLINT_LOAD (08 R296) -/

/-- param_len that the section's kind requires; a kind above 2 is a parameter out of range. -/
def flintLen (e : Entry) : Bool :=
  e.len != 0 && (if e.p 0 1 = 0 then e.len == 68 else if e.p 0 1 = 1 then e.len == 7 else if e.p 0 1 = 2 then e.len == 4 else true)

/-- A term's reserved bits are 0 and its line exists. -/
def termOk (t : Nat) : Bool := t / 256 % 64 == 0 && !(decide (192 ≤ t % 256) && decide (t % 256 < 255))

/-- One slot of a program section is in range: `o` is the byte of its terms. -/
def slotOk (e : Entry) (o : Nat) : Bool :=
  [0, 2, 4, 6].all (fun k => termOk (e.p (o + k) 2)) && e.zero (o + 10) 2 && e.p (o + 12) 4 % 2 == 0

def programOk (e : Entry) : Bool :=
  decide (e.p 1 1 ≤ 7) && decide (e.p 2 1 ≤ 15) && e.zero 3 5 && e.zero 22 2 && e.zero 30 2
    && (List.range 32).all (fun i => slotOk e (8 * (4 + 2 * i)))

/-- Number of members in a group section. -/
def memberCount (e : Entry) : Nat := popCount 192 (e.p 8 24) + popCount 192 (e.p 32 24)

def groupOk (e : Entry) : Bool :=
  decide (e.p 1 1 ≤ 63) && decide (1 ≤ e.p 2 2) && decide (e.p 2 2 ≤ 384) && decide (e.p 2 2 ≤ memberCount e) && e.zero 6 2

def setOk (e : Entry) : Bool := decide (e.p 1 1 ≤ 15) && e.zero 2 6

/-- Put a section into the image. -/
def State.putSection (s : State) (i : Nat) (e : Entry) : State :=
  s.updFl (fun x => { x with image := putWords x.image i (wordsOf (2 * e.len) e.params) })

def State.loadProgram (s : State) (tk : Ticket) (e : Entry) : State :=
  let f := e.p 1 1
  if (s.seqr f).armed then s.reply tk stWRONG_STATE []
  else ((s.putSection (136 * f) e).updSeqr f (fun q => { q with loaded := true })).replyEffect tk stOK []

def State.loadGroup (s : State) (tk : Ticket) (e : Entry) : State :=
  let g := e.p 1 1
  if s.groupInUse g then s.reply tk stWRONG_STATE []
  else
    let s := s.putSection (1088 + 14 * g) e
    let s := s.updFl (fun x => { x with groupLoaded := mput false x.groupLoaded g true, marks := merase g x.marks })
    (s.evalGroup g ⟨g, s.tsNow, false, none⟩).replyEffect tk stOK []

def State.loadSet (s : State) (tk : Ticket) (e : Entry) : State :=
  let k := e.p 1 1
  if s.setInUse k then s.reply tk stWRONG_STATE []
  else
    let s := s.putSection (1984 + 8 * k) e
    (s.updFl (fun x => { x with setLoaded := mput false x.setLoaded k true })).replyEffect tk stOK []

def cFlintLoad : CmdSpec :=
  { op := 0x0501, lenOk := flintLen,
    paramOk := fun _ e => if e.p 0 1 = 0 then programOk e else if e.p 0 1 = 1 then groupOk e else e.p 0 1 == 2 && setOk e,
    run := fun s tk e =>
      let s := s.flintSettle
      if e.p 0 1 = 0 then s.loadProgram tk e else if e.p 0 1 = 1 then s.loadGroup tk e else s.loadSet tk e }

/-- 08 R296. -/
def execFlintLoad (m : Master) (s : State) : Res := .next (s.runCmd cFlintLoad m.val)

/-! ## FLINT_ARM and FLINT_FORCE (08 R297, R298) -/

def State.flintArm (s : State) (tk : Ticket) (e : Entry) : State :=
  let s := s.flintSettle
  if (bitsOf 8 (e.p 0 1)).any (fun f => !(s.seqr f).loaded) then s.reply tk stWRONG_STATE []
  else
    let s := forEach (bitsOf 8 (e.p 0 1)) State.arm s
    let s := forEach (bitsOf 8 (e.p 1 1)) State.disarm s
    if (e.p 2 1).testBit 0 then s.replyAt tk stOK [] s.tsNow else s.replyEffect tk stOK []

def cFlintArm : CmdSpec :=
  { op := 0x0502, lenOk := lenIs 1,
    paramOk := fun _ e => e.p 0 1 &&& e.p 1 1 == 0 && (e.p 0 1 != 0 || e.p 1 1 != 0) && decide (e.p 2 1 ≤ 1) && e.zero 3 5,
    run := State.flintArm }

/-- 08 R297. -/
def execFlintArm (m : Master) (s : State) : Res := .next (s.runCmd cFlintArm m.val)

/-- A forced trigger of one sequencer (08 R285). -/
def State.forceSeq (s : State) (e : Entry) (f : Nat) : State :=
  let s := s.emitTrigger f (e.p 1 1) 0xF (if (e.p 3 1).testBit 0 then some (e.p 2 1) else none) ((e.p 3 1).testBit 1) true
    [⟨0xFF, s.tsNow, false, none⟩]
  (s.cnt (Reg.FLINT_FORCED_CNT f)).evt Reg.FLINT_EVT (2 ^ f)

def cFlintForce : CmdSpec :=
  { op := 0x0503, lenOk := lenIs 1,
    paramOk := fun _ e => e.p 0 1 != 0 && decide (e.p 1 1 ≤ 15) && decide (e.p 2 1 ≤ 15) && decide (e.p 3 1 ≤ 3) && e.zero 4 4,
    run := fun s tk e => (forEach (bitsOf 8 (e.p 0 1)) (fun s f => s.forceSeq e f) s.flintSettle).replyAt tk stOK [] s.tsNow }

/-- 08 R298. -/
def execFlintForce (m : Master) (s : State) : Res := .next (s.runCmd cFlintForce m.val)

/-! ## Sequencer events -/

/-- 08 R276: at most one transition per sequencer per tick. -/
def execFlintTransition (f : Fin 8) (s : State) : Res :=
  .next (
    let q := s.seqr f.val
    if q.armed ∧ q.moved ≤ s.now then
      match s.firing f.val with
      | some c => s.transition f.val c
      | none => s
    else s)

/-- 08 R279: the timer stops, and its line shows 1 from the next tick on. -/
def execFlintTimerZero (f : Fin 8) (k : Fin 2) (s : State) : Res :=
  .next (
    let t := (s.seqr f.val).tmr k.val
    if t.run ∧ t.fin ≤ s.now then
      let s' := s.updSeqr f.val (fun q => q.setTmr k.val ⟨0, false, 0⟩)
      s'.setLine (148 + 4 * f.val + 2 + k.val) true ⟨0, s.tsTick t.fin, false, none⟩ (s.now + 1)
    else s)

/-- 08 R280. -/
def execFlintHoldoffEnd (f : Fin 8) (s : State) : Res :=
  .next (match (s.seqr f.val).holdEnd with
    | some t => if t ≤ s.now then s.updSeqr f.val (fun q => { q with holdEnd := none }) else s
    | none => s)

/-- An auto trigger that falls due, or is suppressed by a hold-off (08 R284). -/
def State.autoTrigger (s : State) (f due : Nat) : State :=
  let a := s.rget (Reg.FLINT_AUTO_ACT f)
  if s.holding f then
    ((s.suppress f).toutAct a).updSeqr f (fun q => { q with autoBase := due })
  else
    let s := s.emitTrigger f (fld a 22 4) 0xF (freezeSet a) (bit a 26) true [⟨0xFF, s.tsTick due, false, none⟩]
    let s := s.toutAct a
    (s.cnt (Reg.FLINT_FORCED_CNT f)).evt Reg.FLINT_EVT (2 ^ f + 2 ^ (16 + f))

/-- 08 R284. -/
def execFlintAutoTrigger (f : Fin 8) (s : State) : Res :=
  .next (
    let q := s.seqr f.val
    let n := s.autoTicks f.val
    if q.armed ∧ n ≠ 0 ∧ q.autoBase + n ≤ s.now then s.autoTrigger f.val (q.autoBase + n) else s)

/-- 08 R283. -/
def execTriggerComplete (f : Fin 8) (s : State) : Res :=
  .next (match s.fl.waits.find? (fun w => w.f == f.val) with
    | some w => if w.cands.all (fun c => c.ref.isNone) then s.completeTrigger w else s
    | none => s)

/-- 08 R271. -/
def execGroupMarkExpiry (s : State) : Res := .next s.expireMarks

/-- 08 R273: the ball's level has been stable for filt ticks. -/
def execTrigInChange (k : Fin 4) (level : Bool) (s : State) : Res :=
  .next ((s.updFl (fun x => { x with trigRaw := mput false x.trigRaw k.val level })).trigIn k.val)

/-- 08 R281. -/
def execTrigOutPulseEnd (k : Fin 4) (s : State) : Res :=
  .next (match (s.tout k.val).until_ with
    | some t => if t ≤ s.now then s.updTout k.val Tout.pulseEnd else s
    | none => s)

/-- 08 R289, R290: a message on the active UP or on a DOWN port. -/
def execTrigger (p : PortN) (s : State) : Res :=
  .next (match s.headMsg p.val 1 0 with
    | some m =>
      if s.trigPorts.contains p.val then (s.takeMsg p.val m).takeRc (RcMsg.ofBytes m.payload p.val) else s.takeMsg p.val m
    | none => s)

/-- 08 R290: one message per class per tick. -/
def execRcDeliver (cls : Fin 16) (s : State) : Res :=
  .next (match mget [] s.fl.rcq cls.val with
    | m :: _ => if mget 0 s.fl.rcLast cls.val ≤ s.now then s.deliverRc m else s
    | [] => s)

end Sys2Proof.Machine
end

