-- ==== Sys2Proof/Machine/HkRows.lean ====
section
/-! DEFINITION. Housekeeping: system conversions with the temperature watch (05 R197, 22 R683), and the events of scans. -/

namespace Sys2Proof.Machine

/-! ## Over-temperature (22 R683) -/

/-- Temperature of a code of HK0 to HK3 in 0.01 °C (05 R193). -/
def hkTemp (c : Nat) : Int := 10 * (c : Int) - 27315

/-- The same in whole 0.1 °C, as the alarms carry it (11 R383). -/
def hkTemp10 (c : Nat) : Int := hkTemp c / 10

/-- Enables are cleared by hardware on every channel and emitter (22 R683). -/
def State.clearEnables (s : State) : State :=
  let s := forEach ((List.range 192).filter (fun c => s.rb (Reg.CH_EXC_CTRL c) 0))
    (fun s c => (s.rsetf (Reg.CH_EXC_CTRL c) 0 1 0).excDisable c) s
  forEach ((List.range 8).filter (fun n => s.rb (Reg.EM_CTRL n) 31)) (fun s n => (s.rsetf (Reg.EM_CTRL n) 31 1 0).emDisable n) s

/-- Every sensor that has been read stands below 105 °C (22 R683). -/
def State.allCool (s : State) : Bool := (List.range 4).all (fun n => decide (hkTemp (mget 0 s.hk.sys n) < 10500))

/-- The warning, once per excursion. -/
def State.tempWarn (s : State) (n c : Nat) : State :=
  let hot := decide (11000 < hkTemp c)
  let was := mget false s.hk.warned n
  let s := s.updHk (fun h => { h with warned := mput false h.warned n hot })
  if hot && !was then s.alarm 0x0103 1 n (unsignedOf 64 (hkTemp10 c)) else s

/-- Readings at 120 °C or above in a row. -/
def State.tempCount (s : State) (n c : Nat) : State :=
  s.updHk (fun h => { h with hot := mput 0 h.hot n (if 12000 ≤ hkTemp c then min 3 (mget 0 h.hot n + 1) else 0) })

/-- The trip, at the third reading in a row; ALARM_N is asserted. -/
def State.tempTrip (s : State) (n c : Nat) : State :=
  if mget 0 s.hk.hot n = 3 ∧ !s.hk.tripped then
    let s := (s.updHk (fun h => { h with tripped := true })).clearEnables
    let s := s.updTriad (fun t => { t with alarm := true })
    s.alarm 0x0102 3 n (unsignedOf 64 (hkTemp10 c))
  else s

/-- After a trip, enables written before every sensor has cooled are cleared again at the next conversion. -/
def State.tempHold (s : State) : State :=
  if s.hk.tripped then if s.allCool then s.updHk (fun h => { h with tripped := false }) else s.clearEnables else s

/-- A system conversion of HK0 to HK3. -/
def State.tempWatch (s : State) (n c : Nat) : State := (((s.tempWarn n c).tempCount n c).tempTrip n c).tempHold

/-! ## System conversions (05 R197) -/

/-- The remaining inputs of a scan move behind a system conversion that ends at tick `e`. -/
def Hk.afterSys (h : Hk) (input code e : Nat) : Hk :=
  { h with
    sys := mput 0 h.sys input code
    free := e
    sysNext := h.sysNext.map (· + usTicks 20)
    sysInput := (input + 1) % 24
    conv := match h.scan with
      | some sc => if sc.running ∧ !sc.left.isEmpty then some (e + hkConvTicks) else none
      | none => none }

/-- What reads a system conversion: the temperature watch and the emitters (22 R683, 19 R621). -/
def State.sysRead (s : State) (n c : Nat) : State :=
  if n < 4 then s.tempWatch n c else if 16 ≤ n then s.emThermal (n - 16) c else s

/-- HK_SYSTEM_CONVERSION: the conversion that has fallen due ends with `code`. -/
def State.hkSystem (s : State) (code : Nat) : State :=
  match s.hk.sysNext with
  | none => s
  | some d =>
    let e := max d s.hk.free + hkConvTicks
    if s.hk.conv.isSome ∨ s.now < e then s
    else
      let n := s.hk.sysInput
      (s.updHk (fun h => h.afterSys n code e)).sysRead n code

/-! ## Rows -/

/-- HK_TIMER_EXPIRY (05 R195). -/
def execHkTimerExpiry (s : State) : Res := .next s.hkTimer

/-- HK_TRIGGER (05 R196). -/
def execHkTrigger (s : State) : Res := .next s.hkTrigger

/-- HK_SCAN_START (05 R195). -/
def execHkScanStart (s : State) : Res := .next s.hkScanStart

/-- HK_CONVERSION (05 R194): the code of the input. -/
def execHkConversion (code : BitVec 12) (s : State) : Res := .next (s.hkConversion code.toNat)

/-- HK_SCAN_END (05 R198). -/
def execHkScanEnd (s : State) : Res := .next s.hkScanEnd

/-- HK_SYSTEM_CONVERSION (05 R197): the code of the input. -/
def execHkSystemConversion (code : BitVec 12) (s : State) : Res := .next (s.hkSystem code.toNat)

end Sys2Proof.Machine
end

