-- ==== Sys2Proof/WellFormed.lean ====
section
/-! DEFINITION. Which terms spell a command: the checks that the operand types do not make. -/

namespace Sys2Proof

/-- A group of converter codes holds 1 to 4,096 samples (05 R160). -/
def wfCodes (l : List (BitVec 12)) : Bool := decide (1 ≤ l.length) && decide (l.length ≤ 4096)

/-- A frame is one or more 64-bit blocks (15 R490). -/
def wfFrame (l : List Byte) : Bool := decide (1 ≤ l.length) && decide (l.length % 8 = 0)

/-- A BAR2 write carries 1 to 512 bytes (16 R524) that cross no 4 KiB boundary (PCI Express Base 5.0). -/
def wfBar2Write (off : BitVec 28) (l : List Byte) : Bool :=
  decide (1 ≤ l.length) && decide (l.length ≤ 512) && decide (off.toNat % 4096 + l.length ≤ 4096)

/-- A BAR2 read asks for 1 to 4,096 bytes (16 R524) that cross no 4 KiB boundary (PCI Express Base 5.0). -/
def wfBar2Read (off : BitVec 28) (len : BitVec 13) : Bool :=
  decide (1 ≤ len.toNat) && decide (off.toNat % 4096 + len.toNat ≤ 4096)

/-- A descriptor is 16 bytes (16 R536). -/
def wfDescriptor (l : List Byte) : Bool := decide (l.length = 16)

/-- Each byte of a line is named at most once (17 R564). -/
def wfErrs (l : List (Fin 64 × Bool)) : Bool := decide ((l.map Prod.fst).Nodup)

/-- A copy of Quartz holds ns below 10^9 (14 R452). -/
def wfCopy (q : QCopy) : Bool := decide (q.ns.toNat < 1000000000)

/-- The term spells a command of the part. -/
def Instr.wf : Instr → Bool
  | .groupOutput _ codes => wfCodes codes
  | .frame _ bytes _ => wfFrame bytes
  | .bar2Write _ off bytes => wfBar2Write off bytes
  | .bar2Read _ off len => wfBar2Read off len
  | .descriptorReadDone _ bytes => wfDescriptor bytes
  | .scrubLine _ _ _ _ errs => wfErrs errs
  | .marchTestLine _ _ _ _ errs _ _ => wfErrs errs
  | .quartzVoteMismatch a b c => wfCopy a && wfCopy b && wfCopy c
  | _ => true

end Sys2Proof
end

