-- ==== Sys2Proof/Machine/HostRows.lean ====
section
/-! DEFINITION. Events of the PCI Express interface (16). -/

namespace Sys2Proof.Machine

/-- HOT_RESET (16 R530). -/
def execHotReset (s : State) : Res := .next (if s.sec.straps.pcieEn then s.flrAll else s)

/-- FLR (16 R531). -/
def execFlr (pf : PfN) (s : State) : Res := .next (if s.sec.straps.pcieEn then s.flr pf.val else s)

/-- CONFIG_WRITE (16 R532, R691): function, offset and word. -/
def execConfigWrite (pf : PfN) (off : BitVec 12) (d : Word) (s : State) : Res := .next (s.configWrite pf.val off.toNat d)

/-- RPR_ENABLE (16 R535). -/
def execRprEnable (pf : PfN) (d : Word) (s : State) : Res := .next (s.rprWrite pf.val d)

/-- MSIX_TABLE_WRITE (16 R540): function, entry, word of the entry. -/
def execMsixTableWrite (pf : PfN) (k : Fin 256) (w : Fin 4) (d : Word) (s : State) : Res :=
  .next (s.msixWrite pf.val k.val w.val d)

/-- BAR2_WRITE (16 R527). A request of a length that it cannot have takes log entry 2. -/
def execBar2Write (pf : PfN) (off : BitVec 28) (bytes : List Byte) (s : State) : Res :=
  .next (if wfBar2Write off bytes then s.bar2Write pf.val off.toNat bytes
    else if bytes = [] then s else s.malformed pf.val)

/-- BAR2_READ (16 R528). A request of a length that it cannot have takes log entry 2. -/
def execBar2Read (pf : PfN) (off : BitVec 28) (len : BitVec 13) (s : State) : Res :=
  .next (if wfBar2Read off len then s.bar2Read pf.val off.toNat len.toNat
    else if len = 0 then s.readNothing pf.val else s.malformed pf.val)

/-- PCIE_LINK_CHANGE (16 R542): HOSTIF_LINK as it becomes. -/
def execPcieLinkChange (up : Bool) (speed : BitVec 3) (width : BitVec 5) (s : State) : Res :=
  .next (s.linkChange up speed.toNat width.toNat)

end Sys2Proof.Machine
end

