-- ==== Sys2Proof/Machine/LinkRows.lean ====
section
/-! DEFINITION. Lanes, blocks, frames, enumeration, failover and the link commands (15). -/

namespace Sys2Proof.Machine

/-! ## Lanes (15 R484 to R488) -/

/-- A lane comes into lock: its gearbox latency is measured (15 R484, R517). -/
def Lane.lock (l : Lane) (now gearbox : Nat) : Lane :=
  { l with st := if l.st = 6 then 6 else 2, lockTick := max 1 now, frameTick := now, gearbox := gearbox, meritMin := 255 }

/-- A DOWN port retrains as soon as a lane locks again (15 R505). -/
def State.retrainDown (s : State) (l : Nat) : State :=
  let p := s.lanePort l
  if (s.port p).st = 3 then
    let k := (s.lane l).lockTick
    (s.trainPort false p).updLane l (fun x => { x with lockTick := k })
  else s

/-- 15 R484. -/
def execLaneLock (l : LaneN) (gearbox : BitVec 16) (s : State) : Res :=
  .next (
    let x := s.lane l.val
    if x.st = 1 ∨ (x.st = 6 ∧ x.lockTick = 0) then
      let s := s.updLane l.val (fun x => x.lock s.now gearbox.toNat)
      let s := s.cnt (Reg.LANE_LOCK_CNT l.val)
      let s := s.evt (Reg.LANE_EVT l.val) 1
      let s := s.linkEvent (s.lanePort l.val) l.val 0 gearbox.toNat
      s.retrainDown l.val
    else s)

/-- A lane hunts again (15 R484): in training it trains on. -/
def Lane.unlock (l : Lane) : Lane :=
  if l.st = 6 then { l with lockTick := 0, ready := false, farReady := false } else { l with st := 1, lockTick := 0 }

/-- Unacknowledged frames of a lane that has lost lock go on the other lanes; without another lane in lock the port's
time to DOWN runs (15 R505). -/
def State.laneGone (s : State) (p : Nat) (timing : Bool) : State :=
  if (s.port p).st ≠ 2 then s
  else if (s.lockedLanes p).isEmpty then s.noteLoss p
  else if timing then
    match (s.port p).tx.unacked.head? with
    | some f => s.resend p f.seq
    | none => s
  else s

/-- Invalid headers of the window that ends a lock, 16 to 64 of its blocks (15 R484): the row does not say how many, so a free
value within the bounds (log entry 46). -/
def badHeaders (free : Nat) : Nat := 16 + (Config.freeWord free).toNat % 49

/-- 15 R484, R505, R517. LANE_BAD_SH takes the headers of the window that ends the lock. -/
def execLaneLockLost (l : LaneN) (s : State) : Res :=
  .next (
    let x := s.lane l.val
    if x.locked then
      let p := s.lanePort l.val
      let timing := s.timingLane p == some l.val
      let s := s.updLane l.val Lane.unlock
      let s := s.cnt (Reg.LANE_LOSS_CNT l.val)
      let s := s.evt (Reg.LANE_EVT l.val) 2
      let s := s.linkEvent p l.val 1 (satNat 0xFFFFFFFF ((s.now - x.lockTick) / 1500000))
      let s := s.laneGone p timing
      let a := Reg.LANE_BAD_SH l.val
      { s.rset a (cntAddW (s.rget a) (badHeaders s.freeCtr)) with freeCtr := s.freeCtr + 1 }
    else s)

/-- One figure of merit: the latest, the lowest since the lock, and the mean of each second (15 R485). -/
def Lane.addMerit (l : Lane) (m : Nat) : Lane :=
  let l := { l with merit := m, meritMin := min l.meritMin m, meritSum := l.meritSum + m, meritN := l.meritN + 1 }
  if 1000 ≤ l.meritN then { l with meritMean := l.meritSum / 1000, meritSum := 0, meritN := 0 } else l

/-- MERIT_LOW, raised again only after the mean has risen 8 above the threshold (15 R485). -/
def State.judgeMerit (s : State) (l : Nat) : State :=
  let x := s.lane l
  let thr := s.rf (Reg.LANE_MERIT_LOW l) 0 8
  if x.meritN ≠ 0 then s
  else if x.meritMean < thr ∧ x.meritArmed then
    let s := s.updLane l (fun x => { x with meritArmed := false })
    (s.evt (Reg.LANE_EVT l) 4).linkEvent (s.lanePort l) l 7 x.meritMean
  else if thr + 8 ≤ x.meritMean then s.updLane l (fun x => { x with meritArmed := true })
  else s

/-- 15 R485. -/
def execLaneMeritUpdate (l : LaneN) (merit : Byte) (s : State) : Res :=
  .next (if (s.lane l.val).locked then (s.updLane l.val (fun x => x.addMerit merit.toNat)).judgeMerit l.val else s)

/-- 15 R487: a lane other than the timing lane, with idle_en, after 10 µs without a frame. -/
def execLaneIdleEnter (l : LaneN) (s : State) : Res :=
  .next (
    let x := s.lane l.val
    if x.st = 2 ∧ s.rb (Reg.LANE_CTRL l.val) 30 ∧ s.timingLane (s.lanePort l.val) ≠ some l.val
        ∧ x.frameTick + usTicks 10 ≤ s.now then
      s.updLane l.val (fun x => { x with st := 3 })
    else s)

/-- 15 R487: the training burst that ends an idle is over. -/
def execLaneIdleExit (l : LaneN) (s : State) : Res :=
  .next (if (s.lane l.val).st = 3 then s.updLane l.val (fun x => { x with st := 2, frameTick := s.now }) else s)

/-- 15 R488. -/
def execLaneShutdownDone (l : LaneN) (s : State) : Res :=
  .next (if (s.lane l.val).st = 4 ∨ (s.lane l.val).st = 5 then s.laneShutDone l.val else s)

/-- A training lane has adapted and sends TRAIN READY (15 R486, R505). -/
def execLaneAdaptDone (l : LaneN) (eq : Word) (s : State) : Res :=
  .next (
    let x := s.lane l.val
    if x.st = 6 ∧ x.locked ∧ !x.ready then
      ((s.updLane l.val (fun x => { x with ready := true, eq := eq })).emitOut (.train l.val true)).noteReady l.val
    else s)

/-! ## Control blocks (15 R489, R493 to R497) -/

/-- A control block of the type given arrives on a port that carries frames. -/
def State.takesBlock (s : State) (p : Nat) (blk : BitVec 64) (typ : Nat) : Bool :=
  blockGood blk && blockType blk == typ && ((s.port p).st == 2 || (s.port p).st == 1)

/-- 15 R493. -/
def execAck (p : PortN) (blk : BitVec 64) (s : State) : Res :=
  .next (if s.takesBlock p.val blk cbACK then
    (s.updPort p.val (fun x => { x with tx := x.tx.acked (blockField blk 1 2 % 4096) s.now })).pump p.val
  else s)

/-- 15 R494. -/
def execNak (p : PortN) (blk : BitVec 64) (s : State) : Res :=
  .next (if s.takesBlock p.val blk cbNAK then s.retry p.val (blockField blk 1 2 % 4096) else s)

/-- The credits available after a report of the cumulative count `n` (15 R497); a repeated report adds none. -/
def PortTx.credit (t : PortTx) (vc n : Nat) : PortTx :=
  let d := (n + 65536 - mget 0 t.granted vc) % 65536
  if 32768 ≤ d then t
  else { t with granted := mput 0 t.granted vc n, avail := mupd 0 t.avail vc (· + d) }

/-- 15 R497. -/
def execCredit (p : PortN) (blk : BitVec 64) (s : State) : Res :=
  .next (if s.takesBlock p.val blk cbCREDIT && decide (blockField blk 1 1 < 4) then
    (s.updPort p.val (fun x => { x with tx := x.tx.credit (blockField blk 1 1) (blockField blk 2 2) })).pump p.val
  else s)

/-- 15 R505: the far lane reports its phase. -/
def execTrain (l : LaneN) (blk : BitVec 64) (s : State) : Res :=
  .next (if blockGood blk && blockType blk == cbTRAIN && (s.lane l.val).st == 6 && (s.lane l.val).locked then
    (s.updLane l.val (fun x => { x with farReady := blockField blk 1 1 == 1 })).noteReady l.val
  else s)

/-- 15 R489. -/
def execBadControlBlock (p : PortN) (blk : BitVec 64) (s : State) : Res :=
  .next (
    let known := [cbIDLE, cbACK, cbCREDIT, cbNAK, cbTRAIN].contains (blockType blk)
    if blockType blk ≠ cbFRAME ∧ !(known && blockGood blk) then s.cnt (Reg.LINK_CRC_ERR p.val) else s)

/-! ## Frames and retry (15 R492 to R497) -/

/-- A frame arrives: `ago` is the time since the strobe of its first block boundary, in TS48 LSB (14 R467). -/
def State.takeFrame (s : State) (p : Nat) (l : List Byte) (ago : TS48) : State :=
  if (s.port p).st ≠ 2 ∧ (s.port p).st ≠ 1 then s
  else
    match Frame.ofBytes l with
    | some (f, r) => s.receive p f (s.rxStamp p ago) r
    | none => (s.cnt (Reg.LINK_CRC_ERR p)).sendNak p

/-- 15 R492: what is no frame is a damaged one. -/
def execFrame (p : PortN) (bytes : List Byte) (ago : TS48) (s : State) : Res := .next (s.takeFrame p.val bytes ago)

/-- 15 R493. -/
def execAckTimer (p : PortN) (s : State) : Res :=
  .next (match (s.port p.val).rx.ackDue with
    | some t => if t ≤ s.now then s.sendAck p.val else s
    | none => s)

/-- 15 R494. -/
def execNakTimer (p : PortN) (s : State) : Res :=
  .next (match (s.port p.val).rx.nakDue with
    | some t => if t ≤ s.now then s.sendNak p.val else s
    | none => s)

/-- LINK_RETRY_TMO in ticks; 0 stores 1 (15 R519). -/
def State.retryTicks (s : State) (p : Nat) : Nat := usTicks (max 1 (s.rf (Reg.LINK_RETRY_TMO p) 0 16))

/-- 15 R494. -/
def execRetryTimeout (p : PortN) (s : State) : Res :=
  .next (match (s.port p.val).tx.unacked.head? with
    | some f =>
      if (s.port p.val).st = 2 ∧ (s.port p.val).tx.lastAck + s.retryTicks p.val ≤ s.now then s.retry p.val f.seq else s
    | none => s)

/-- 15 R497. -/
def execCreditRepeat (p : PortN) (s : State) : Res :=
  .next (if (s.port p.val).st = 2 ∧ (s.port p.val).rx.creditDue ≤ s.now then
    (s.sendCredits p.val).updPort p.val (fun x => { x with rx := { x.rx with creditDue := s.now + usTicks 100 } })
  else s)

/-! ## Messages between neighbours (15 R500, R503, R506) -/

/-- A HELLO (15 R505, R506): in TRAINING it makes the port ACTIVE; in ACTIVE another serial takes the port DOWN. -/
def State.takeHello (s : State) (p : Nat) (m : Msg) : State :=
  let x := s.port p
  let same := x.neighKnown && x.neighSerial == BitVec.ofNat 64 (fieldAt m.payload 0 8)
  if x.st = 2 ∧ x.neighKnown ∧ !same then
    let s := (s.takeMsg p m).portDown p 3
    (s.dropRole p).updPort p (fun x => { x with neighKnown := false })
  else
    let s := (s.takeMsg p m).updPort p (fun x => x.meet m.payload)
    let s := s.judgeRole p same m.payload
    if x.st = 1 then s.portActive p else s

/-- 15 R506. -/
def execHello (p : PortN) (s : State) : Res :=
  .next (match s.headMsg p.val 0 4 with
    | some m => if (s.port p.val).st = 2 ∨ ((s.port p.val).st = 1 ∧ (s.port p.val).hello) then s.takeHello p.val m else s
    | none => s)

/-- Training of a port is over: credits are announced and HELLO goes out (15 R505). -/
def execPortTrained (p : PortN) (s : State) : Res :=
  .next (if (s.port p.val).st = 1 ∧ !(s.port p.val).hello ∧ s.trainDone p.val then
    let s := s.updPort p.val (fun x => { x with hello := true })
    (s.sendCredits p.val).sendMsg p.val 0 4 (s.helloMsg p.val)
  else s)

/-- LINK_CTRL.down_us in ticks (15 R505). -/
def State.downTicks (s : State) (p : Nat) : Nat := usTicks (clampNat 50 1000 (s.rf (Reg.LINK_CTRL p) 0 16))

/-- 15 R505. -/
def execPortDownTimeout (p : PortN) (s : State) : Res :=
  .next (if (s.port p.val).st = 2 ∧ (s.lockedLanes p.val).isEmpty ∧ (s.port p.val).lostTick + s.downTicks p.val ≤ s.now then
    s.portDown p.val 0
  else s)

/-- Stamp a received TIME_MSG that asks for it (14 R471). -/
def State.stampIn (s : State) (p : Nat) (m : Msg) : State :=
  if (fieldAt m.payload 2 1).testBit 0 then
    if s.qtz.msgFifo.length < 64 then
      s.updQtz (fun q => { q with msgFifo := q.msgFifo ++ [⟨true, p, fieldAt m.payload 0 2, m.ts⟩] })
    else s.evt Reg.QTZ_EVT 0x100
  else s

/-- A TIME_MSG enters the port's FIFO of eight (15 R503). -/
def State.takeTmsg (s : State) (p : Nat) (m : Msg) : State :=
  let s := (s.takeMsg p m).stampIn p m
  let n := fieldAt m.payload 3 1
  if (s.port p).rx.tmsg.length < 8 then
    (s.updPort p (fun x => { x with rx := { x.rx with
      tmsg := x.rx.tmsg ++ [⟨fieldAt m.payload 0 2, n, (m.payload.drop 8).take n⟩] } })).evt (Reg.LINK_EVT p) 0x80
  else s.evt (Reg.LINK_EVT p) 0x100

/-- 15 R503. -/
def execTimeMsg (p : PortN) (s : State) : Res :=
  .next (match s.headMsg p.val 1 3 with
    | some m => s.takeTmsg p.val m
    | none => s)

/-- Units that the header at the front of a byte string gives, in bytes. -/
def recLen (l : List Byte) : Nat := 16 * max 1 (fieldAt l 2 2)

/-- The whole records at the front of a byte string, and the bytes that remain. -/
def takeRecs : Nat → List Byte → List Rec × List Byte
  | 0, l => ([], l)
  | n + 1, l =>
    if l.length < 16 ∨ l.length < recLen l then ([], l)
    else
      let (rs, rest) := takeRecs n (l.drop (recLen l))
      (Rec.ofBytes (l.take (recLen l)) :: rs, rest)

/-- A record of an origin stream passes to the decompressor or to Lagoon ingress port 13 + p (15 R500). -/
def State.streamRec (s : State) (p k : Nat) (r : Rec) : State :=
  if r.typ = tCBLOCK ∨ r.typ = tUBLOCK then s.updComp (fun c => { c with blocks := c.blocks ++ [⟨p, k, r⟩] })
  else s.arrive (13 + p) ⟨r, none, some k⟩

/-- A STREAM frame (15 R500): a record that starts drops what remained of a torn one. -/
def State.takeStream (s : State) (p : Nat) (m : Msg) : State :=
  let s := s.takeMsg p m
  let k := fieldAt m.payload 0 1
  let old := if (fieldAt m.payload 1 1).testBit 0 then [] else mget [] (s.port p).rx.streams k
  let (rs, rest) := takeRecs 16 (old ++ m.payload.drop 8)
  let rest := if (fieldAt m.payload 1 1).testBit 0 || !old.isEmpty then rest else []
  let s := s.updPort p (fun x => { x with rx := { x.rx with streams := mput [] x.rx.streams k rest } })
  forEach rs (fun s r => s.streamRec p k r) s

/-- 15 R500. -/
def execStream (p : PortN) (s : State) : Res :=
  .next (match s.headMsg p.val 2 0 with
    | some m => s.takeStream p.val m
    | none => s)

/-- A REG_RESULT ends the access of its origin, or passes on (15 R511, R519). -/
def State.takeRegResult (s : State) (m : Msg) : State :=
  let d := fieldAt m.payload 0 1
  if d = s.link.dev.id then
    match s.ldev.racc with
    | some r =>
      if r.tag = fieldAt m.payload 3 1 then
        s.raccDone (fieldAt m.payload 1 1) (if r.write then none else some (fieldAt m.payload 8 4))
      else s
    | none => s
  else
    match s.routePort d with
    | some q => s.sendMsg q 0 3 m.payload
    | none => s

/-- 15 R519. -/
def execRegResult (p : PortN) (s : State) : Res :=
  .next (match s.headMsg p.val 0 3 with
    | some m => (s.takeMsg p.val m).takeRegResult m
    | none => s)

/-! ## Enumeration (15 R507 to R510) -/

/-- Handle the message at the head of a VC when it has the kind given. -/
def State.onMsg (s : State) (p vc kind : Nat) (f : State → Msg → State) : State :=
  match s.headMsg p vc kind with
  | some m => f (s.takeMsg p m) m
  | none => s

/-- 15 R507: a later ENUM of the same number receives no answer. -/
def execEnum (p : PortN) (s : State) : Res :=
  .next (s.onMsg p.val 0 5 (fun s m =>
    if fieldAt m.payload 0 2 = s.ldev.enumNum then s else s.joinEnum p.val (fieldAt m.payload 0 2) (fieldAt m.payload 2 1)))

/-- 15 R507, R509. -/
def execClaim (p : PortN) (s : State) : Res :=
  .next (s.onMsg p.val 0 6 (fun s m =>
    if fieldAt m.payload 0 2 = s.ldev.enumNum then
      let s := if s.downPorts.length < 3 then s.updPort p.val (fun x => { x with role := 3 }) else s
      if fieldAt m.payload 2 1 = 2 then s.updDev (fun d => { d with standbys := d.standbys + 1 }) else s
    else s))

/-- A REPORT with the DOWN port of its arrival added to the path (15 R508). -/
def State.passReport (s : State) (p : Nat) (m : Msg) : State :=
  let path := p :: pathOf m.payload (fieldAt m.payload 9 1)
  let head := (fieldAt m.payload 8 1).testBit 0
  if s.ldev.root then
    s.updDev (fun d => { d with
      reports := d.reports ++ [⟨BitVec.ofNat 64 (fieldAt m.payload 0 8), head, path.length, path⟩]
      assignAt := some (s.now + msTicks 2) })
  else
    match s.upPort with
    | some q => s.sendMsg q 0 7 (reportMsg (fieldAt m.payload 0 8) head path)
    | none => s

/-- 15 R508. -/
def execReport (p : PortN) (s : State) : Res := .next (s.onMsg p.val 0 7 (fun s m => s.passReport p.val m))

/-- An ASSIGN sets the ID, or is forwarded and its port recorded (15 R508). -/
def State.takeAssign (s : State) (m : Msg) : State :=
  let s := s.enumSoon
  let id := fieldAt m.payload 8 1
  if BitVec.ofNat 64 (fieldAt m.payload 0 8) = s.sec.fuses.serial then s.updDev (fun d => { d with id := id })
  else
    match (pathOf m.payload (fieldAt m.payload 9 1))[s.ldev.hops]? with
    | some q => (s.updDev (fun d => { d with routes := mput none d.routes id (some q) })).sendMsg q 0 8 m.payload
    | none => s

/-- 15 R508. -/
def execAssign (p : PortN) (s : State) : Res :=
  .next (s.onMsg p.val 0 8 (fun s m => if s.ldev.up = some p.val then s.takeAssign m else s))

/-- 15 R509: a head sends SB on its ports of role NONE; the message goes on down the tree. -/
def execSbStart (p : PortN) (s : State) : Res :=
  .next (s.onMsg p.val 0 9 (fun s m =>
    if fieldAt m.payload 0 2 = s.ldev.enumNum ∧ s.ldev.up = some p.val then
      let s := s.enumSoon
      let s := forEach s.downPorts (fun s q => s.sendMsg q 0 9 m.payload) s
      if s.sec.straps.domainHead then s.sendSb s.nonePorts else s
    else s))

/-- The device takes a standby (15 R509). -/
def State.takeStandby (s : State) (p : Nat) : State :=
  let s := s.updPort p (fun x => { x with role := 2 })
  let s := s.updDev (fun d => { d with sbTaken := true })
  let s := s.sendMsg p 0 6 (leBytes 2 s.ldev.enumNum ++ leBytes 1 2)
  s.sendSb s.nonePorts

/-- 15 R509. -/
def execSb (p : PortN) (s : State) : Res :=
  .next (s.onMsg p.val 0 10 (fun s m =>
    if fieldAt m.payload 0 2 = s.ldev.enumNum then
      let s := s.enumSoon
      if !s.hasStandby ∧ (s.port p.val).role = 0 then s.takeStandby p.val else s
    else s))

/-- 15 R508. -/
def execEnumReportTimeout (s : State) : Res :=
  .next (match s.ldev.assignAt with
    | some t => if s.ldev.root ∧ t ≤ s.now then s.assignIds else s
    | none => s)

/-- 15 R509. -/
def execEnumEnd (s : State) : Res :=
  .next (match s.ldev.endAt with
    | some t => if s.ldev.enumActive ∧ t ≤ s.now then s.endEnum else s
    | none => s)

/-! ## Failover (15 R512 to R515) -/

/-- 15 R513. -/
def execRootLost (p : PortN) (s : State) : Res :=
  .next (s.onMsg p.val 1 4 (fun s _ => if s.ldev.up = some p.val then s.unroot 1 else s))

/-- 15 R512, R514. -/
def execRooted (p : PortN) (s : State) : Res :=
  .next (s.onMsg p.val 1 5 (fun s m =>
    if s.ldev.up = some p.val then
      let s' := s.updDev (fun d => { d with hops := fieldAt m.payload 1 1 + 1 })
      if s.ldev.rooted then s' else s'.becomeRooted (fieldAt m.payload 0 1)
    else s))

/-- Record the port as the route of each ID (15 R514). -/
def LinkDev.learn (d : LinkDev) (p : Nat) (ids : List Nat) : LinkDev :=
  { d with routes := ids.foldl (fun r i => mput none r i (some p)) d.routes
           announceHeld := if d.rooted then d.announceHeld else d.announceHeld ++ ids }

/-- 15 R514. -/
def execAnnounce (p : PortN) (s : State) : Res :=
  .next (s.onMsg p.val 1 6 (fun s m =>
    if (s.port p.val).role = 3 then
      let ids := ((m.payload.drop 8).take (fieldAt m.payload 0 1)).map BitVec.toNat
      let s := s.updDev (fun d => d.learn p.val ids)
      if s.ldev.rooted then s.announceUp ids else s
    else s))

/-- 15 R513, R515: within 10 µs of the loss. -/
def execFailover (s : State) : Res :=
  .next (match s.ldev.failDue, s.ldev.up with
    | some (cause, _), some old => s.failover old cause
    | _, _ => s)

/-! ## Commands (15 R521 to R523) -/

/-- Width code of port `p` in bytes 2 and 3 of LINK_TRAIN. -/
def trainCode (e : Entry) (p : Nat) : Nat := e.p 2 2 / 4 ^ p % 4

/-- A port lies inside another selected port's ×8 (15 R521). -/
def trainOverlap (e : Entry) : Bool :=
  [1, 3].any (fun p => (e.p 0 1).testBit p && (e.p 0 1).testBit (p - 1) && trainCode e (p - 1) == 3)

/-- Retrain one selected port with the width given; with FORCE the active UP goes DOWN first (15 R521). -/
def State.retrain (s : State) (e : Entry) (p : Nat) : State :=
  let s := if s.ldev.up = some p ∧ (s.port p).st = 2 then s.portDown p 0 else s
  let s := s.rsetf (Reg.LINK_CTRL p) 28 2 (trainCode e p)
  (s.widthChange p).trainPort ((e.p 1 1).testBit 0) p

def State.linkTrain (s : State) (tk : Ticket) (e : Entry) : State :=
  let ports := bitsOf 4 (e.p 0 1)
  if s.ldev.enumActive then s.reply tk stBUSY []
  else if (ports.any (fun p => s.ldev.up == some p)) ∧ !(e.p 1 1).testBit 1 then s.reply tk stREFUSED []
  else
    let s := s.replyPending tk
    let s := forEach ports (fun s p => s.retrain e p) s
    s.updDev (fun d => { d with
      train := d.train ++ [⟨tk, ports, s.now + msTicks (if (e.p 1 1).testBit 0 then 20 else 2)⟩] })

def cLinkTrain : CmdSpec :=
  { op := 0x0901, lenOk := lenIs 1,
    paramOk := fun _ e => e.p 0 1 != 0 && decide (e.p 0 1 < 16) && decide (e.p 1 1 < 4) && e.zero 4 4 && !trainOverlap e
      && [1, 3].all (fun p => !((e.p 0 1).testBit p && trainCode e p == 3)),
    run := State.linkTrain }

/-- 15 R521. -/
def execLinkTrain (m : Master) (s : State) : Res := .next (s.runCmd cLinkTrain m.val)

/-- Lowest LANE_MERIT.min of a port's lanes. -/
def State.lowMerit (s : State) (p : Nat) : Nat :=
  ((s.portLanes p).map (fun l => (s.lane l).meritMin)).foldl min 255

/-- One result word of LINK_TRAIN (15 R521). -/
def State.trainWord (s : State) (p : Nat) : List Byte :=
  leBytes 1 p ++ leBytes 1 (s.port p).st ++ leBytes 1 (s.lockedMask p) ++ leBytes 1 (s.lowMerit p)
    ++ leBytes 1 (s.rf (Reg.LINK_CTRL p) 28 2) ++ leBytes 1 (s.port p).neighId ++ leBytes 1 (s.port p).neighPort ++ leBytes 1 0

/-- Every port of a LINK_TRAIN is ACTIVE. -/
def State.trainOk (s : State) (j : TrainJob) : Bool := j.ports.all (fun p => (s.port p).st == 2)

/-- 15 R521. -/
def execLinkTrainDone (s : State) : Res :=
  .next (match s.ldev.train.find? (fun j => s.trainOk j || decide (j.deadline ≤ s.now)) with
    | some j =>
      let r := j.ports.flatMap s.trainWord
      let st := if s.trainOk j then stOK else stTIMEOUT
      (s.updDev (fun d => { d with train := d.train.erase j })).finish j.tk st r
    | none => s)

/-- The next enumeration number: never 0. DEDUCED (log entry 47). -/
def nextEnum (n : Nat) : Nat := if (n + 1) % 65536 = 0 then 1 else (n + 1) % 65536

/-- The head becomes root and sends ENUM (15 R507, R522). -/
def State.enumerate (s : State) (tk : Ticket) (e : Entry) : State :=
  if !s.sec.straps.domainHead then s.reply tk stWRONG_STATE []
  else if s.ldev.enumActive then s.reply tk stBUSY []
  else
    let s := s.replyPending tk
    let num := nextEnum s.ldev.enumNum
    let s := s.enumEffects
    let s := s.clearRoles
    let s := s.updDev (fun d => { d.begin num with
      id := e.p 0 1, root := true, rooted := true, enumTk := some tk, assignAt := some (s.now + msTicks 2) })
    s.sendEnum (s.otherActive none) num 1

def cLinkEnumerate : CmdSpec :=
  { op := 0x0902, lenOk := lenIs 1,
    paramOk := fun _ e => decide (1 ≤ e.p 0 1) && decide (e.p 0 1 ≤ 254) && e.zero 1 7, run := State.enumerate }

/-- 15 R522. -/
def execLinkEnumerate (m : Master) (s : State) : Res := .next (s.runCmd cLinkEnumerate m.val)

/-- Four words of LINK_STATUS (15 R523). -/
def State.linkWords (s : State) (p : Nat) : List Byte :=
  let x := s.port p
  leBytes 1 p ++ leBytes 1 x.st ++ leBytes 1 x.role ++ leBytes 1 (s.rf (Reg.LINK_CTRL p) 28 2) ++ leBytes 1 (s.lockedMask p)
    ++ leBytes 1 (s.lowMerit p) ++ leBytes 1 x.neighId ++ leBytes 1 s.ldev.hops ++ leBytes 8 x.neighSerial.toNat
    ++ leBytes 4 (s.rget (Reg.LINK_CRC_ERR p)).toNat ++ leBytes 4 (s.rget (Reg.LINK_RESENT p)).toNat
    ++ leBytes 4 (s.rget (Reg.LINK_FAILOVERS p)).toNat ++ leBytes 1 (b2n (s.ldev.rooted && s.ldev.up == some p))
    ++ leBytes 1 ((s.timingLane p).getD 0xFF) ++ leBytes 2 0

def cLinkStatus : CmdSpec :=
  { op := 0x0903, lenOk := lenIs 1,
    paramOk := fun _ e => (decide (e.p 0 1 ≤ 3) || e.p 0 1 == 0xFF) && e.zero 1 7,
    run := fun s tk e =>
      s.reply tk stOK ((if e.p 0 1 = 0xFF then [0, 1, 2, 3] else [e.p 0 1]).flatMap s.linkWords) }

/-- 15 R523. -/
def execLinkStatus (m : Master) (s : State) : Res := .next (s.runCmd cLinkStatus m.val)

end Sys2Proof.Machine
end

