-- ==== Sys2Proof/Machine/MemRows.lean ====
section
/-! DEFINITION. Commands and events of the on-chip memory (17). -/

namespace Sys2Proof.Machine

/-- The bytes in error of a line, each by its first entry. -/
def errList : List (Fin 64 × Bool) → List (Nat × Bool)
  | [] => []
  | e :: l => (e.1.val, e.2) :: (errList l).filter (fun x => x.1 != e.1.val)

/-- SCRUB_LINE (17 R565): agent, line, and the bytes in error. -/
def execScrubLine (a : Fin 15) (region : Fin 7) (unit : Byte) (line : BitVec 16) (errs : List (Fin 64 × Bool)) (s : State) : Res :=
  .next (s.scrubLine a.val region.val unit.toNat line.toNat (errList errs))

/-- SCRUB_URGENT (17 R566). -/
def execScrubUrgent (a : Fin 15) (s : State) : Res := .next (s.scrubUrgent a.val)

/-- MARCH_TEST_LINE (17 R569): as SCRUB_LINE, whether the line failed at the nominal supply, and its Vmin in mV. -/
def execMarchTestLine (a : Fin 15) (region : Fin 7) (unit : Byte) (line : BitVec 16) (errs : List (Fin 64 × Bool)) (fail : Bool)
    (vmin : BitVec 10) (s : State) : Res :=
  .next (s.marchLine a.val region.val unit.toNat line.toNat (errList errs) fail vmin.toNat)

/-- BANK_RETENTION_ENTERED (17 R557). -/
def execBankRetentionEntered (n : BankN) (s : State) : Res := .next (s.retentionEntered n.val)

/-- BANK_WAKE_DONE (17 R557). -/
def execBankWakeDone (n : BankN) (s : State) : Res := .next (s.wakeDone n.val)

/-- BANK_CLEAR_DONE (17 R559). -/
def execBankClearDone (n : BankN) (s : State) : Res := .next (s.clearDone n.val)

/-- BANK_SHUTDOWN_DONE (17 R557). -/
def execBankShutdownDone (n : BankN) (s : State) : Res := .next (s.shutdownDone n.val)

/-- BULK_WRITE (17 R575). -/
def execBulkWrite (p : PortN) (s : State) : Res := .next (s.onBulk p.val 0 State.bulkTake)

/-- BULK_DONE (17 R575). -/
def execBulkDone (p : PortN) (s : State) : Res := .next (s.onBulk p.val 1 State.bulkDone)

/-- DMA_TIMEOUT (17 R575). -/
def execDmaTimeout (s : State) : Res := .next s.dmaTimeout

/-- MEM_ASSIGN (17 R578). -/
def execMemAssign (m : Master) (s : State) : Res := .next (s.runCmd cMemAssign m.val)

/-- MEM_RETAIN (17 R579). -/
def execMemRetain (m : Master) (s : State) : Res := .next (s.runCmd cMemRetain m.val)

/-- MEM_TEST (17 R580). -/
def execMemTest (m : Master) (s : State) : Res := .next (s.runCmd cMemTest m.val)

/-- MEM_TEST_PASS_DONE (17 R580). -/
def execMemTestPassDone (s : State) : Res := .next s.passDone

end Sys2Proof.Machine
end

