-- ==== Sys2Proof/Machine/OwnRows.lean ====
section
/-! DEFINITION. Ownership commands and events, forwarding, and DEV_INFO (03). -/

namespace Sys2Proof.Machine

/-! ## DEV_INFO (03 R93) -/

/-- Byte 7 of the DEV_INFO result. -/
def State.devBits (s : State) : Nat :=
  b2n s.sec.straps.domainHead + 2 * b2n s.sec.straps.pcieEn + 4 * b2n (s.triad.mode == 3) + 8 * b2n (s.sec.start.fw.slot == 1)

/-- Whole seconds since the end of the last start (20 R634). -/
def State.upSeconds (s : State) : Nat := (s.now - s.sec.start.endTick) / 1500000000

def State.devInfo (s : State) : List Byte :=
  leBytes 4 0x0192E1B0 ++ [s.sec.fuses.revision, BitVec.ofNat 8 s.link.dev.id, BitVec.ofNat 8 s.lifecycle,
    BitVec.ofNat 8 s.devBits] ++ leBytes 4 s.sec.start.fw.ver.toNat ++ leBytes 4 s.upSeconds
    ++ leBytes 8 s.sec.fuses.serial.toNat

def cDevInfo : CmdSpec :=
  { op := 0x0101, lenOk := lenIs 0, paramOk := fun _ _ => true, run := fun s tk _ => s.reply tk stOK s.devInfo }

/-- 03 R93. -/
def execDevInfo (m : Master) (s : State) : Res := .next (s.runCmd cDevInfo m.val)

/-! ## OWN_CLAIM (03 R96, R97) -/

/-- A lease a command may ask for. -/
def leaseOk (ms : Nat) : Bool := ms == 0 || (decide (50 ≤ ms) && decide (ms ≤ 600000))

/-- Answer TIMEOUT to a waiting claim. -/
def State.claimTimeout (s : State) (c : Claim) : State := s.reply c.tk stTIMEOUT []

/-- Remove master `m`'s waiting claim; it is answered TIMEOUT. -/
def State.dropClaim (s : State) (m : Nat) : State :=
  forEach (s.own.waiting.filter (fun c => c.m == m)) State.claimTimeout
    (s.updOwn (fun o => { o with waiting := o.waiting.filter (fun c => c.m != m) }))

/-- The owner's claim with its current token: lease and priority replaced (03 R96). -/
def Own.reclaim (o : Own) (prio leaseMs now : Nat) : Own :=
  { o with prio := prio, leaseMs := leaseMs, leaseEnd := now + msTicks leaseMs }

/-- Result of a refused claim (03 R96). -/
def State.refusal (s : State) : List Byte :=
  leBytes 1 (s.own.owner.getD 0) ++ leBytes 1 s.own.prio ++ leBytes 2 0 ++ leBytes 4 s.leaseLeft

/-- A claim waits (03 R97). -/
def State.waitClaim (s : State) (tk : Ticket) (e : Entry) : State :=
  let s := s.dropClaim tk.m
  let s := s.replyPending tk
  s.updOwn (fun o => { o with waiting := o.waiting ++
    [⟨tk.m, e.p 0 1, s.leaseOf (e.p 4 4), s.now + msTicks (e.p 2 2), tk⟩] })

/-- The four situations of 03 R96. M7 never owns the device (03 R94): its claim is refused, which the spec does not name. DESIGN CHOICE
(log entry 21). -/
def State.claim (s : State) (tk : Ticket) (e : Entry) : State :=
  if tk.m = 7 then s.reply tk stREFUSED s.refusal
  else if s.own.owner.isNone then
    let s := s.grantOwner tk.m (e.p 0 1) (s.leaseOf (e.p 4 4)) 1 false
    s.replyEffect tk stOK s.claimResult
  else if s.ownerToken tk.m e.token then
    let s := s.updOwn (fun o => o.reclaim (e.p 0 1) (s.leaseOf (e.p 4 4)) s.now)
    s.replyEffect tk stOK s.claimResult
  else if (e.p 1 1).testBit 0 then s.waitClaim tk e
  else s.reply tk stREFUSED s.refusal

def cOwnClaim : CmdSpec :=
  { op := 0x0201, lenOk := lenIs 1,
    paramOk := fun _ e => decide (e.p 0 1 ≤ 15) && decide (e.p 1 1 ≤ 1) && leaseOk (e.p 4 4)
      && (e.p 1 1 == 0 || e.p 2 2 != 0),
    run := State.claim }

/-- 03 R96. -/
def execOwnClaim (m : Master) (s : State) : Res := .next (s.runCmd cOwnClaim m.val)

/-- A claim that has waited its wait_ms is answered TIMEOUT (03 R97). -/
def execClaimWaitTimeout (m : Master) (s : State) : Res :=
  .next (if s.own.waiting.any (fun c => c.m == m.val && decide (c.deadline ≤ s.now)) then s.dropClaim m.val else s)

/-! ## Renewal, release, expiry and grant (03 R98 to R100) -/

def cOwnRenew : CmdSpec :=
  { op := 0x0202, lenOk := lenIs 0, paramOk := fun _ _ => true,
    run := fun s tk _ => s.replyEffect tk stOK (leBytes 4 s.leaseLeft ++ leBytes 4 0) }

/-- 03 R99. The restart of the lease is that of every accepted command (`execCmd`). -/
def execOwnRenew (m : Master) (s : State) : Res := .next (s.runCmd cOwnRenew m.val)

def cOwnRelease : CmdSpec :=
  { op := 0x0203, lenOk := lenIs 0, paramOk := fun _ _ => true,
    run := fun s tk _ => (s.freeOwner 2).replyEffect tk stOK [] }

/-- 03 R99, R100. -/
def execOwnRelease (m : Master) (s : State) : Res := .next (s.runCmd cOwnRelease m.val)

/-- The lease ends without renewal, at a command boundary; not during a pause of the triad (03 R98, R100, R116). -/
def execLeaseExpiry (s : State) : Res := .next (if s.atBoundary && s.leaseDue then s.freeOwner 4 else s)

/-- The waiting claim with the highest priority, the earliest among equals (03 R98). DEDUCED (log entry 21). -/
def bestClaim : List Claim → Option Claim
  | [] => none
  | c :: l =>
    match bestClaim l with
    | none => some c
    | some d => if c.prio < d.prio then some d else some c

/-- Grant free ownership to a waiting claim, with its final reply. -/
def State.grantClaim (s : State) (c : Claim) : State :=
  let s := s.updOwn (fun o => { o with waiting := o.waiting.erase c })
  let s := s.grantOwner c.m c.prio c.leaseMs 1 false
  s.replyEffect c.tk stOK s.claimResult

/-- At a command boundary free ownership goes to a waiting claim (03 R98). -/
def execOwnershipGrant (s : State) : Res :=
  .next (if s.atBoundary && s.own.owner.isNone then
    match bestClaim s.own.waiting with
    | some c => s.grantClaim c
    | none => s
  else s)

/-! ## Hand-over and forced takeover (03 R101, R102) -/

/-- The successor is present (03 R101). -/
def State.present (s : State) (h : Handover) : Bool :=
  if h.succ < 4 then !h.flr && (s.pf h.succ).rprEn && s.host.up && s.sec.straps.pcieEn
  else if h.succ = 5 then s.upPort.isSome
  else if h.succ = 6 then s.lifecycle == 1
  else true

def State.acceptHandover (s : State) (tk : Ticket) (e : Entry) : State :=
  let h : Handover := ⟨e.p 0 1, if e.p 1 1 = 255 then s.own.prio else e.p 1 1, s.leaseOf (e.p 4 4), false⟩
  (s.updOwn (fun o => { o with handover := some h })).replyEffect tk stOK []

def cOwnHandover : CmdSpec :=
  { op := 0x0204, lenOk := lenIs 1,
    paramOk := fun s e => decide (e.p 0 1 ≤ 6) && s.own.owner != some (e.p 0 1) && (e.p 0 1 != 6 || s.lifecycle == 1)
      && (decide (e.p 1 1 ≤ 15) || e.p 1 1 == 255) && e.zero 2 2 && leaseOk (e.p 4 4),
    run := State.acceptHandover }

/-- 03 R101. -/
def execOwnHandover (m : Master) (s : State) : Res := .next (s.runCmd cOwnHandover m.val)

/-- The successor of a hand-over becomes owner at the command boundary, or ownership becomes free (03 R101). -/
def execHandoverComplete (s : State) : Res :=
  .next (match s.own.handover with
    | some h =>
      if s.atBoundary && s.handoverDue then
        if s.present h then s.grantOwner h.succ h.prio h.leaseMs 8 false else s.freeOwner 0
      else s
    | none => s)

/-- M4 becomes owner at the command boundary (03 R102). -/
def execForcedTakeover (s : State) : Res :=
  .next (match s.own.force with
    | some p =>
      if s.atBoundary then
        (s.updOwn (fun o => { o with force := none })).grantOwner 4 p (s.leaseOf 0) 16 true
      else s
    | none => s)

/-- Result of OWN_QUERY (03 R104). -/
def State.ownQuery (s : State) (m : Nat) : List Byte :=
  leBytes 1 (s.own.owner.getD 0xFF) ++ leBytes 1 s.own.prio ++ leBytes 1 s.own.waiting.length
    ++ leBytes 1 (b2n s.own.lastForced) ++ leBytes 4 s.leaseLeft
    ++ leBytes 8 (if s.own.owner = some m then s.own.token.toNat else 0)
    ++ leBytes 4 (s.rget Reg.OWN_CHANGES).toNat ++ leBytes 4 0

def cOwnQuery : CmdSpec :=
  { op := 0x0205, lenOk := lenIs 0, paramOk := fun _ _ => true, run := fun s tk _ => s.reply tk stOK (s.ownQuery tk.m) }

/-- 03 R104. -/
def execOwnQuery (m : Master) (s : State) : Res := .next (s.runCmd cOwnQuery m.val)

/-! ## Forwarding (03 R106 to R110, 15 R511) -/

/-- Slots of master `m`'s queue that are taken. -/
def CmdQ.used (q : CmdQ) : Nat := (q.tail + 128 - q.head) % 128

/-- The link layer fills a slot of M5 and rings (03 R80). -/
def State.fillM5 (s : State) (dev mst : Nat) (entry : List Byte) : State :=
  let q := s.cmdq 5
  let s := s.updCmd (fun c => { c with sram := putBytes c.sram (slotAddr 5 q.tail) (overBytes entry 7 [5]) })
  (s.updCmdq 5 (fun q => { q with tail := (q.tail + 1) % 128, orig := mput (0, 5) q.orig (q.tail % 64) (dev, mst) })).perfM 3 0 none 5 none 1

/-- A device with no route answers UNREACHABLE with its own ID (03 R106). -/
def State.unreachable (s : State) (dev : Nat) (e : Entry) : State :=
  match s.routePort dev with
  | some q =>
    s.sendMsg q 0 1 (leBytes 8 dev ++
      Reply.bytes ⟨⟨5, e.opcode, e.tag, true, 0, 0⟩, stUNREACHABLE, [], s.beacon, false, s.link.dev.id⟩ 0)
  | none => s

/-- A COMMAND message leaves on its route (15 R511). -/
def State.passCommand (s : State) (m : Msg) : State :=
  let e := Entry.ofBytes (m.payload.drop 8)
  match s.routePort e.target with
  | some q => s.sendMsg q 0 0 m.payload
  | none => s.unreachable (fieldAt m.payload 0 1) e

/-- A COMMAND for this device comes in from the active UP (03 R80, R106); a broadcast leaves on every DOWN port (03 R110). -/
def State.takeCommand (s : State) (p : Nat) (m : Msg) : State :=
  let e := Entry.ofBytes (m.payload.drop 8)
  let here := e.target == 0 || e.target == 255 || e.target == s.link.dev.id
  if !here then (s.takeMsg p m).passCommand m
  else if s.ldev.up != some p then s.takeMsg p m
  else if 64 ≤ (s.cmdq 5).used then s
  else
    let s := (s.takeMsg p m).fillM5 (fieldAt m.payload 0 1) (fieldAt m.payload 1 1) (m.payload.drop 8)
    if e.target = 255 then forEach s.downPorts (fun s q => s.sendMsg q 0 0 m.payload) s else s

/-- 03 R106. -/
def execCommand (p : PortN) (s : State) : Res :=
  .next (match s.headMsg p.val 0 0 with
    | some m => s.takeCommand p.val m
    | none => s)

/-- A forwarded command that a reply with this opcode, tag and status from this device belongs to: UNREACHABLE may come from any
device on the way, with that device's own ID (03 R106). -/
def Fwd.answers (f : Fwd) (op tag dev status : Nat) : Bool :=
  f.tk.opcode == op && f.tk.tag == tag && (f.missing.contains dev || (!f.bcast && status == stUNREACHABLE))

/-- The table of forwarded commands after a reply: PENDING restarts the timeout, a final reply ends the device's part. -/
def Fwd.after (f : Fwd) (status dev deadline : Nat) : Fwd :=
  if status = stPENDING then { f with deadline := deadline }
  else if status = stPARTIAL then f
  else { f with missing := if f.bcast then f.missing.erase dev else [] }

/-- Replace an entry of the table of forwarded commands; one whose devices have all answered leaves it. -/
def State.setFwd (s : State) (f g : Fwd) : State :=
  s.updCmd (fun c => { c with fwd := if g.missing.isEmpty then c.fwd.erase f else c.fwd.replace f g })

/-- Forget a timed-out answer once it has come. -/
def State.dropLate (s : State) (k : Nat × Nat × Nat) (status : Nat) : State :=
  s.updCmd (fun c => { c with lateFwd := if status = stPENDING ∨ status = stPARTIAL then c.lateFwd else c.lateFwd.erase k })

/-- A reply at the originating device (03 R108, R109): one that comes after its TIMEOUT is discarded and counted, and any other that no
forwarded command awaits is discarded. -/
def State.takeReply (s : State) (b : List Byte) : State :=
  let op := fieldAt b 0 2
  let status := fieldAt b 2 1
  let tag := fieldAt b 4 2
  let dev := fieldAt b 6 1
  match s.cmd.fwd.find? (fun f => f.answers op tag dev status) with
  | some f =>
    (s.setFwd f (f.after status dev (s.now + s.fwdTicks))).writeReply
      ⟨f.tk, status, (b.drop 16).take (8 * fieldAt b 3 1), BitVec.ofNat 48 (fieldAt b 8 6), false, dev⟩
  | none =>
    match s.cmd.lateFwd.find? (fun k => k.1 == op && k.2.1 == tag && (k.2.2 == dev || status == stUNREACHABLE)) with
    | some k => (s.dropLate k status).cnt Reg.CMD_FWD_LATE
    | none => s

/-- A REPLY message (03 R108, 15 R511). -/
def State.passReply (s : State) (m : Msg) : State :=
  let d := fieldAt m.payload 0 1
  if d = s.link.dev.id then s.takeReply (m.payload.drop 8)
  else
    match s.routePort d with
    | some q => s.sendMsg q 0 1 m.payload
    | none => s

/-- 03 R108. -/
def execReply (p : PortN) (s : State) : Res :=
  .next (match s.headMsg p.val 0 1 with
    | some m => (s.takeMsg p.val m).passReply m
    | none => s)

/-- A forwarded command without a final reply in time: TIMEOUT for each device that has given none (03 R109, R110); and a
remote register access without an answer in time (15 R511). DEDUCED (log entry 20). -/
def execForwardTimeout (s : State) : Res :=
  .next (match s.cmd.fwd.find? (fun f => decide (f.deadline ≤ s.now)) with
    | some f =>
      forEach f.missing (fun s d => s.writeReply ⟨f.tk, stTIMEOUT, [], s.beacon, true, d⟩)
        (s.updCmd (fun c => { c with
          fwd := c.fwd.erase f, lateFwd := c.lateFwd ++ f.missing.map (fun d => (f.tk.opcode, f.tk.tag, d)) }))
    | none => s.raccTimeout)

/-- A command in turn whose opcode is not in the index (03 R90 step 1). -/
def execUnknownOpcode (m : Master) (s : State) : Res :=
  .next (if s.mayTake m.val && !(opcodes.contains (s.headEntry m.val).opcode) then
    ((s.takeCmd m.val).reply (s.ticket m.val (s.headEntry m.val)) stUNKNOWN_OPCODE []).keepTurn
      (s.ticket m.val (s.headEntry m.val))
  else s)

end Sys2Proof.Machine
end

