-- ==== Sys2Proof/Machine/PerfRows.lean ====
section
/-! DEFINITION. Commands and events of counters and Slates (21). -/

namespace Sys2Proof.Machine

/-- SNAP_TAKE (21 R664). -/
def execSnapTake (m : Master) (s : State) : Res := .next (s.runCmd cSnapTake m.val)

/-- SNAP_IN_EDGE (21 R658, 08 R273). -/
def execSnapInEdge (s : State) : Res := .next s.snapIn

/-- SLATE_LATCH (21 R659, R660). -/
def execSlateLatch (s : State) : Res := .next s.slateLatch

/-- BW_WINDOW_END (21 R655). -/
def execBwWindowEnd (s : State) : Res := .next s.bwEnd

/-- DUMP_PERIODIC (21 R656). -/
def execDumpPeriodic (g : Fin 16) (s : State) : Res := .next (s.dumpDue g.val)

end Sys2Proof.Machine
end

