-- ==== Sys2Proof/Machine/QuartzRows.lean ====
section
/-! DEFINITION. The events and commands of Quartz and of PTM (14, 16 R544). -/

namespace Sys2Proof.Machine

/-! ## Beacons and boundaries -/

/-- Replies that wait for a beacon are written with it (03 R113), and those that a pause of control held; in a pause they wait on
(18 R582, R595). -/
def State.beaconReplies (s : State) : State :=
  if s.triad.runs then
    let rs := s.cmd.atBeacon
    let s := forEach (List.range 8) (fun s m => s.resumeReplies m) s
    forEach rs (fun s r => s.writeReply { r with ts := s.beacon }) (s.updCmd (fun c => { c with atBeacon := [] }))
  else s

/-- 01 R20. -/
def execTimeBeacon (s : State) : Res :=
  .next (match s.qtz.beaconDue with
    | some t => (s.updQtz (fun q => { q with beacon := t, beaconDue := none })).beaconReplies
    | none => s)

/-- Where in its boundary tick ns reaches 10^9, in T/1024 from the tick before (14 R454): the rest `v` beyond 10^9 is that of the boundary. The
rounding is open (log entry 43). -/
def Quartz.ppsPlace (q : Quartz) : Nat :=
  let v := q.reasonTime.ns.toNat * 2 ^ 32 + q.reasonTime.frac.toNat
  let n := (q.inc.toNat - v) * 1024
  n / q.inc.toNat + b2n (n % q.inc.toNat != 0 && Config.roundUp 30 n q.inc.toNat)

/-- PPS_OUT goes active at the boundary (14 R454); width_ms 0 stores 1 and above 999 stores 999. -/
def State.ppsOut (s : State) : State :=
  if s.rb Reg.QTZ_PPS_OUT 31 then
    s.updQtz (fun q => { q with
      ppsUntil := some (s.now + msTicks (clampNat 1 999 (s.rf Reg.QTZ_PPS_OUT 0 10))), ppsPhase := q.ppsPlace })
  else s

/-- Level of the ball PPS_OUT (14 R454): with pol = 1 it is active low. -/
def State.ppsLevel (s : State) : Bool := s.qtz.ppsUntil.isSome != s.rb Reg.QTZ_PPS_OUT 30

/-- 14 R453, 08 R270, 11 R377. -/
def execSecondBoundary (s : State) : Res :=
  .next (if s.qtz.secDue then
    let s := s.updQtz (fun q => { q with secDue := false })
    let s := s.linePulse 189 s.qtz.reasonTime.ts false
    let s := s.holdEvent
    let s := s.duesEpoch
    s.ppsOut.voteReload
  else s)

/-- 11 R377. -/
def execTs48Wrap (s : State) : Res :=
  .next (if s.qtz.wrapDue then (s.updQtz (fun q => { q with wrapDue := false })).duesEpoch else s)

/-- 14 R454. -/
def execPpsOutEnd (s : State) : Res :=
  .next (match s.qtz.ppsUntil with
    | some t => if t ≤ s.now then s.updQtz (fun q => { q with ppsUntil := none }) else s
    | none => s)

/-! ## Changes of the time -/

/-- 14 R456: the apply tick's increment has used the new INC. -/
def execIncApply (s : State) : Res := .next s.incReport

/-- 14 R458 to R460. -/
def execChangeApply (s : State) : Res :=
  .next (match s.qtz.chg with
    | some c => if c.tick ≤ s.now then s.change c else s
    | none => s)

/-- 14 R463: the copies as the voter sees them in this tick. -/
def execQuartzVoteMismatch (a b c : QCopy) (s : State) : Res :=
  .next ((s.updQtz (fun q => { q.endScale with a := copyOf a, b := copyOf b, c := copyOf c })).voteCheck)

def cTodSet : CmdSpec :=
  { op := 0x0A01, lenOk := lenIs 3,
    paramOk := fun s e => e.zero 6 2 && decide (e.p 8 4 ≤ 999999999) && e.zero 22 2
      && decide ((tsDiff (BitVec.ofNat 48 (e.p 16 6)) s.tsNow).natAbs ≤ 2000000000 * 65536),
    run := fun s tk e =>
      if s.qtz.chg.isSome then s.reply tk stBUSY []
      else
        let t : QTime := ⟨BitVec.ofNat 48 (e.p 0 6), BitVec.ofNat 30 (e.p 8 4), BitVec.ofNat 32 (e.p 12 4)⟩
        s.updQtz (fun q => { q with chg := some ⟨.set t.full (BitVec.ofNat 48 (e.p 16 6)), s.applyTick, some tk⟩ }) }

/-- 14 R479. -/
def execTodSet (m : Master) (s : State) : Res := .next (s.runCmd cTodSet m.val)

def cTodStep : CmdSpec :=
  { op := 0x0A02, lenOk := lenIs 1, paramOk := fun _ e => e.p 0 8 != 0,
    run := fun s tk e =>
      if s.servoEn then s.reply tk stWRONG_STATE []
      else if s.qtz.chg.isSome then s.reply tk stBUSY []
      else s.updQtz (fun q => { q with chg := some ⟨.step (e.ps 0 8), s.applyTick, some tk⟩ }) }

/-- 14 R480. -/
def execTodStep (m : Master) (s : State) : Res := .next (s.runCmd cTodStep m.val)

def cTodSetIncrement : CmdSpec :=
  { op := 0x0A03, lenOk := lenIs 1,
    paramOk := fun _ e => decide (incMin.toNat ≤ e.p 0 8) && decide (e.p 0 8 ≤ incMax.toNat),
    run := fun s tk e =>
      if s.servoEn then s.reply tk stWRONG_STATE [] else s.incCommit (BitVec.ofNat 36 (e.p 0 8)) [tk] }

/-- 14 R481. -/
def execTodSetIncrement (m : Master) (s : State) : Res := .next (s.runCmd cTodSetIncrement m.val)

/-! ## Following a neighbour -/

/-- 14 R466. -/
def execProbeSend (p : PortN) (s : State) : Res :=
  .next (if s.rb Reg.QTZ_CTRL 29 ∧ s.probes p.val ∧ (s.probe p.val).out = none ∧ (s.probe p.val).nextTick ≤ s.now then
    s.probeSend p.val
  else s)

/-- 14 R466: a probe on a DOWN port is answered. -/
def execProbe (p : PortN) (s : State) : Res :=
  .next (match s.headMsg p.val 1 1 with
    | some m => if (s.port p.val).role = 3 then (s.takeMsg p.val m).echo p.val m else s.takeMsg p.val m
    | none => s)

/-- 14 R468, R469. -/
def execEcho (p : PortN) (s : State) : Res :=
  .next (match s.headMsg p.val 1 2 with
    | some m => (s.takeMsg p.val m).takeEcho p.val m
    | none => s)

/-- 14 R469. -/
def execProbeTimeout (p : PortN) (s : State) : Res :=
  .next (match (s.probe p.val).out with
    | some (_, _, t, _) =>
      if t + usTicks 200 ≤ s.now then (s.updProbe p.val (fun x => { x with out := none })).exchangeFail p.val else s
    | none => s)

/-- 14 R473: once per 16 valid exchanges on the followed port. -/
def execServoUpdate (s : State) : Res :=
  .next (match s.followPort with
    | some p => if s.servoEn ∧ 16 ≤ s.qtz.servo.exchanges then s.servo p else s
    | none => s)

/-- 14 R474. -/
def execFollowLost (s : State) : Res :=
  .next (
    let v := s.qtz.servo
    if s.servoEn ∧ !s.timeMaster ∧ v.follow ≠ 3 ∧ v.lastValid + usTicks (256 * s.probeUs) ≤ s.now then
      s.followLost (s.ldev.up.getD 0) ((s.now - v.lastValid) / 1500)
    else s)

/-! ## PTM (14 R472, 16 R544) -/

/-- 16 R544. -/
def execPtmDialogStart (s : State) : Res :=
  .next (
    let ms := s.rf Reg.HOSTIF_PTM_CTRL 0 16
    if s.rb Reg.HOSTIF_PTM_CTRL 31 ∧ ms ≠ 0 ∧ s.ptmReady ∧ s.qtz.ptm.nextTick ≤ s.now then
      (s.updQtz (fun q => { q with ptm := { q.ptm with nextTick := s.now + msTicks ms } })).ptmStart
    else s)

/-- A ResponseD: Master Time and Propagation Delay are held, and t1 and t4 − t1 (14 R472, 16 R544); vector 68 (16 R540). -/
def State.ptmResponse (s : State) (mt : BitVec 64) (pd : Word) (t1 t4 : TS48) : State :=
  let s := s.rset Reg.HOSTIF_PTM_MT_LO (word mt.toNat)
  let s := s.rset Reg.HOSTIF_PTM_MT_HI (word (mt.toNat / 2 ^ 32))
  let s := s.rset Reg.HOSTIF_PTM_PD pd
  let s := s.updQtz (fun q => { q with ptm := { q.ptm with
    out := none, dialog := (q.ptm.dialog + 1) % 65536, t1 := t1, rtt := word (t4 - t1).toNat } })
  (s.evt Reg.HOSTIF_EVT 16).msixAll 68

/-- 14 R472, 16 R544. -/
def execPtmResponse (mt : BitVec 64) (pd : Word) (ago : TS48) (s : State) : Res :=
  .next (match s.qtz.ptm.out with
    | some (t1, _) => s.ptmResponse mt pd t1 (s.ptmCame ago)
    | none => s)

/-- 16 R544. -/
def execPtmTimeout (s : State) : Res :=
  .next (match s.qtz.ptm.out with
    | some (_, t) =>
      if t + msTicks 1 ≤ s.now then
        (((s.updQtz (fun q => { q with ptm := { q.ptm with out := none } })).cnt Reg.HOSTIF_PTM_FAIL).evt Reg.HOSTIF_EVT 32).msixAll 68
      else s
    | none => s)

end Sys2Proof.Machine
end

