-- ==== Sys2Proof/Machine/SecRows.lean ====
section
/-! DEFINITION. Commands and events of firmware, attestation, keys and fuses (20 R640 to R650). -/

namespace Sys2Proof.Machine

/-- FW_UPDATE (20 R648). -/
def execFwUpdate (m : Master) (s : State) : Res := .next (s.runCmd cFwUpdate m.val)

/-- FW_UPDATE_DONE (20 R648): whether the slot reads back as it was written. -/
def execFwUpdateDone (good : Bool) (s : State) : Res := .next (s.fwDone good)

/-- ATTEST (20 R649). -/
def execAttest (m : Master) (s : State) : Res := .next (s.runCmd cAttest m.val)

/-- ATTEST_DONE (20 R649). -/
def execAttestDone (s : State) : Res := .next s.attestDone

/-- KEY_REVOKE (20 R650). -/
def execKeyRevoke (m : Master) (s : State) : Res := .next (s.runCmd cKeyRevoke m.val)

/-- FUSE_BURN_DONE (20 R640). -/
def execFuseBurnDone (s : State) : Res := .next s.burnDone

end Sys2Proof.Machine
end

