-- ==== Sys2Proof/Machine/StartRows.lean ====
section
/-! DEFINITION. Reset sources and the steps of a start (20 R626 to R637). -/

namespace Sys2Proof.Machine

/-- POWER_ON (20 R626, R629). -/
def execPowerOn (straps : Straps) (s : State) : Res := .next (s.powerOn straps)

/-- SUPPLY_FAULT (22 R668). -/
def execSupplyFault (s : State) : Res := .next s.supplyFault

/-- START_STEP_DONE (20 R630). -/
def execStartStepDone (pass : BitVec 3) (s : State) : Res := .next (s.stepDone pass.toNat)

/-- PLL_LOCK (20 R631). -/
def execPllLock (since : BitVec 27) (s : State) : Res := .next (s.pllLock since.toNat)

/-- START_COMPLETE (20 R634). -/
def execStartComplete (s : State) : Res := .next s.startComplete

/-- DEV_RESET (20 R647). -/
def execDevReset (m : Master) (s : State) : Res := .next (s.runCmd cDevReset m.val)

/-- DEV_RESET_START (20 R647). -/
def execDevResetStart (s : State) : Res := .next s.resetStart

/-- WATCHDOG_EXPIRY (20 R628). -/
def execWatchdogExpiry (s : State) : Res := .next s.watchdog

/-- HALT_RESET_TIMEOUT (18 R594). -/
def execHaltResetTimeout (s : State) : Res := .next s.haltReset

/-- PERST_ASSERT (16 R530, 20 R626). -/
def execPerstAssert (s : State) : Res := .next s.perstAssert

/-- PERST_RELEASE (20 R627). -/
def execPerstRelease (s : State) : Res := .next s.perstRelease

/-- CONFIG_READY (16 R529). -/
def execConfigReady (s : State) : Res := .next s.configReady

end Sys2Proof.Machine
end

