-- ==== Sys2Proof/Machine/TriadRows.lean ====
section
/-! DEFINITION. Events and commands of the triad, Touchstone and the margin planner (18). -/

namespace Sys2Proof.Machine

/-- TRIAD_DISAGREEMENT (18 R584): the member, and the cause of 18 R597. -/
def execTriadDisagreement (n : Fin 3) (cause : Fin 3) (s : State) : Res := .next (s.disagreement n.val cause.val)

/-- SELFTEST_SLICE (18 R585, R586): members whose signature differs from the expected value, and a member that the voter forced
and did not name. -/
def execSelftestSlice (bad : BitVec 3) (voterFail : Option (Fin 3)) (s : State) : Res :=
  .next (s.slice bad.toNat (voterFail.map (·.val)))

/-- FENCED_SELFTEST_DONE (18 R588). -/
def execFencedSelftestDone (n : Fin 3) (pass : Bool) (s : State) : Res := .next (s.fencedDone n.val pass)

/-- MEMBER_RETEST (18 R588). -/
def execMemberRetest (n : Fin 3) (s : State) : Res := .next (s.retest n.val)

/-- COPY_DONE (18 R589). -/
def execCopyDone (s : State) : Res := .next s.copyDone

/-- DONOR_FAIL (18 R590). -/
def execDonorFail (s : State) : Res := .next s.donorFail

/-- NON_DONOR_SELFTEST_DONE (18 R590). -/
def execNonDonorSelftestDone (pass : Bool) (s : State) : Res := .next (s.nonDonorDone pass)

/-- TWO_MEMBER_TEST_DONE (18 R592). -/
def execTwoMemberTestDone (pass : BitVec 3) (s : State) : Res := .next (s.twoDone pass.toNat)

/-- CHECKPOINT (18 R593): the member whose signature differs, if one does. -/
def execCheckpoint (bad : Option (Fin 3)) (s : State) : Res := .next (s.checkpoint (bad.map (·.val)))

/-- RESTART_DONE (18 R593). -/
def execRestartDone (s : State) : Res := .next s.restartDone

/-- TOUCHSTONE_REPORT (18 R599): stressed and fresh oscillator counts of each Island. -/
def execTouchstoneReport (counts : List (BitVec 24 × BitVec 24)) (s : State) : Res := .next (s.touchstone counts)

/-- SERVICE_VOLT_STEP of service Island 12 + `i` (18 R605). -/
def execServiceVoltStep (i : Fin 6) (s : State) : Res := .next (s.voltStep (12 + i.val))

/-- HEALTH_REPORT (18 R609). -/
def execHealthReport (m : Master) (s : State) : Res := .next (s.runCmd cHealthReport m.val)

/-- MARGIN_POLICY (18 R610). -/
def execMarginPolicy (m : Master) (s : State) : Res := .next (s.runCmd cMarginPolicy m.val)

end Sys2Proof.Machine
end

