-- ==== Sys2Proof/Machine/Dispatch.lean ====
section
/-! DEFINITION. The dispatch: one arm per command. -/

namespace Sys2Proof.Machine

def exec (i : Instr) (s : State) : Host.Outcome State Fault Refusal :=
  match i with
  | .registerWrite m a d be => Sys2Proof.Machine.execRegisterWrite m a d be s
  | .aliasWrite m a d be => Sys2Proof.Machine.execAliasWrite m a d be s
  | .pairLoRead m r => Sys2Proof.Machine.execPairLoRead m r s
  | .pairLoWrite m a d => Sys2Proof.Machine.execPairLoWrite m a d s
  | .pairHiWrite m a d => Sys2Proof.Machine.execPairHiWrite m a d s
  | .eventClear m a d => Sys2Proof.Machine.execEventClear m a d s
  | .counterWrite m a d => Sys2Proof.Machine.execCounterWrite m a d s
  | .postedWriteDone a => Sys2Proof.Machine.execPostedWriteDone a s
  | .guardFirstWrite m a d => Sys2Proof.Machine.execGuardFirstWrite m a d s
  | .guardSecondWrite m a d => Sys2Proof.Machine.execGuardSecondWrite m a d s
  | .guardTimeout => Sys2Proof.Machine.execGuardTimeout s
  | .lockWrite m a d => Sys2Proof.Machine.execLockWrite m a d s
  | .regctlSnapTake m d => Sys2Proof.Machine.execRegctlSnapTake m d s
  | .mgmtSpiFrame mosi => Sys2Proof.Machine.execMgmtSpiFrame mosi s
  | .spiAccessTimeout mosi => Sys2Proof.Machine.execSpiAccessTimeout mosi s
  | .sqPortWrite m q d => Sys2Proof.Machine.execSqPortWrite m q d s
  | .doorbell m q d => Sys2Proof.Machine.execDoorbell m q d s
  | .rpHeadWrite m q d => Sys2Proof.Machine.execRpHeadWrite m q d s
  | .devInfo m => Sys2Proof.Machine.execDevInfo m s
  | .devReset m => Sys2Proof.Machine.execDevReset m s
  | .devResetStart => Sys2Proof.Machine.execDevResetStart s
  | .snapTake m => Sys2Proof.Machine.execSnapTake m s
  | .ownClaim m => Sys2Proof.Machine.execOwnClaim m s
  | .ownRenew m => Sys2Proof.Machine.execOwnRenew m s
  | .ownRelease m => Sys2Proof.Machine.execOwnRelease m s
  | .ownHandover m => Sys2Proof.Machine.execOwnHandover m s
  | .ownQuery m => Sys2Proof.Machine.execOwnQuery m s
  | .claimWaitTimeout m => Sys2Proof.Machine.execClaimWaitTimeout m s
  | .leaseExpiry => Sys2Proof.Machine.execLeaseExpiry s
  | .ownershipGrant => Sys2Proof.Machine.execOwnershipGrant s
  | .handoverComplete => Sys2Proof.Machine.execHandoverComplete s
  | .forcedTakeover => Sys2Proof.Machine.execForcedTakeover s
  | .command p => Sys2Proof.Machine.execCommand p s
  | .reply p => Sys2Proof.Machine.execReply p s
  | .forwardTimeout => Sys2Proof.Machine.execForwardTimeout s
  | .chConfigure m => Sys2Proof.Machine.execChConfigure m s
  | .chRead m => Sys2Proof.Machine.execChRead m s
  | .clampDetect c ball age => Sys2Proof.Machine.execClampDetect c ball age s
  | .settleEnd c => Sys2Proof.Machine.execSettleEnd c s
  | .excEnable c => Sys2Proof.Machine.execExcEnable c s
  | .excDisable c => Sys2Proof.Machine.execExcDisable c s
  | .excPulseStart c => Sys2Proof.Machine.execExcPulseStart c s
  | .excPulseEnd c mv ua => Sys2Proof.Machine.execExcPulseEnd c mv ua s
  | .excDischargeDone c => Sys2Proof.Machine.execExcDischargeDone c s
  | .channelTimer c => Sys2Proof.Machine.execChannelTimer c s
  | .convRunStart c => Sys2Proof.Machine.execConvRunStart c s
  | .reversedCheck c sense => Sys2Proof.Machine.execReversedCheck c sense s
  | .vwSweepEnd c mv ua => Sys2Proof.Machine.execVwSweepEnd c mv ua s
  | .vwListenStart c => Sys2Proof.Machine.execVwListenStart c s
  | .vwGateEnd c => Sys2Proof.Machine.execVwGateEnd c s
  | .excShortDetect c => Sys2Proof.Machine.execExcShortDetect c s
  | .excShortFoldback c => Sys2Proof.Machine.execExcShortFoldback c s
  | .excOpenDetect c => Sys2Proof.Machine.execExcOpenDetect c s
  | .railDetect c => Sys2Proof.Machine.execRailDetect c s
  | .openTestStep c => Sys2Proof.Machine.execOpenTestStep c s
  | .openTestReturn c bad => Sys2Proof.Machine.execOpenTestReturn c bad s
  | .excGovernor => Sys2Proof.Machine.execExcGovernor s
  | .groupOutput c codes => Sys2Proof.Machine.execGroupOutput c codes s
  | .dividerRestart c => Sys2Proof.Machine.execDividerRestart c s
  | .bgcalUpdate c first rest => Sys2Proof.Machine.execBgcalUpdate c first rest s
  | .bgcalRestart c => Sys2Proof.Machine.execBgcalRestart c s
  | .slowOutput c => Sys2Proof.Machine.execSlowOutput c s
  | .chCalibrate m => Sys2Proof.Machine.execChCalibrate m s
  | .calMeasureDone c ph => Sys2Proof.Machine.execCalMeasureDone c ph s
  | .chCalibrateDone => Sys2Proof.Machine.execChCalibrateDone s
  | .hkSwStart m d => Sys2Proof.Machine.execHkSwStart m d s
  | .hkTimerExpiry => Sys2Proof.Machine.execHkTimerExpiry s
  | .hkTrigger => Sys2Proof.Machine.execHkTrigger s
  | .hkScanStart => Sys2Proof.Machine.execHkScanStart s
  | .hkConversion code => Sys2Proof.Machine.execHkConversion code s
  | .hkScanEnd => Sys2Proof.Machine.execHkScanEnd s
  | .hkSystemConversion code => Sys2Proof.Machine.execHkSystemConversion code s
  | .discEdge c k lead frac => Sys2Proof.Machine.execDiscEdge c k lead frac s
  | .edgeQualify c k => Sys2Proof.Machine.execEdgeQualify c k s
  | .micaMeasureDone c k v => Sys2Proof.Machine.execMicaMeasureDone c k v s
  | .micaRearmDone c k v1 v2 => Sys2Proof.Machine.execMicaRearmDone c k v1 v2 s
  | .micaRefresh c k => Sys2Proof.Machine.execMicaRefresh c k s
  | .hitBuild c => Sys2Proof.Machine.execHitBuild c s
  | .pulseEmit c => Sys2Proof.Machine.execPulseEmit c s
  | .pulseLongTimeout c k => Sys2Proof.Machine.execPulseLongTimeout c k s
  | .freqGateClose c => Sys2Proof.Machine.execFreqGateClose c s
  | .intervalDecide c => Sys2Proof.Machine.execIntervalDecide c s
  | .intervalOverflow c => Sys2Proof.Machine.execIntervalOverflow c s
  | .testPulseLaunch c => Sys2Proof.Machine.execTestPulseLaunch c s
  | .refSelectWrite m d => Sys2Proof.Machine.execRefSelectWrite m d s
  | .trefWindowClose edge => Sys2Proof.Machine.execTrefWindowClose edge s
  | .refBack shift => Sys2Proof.Machine.execRefBack shift s
  | .ppsInEdge => Sys2Proof.Machine.execPpsInEdge s
  | .ppsLost => Sys2Proof.Machine.execPpsLost s
  | .tdcConfigure m => Sys2Proof.Machine.execTdcConfigure m s
  | .tdcCharacterise m => Sys2Proof.Machine.execTdcCharacterise m s
  | .tdcCharacteriseDone => Sys2Proof.Machine.execTdcCharacteriseDone s
  | .freqConfigure m => Sys2Proof.Machine.execFreqConfigure m s
  | .intervalConfigure m => Sys2Proof.Machine.execIntervalConfigure m s
  | .sampleItemClose c => Sys2Proof.Machine.execSampleItemClose c s
  | .straitPush isl => Sys2Proof.Machine.execStraitPush isl s
  | .straitPop x => Sys2Proof.Machine.execStraitPop x s
  | .straitFlush x cause => Sys2Proof.Machine.execStraitFlush x cause s
  | .straitFlushToken x => Sys2Proof.Machine.execStraitFlushToken x s
  | .captureConfigure m => Sys2Proof.Machine.execCaptureConfigure m s
  | .captureArm c => Sys2Proof.Machine.execCaptureArm c s
  | .captureModeOff c => Sys2Proof.Machine.execCaptureModeOff c s
  | .captureFreeze c => Sys2Proof.Machine.execCaptureFreeze c s
  | .readoutDone c => Sys2Proof.Machine.execReadoutDone c s
  | .captureHoldoffEnd c => Sys2Proof.Machine.execCaptureHoldoffEnd c s
  | .spillDrainResume c => Sys2Proof.Machine.execSpillDrainResume c s
  | .spillDrainDone c => Sys2Proof.Machine.execSpillDrainDone c s
  | .spillTruncate c => Sys2Proof.Machine.execSpillTruncate c s
  | .flintLoad m => Sys2Proof.Machine.execFlintLoad m s
  | .flintArm m => Sys2Proof.Machine.execFlintArm m s
  | .flintForce m => Sys2Proof.Machine.execFlintForce m s
  | .flintCtrlArm f => Sys2Proof.Machine.execFlintCtrlArm f s
  | .flintCtrlDisarm f => Sys2Proof.Machine.execFlintCtrlDisarm f s
  | .flintTransition f => Sys2Proof.Machine.execFlintTransition f s
  | .flintTimerZero f k => Sys2Proof.Machine.execFlintTimerZero f k s
  | .flintHoldoffEnd f => Sys2Proof.Machine.execFlintHoldoffEnd f s
  | .flintAutoTrigger f => Sys2Proof.Machine.execFlintAutoTrigger f s
  | .triggerComplete f => Sys2Proof.Machine.execTriggerComplete f s
  | .groupMarkExpiry => Sys2Proof.Machine.execGroupMarkExpiry s
  | .trigInChange k level => Sys2Proof.Machine.execTrigInChange k level s
  | .trigOutPulseEnd k => Sys2Proof.Machine.execTrigOutPulseEnd k s
  | .trigger p => Sys2Proof.Machine.execTrigger p s
  | .rcDeliver cls => Sys2Proof.Machine.execRcDeliver cls s
  | .add e => Sys2Proof.Machine.execAdd e s
  | .sub e => Sys2Proof.Machine.execSub e s
  | .and e => Sys2Proof.Machine.execAnd e s
  | .or e => Sys2Proof.Machine.execOr e s
  | .xor e => Sys2Proof.Machine.execXor e s
  | .sll e => Sys2Proof.Machine.execSll e s
  | .srl e => Sys2Proof.Machine.execSrl e s
  | .sra e => Sys2Proof.Machine.execSra e s
  | .slt e => Sys2Proof.Machine.execSlt e s
  | .sltu e => Sys2Proof.Machine.execSltu e s
  | .min e => Sys2Proof.Machine.execMin e s
  | .max e => Sys2Proof.Machine.execMax e s
  | .minu e => Sys2Proof.Machine.execMinu e s
  | .maxu e => Sys2Proof.Machine.execMaxu e s
  | .adds e => Sys2Proof.Machine.execAdds e s
  | .subs e => Sys2Proof.Machine.execSubs e s
  | .abs e => Sys2Proof.Machine.execAbs e s
  | .clz e => Sys2Proof.Machine.execClz e s
  | .addi e => Sys2Proof.Machine.execAddi e s
  | .andi e => Sys2Proof.Machine.execAndi e s
  | .ori e => Sys2Proof.Machine.execOri e s
  | .xori e => Sys2Proof.Machine.execXori e s
  | .slli e => Sys2Proof.Machine.execSlli e s
  | .srli e => Sys2Proof.Machine.execSrli e s
  | .srai e => Sys2Proof.Machine.execSrai e s
  | .lui e => Sys2Proof.Machine.execLui e s
  | .mul e => Sys2Proof.Machine.execMul e s
  | .mulh e => Sys2Proof.Machine.execMulh e s
  | .mulhu e => Sys2Proof.Machine.execMulhu e s
  | .mac e => Sys2Proof.Machine.execMac e s
  | .div e => Sys2Proof.Machine.execDiv e s
  | .divu e => Sys2Proof.Machine.execDivu e s
  | .rem e => Sys2Proof.Machine.execRem e s
  | .remu e => Sys2Proof.Machine.execRemu e s
  | .cmp e => Sys2Proof.Machine.execCmp e s
  | .cmpi e => Sys2Proof.Machine.execCmpi e s
  | .getsr e => Sys2Proof.Machine.execGetsr e s
  | .setsr e => Sys2Proof.Machine.execSetsr e s
  | .pand e => Sys2Proof.Machine.execPand e s
  | .por e => Sys2Proof.Machine.execPor e s
  | .pxor e => Sys2Proof.Machine.execPxor e s
  | .pandn e => Sys2Proof.Machine.execPandn e s
  | .ldb e => Sys2Proof.Machine.execLdb e s
  | .ldbu e => Sys2Proof.Machine.execLdbu e s
  | .ldh e => Sys2Proof.Machine.execLdh e s
  | .ldhu e => Sys2Proof.Machine.execLdhu e s
  | .ldw e => Sys2Proof.Machine.execLdw e s
  | .stb e => Sys2Proof.Machine.execStb e s
  | .sth e => Sys2Proof.Machine.execSth e s
  | .stw e => Sys2Proof.Machine.execStw e s
  | .ldv e => Sys2Proof.Machine.execLdv e s
  | .stv e => Sys2Proof.Machine.execStv e s
  | .aadd e => Sys2Proof.Machine.execAadd e s
  | .aswp e => Sys2Proof.Machine.execAswp e s
  | .shAccessServed isl b => Sys2Proof.Machine.execShAccessServed isl b s
  | .vadd e => Sys2Proof.Machine.execVadd e s
  | .vsub e => Sys2Proof.Machine.execVsub e s
  | .vadds e => Sys2Proof.Machine.execVadds e s
  | .vsubs e => Sys2Proof.Machine.execVsubs e s
  | .vmul e => Sys2Proof.Machine.execVmul e s
  | .vmulh e => Sys2Proof.Machine.execVmulh e s
  | .vmac e => Sys2Proof.Machine.execVmac e s
  | .vmin e => Sys2Proof.Machine.execVmin e s
  | .vmax e => Sys2Proof.Machine.execVmax e s
  | .vand e => Sys2Proof.Machine.execVand e s
  | .vor e => Sys2Proof.Machine.execVor e s
  | .vxor e => Sys2Proof.Machine.execVxor e s
  | .vsra e => Sys2Proof.Machine.execVsra e s
  | .vsrl e => Sys2Proof.Machine.execVsrl e s
  | .vsll e => Sys2Proof.Machine.execVsll e s
  | .vsel e => Sys2Proof.Machine.execVsel e s
  | .vcmp e => Sys2Proof.Machine.execVcmp e s
  | .vabs e => Sys2Proof.Machine.execVabs e s
  | .vsplat e => Sys2Proof.Machine.execVsplat e s
  | .vins e => Sys2Proof.Machine.execVins e s
  | .vext e => Sys2Proof.Machine.execVext e s
  | .vextu e => Sys2Proof.Machine.execVextu e s
  | .vrsum e => Sys2Proof.Machine.execVrsum e s
  | .vrmax e => Sys2Proof.Machine.execVrmax e s
  | .vrmin e => Sys2Proof.Machine.execVrmin e s
  | .pop e => Sys2Proof.Machine.execPop e s
  | .fwd e => Sys2Proof.Machine.execFwd e s
  | .push e => Sys2Proof.Machine.execPush e s
  | .ctxld e => Sys2Proof.Machine.execCtxld e s
  | .ctxldDone e => Sys2Proof.Machine.execCtxldDone e s
  | .ctxst e => Sys2Proof.Machine.execCtxst e s
  | .evt e => Sys2Proof.Machine.execEvt e s
  | .br e => Sys2Proof.Machine.execBr e s
  | .bp e => Sys2Proof.Machine.execBp e s
  | .jal e => Sys2Proof.Machine.execJal e s
  | .jr e => Sys2Proof.Machine.execJr e s
  | .loop e => Sys2Proof.Machine.execLoop e s
  | .yield e => Sys2Proof.Machine.execYield e s
  | .eop e => Sys2Proof.Machine.execEop e s
  | .illegalInstruction e => Sys2Proof.Machine.execIllegalInstruction e s
  | .itemEntry e => Sys2Proof.Machine.execItemEntry e s
  | .doneItemDiscard e => Sys2Proof.Machine.execDoneItemDiscard e s
  | .kernelLoad m => Sys2Proof.Machine.execKernelLoad m s
  | .kernelLoadDone => Sys2Proof.Machine.execKernelLoadDone s
  | .kernelStart m => Sys2Proof.Machine.execKernelStart m s
  | .kernelStop m => Sys2Proof.Machine.execKernelStop m s
  | .periodBoundaryTick isl => Sys2Proof.Machine.execPeriodBoundaryTick isl s
  | .deadlineTick isl => Sys2Proof.Machine.execDeadlineTick isl s
  | .boundaryMark isl => Sys2Proof.Machine.execBoundaryMark isl s
  | .deadlineMark isl => Sys2Proof.Machine.execDeadlineMark isl s
  | .enginesFinished isl => Sys2Proof.Machine.execEnginesFinished isl s
  | .periodCommit isl => Sys2Proof.Machine.execPeriodCommit isl s
  | .commitDone isl => Sys2Proof.Machine.execCommitDone isl s
  | .periodStart isl => Sys2Proof.Machine.execPeriodStart isl s
  | .ctxWrite m => Sys2Proof.Machine.execCtxWrite m s
  | .ctxRead m => Sys2Proof.Machine.execCtxRead m s
  | .ctxAssign m => Sys2Proof.Machine.execCtxAssign m s
  | .periodConfigure m => Sys2Proof.Machine.execPeriodConfigure m s
  | .periodAnchor isl => Sys2Proof.Machine.execPeriodAnchor isl s
  | .lagoonIngress port => Sys2Proof.Machine.execLagoonIngress port s
  | .portWatermark q => Sys2Proof.Machine.execPortWatermark q s
  | .cutThroughReady q => Sys2Proof.Machine.execCutThroughReady q s
  | .queueFlushWrite m d => Sys2Proof.Machine.execQueueFlushWrite m d s
  | .queueFlushDone q => Sys2Proof.Machine.execQueueFlushDone q s
  | .mergeRead k => Sys2Proof.Machine.execMergeRead k s
  | .mergeInputStall k => Sys2Proof.Machine.execMergeInputStall k s
  | .egressServe up => Sys2Proof.Machine.execEgressServe up s
  | .queueConfigure m => Sys2Proof.Machine.execQueueConfigure m s
  | .queueFlush m => Sys2Proof.Machine.execQueueFlush m s
  | .streamOpen m => Sys2Proof.Machine.execStreamOpen m s
  | .streamClose m => Sys2Proof.Machine.execStreamClose m s
  | .streamCloseDone k => Sys2Proof.Machine.execStreamCloseDone k s
  | .compressBlockClose k => Sys2Proof.Machine.execCompressBlockClose k s
  | .blockVerify k good => Sys2Proof.Machine.execBlockVerify k good s
  | .decompressBlock p => Sys2Proof.Machine.execDecompressBlock p s
  | .dictLoad m => Sys2Proof.Machine.execDictLoad m s
  | .dictLoadDone => Sys2Proof.Machine.execDictLoadDone s
  | .timeBeacon => Sys2Proof.Machine.execTimeBeacon s
  | .secondBoundary => Sys2Proof.Machine.execSecondBoundary s
  | .ts48Wrap => Sys2Proof.Machine.execTs48Wrap s
  | .ppsOutEnd => Sys2Proof.Machine.execPpsOutEnd s
  | .qtzIncWrite m d => Sys2Proof.Machine.execQtzIncWrite m d s
  | .incApply => Sys2Proof.Machine.execIncApply s
  | .qtzStepCommit m d => Sys2Proof.Machine.execQtzStepCommit m d s
  | .changeApply => Sys2Proof.Machine.execChangeApply s
  | .quartzVoteMismatch a b c => Sys2Proof.Machine.execQuartzVoteMismatch a b c s
  | .qtzNowFracRead m => Sys2Proof.Machine.execQtzNowFracRead m s
  | .qtzMsgInfoRead m => Sys2Proof.Machine.execQtzMsgInfoRead m s
  | .probeSend p => Sys2Proof.Machine.execProbeSend p s
  | .probe p => Sys2Proof.Machine.execProbe p s
  | .echo p => Sys2Proof.Machine.execEcho p s
  | .probeTimeout p => Sys2Proof.Machine.execProbeTimeout p s
  | .servoUpdate => Sys2Proof.Machine.execServoUpdate s
  | .followLost => Sys2Proof.Machine.execFollowLost s
  | .todSet m => Sys2Proof.Machine.execTodSet m s
  | .todStep m => Sys2Proof.Machine.execTodStep m s
  | .todSetIncrement m => Sys2Proof.Machine.execTodSetIncrement m s
  | .ptmDialogStart => Sys2Proof.Machine.execPtmDialogStart s
  | .ptmTrigger m d => Sys2Proof.Machine.execPtmTrigger m d s
  | .ptmResponse mt pd ago => Sys2Proof.Machine.execPtmResponse mt pd ago s
  | .ptmTimeout => Sys2Proof.Machine.execPtmTimeout s
  | .laneLock l gearbox => Sys2Proof.Machine.execLaneLock l gearbox s
  | .laneLockLost l => Sys2Proof.Machine.execLaneLockLost l s
  | .laneMeritUpdate l merit => Sys2Proof.Machine.execLaneMeritUpdate l merit s
  | .laneIdleEnter l => Sys2Proof.Machine.execLaneIdleEnter l s
  | .laneIdleExit l => Sys2Proof.Machine.execLaneIdleExit l s
  | .laneEnableWrite m a d => Sys2Proof.Machine.execLaneEnableWrite m a d s
  | .laneShutdownDone l => Sys2Proof.Machine.execLaneShutdownDone l s
  | .ack p blk => Sys2Proof.Machine.execAck p blk s
  | .nak p blk => Sys2Proof.Machine.execNak p blk s
  | .credit p blk => Sys2Proof.Machine.execCredit p blk s
  | .train l blk => Sys2Proof.Machine.execTrain l blk s
  | .badControlBlock p blk => Sys2Proof.Machine.execBadControlBlock p blk s
  | .frame p bytes ago => Sys2Proof.Machine.execFrame p bytes ago s
  | .ackTimer p => Sys2Proof.Machine.execAckTimer p s
  | .nakTimer p => Sys2Proof.Machine.execNakTimer p s
  | .retryTimeout p => Sys2Proof.Machine.execRetryTimeout p s
  | .creditRepeat p => Sys2Proof.Machine.execCreditRepeat p s
  | .regAccess p => Sys2Proof.Machine.execRegAccess p s
  | .regResult p => Sys2Proof.Machine.execRegResult p s
  | .hello p => Sys2Proof.Machine.execHello p s
  | .enum p => Sys2Proof.Machine.execEnum p s
  | .claim p => Sys2Proof.Machine.execClaim p s
  | .report p => Sys2Proof.Machine.execReport p s
  | .assign p => Sys2Proof.Machine.execAssign p s
  | .sbStart p => Sys2Proof.Machine.execSbStart p s
  | .sb p => Sys2Proof.Machine.execSb p s
  | .enumReportTimeout => Sys2Proof.Machine.execEnumReportTimeout s
  | .enumEnd => Sys2Proof.Machine.execEnumEnd s
  | .timeMsg p => Sys2Proof.Machine.execTimeMsg p s
  | .tmsgSend m p d => Sys2Proof.Machine.execTmsgSend m p d s
  | .tmsgRxRead m p => Sys2Proof.Machine.execTmsgRxRead m p s
  | .raccGo m d => Sys2Proof.Machine.execRaccGo m d s
  | .rootLost p => Sys2Proof.Machine.execRootLost p s
  | .rooted p => Sys2Proof.Machine.execRooted p s
  | .announce p => Sys2Proof.Machine.execAnnounce p s
  | .stream p => Sys2Proof.Machine.execStream p s
  | .portTrained p => Sys2Proof.Machine.execPortTrained p s
  | .portDownTimeout p => Sys2Proof.Machine.execPortDownTimeout p s
  | .failover => Sys2Proof.Machine.execFailover s
  | .linkTrain m => Sys2Proof.Machine.execLinkTrain m s
  | .linkTrainDone => Sys2Proof.Machine.execLinkTrainDone s
  | .linkEnumerate m => Sys2Proof.Machine.execLinkEnumerate m s
  | .linkStatus m => Sys2Proof.Machine.execLinkStatus m s
  | .bulkWrite p => Sys2Proof.Machine.execBulkWrite p s
  | .bulkDone p => Sys2Proof.Machine.execBulkDone p s
  | .dmaGo m d => Sys2Proof.Machine.execDmaGo m d s
  | .dmaTimeout => Sys2Proof.Machine.execDmaTimeout s
  | .powerOn straps => Sys2Proof.Machine.execPowerOn straps s
  | .supplyFault => Sys2Proof.Machine.execSupplyFault s
  | .perstAssert => Sys2Proof.Machine.execPerstAssert s
  | .hotReset => Sys2Proof.Machine.execHotReset s
  | .flr pf => Sys2Proof.Machine.execFlr pf s
  | .configReady => Sys2Proof.Machine.execConfigReady s
  | .rprEnable pf d => Sys2Proof.Machine.execRprEnable pf d s
  | .bar2Write pf off bytes => Sys2Proof.Machine.execBar2Write pf off bytes s
  | .bar2Read pf off len => Sys2Proof.Machine.execBar2Read pf off len s
  | .ringEnable m ring d => Sys2Proof.Machine.execRingEnable m ring d s
  | .descriptorReadDone ring bytes => Sys2Proof.Machine.execDescriptorReadDone ring bytes s
  | .ringPoll ring => Sys2Proof.Machine.execRingPoll ring s
  | .ringError ring => Sys2Proof.Machine.execRingError ring s
  | .bufferClose ring => Sys2Proof.Machine.execBufferClose ring s
  | .msixModeration k => Sys2Proof.Machine.execMsixModeration k s
  | .pcieLinkChange up speed width => Sys2Proof.Machine.execPcieLinkChange up speed width s
  | .scrubLine a region unit line errs => Sys2Proof.Machine.execScrubLine a region unit line errs s
  | .scrubUrgent a => Sys2Proof.Machine.execScrubUrgent a s
  | .marchTestLine a region unit line errs fail vmin => Sys2Proof.Machine.execMarchTestLine a region unit line errs fail vmin s
  | .bankRetentionEntered n => Sys2Proof.Machine.execBankRetentionEntered n s
  | .bankWakeDone n => Sys2Proof.Machine.execBankWakeDone n s
  | .bankClearDone n => Sys2Proof.Machine.execBankClearDone n s
  | .bankShutdownDone n => Sys2Proof.Machine.execBankShutdownDone n s
  | .bankOwnerHandover => Sys2Proof.Machine.execBankOwnerHandover s
  | .memAssign m => Sys2Proof.Machine.execMemAssign m s
  | .memRetain m => Sys2Proof.Machine.execMemRetain m s
  | .memTest m => Sys2Proof.Machine.execMemTest m s
  | .memTestPassDone => Sys2Proof.Machine.execMemTestPassDone s
  | .triadDisagreement n cause => Sys2Proof.Machine.execTriadDisagreement n cause s
  | .selftestSlice bad voterFail => Sys2Proof.Machine.execSelftestSlice bad voterFail s
  | .fencedSelftestDone n pass => Sys2Proof.Machine.execFencedSelftestDone n pass s
  | .memberRetest n => Sys2Proof.Machine.execMemberRetest n s
  | .copyDone => Sys2Proof.Machine.execCopyDone s
  | .donorFail => Sys2Proof.Machine.execDonorFail s
  | .twoMemberTestDone pass => Sys2Proof.Machine.execTwoMemberTestDone pass s
  | .checkpoint bad => Sys2Proof.Machine.execCheckpoint bad s
  | .restartDone => Sys2Proof.Machine.execRestartDone s
  | .haltResetTimeout => Sys2Proof.Machine.execHaltResetTimeout s
  | .alarmAck m d => Sys2Proof.Machine.execAlarmAck m d s
  | .touchstoneReport counts => Sys2Proof.Machine.execTouchstoneReport counts s
  | .serviceVoltStep isl => Sys2Proof.Machine.execServiceVoltStep isl s
  | .healthReport m => Sys2Proof.Machine.execHealthReport m s
  | .marginPolicy m => Sys2Proof.Machine.execMarginPolicy m s
  | .emEnable n => Sys2Proof.Machine.execEmEnable n s
  | .emDisable n => Sys2Proof.Machine.execEmDisable n s
  | .emTestDone n short => Sys2Proof.Machine.execEmTestDone n short s
  | .emRampdownDone n => Sys2Proof.Machine.execEmRampdownDone n s
  | .emShortRun n short => Sys2Proof.Machine.execEmShortRun n short s
  | .emPulse n => Sys2Proof.Machine.execEmPulse n s
  | .spreadBoundary n => Sys2Proof.Machine.execSpreadBoundary n s
  | .emGovernor meas => Sys2Proof.Machine.execEmGovernor meas s
  | .emitConfigure m => Sys2Proof.Machine.execEmitConfigure m s
  | .watchdogExpiry => Sys2Proof.Machine.execWatchdogExpiry s
  | .startStepDone pass => Sys2Proof.Machine.execStartStepDone pass s
  | .pllLock since => Sys2Proof.Machine.execPllLock since s
  | .devBootGo m d => Sys2Proof.Machine.execDevBootGo m d s
  | .startComplete => Sys2Proof.Machine.execStartComplete s
  | .fwUpdate m => Sys2Proof.Machine.execFwUpdate m s
  | .fwUpdateDone good => Sys2Proof.Machine.execFwUpdateDone good s
  | .attest m => Sys2Proof.Machine.execAttest m s
  | .attestDone => Sys2Proof.Machine.execAttestDone s
  | .keyRevoke m => Sys2Proof.Machine.execKeyRevoke m s
  | .secProgSlot m d => Sys2Proof.Machine.execSecProgSlot m d s
  | .lifecycleAdvance m d => Sys2Proof.Machine.execLifecycleAdvance m d s
  | .fuseBurnDone => Sys2Proof.Machine.execFuseBurnDone s
  | .perfSelWrite m k d => Sys2Proof.Machine.execPerfSelWrite m k d s
  | .bwWindowEnd => Sys2Proof.Machine.execBwWindowEnd s
  | .dumpPeriodic g => Sys2Proof.Machine.execDumpPeriodic g s
  | .snapInEdge => Sys2Proof.Machine.execSnapInEdge s
  | .slateLatch => Sys2Proof.Machine.execSlateLatch s
  | .clampEnd c ball => Sys2Proof.Machine.execClampEnd c ball s
  | .railAbsent c => Sys2Proof.Machine.execRailAbsent c s
  | .emSinkOutOfCompliance n => Sys2Proof.Machine.execEmSinkOutOfCompliance n s
  | .unknownOpcode m => Sys2Proof.Machine.execUnknownOpcode m s
  | .perstRelease => Sys2Proof.Machine.execPerstRelease s
  | .configWrite pf off d => Sys2Proof.Machine.execConfigWrite pf off d s
  | .msixTableWrite pf k w d => Sys2Proof.Machine.execMsixTableWrite pf k w d s
  | .nonDonorSelftestDone pass => Sys2Proof.Machine.execNonDonorSelftestDone pass s
  | .laneAdaptDone l eq => Sys2Proof.Machine.execLaneAdaptDone l eq s

end Sys2Proof.Machine
end

