-- ==== Sys2Proof/Machine/Time.lean ====
section
/-! DEFINITION. One tick of the device (14 R452): what the block does when no command waits. -/

namespace Sys2Proof.Machine

/-- A time after one increment: {ns, fraction} + INC, with the carry into seconds (14 R452). -/
def QTime.advance (t : QTime) (inc : BitVec 36) : QTime :=
  let v := t.ns.toNat * 2 ^ 32 + t.frac.toNat + inc.toNat
  if 1000000000 ≤ v / 2 ^ 32 then
    ⟨t.sec + 1, BitVec.ofNat 30 (v / 2 ^ 32 - 1000000000), BitVec.ofNat 32 v⟩
  else ⟨t.sec, BitVec.ofNat 30 (v / 2 ^ 32), BitVec.ofNat 32 v⟩

def QCopyS.advance (c : QCopyS) (inc : BitVec 36) : QCopyS := { c with t := c.t.advance inc }

/-- A committed INC enters the copies with the increment of its apply tick (14 R456). -/
def Quartz.applyInc (q : Quartz) : Quartz :=
  match q.incPend with
  | some p =>
    if p.old = none ∧ p.tick ≤ q.now + 1 then
      { q.endScale with
        a := { q.a with inc := p.inc }, b := { q.b with inc := p.inc }, c := { q.c with inc := p.inc }
        lastInc := p.inc, incPend := some { p with old := some q.inc } }
    else q
  | none => q

/-- The tick count and the three copies advance by one increment of INC `i`. -/
def Quartz.add (q : Quartz) (i : BitVec 36) : Quartz :=
  { q with now := q.now + 1, a := q.a.advance i, b := q.b.advance i, c := q.c.advance i }

def Quartz.advance (q : Quartz) : Quartz := q.applyInc.add q.applyInc.inc

/-- The increment from `t0` to `t1` carried into seconds (14 R453). -/
def secCarry (t0 t1 : QTime) : Bool := t1.sec != t0.sec

/-- The increment from `t0` to `t1` carried TS48 [47:16] to 0 (11 R377). -/
def tsWrap (t0 t1 : QTime) : Bool := decide (t1.ts.toNat / 2 ^ 16 < t0.ts.toNat / 2 ^ 16)

/-- Second boundaries and wraps fall due, with the time that their EPOCH gives. -/
def Quartz.noteCarry (q : Quartz) (sec wrap : Bool) : Quartz :=
  if sec || wrap then
    { q with secDue := q.secDue || sec, wrapDue := q.wrapDue || wrap, reasons := b2n sec + 2 * b2n wrap,
             reasonTime := q.time }
  else q

/-- A beacon falls due every 64 ticks (01 R20). -/
def Quartz.noteBeacon (q : Quartz) : Quartz :=
  if q.now % 64 = q.pll % 64 then { q with beaconDue := some q.time } else q

/-- One tick (14 R452, R453, 11 R377, 01 R20). -/
def Quartz.tick (q : Quartz) : Quartz :=
  (q.advance.noteCarry (secCarry q.time q.advance.time) (tsWrap q.time q.advance.time)).noteBeacon

/-- What the block does on an empty queue: one tick passes, and with it the cycle of every register (log entry 7). -/
def idle (s : State) : State := { s with qtz := s.qtz.tick, cyc := [] }

end Sys2Proof.Machine
end

