-- ==== Sys2Proof/Safety.lean ====
section
/-! DEFINITION. What a safe run is, and the words that statements about the machine use: a command that completes, what a
command leaves alone, an engine instruction in issue and its result, a command of the opcode index in turn and its reply. -/

namespace Sys2Proof

open Machine

/-- The outcome goes on. -/
def goesOn (o : Host.Outcome State Fault Refusal) : Bool :=
  match o with
  | .next _ => true
  | _ => false

/-- `k` steps from `s` all go on. -/
def safeFor : Nat → State → Bool
  | 0, _ => true
  | k + 1, s =>
    match step s with
    | .next t => safeFor k t
    | _ => false

/-- The command answers a next state, of which `P` holds. -/
def Completes (c : Instr) (s : State) (P : State → Prop) : Prop := ∃ t, exec c s = .next t ∧ P t

/-! ## Reduction engines (09) -/

/-- Engine `e` has the instruction `op`, spelled by the word `w`, in issue: it executes in a running period, the word is
readable, and the interlock lets it go (09 R306, R319 to R321). -/
def Issues (s : State) (e : Nat) (op : EOp) (w : Word) : Prop :=
  s.engFetch e = some w ∧ s.imemBad e = none ∧ engDecode w = some op ∧
    (s.engine e).ready op w (s.engCyc (e / 16)) = true

/-- Nothing but the state of engine `e` differs. -/
def OnlyEngine (s t : State) (e : Nat) : Prop := t = { s with eng := t.eng } ∧ ∀ k, k ≠ e → t.engine k = s.engine k

/-- The registers of engine `e` with the PC past the instruction in issue (09 R314). -/
def pastIssue (s : State) (e : Nat) : EngRegs := (s.engine e).r.jump (((s.engine e).r.pc + 1) % 4096)

/-- The instruction completes: engine `e` holds the registers `r`, its issue state moves on by the table of 09 R321, and
nothing else of the machine changes. -/
def EngineResult (c : Instr) (s : State) (e : Nat) (op : EOp) (w : Word) (r : EngRegs) : Prop :=
  Completes c s (fun t => OnlyEngine s t e ∧
    t.engine e = { (s.engine e).issue op w (s.engCyc (e / 16)) with r := r })

/-- An instruction with the scalar result `v` in rd; `b` are the STICKY bits that it sets. A write of s0 is discarded. -/
def ScalarResult (c : Instr) (s : State) (e : Nat) (op : EOp) (w : Word) (v : Word) (b : Nat) : Prop :=
  EngineResult c s e op w (((pastIssue s e).setS (wRd w) v).stick b)

/-- An instruction with the predicate result `v` in register `p`. -/
def PredResult (c : Instr) (s : State) (e : Nat) (op : EOp) (w : Word) (p : Nat) (v : Byte) : Prop :=
  EngineResult c s e op w ((pastIssue s e).setP p v)

/-- Scalar, vector and predicate registers of engine `e`. -/
def sOf (s : State) (e r : Nat) : Word := (s.engine e).r.sreg r
def vOf (s : State) (e r : Nat) : Vec := (s.engine e).r.vreg r
def pOf (s : State) (e r : Nat) : Byte := (s.engine e).r.preg r

/-- Signed saturation to `n` bits. -/
def clamp (n : Nat) (v : Int) : Int := max (-(2 ^ (n - 1))) (min (2 ^ (n - 1) - 1) v)

/-- The value lies outside the signed numbers of `n` bits. -/
def clamped (n : Nat) (v : Int) : Bool := v != clamp n v

/-! ### Words by the formats of 09 R319 -/

/-- Format R (09 R319): major, rd, ra, rb, fn. -/
def wordR (m rd ra rb fn : Nat) : Word := BitVec.ofNat 32 (m * 2 ^ 26 + rd * 2 ^ 21 + ra * 2 ^ 16 + rb * 2 ^ 11 + fn)
/-- Format I: major, rd, ra, imm. -/
def wordI (m rd ra imm : Nat) : Word := BitVec.ofNat 32 (m * 2 ^ 26 + rd * 2 ^ 21 + ra * 2 ^ 16 + imm)
/-- Format M: major, rd, ra, sp, off. -/
def wordM (m rd ra sp off : Nat) : Word := wordI m rd ra (sp * 2 ^ 13 + off)
/-- Format V: vd, va, vb, w, m, p, amt or cond, fn. -/
def wordV (vd va vb w m p amt fn : Nat) : Word :=
  BitVec.ofNat 32 (0x20 * 2 ^ 26 + vd * 2 ^ 23 + va * 2 ^ 20 + vb * 2 ^ 17 + w * 2 ^ 16 + m * 2 ^ 15 + p * 2 ^ 13 + amt * 2 ^ 8 + fn)
/-- Format VS: vd, rs, lane, w, fn. -/
def wordVs (vd rs lane w fn : Nat) : Word :=
  BitVec.ofNat 32 (0x21 * 2 ^ 26 + vd * 2 ^ 23 + rs * 2 ^ 18 + lane * 2 ^ 15 + w * 2 ^ 14 + fn)
/-- Format P: pd, pa, pb, fn. -/
def wordP (pd pa pb fn : Nat) : Word := BitVec.ofNat 32 (4 * 2 ^ 26 + pd * 2 ^ 24 + pa * 2 ^ 22 + pb * 2 ^ 20 + fn)
/-- Format B: major, a field of the width and place given, and a displacement. -/
def wordB (m lo f disp : Nat) : Word := BitVec.ofNat 32 (m * 2 ^ 26 + f * 2 ^ lo + disp)

/-- The words of a table with the operations of `l` at successive codes from `k` on. -/
def Spells (l : List EOp) (k : Nat) (w : Nat → Word) : Prop := ∀ n op, l[n]? = some op → engDecode (w (k + n)) = some op

/-! ## Frames -/

/-- The parts of the state. -/
inductive Part where
  | qtz | regs | bus | own | cmd | ch | gov | calJobs | charJobs | hk | ref | fl | isl | eng | ctx | lag | comp | link | host | mem | triad | emit | sec | perf | seqs | out | freeCtr
  deriving DecidableEq, Repr

/-- A part of the state is the same in both. -/
def Part.Same (p : Part) (s t : State) : Prop :=
  match p with
  | .qtz => t.qtz = s.qtz
  | .regs => t.regs = s.regs ∧ t.cyc = s.cyc
  | .bus => t.bus = s.bus
  | .own => t.own = s.own
  | .cmd => t.cmd = s.cmd
  | .ch => t.ch = s.ch
  | .gov => t.gov = s.gov
  | .calJobs => t.calJobs = s.calJobs
  | .charJobs => t.charJobs = s.charJobs
  | .hk => t.hk = s.hk
  | .ref => t.ref = s.ref
  | .fl => t.fl = s.fl
  | .isl => t.isl = s.isl
  | .eng => t.eng = s.eng
  | .ctx => t.ctx = s.ctx
  | .lag => t.lag = s.lag
  | .comp => t.comp = s.comp
  | .link => t.link = s.link
  | .host => t.host = s.host
  | .mem => t.mem = s.mem
  | .triad => t.triad = s.triad
  | .emit => t.emit = s.emit
  | .sec => t.sec = s.sec
  | .perf => t.perf = s.perf
  | .seqs => t.seqs = s.seqs
  | .out => t.out = s.out
  | .freeCtr => t.freeCtr = s.freeCtr

/-- Nothing changes but the parts listed. -/
def Only (l : List Part) (s t : State) : Prop := t.pending = s.pending ∧ ∀ p, p ∉ l → p.Same s t

/-- The cell of an event counter or of its group (21 R662): these count what happens anywhere in the part. -/
def perfCell (a : Nat) : Prop := 0x70000 ≤ a ∧ a < 0x80000

/-- No register changes but those listed and the event counters. -/
def RegsOnly (l : List Nat) (s t : State) : Prop := ∀ a, a ∉ l → ¬perfCell a → t.rget a = s.rget a

/-- The registers of the access log (02 R74). -/
def logRegs : List Nat := [Reg.REGCTL_LOG_CNT, Reg.REGCTL_EVT] ++ (List.range 64).map (fun k => Reg.REGCTL_LOG 0 + 4 * k)

/-- A CNT register counts one (02 R72). -/
def Counts (s t : State) (a : Nat) : Prop := t.rget a = cntAddW (s.rget a) 1

/-- Bit `i` of the event register at `a` is set (02 R62). -/
def EventSet (t : State) (a i : Nat) : Prop := bit (t.rget a) i = true

/-- A record for which `P` holds is on its way from Quartz or Flint: on the link of Island 0 (12 R392). -/
def OnIsland0 (t : State) (P : Rec → Prop) : Prop := ∃ x ∈ (t.island 0).evq, ∃ r ∈ x.recs, P r

/-- A record for which `P` holds has arrived at Lagoon ingress port `p` (12 R392). -/
def AtPort (t : State) (p : Nat) (P : Rec → Prop) : Prop := ∃ a ∈ mget [] t.lag.ports p, P a.r

/-! ## What every step keeps -/

/-- The lifecycle that the fuses hold is a legal one, and the state in effect is at most that (20 R641). -/
def FusesOk (s : State) : Prop := s.sec.fuses.lifecycle ≤ 3 ∧ s.sec.fuses.state ≤ s.sec.fuses.lifecycle

/-- No fuse has gone back (20 R640, R641, R648). -/
def FusesOnward (s t : State) : Prop :=
  s.sec.fuses.lifecycle ≤ t.sec.fuses.lifecycle ∧ s.sec.fuses.svnFloor ≤ t.sec.fuses.svnFloor ∧
    t.sec.fuses.serial = s.sec.fuses.serial ∧ t.sec.fuses.root = s.sec.fuses.root ∧ t.sec.fuses.seed = s.sec.fuses.seed ∧
    ∀ k, k < 4 → (s.sec.fuses.programmed.getLsbD k = true → t.sec.fuses.programmed.getLsbD k = true) ∧
      (s.sec.fuses.revoked.getLsbD k = true → t.sec.fuses.revoked.getLsbD k = true)

/-- Every addressed memory, and the register cells, are in canonical form. -/
def Machine.State.memoryOk (s : State) : Prop :=
  mwf regDefault s.regs ∧ Memory.wf s.cmd.sram ∧ Memory.wf s.cmd.rp ∧ Memory.wf s.sec.bootWin ∧ mwf (fun _ => erased) s.sec.flash ∧
    (∀ i, Memory.wf (s.island i).shmem) ∧ (∀ e, Memory.wf (s.engine e).dmem) ∧ ∀ n, Memory.wf (s.member n).mem

/-! ## Commands of the opcode index (03) -/

/-- The entry and the ticket of master `m`'s next command. -/
def entryOf (s : State) (m : Nat) : Entry := s.headEntry m
def ticketOf (s : State) (m : Nat) : Ticket := s.ticket m (s.headEntry m)

/-- It is master `m`'s turn, and its next command has the opcode, names this device and is admitted by steps 1, 3, 4, 5 of 03 R90
and by the lifecycle, and its self-check does not fail in SIMPLEX (03 R117): for a command that observers may not submit, `m` owns the device and the token is the current one. -/
def Admitted (s : State) (m op : Nat) : Prop :=
  s.hasTurn m op = true ∧ (entryOf s m).target = 0 ∧ s.lifecycle ≠ 3 ∧ s.checkFails = false ∧
    (observerOps.contains op = false → s.ownerToken m (entryOf s m).token = true)

/-- The state in which the command's own checks begin: the command has left its queue, and the owner's lease has restarted
(03 R83, R99). -/
def taken (s : State) (m : Nat) : State :=
  let u := s.takeCmd m
  (if u.ownerToken m (entryOf s m).token then u.renewLease else u).selfChecked

/-- The command answers at once with the status and result given, after the effect `P`. -/
def AnswersNow (c : Instr) (s : State) (m st : Nat) (P : State → List Byte → Prop) : Prop :=
  Completes c s (fun t => ∃ u res, t = (u.reply (ticketOf s m) st res).keepTurn (ticketOf s m) ∧ P u res)

/-- The command answers OK with the next beacon, after the effect `P` (03 R113). -/
def AnswersAtBeacon (c : Instr) (s : State) (m : Nat) (P : State → List Byte → Prop) : Prop :=
  Completes c s (fun t => ∃ u res, t = (u.replyEffect (ticketOf s m) stOK res).keepTurn (ticketOf s m) ∧ P u res)

/-- The command answers OK with the tick `ts` of its effect `P` (03 R113). -/
def AnswersAt (c : Instr) (s : State) (m : Nat) (P : State → List Byte → TS48 → Prop) : Prop :=
  Completes c s (fun t => ∃ u res ts, t = (u.replyAt (ticketOf s m) stOK res ts).keepTurn (ticketOf s m) ∧ P u res ts)

end Sys2Proof
end

