-- ==== Sys2Proof/Certificates/Slice0/Obligations.lean ====
section
/-! DEFINITION. The statements about the model. -/

open Sys2Proof Sys2Proof.Machine

/-! ## The queue -/

/-- A step takes the command at the front of the queue and is its meaning on the state with the queue's rest. -/
def Obligations.StepRunsFrontCommand : Prop :=
  ∀ (c : Instr) (rest : List Instr) (s : State), step { s with pending := c :: rest } = exec c { s with pending := rest }

/-! ## Reduction engines (09) -/

/-- 09 R322: the integer instructions in format R, each with its result in rd and the STICKY bits that it sets. -/
def ClaimEngineIntegerRegister : Prop :=
  ∀ (e : Fin 192) (s : State) (w : Word),
    let a := sOf s e.val (wRa w)
    let b := sOf s e.val (wRb w)
    ∀ r ∈ ([
      (.add e, .add, a + b, 0),
      (.sub e, .sub, a - b, 0),
      (.and e, .and, a &&& b, 0),
      (.or e, .or, a ||| b, 0),
      (.xor e, .xor, a ^^^ b, 0),
      (.sll e, .sll, a <<< (b.toNat % 32), 0),
      (.srl e, .srl, a >>> (b.toNat % 32), 0),
      (.sra e, .sra, BitVec.ofInt 32 (a.toInt / 2 ^ (b.toNat % 32)), 0),
      (.slt e, .slt, if a.toInt < b.toInt then 1 else 0, 0),
      (.sltu e, .sltu, if a.toNat < b.toNat then 1 else 0, 0),
      (.min e, .min, BitVec.ofInt 32 (min a.toInt b.toInt), 0),
      (.max e, .max, BitVec.ofInt 32 (max a.toInt b.toInt), 0),
      (.minu e, .minu, BitVec.ofNat 32 (min a.toNat b.toNat), 0),
      (.maxu e, .maxu, BitVec.ofNat 32 (max a.toNat b.toNat), 0),
      (.adds e, .adds, BitVec.ofInt 32 (clamp 32 (a.toInt + b.toInt)), if clamped 32 (a.toInt + b.toInt) then 1 else 0),
      (.subs e, .subs, BitVec.ofInt 32 (clamp 32 (a.toInt - b.toInt)), if clamped 32 (a.toInt - b.toInt) then 1 else 0),
      (.abs e, .abs, BitVec.ofInt 32 (clamp 32 a.toInt.natAbs), if clamped 32 a.toInt.natAbs then 1 else 0),
      (.clz e, .clz, BitVec.ofNat 32 ((List.range 32).takeWhile (fun i => !a.getMsbD i)).length, 0)
      ] : List (Instr × EOp × Word × Nat)),
    Issues s e.val r.2.1 w → ScalarResult r.1 s e.val r.2.1 w r.2.2.1 r.2.2.2

/-- 09 R322: the integer instructions in format I. -/
def ClaimEngineIntegerImmediate : Prop :=
  ∀ (e : Fin 192) (s : State) (w : Word),
    let a := sOf s e.val (wRa w)
    let imm := wImm w
    let n := w.toNat % 32
    ∀ r ∈ ([
      (.addi e, .addi, a + BitVec.ofInt 32 (if imm < 2 ^ 15 then imm else imm - 2 ^ 16 : Int)),
      (.andi e, .andi, BitVec.ofNat 32 (a.toNat &&& imm)),
      (.ori e, .ori, BitVec.ofNat 32 (a.toNat ||| imm)),
      (.xori e, .xori, BitVec.ofNat 32 (a.toNat ^^^ imm)),
      (.slli e, .slli, BitVec.ofNat 32 (a.toNat * 2 ^ n)),
      (.srli e, .srli, BitVec.ofNat 32 (a.toNat / 2 ^ n)),
      (.srai e, .srai, BitVec.ofInt 32 (a.toInt / 2 ^ n)),
      (.lui e, .lui, BitVec.ofNat 32 (imm * 2 ^ 16))
      ] : List (Instr × EOp × Word)),
    Issues s e.val r.2.1 w → ScalarResult r.1 s e.val r.2.1 w r.2.2 0

/-- 09 R323: multiply and divide; STICKY bit 1 is div0. A divide rounds toward zero. -/
def ClaimEngineMultiplyDivide : Prop :=
  ∀ (e : Fin 192) (s : State) (w : Word),
    let a := sOf s e.val (wRa w)
    let b := sOf s e.val (wRb w)
    let d := sOf s e.val (wRd w)
    let z : Nat := if b = 0 then 2 else 0
    ∀ r ∈ ([
      (.mul e, .mul, BitVec.ofNat 32 (a.toNat * b.toNat), 0),
      (.mulh e, .mulh, BitVec.ofInt 32 (a.toInt * b.toInt / 2 ^ 32), 0),
      (.mulhu e, .mulhu, BitVec.ofNat 32 (a.toNat * b.toNat / 2 ^ 32), 0),
      (.mac e, .mac, d + BitVec.ofNat 32 (a.toNat * b.toNat), 0),
      (.div e, .div, if b = 0 then 0xFFFFFFFF else BitVec.ofInt 32 (a.toInt.tdiv b.toInt), z),
      (.divu e, .divu, if b = 0 then 0xFFFFFFFF else BitVec.ofNat 32 (a.toNat / b.toNat), z),
      (.rem e, .rem, if b = 0 then a else BitVec.ofInt 32 (a.toInt.tmod b.toInt), z),
      (.remu e, .remu, if b = 0 then a else BitVec.ofNat 32 (a.toNat % b.toNat), z)
      ] : List (Instr × EOp × Word × Nat)),
    Issues s e.val r.2.1 w → ScalarResult r.1 s e.val r.2.1 w r.2.2.1 r.2.2.2

/-- 09 R319, R322, R323: the words of the integer, multiply and divide instructions, with every register and immediate. -/
def ClaimEngineIntegerWords : Prop :=
  ∀ rd ra rb imm amt : Nat, rd < 32 → ra < 32 → rb < 32 → imm < 2 ^ 16 → amt < 32 →
    Spells [.add, .sub, .and, .or, .xor, .sll, .srl, .sra, .slt, .sltu, .min, .max, .minu, .maxu, .adds, .subs] 0
      (fun fn => wordR 0x00 rd ra rb fn) ∧
    Spells [.abs, .clz] 0x10 (fun fn => wordR 0x00 rd ra 0 fn) ∧
    Spells [.addi, .andi, .ori, .xori] 0x08 (fun m => wordI m rd ra imm) ∧
    Spells [.slli, .srli, .srai] 0 (fun sel => wordI 0x0C rd ra (sel * 2 ^ 5 + amt)) ∧
    engDecode (wordI 0x0D rd 0 imm) = some .lui ∧ (ra ≠ 0 → engDecode (wordI 0x0D rd ra imm) = none) ∧
    Spells [.mul, .mulh, .mulhu, .mac, .div, .divu, .rem, .remu] 0 (fun fn => wordR 0x01 rd ra rb fn)

/-- The statements above on one subject, together. -/
def Obligations.EngineInteger : Prop :=
  ClaimEngineIntegerWords ∧ ClaimEngineIntegerRegister ∧ ClaimEngineIntegerImmediate ∧ ClaimEngineMultiplyDivide

/-- The condition codes of 09 R324. -/
def condition (c : Nat) (a b : Word) : Prop :=
  match c with
  | 0 => a = b
  | 1 => a ≠ b
  | 2 => a.toInt < b.toInt
  | 3 => b.toInt ≤ a.toInt
  | 4 => a.toNat < b.toNat
  | 5 => b.toNat ≤ a.toNat
  | 6 => True
  | _ => False

/-- 09 R324: a scalar compare writes all eight bits of its predicate with its result. -/
def ClaimEngineCompare : Prop :=
  ∀ (e : Fin 192) (s : State) (w : Word),
    let a := sOf s e.val (wRa w)
    let imm : Word := BitVec.ofInt 32 (if wImm w < 2 ^ 15 then wImm w else wImm w - 2 ^ 16 : Int)
    (Issues s e.val .cmp w → ∃ v : Byte,
      PredResult (.cmp e) s e.val .cmp w (fld w 21 2) v ∧
        (condition (fld w 0 3) a (sOf s e.val (wRb w)) → v = 0xFF) ∧ (¬condition (fld w 0 3) a (sOf s e.val (wRb w)) → v = 0)) ∧
    (Issues s e.val .cmpi w → ∃ v : Byte,
      PredResult (.cmpi e) s e.val .cmpi w (fld w 21 2) v ∧
        (condition (fld w 23 3) a imm → v = 0xFF) ∧ (¬condition (fld w 23 3) a imm → v = 0))

/-- 09 R324, R316, R317: predicate logic; GETSR reads the special registers; SETSR clears the STICKY bits written as 1. -/
def ClaimEnginePredicateAndSpecial : Prop :=
  ∀ (e : Fin 192) (s : State) (w : Word),
    let p := pOf s e.val (wPa w)
    let q := pOf s e.val (wPb w)
    (∀ r ∈ ([(.pand e, .pand, p &&& q), (.por e, .por, p ||| q), (.pxor e, .pxor, p ^^^ q), (.pandn e, .pandn, p &&& ~~~q)] :
        List (Instr × EOp × Byte)),
      Issues s e.val r.2.1 w → PredResult r.1 s e.val r.2.1 w (wPd w) r.2.2) ∧
    (Issues s e.val .getsr w →
      ∃ v : Word, ScalarResult (.getsr e) s e.val .getsr w v 0 ∧
        (wRb w = 0 → v = BitVec.ofNat 32 e.val) ∧
        (wRb w = 1 → v = match (s.engine e.val).r.cur with | some r => BitVec.ofNat 32 (r.idx % 256) | none => 0xFFFFFFFF) ∧
        (wRb w = 2 → v = ((s.island (e.val / 16)).startTs.setWidth 32)) ∧
        (wRb w = 3 → v = (((s.island (e.val / 16)).startTs >>> 32).setWidth 32)) ∧
        (wRb w = 4 → v = BitVec.ofNat 32 (s.engine e.val).perNum) ∧
        (wRb w = 5 → v = BitVec.ofNat 32 (s.engCyc (e.val / 16))) ∧
        (wRb w = 6 → v = BitVec.ofNat 32 (min 65535 (s.engDepth e.val))) ∧
        (wRb w = 7 → v = (s.engine e.val).r.sticky) ∧
        (8 ≤ wRb w → v = 0)) ∧
    (Issues s e.val .setsr w →
      EngineResult (.setsr e) s e.val .setsr w
        { pastIssue s e.val with sticky := (s.engine e.val).r.sticky &&& ~~~(sOf s e.val (wRd w)) })

/-- 09 R316, R319, R324: the words of the compares, the predicate logic and GETSR and SETSR; a SETSR of any index but 7 spells
nothing. -/
def ClaimEngineCompareWords : Prop :=
  ∀ rd ra rb imm c pd pa pb n : Nat, rd < 32 → ra < 32 → rb < 32 → imm < 2 ^ 16 → c < 8 → pd < 4 → pa < 4 → pb < 4 → n < 32 →
    engDecode (wordR 0x02 pd ra rb c) = some .cmp ∧
    engDecode (wordI 0x0E (c * 2 ^ 2 + pd) ra imm) = some .cmpi ∧
    engDecode (wordI 0x03 rd 0 (n * 2 ^ 11)) = some .getsr ∧
    engDecode (wordI 0x03 rd 0 (n * 2 ^ 11 + 1)) = (if n = 7 then some .setsr else none) ∧
    Spells [.pand, .por, .pxor, .pandn] 0 (fun fn => wordP pd pa pb fn)

/-- The statements above on one subject, together. -/
def Obligations.EngineCompareAndPredicate : Prop :=
  ClaimEngineCompareWords ∧ ClaimEngineCompare ∧ ClaimEnginePredicateAndSpecial

/-! ### Loads, stores and atomics (09 R315, R318, R325) -/

/-- The effective address of format M: s[ra] + off × size, off a signed field of 13 bits. -/
def effAddr (s : State) (e : Nat) (w : Word) (size : Nat) : Nat :=
  (((sOf s e (wRa w)).toNat : Int) + (if fld w 0 13 < 2 ^ 12 then fld w 0 13 else fld w 0 13 - 2 ^ 13 : Int) * size % 2 ^ 32).toNat
    % 2 ^ 32

/-- The space of an access other than SH, its byte and its size in bytes: aligned and within the space. -/
def Reachable (sp a size : Nat) : Prop :=
  sp ≤ 4 ∧ a % size = 0 ∧ a + size ≤ [0x8000, 0x4000, 0x800, 128, 128].getD sp 0

/-- Byte `a` of memory space `sp` of engine `e` (LOC, IN, OUT, C0, C1); IN gives 0 past the record. -/
def spaceByte (s : State) (e sp a : Nat) : Byte :=
  let x := s.engine e
  match sp with
  | 0 => mget 0 x.dmem a
  | 1 => (match x.r.cur with | some r => r.bytes.getD a 0 | none => 0)
  | 2 => mget 0 x.r.out a
  | 3 => x.r.c0.bytes.getD a 0
  | _ => x.r.c1.bytes.getD a 0

/-- 09 R315, R325: loads from LOC without an error, from IN within the record, from OUT and from a context buffer, aligned and
in range. LDB, LDH and LDW
return the little-endian bytes at the effective address, sign-extended for LDB and LDH, zero-extended for LDBU and LDHU; LDV
fills a vector with lane 0 at the lowest address. -/
def ClaimEngineLoad : Prop :=
  ∀ (e : Fin 192) (s : State) (w : Word),
    let byte := fun (n i : Nat) => (spaceByte s e.val (wSp w) (effAddr s e.val w n + i)).toNat
    let half : Nat := byte 2 0 + 2 ^ 8 * byte 2 1
    let here := fun n => Reachable (wSp w) (effAddr s e.val w n) n ∧
      (wSp w = 0 → s.firstPoison 1 e.val (effAddr s e.val w n) n = none) ∧
      (wSp w = 1 → ∃ r, (s.engine e.val).r.cur = some r ∧ effAddr s e.val w n + n ≤ r.bytes.length ∧ r.bytes.length = 16 * r.units) ∧
      (wSp w = 3 → (s.engine e.val).r.c0.bytes.length = 128) ∧ (wSp w = 4 → (s.engine e.val).r.c1.bytes.length = 128)
    (∀ r ∈ ([
      (.ldb e, .ldb, 1, BitVec.ofInt 32 (if byte 1 0 < 2 ^ 7 then byte 1 0 else byte 1 0 - 2 ^ 8 : Int)),
      (.ldbu e, .ldbu, 1, BitVec.ofNat 32 (byte 1 0)),
      (.ldh e, .ldh, 2, BitVec.ofInt 32 (if half < 2 ^ 15 then half else half - 2 ^ 16 : Int)),
      (.ldhu e, .ldhu, 2, BitVec.ofNat 32 half),
      (.ldw e, .ldw, 4, BitVec.ofNat 32 (byte 4 0 + 2 ^ 8 * byte 4 1 + 2 ^ 16 * byte 4 2 + 2 ^ 24 * byte 4 3))
      ] : List (Instr × EOp × Nat × Word)),
      Issues s e.val r.2.1 w → here r.2.2.1 → ScalarResult r.1 s e.val r.2.1 w r.2.2.2 0) ∧
    (Issues s e.val .ldv w → here 16 → ∃ v : Vec,
      EngineResult (.ldv e) s e.val .ldv w ((pastIssue s e.val).setV (wRd w) v) ∧
        ∀ i, i < 16 → (v.toNat / 2 ^ (8 * i)) % 2 ^ 8 = byte 16 i)

/-- 09 R315: a load from IN past the record's length, or with no current record, returns 0 there and sets STICKY.oob. -/
def ClaimEngineLoadPastRecord : Prop :=
  ∀ (e : Fin 192) (s : State) (w : Word), (s.engine e.val).r.cur = none → wSp w = 1 →
    (∀ r ∈ ([(.ldb e, .ldb, 1), (.ldbu e, .ldbu, 1), (.ldh e, .ldh, 2), (.ldhu e, .ldhu, 2), (.ldw e, .ldw, 4)] :
        List (Instr × EOp × Nat)),
      Issues s e.val r.2.1 w → Reachable 1 (effAddr s e.val w r.2.2) r.2.2 → ScalarResult r.1 s e.val r.2.1 w 0 4) ∧
    (Issues s e.val .ldv w → Reachable 1 (effAddr s e.val w 16) 16 →
      EngineResult (.ldv e) s e.val .ldv w (((pastIssue s e.val).setV (wRd w) 0).stick 4))

/-- A store to this space and these bytes is allowed (09 R315): LOC inside the scratch range, OUT, and context bytes 16 to 127. -/
def Storable (s : State) (e sp a size : Nat) : Prop :=
  Reachable sp a size ∧ sp ≠ 1 ∧
    (sp = 0 → (s.engine e).img.scratchBase ≤ a ∧ a + size ≤ (s.engine e).img.scratchBase + (s.engine e).img.scratchLen) ∧
    (3 ≤ sp → 16 ≤ a) ∧
    (sp = 3 → (s.engine e).r.c0.bytes.length = 128) ∧ (sp = 4 → (s.engine e).r.c1.bytes.length = 128)

/-- 09 R315, R325: STB, STH and STW store the low bytes of rd, and STV a vector, little-endian at the effective address of the
space that sp names; every other byte of the engine's five spaces reads as before, and so do its scalar, vector and predicate
registers and every other engine. -/
def ClaimEngineStore : Prop :=
  ∀ (e : Fin 192) (s : State) (w : Word),
    ∀ r ∈ ([
      (.stb e, .stb, 1, (sOf s e.val (wRd w)).toNat), (.sth e, .sth, 2, (sOf s e.val (wRd w)).toNat),
      (.stw e, .stw, 4, (sOf s e.val (wRd w)).toNat), (.stv e, .stv, 16, (vOf s e.val (wRd w)).toNat)
      ] : List (Instr × EOp × Nat × Nat)),
    let n := r.2.2.1
    let a := effAddr s e.val w n
    Issues s e.val r.2.1 w → Storable s e.val (wSp w) a n →
      Completes r.1 s (fun t =>
        (∀ i, i < n → (spaceByte t e.val (wSp w) (a + i)).toNat = r.2.2.2 / 2 ^ (8 * i) % 2 ^ 8) ∧
        (∀ sp b, sp ≤ 4 → ¬(sp = wSp w ∧ a ≤ b ∧ b < a + n) → spaceByte t e.val sp b = spaceByte s e.val sp b) ∧
        (∀ k, sOf t e.val k = sOf s e.val k ∧ vOf t e.val k = vOf s e.val k ∧ pOf t e.val k = pOf s e.val k) ∧
        (t.engine e.val).r.pc = ((s.engine e.val).r.pc + 1) % 4096 ∧
        (t.engine e.val).r.sticky = (s.engine e.val).r.sticky ∧
        (∀ k, k ≠ e.val → t.engine k = s.engine k) ∧
        t = { s with eng := t.eng, mem := { s.mem with poison := t.mem.poison } })

/-- 09 R315, R319, R325: the words of the loads, stores and atomics; the spaces 6 and 7 spell nothing. -/
def ClaimEngineMemoryWords : Prop :=
  ∀ rd ra rb sp off : Nat, rd < 32 → ra < 32 → rb < 32 → sp < 8 → off < 2 ^ 13 →
    (sp ≤ 5 → Spells [.ldb, .ldbu, .ldh, .ldhu, .ldw, .stb, .sth, .stw] 0x10 (fun m => wordM m rd ra sp off)) ∧
    (sp ≤ 5 → rd < 8 → Spells [.ldv, .stv] 0x18 (fun m => wordM m rd ra sp off)) ∧
    (sp ≤ 5 → 8 ≤ rd → ∀ m, m = 0x18 ∨ m = 0x19 → engDecode (wordM m rd ra sp off) = none) ∧
    (6 ≤ sp → ∀ m, 0x10 ≤ m → m ≤ 0x19 → engDecode (wordM m rd ra sp off) = none) ∧
    Spells [.aadd, .aswp] 0x1A (fun m => wordR m rd ra rb 0)

/-- The statements above on one subject, together. -/
def Obligations.EngineLoadStore : Prop :=
  ClaimEngineMemoryWords ∧ ClaimEngineLoad ∧ ClaimEngineLoadPastRecord ∧ ClaimEngineStore

/-- 09 R300, R302, R325: an aligned access to SH in range, to a bank that the engine may use, waits in program order for its
bank; registers and memory stay as they are until the bank serves it. -/
def ClaimEngineSharedAccessQueued : Prop :=
  ∀ (e : Fin 192) (s : State) (w : Word),
    let i := e.val / 16
    let queued := fun (c : Instr) (op : EOp) (a n : Nat) (x : ShOp) =>
      Issues s e.val op w → a % n = 0 → a + n ≤ 0x200000 → s.mayBank e.val a = true →
        Completes c s (fun t =>
          (t.engine e.val).sh = (s.engine e.val).sh ++ [(x, a)] ∧
          (t.engine e.val).r = pastIssue s e.val ∧
          (∀ b, (t.island i).shmem = (s.island i).shmem ∧ (b ≠ 8 * i + a / 0x40000 → t.bank b = s.bank b)) ∧
          (∀ k, k ≠ e.val → t.engine k = s.engine k))
    let sreg := fun r => sOf s e.val r
    (wSp w = 5 →
      queued (.ldb e) .ldb (effAddr s e.val w 1) 1 (.load (wRd w) 1 true) ∧
      queued (.ldbu e) .ldbu (effAddr s e.val w 1) 1 (.load (wRd w) 1 false) ∧
      queued (.ldh e) .ldh (effAddr s e.val w 2) 2 (.load (wRd w) 2 true) ∧
      queued (.ldhu e) .ldhu (effAddr s e.val w 2) 2 (.load (wRd w) 2 false) ∧
      queued (.ldw e) .ldw (effAddr s e.val w 4) 4 (.load (wRd w) 4 false) ∧
      queued (.ldv e) .ldv (effAddr s e.val w 16) 16 (.loadV (wRd w)) ∧
      queued (.stb e) .stb (effAddr s e.val w 1) 1 (.store (leBytes 1 (sreg (wRd w)).toNat)) ∧
      queued (.sth e) .sth (effAddr s e.val w 2) 2 (.store (leBytes 2 (sreg (wRd w)).toNat)) ∧
      queued (.stw e) .stw (effAddr s e.val w 4) 4 (.store (leBytes 4 (sreg (wRd w)).toNat)) ∧
      queued (.stv e) .stv (effAddr s e.val w 16) 16 (.store (leBytes 16 (vOf s e.val (wRd w)).toNat))) ∧
    queued (.aadd e) .aadd (sreg (wRa w)).toNat 4 (.aadd (wRd w) (sreg (wRb w))) ∧
    queued (.aswp e) .aswp (sreg (wRa w)).toNat 4 (.aswp (wRd w) (sreg (wRb w)))

/-- The word at byte `a` of the shared memory of Island `i`. -/
def shWord (s : State) (i a : Nat) : Nat :=
  let byte := fun k => (mget 0 (s.island i).shmem (a + k)).toNat
  byte 0 + 2 ^ 8 * byte 1 + 2 ^ 16 * byte 2 + 2 ^ 24 * byte 3

/-- 09 R300, R301, R325: bank `b`, when it has served none in the island cycle, serves the oldest access of the engine whose turn it is. LDW
returns the word; STW stores its bytes; AADD adds to the word and returns the old value; ASWP swaps. Every other byte of the shared memory,
every other register of the engine and every other engine stay. A bank that has served one in the cycle serves none, and a bank on its
way to a new owner goes to it once no access to it is left (17 R563). -/
def ClaimSharedAccessServed : Prop :=
  ∀ (i : Isl) (b : Fin 8) (e a : Nat) (op : ShOp) (rest : List (ShOp × Nat)) (s : State),
    let shw := shWord s i.val a
    (s.bank (8 * i.val + b.val)).st = 0 → s.bankNext i.val b.val = some e → e / 16 = i.val →
    ((s.island i.val).bankFree b.val s.now = false → (s.bank (8 * i.val + b.val)).hand = none → exec (.shAccessServed i b) s = .next s) ∧
    ((s.island i.val).bankFree b.val s.now = true → (s.bank (8 * i.val + b.val)).hand = none →
    (s.engine e).sh = (op, a) :: rest → a / 0x40000 = b.val → a % 4 = 0 →
    s.firstPoison 2 (8 * i.val + b.val) (a % 0x40000) 4 = none →
    let served := fun (f : State → Prop) => Completes (.shAccessServed i b) s (fun t =>
      (t.engine e).sh = rest ∧ (∀ k, k ≠ e → t.engine k = s.engine k) ∧ f t)
    let others := fun t => ∀ k, ¬(a ≤ k ∧ k < a + 4) → mget 0 (t.island i.val).shmem k = mget 0 (s.island i.val).shmem k
    (∀ rd, op = .load rd 4 false → served (fun t =>
      (t.engine e).r = (s.engine e).r.setS rd (BitVec.ofNat 32 shw) ∧ (t.island i.val).shmem = (s.island i.val).shmem)) ∧
    (∀ v : Word, op = .store (leBytes 4 v.toNat) → served (fun t =>
      (t.engine e).r = (s.engine e).r ∧ shWord t i.val a = v.toNat ∧ others t)) ∧
    (∀ rd (v : Word), op = .aadd rd v → served (fun t =>
      (t.engine e).r = (s.engine e).r.setS rd (BitVec.ofNat 32 shw) ∧ shWord t i.val a = (shw + v.toNat) % 2 ^ 32 ∧ others t)) ∧
    (∀ rd (v : Word), op = .aswp rd v → served (fun t =>
      (t.engine e).r = (s.engine e).r.setS rd (BitVec.ofNat 32 shw) ∧ shWord t i.val a = v.toNat ∧ others t))) ∧
    (∀ o, (s.bank (8 * i.val + b.val)).hand = some o → (s.island i.val).bankFree b.val s.now = false → s.mem.jobs = [] →
      s.bankQueued (8 * i.val + b.val) = false → mget none s.bus.posted 0x80000 = none →
      Completes (.shAccessServed i b) s (fun t =>
        t.bank (8 * i.val + b.val) = { s.bank (8 * i.val + b.val) with owner := o.1, index := o.2, hand := none } ∧
        EventSet t Reg.MEMCTL_EVT 8 ∧ t.eng = s.eng ∧ t.isl = s.isl))

/-- The statements above on one subject, together. -/
def Obligations.EngineSharedMemory : Prop := ClaimEngineSharedAccessQueued ∧ ClaimSharedAccessServed

/-! ### Faults (09 R334, R335) -/

/-- The instruction faults: cause and PC go to ISL_ENG_FAULT, ISL_EVT shows fault and abort, the period is aborted, and the 16th fault
in a row leads to FAULT. -/
def EngineFaults (c : Instr) (s : State) (e : Nat) (cause : Nat) : Prop :=
  Completes c s (fun t =>
    (t.engine e).cause = cause ∧ (t.engine e).faultPc = (s.engine e).r.pc ∧
    (t.engine e).consec = min 16 ((s.engine e).consec + 1) ∧
    (t.engine e).per.aborted = some cause ∧ (t.engine e).sh = (s.engine e).sh.filter (fun a => a.1.isStore) ∧ (t.engine e).r.cur = none ∧
    EventSet t (Reg.ISL_EVT (e / 16)) 0 ∧ EventSet t (Reg.ISL_EVT (e / 16)) 1 ∧
    ((s.engine e).consec < 15 → (t.engine e).st = .done) ∧ (15 ≤ (s.engine e).consec → (t.engine e).st = .fault) ∧
    (∀ k, k ≠ e → t.engine k = s.engine k))

/-- 09 R315, R302, R329, R333, R334: what faults, and with which cause: a misaligned access 2, one beyond its space 3, a write
to IN, a context header or LOC outside scratch 4, an access to a bank of another owner 5, a PUSH of a record of another type or
length 6, a branch out of the code 7; a word that spells no instruction 1; and an uncorrectable word 8, which leads to FAULT at
once. -/
def Obligations.EngineFaultCauses : Prop :=
  ∀ (e : Fin 192) (s : State) (w : Word),
    (∀ r ∈ ([(.ldb e, .ldb, 1), (.ldbu e, .ldbu, 1), (.ldh e, .ldh, 2), (.ldhu e, .ldhu, 2), (.ldw e, .ldw, 4), (.ldv e, .ldv, 16),
        (.stb e, .stb, 1), (.sth e, .sth, 2), (.stw e, .stw, 4), (.stv e, .stv, 16)] : List (Instr × EOp × Nat)),
      let n := r.2.2
      let a := effAddr s e.val w n
      let size := [0x8000, 0x4000, 0x800, 128, 128, 0x200000].getD (wSp w) 0
      Issues s e.val r.2.1 w →
        (a % n ≠ 0 → EngineFaults r.1 s e.val 2) ∧
        (a % n = 0 → size < a + n → EngineFaults r.1 s e.val 3) ∧
        (a % n = 0 → a + n ≤ size → wSp w = 5 → s.mayBank e.val a = false → EngineFaults r.1 s e.val 5)) ∧
    (∀ r ∈ ([(.aadd e, .aadd), (.aswp e, .aswp)] : List (Instr × EOp)),
      let a := (sOf s e.val (wRa w)).toNat
      Issues s e.val r.2 w →
        (a % 4 ≠ 0 → EngineFaults r.1 s e.val 2) ∧ (a % 4 = 0 → 0x200000 < a + 4 → EngineFaults r.1 s e.val 3) ∧
        (a % 4 = 0 → a + 4 ≤ 0x200000 → s.mayBank e.val a = false → EngineFaults r.1 s e.val 5)) ∧
    (∀ r ∈ ([(.stb e, .stb, 1), (.sth e, .sth, 2), (.stw e, .stw, 4), (.stv e, .stv, 16)] : List (Instr × EOp × Nat)),
      let a := effAddr s e.val w r.2.2
      let x := s.engine e.val
      Issues s e.val r.2.1 w → Reachable (wSp w) a r.2.2 →
        (wSp w = 1 ∨ (3 ≤ wSp w ∧ a < 16) ∨
          (wSp w = 0 ∧ ¬(x.img.scratchBase ≤ a ∧ a + r.2.2 ≤ x.img.scratchBase + x.img.scratchLen))) →
        EngineFaults r.1 s e.val 4) ∧
    (Issues s e.val .push w →
      (let byte := fun k => (spaceByte s e.val 2 k).toNat
       let len := byte 2 + 2 ^ 8 * byte 3
       (byte 0 ≠ tFEATURE ∧ byte 0 ≠ tCONTEXT) ∨ len = 0 ∨ 128 < len) → EngineFaults (.push e) s e.val 6) ∧
    (let outside := fun (n : Nat) =>
       let d : Int := ((s.engine e.val).r.pc : Int) + (w.toNat % 2 ^ n : Nat) - (if w.toNat % 2 ^ n < 2 ^ (n - 1) then 0 else 2 ^ n)
       d < 0 ∨ (s.engine e.val).img.codeWords ≤ d
     let p := pOf s e.val (fld w 24 2)
     (Issues s e.val .br w → outside 26 → EngineFaults (.br e) s e.val 7) ∧
     (Issues s e.val .bp w → outside 22 → [p ≠ 0, p = 0, p = 0xFF, p ≠ 0xFF].getD (fld w 22 2) False →
       EngineFaults (.bp e) s e.val 7) ∧
     (Issues s e.val .jal w → outside 21 → EngineFaults (.jal e) s e.val 7) ∧
     (Issues s e.val .jr w → (s.engine e.val).img.codeWords ≤ (sOf s e.val (wRa w)).toNat → EngineFaults (.jr e) s e.val 7) ∧
     (Issues s e.val .loop w → outside 21 → wRd w ≠ 0 → sOf s e.val (wRd w) ≠ 1 → EngineFaults (.loop e) s e.val 7)) ∧
    (s.engFetch e.val = some w → s.imemBad e.val = none → engDecode w = none →
      (s.engine e.val).busy ≤ s.engCyc (e.val / 16) → EngineFaults (.illegalInstruction e) s e.val 1) ∧
    (s.engFetch e.val = some w → s.imemBad e.val ≠ none → ∀ c ∈ [.illegalInstruction e, .add e, .ldw e, .vmac e, .push e, .br e],
      Completes c s (fun t => (t.engine e.val).cause = 8 ∧ (t.engine e.val).faultPc = (s.engine e.val).r.pc ∧
        (t.engine e.val).st = .fault ∧ EventSet t (Reg.ISL_EVT (e.val / 16)) 0 ∧ ∀ k, k ≠ e.val → t.engine k = s.engine k))

/-! ### Vectors (09 R314, R326, R327) -/

/-- The vector register vd takes, in each lane that predicate masking lets through, `f` of the lane modulo its width; the other
lanes stay. STICKY.sat sets when `sat` holds of a lane written. -/
def LaneResult (c : Instr) (s : State) (e : Nat) (op : EOp) (w : Word) (w32 : Bool) (f : Nat → Int) (sat : Nat → Bool) : Prop :=
  ∃ v : Vec,
    EngineResult c s e op w (((pastIssue s e).setV (wVd w) v).stick
      (if (List.range (laneN w32)).any (fun i => (!wM w || plane w32 (pOf s e (wP w)) i) && sat i) then 1 else 0)) ∧
    ∀ i, i < laneN w32 →
      (vlane w32 v i : Int) =
        if !wM w || plane w32 (pOf s e (wP w)) i then f i % 2 ^ laneW w32 else vlane w32 (vOf s e (wVd w)) i

/-- 09 R326: the lane-wise instructions, on 16-bit lanes or, with w set, 32-bit lanes; VMAC on 32-bit lanes. -/
def ClaimEngineVectorLanes : Prop :=
  ∀ (e : Fin 192) (s : State) (w : Word),
    let w32 := wW w
    let n := laneW w32
    let a := fun i => slane w32 (vOf s e.val (wVa w)) i
    let b := fun i => slane w32 (vOf s e.val (wVb w)) i
    let ua := fun i => vlane w32 (vOf s e.val (wVa w)) i
    let ub := fun i => vlane w32 (vOf s e.val (wVb w)) i
    let half := fun v i => slane false (vOf s e.val v) i
    let mac := fun i => slane true (vOf s e.val (wVd w)) i + half (wVa w) (2 * i) * half (wVb w) (2 * i)
      + half (wVa w) (2 * i + 1) * half (wVb w) (2 * i + 1)
    let none := fun (_ : Nat) => false
    (∀ r ∈ ([
      (.vadd e, .vadd, fun i => a i + b i, none),
      (.vsub e, .vsub, fun i => a i - b i, none),
      (.vadds e, .vadds, fun i => clamp n (a i + b i), fun i => clamped n (a i + b i)),
      (.vsubs e, .vsubs, fun i => clamp n (a i - b i), fun i => clamped n (a i - b i)),
      (.vmul e, .vmul, fun i => a i * b i, none),
      (.vmulh e, .vmulh, fun i => a i * b i / 2 ^ n, none),
      (.vmin e, .vmin, fun i => min (a i) (b i), none),
      (.vmax e, .vmax, fun i => max (a i) (b i), none),
      (.vand e, .vand, fun i => ((ua i &&& ub i : Nat) : Int), none),
      (.vor e, .vor, fun i => ((ua i ||| ub i : Nat) : Int), none),
      (.vxor e, .vxor, fun i => ((ua i ^^^ ub i : Nat) : Int), none),
      (.vsra e, .vsra, fun i => a i / 2 ^ wAmt w, none),
      (.vsrl e, .vsrl, fun i => ((ua i / 2 ^ wAmt w : Nat) : Int), none),
      (.vsll e, .vsll, fun i => ((ua i * 2 ^ wAmt w : Nat) : Int), none),
      (.vabs e, .vabs, fun i => clamp n (a i).natAbs, fun i => clamped n (a i).natAbs)
      ] : List (Instr × EOp × (Nat → Int) × (Nat → Bool))),
      Issues s e.val r.2.1 w → LaneResult r.1 s e.val r.2.1 w w32 r.2.2.1 r.2.2.2) ∧
    (Issues s e.val .vmac w →
      LaneResult (.vmac e) s e.val .vmac w true (fun i => clamp 32 (mac i)) (fun i => clamped 32 (mac i)))

/-- 09 R326: VSEL takes the lanes of va where the predicate is set and those of vb elsewhere; VCMP writes a predicate with the
lane results, two bits for each 32-bit lane. -/
def ClaimEngineVectorSelectCompare : Prop :=
  ∀ (e : Fin 192) (s : State) (w : Word),
    let w32 := wW w
    let lane := fun r i => vlane w32 (vOf s e.val r) i
    let sl := fun r i => slane w32 (vOf s e.val r) i
    (Issues s e.val .vsel w → ∃ v : Vec, EngineResult (.vsel e) s e.val .vsel w ((pastIssue s e.val).setV (wVd w) v) ∧
      ∀ i, i < laneN w32 → vlane w32 v i = if plane w32 (pOf s e.val (wP w)) i then lane (wVa w) i else lane (wVb w) i) ∧
    (Issues s e.val .vcmp w → ∃ v : Byte, PredResult (.vcmp e) s e.val .vcmp w (wP w) v ∧
      ∀ k, k < 8 →
        let i := if w32 then k / 2 else k
        v.getLsbD k = match wCond w with
          | 0 => lane (wVa w) i == lane (wVb w) i
          | 1 => lane (wVa w) i != lane (wVb w) i
          | 2 => decide (sl (wVa w) i < sl (wVb w) i)
          | 3 => decide (sl (wVb w) i ≤ sl (wVa w) i)
          | 4 => decide (lane (wVa w) i < lane (wVb w) i)
          | 5 => decide (lane (wVb w) i ≤ lane (wVa w) i)
          | 6 => true
          | _ => false)

/-- 09 R327: the vector-scalar instructions. -/
def ClaimEngineVectorScalar : Prop :=
  ∀ (e : Fin 192) (s : State) (w : Word),
    let w32 := wVsW w
    let x := sOf s e.val (wRs w)
    let lane := fun i => vlane w32 (vOf s e.val (wVd w)) i
    let sl := fun i => slane w32 (vOf s e.val (wVd w)) i
    let scalar := fun c op v => EngineResult c s e.val op w ((pastIssue s e.val).setS (wRs w) v)
    let extreme := fun (c : Instr) (op : EOp) (better : Int → Int → Prop) =>
      ∃ k, k < laneN w32 ∧ (∀ i, i < laneN w32 → ¬better (sl i) (sl k)) ∧ (∀ i, i < k → better (sl k) (sl i)) ∧
        EngineResult c s e.val op w
          (((pastIssue s e.val).setS (wRs w) (BitVec.ofInt 32 (sl k))).setS (wRs w + 1) (BitVec.ofNat 32 k))
    (Issues s e.val .vsplat w → ∃ v : Vec, EngineResult (.vsplat e) s e.val .vsplat w ((pastIssue s e.val).setV (wVd w) v) ∧
      ∀ i, i < laneN w32 → vlane w32 v i = x.toNat % 2 ^ laneW w32) ∧
    (Issues s e.val .vins w → ∃ v : Vec, EngineResult (.vins e) s e.val .vins w ((pastIssue s e.val).setV (wVd w) v) ∧
      ∀ i, i < laneN w32 → vlane w32 v i = if i = wLane w then x.toNat % 2 ^ laneW w32 else lane i) ∧
    (Issues s e.val .vext w → scalar (.vext e) .vext (BitVec.ofInt 32 (sl (wLane w)))) ∧
    (Issues s e.val .vextu w → scalar (.vextu e) .vextu (BitVec.ofNat 32 (lane (wLane w)))) ∧
    (Issues s e.val .vrsum w →
      scalar (.vrsum e) .vrsum (BitVec.ofInt 32 ((List.range (laneN w32)).map sl).sum)) ∧
    (Issues s e.val .vrmax w → extreme (.vrmax e) .vrmax (fun p q => q < p)) ∧
    (Issues s e.val .vrmin w → extreme (.vrmin e) .vrmin (fun p q => p < q))

/-- 09 R319, R326, R327: the words of the vector and vector-scalar instructions. VMAC with w, VSEL and VCMP with m, a VCMP that
names a destination vector, a lane beyond the lane count and VRMAX and VRMIN of s31 spell nothing. -/
def ClaimEngineVectorWords : Prop :=
  ∀ vd va vb w m p c amt rs lane : Nat, vd < 8 → va < 8 → vb < 8 → w < 2 → m < 2 → p < 4 → c < 8 → amt < 32 → rs < 32 → lane < 8 →
    (m = 1 ∨ p = 0 →
      Spells [.vadd, .vsub, .vadds, .vsubs, .vmul, .vmulh] 0x00 (fun fn => wordV vd va vb w m p 0 fn) ∧
      engDecode (wordV vd va vb w m p 0 0x06) = (if w = 0 then some .vmac else none) ∧
      Spells [.vmin, .vmax, .vand, .vor, .vxor] 0x07 (fun fn => wordV vd va vb w m p 0 fn) ∧
      Spells [.vsra, .vsrl, .vsll] 0x0C (fun fn => wordV vd va 0 w m p amt fn) ∧
      engDecode (wordV vd va 0 w m p 0 0x11) = some .vabs) ∧
    engDecode (wordV vd va vb w m p 0 0x0F) = (if m = 0 then some .vsel else none) ∧
    engDecode (wordV vd va vb w m p c 0x10) = (if m = 0 ∧ vd = 0 then some .vcmp else none) ∧
    Spells [.vsplat] 0 (fun fn => wordVs vd rs 0 w fn) ∧
    (lane < (if w = 1 then 4 else 8) → Spells [.vins, .vext, .vextu] 1 (fun fn => wordVs vd rs lane w fn)) ∧
    ((if w = 1 then 4 else 8) ≤ lane → ∀ fn, fn < 7 → engDecode (wordVs vd rs lane w fn) = none) ∧
    engDecode (wordVs vd rs 0 w 4) = some .vrsum ∧
    (rs ≠ 31 → Spells [.vrmax, .vrmin] 5 (fun fn => wordVs vd rs 0 w fn)) ∧
    engDecode (wordVs vd 31 0 w 5) = none ∧ engDecode (wordVs vd 31 0 w 6) = none

/-- The statements above on one subject, together. -/
def Obligations.EngineVector : Prop :=
  ClaimEngineVectorWords ∧ ClaimEngineVectorLanes ∧ ClaimEngineVectorSelectCompare ∧ ClaimEngineVectorScalar

/-! ### Streams, contexts and control (09 R308 to R311, R328 to R333) -/

/-- 09 R328: POP makes the next item of the current period current and sets its predicate; with none it clears the predicate and
leaves the current record. -/
def ClaimEnginePop : Prop :=
  ∀ (e : Fin 192) (s : State) (w : Word), Issues s e.val .pop w →
    (∀ r, s.engHead e.val = some r → Completes (.pop e) s (fun t =>
      (t.engine e.val).r = { (pastIssue s e.val).setP (fld w 21 2) 0xFF with cur := some r } ∧
      (t.engine e.val).input.ents = (s.engine e.val).input.ents.tail ∧
      (∀ k, k ≠ e.val → t.engine k = s.engine k))) ∧
    ((s.engine e.val).input.ents = [] → Completes (.pop e) s (fun t =>
      OnlyEngine s t e.val ∧ (t.engine e.val).r = (pastIssue s e.val).setP (fld w 21 2) 0))

/-- The outbound FIFO of engine `e` takes a record of `n` units: its reserve slot is free and no drop is pending. -/
def OutRoom (s : State) (e n : Nat) : Prop :=
  (s.engine e).outResv = false ∧ (s.engine e).output.pend = none ∧ (s.engine e).outUsed s.now + n ≤ engSlots

/-- The record is the last that engine `e` holds for the commit of its period. -/
def Held (s t : State) (e : Nat) (r : Rec) : Prop :=
  ∃ h : Item, h.recs = [r] ∧ (t.engine e).per.held = (s.engine e).per.held ++ [.item h]

/-- 09 R313, R328, R329: FWD copies the current record unchanged, and PUSH the record in OUT, into the outbound FIFO behind what
awaits the commit. PUSH takes type, length and TS48 from OUT; the device writes its ID, class 1, the index e and the sequence
number, clears LATE and sets POISON from STICKY.poison. A push that finds the FIFO full is counted in ISL_ENG_HOLDDROP. -/
def ClaimEngineForwardPush : Prop :=
  ∀ (e : Fin 192) (s : State) (w : Word),
    let regs := fun t : State => (t.engine e.val).r = pastIssue s e.val ∧ ∀ k, k ≠ e.val → t.engine k = s.engine k
    let byte := fun k => (spaceByte s e.val 2 k).toNat
    let len := byte 2 + 2 ^ 8 * byte 3
    let drop := Reg.ISL_ENG_HOLDDROP (e.val / 16) (e.val % 16)
    (∀ r, Issues s e.val .fwd w → (s.engine e.val).r.cur = some r →
      (OutRoom s e.val r.units → Completes (.fwd e) s (fun t => regs t ∧ Held s t e.val r)) ∧
      (¬(s.engine e.val).outUsed s.now + r.units ≤ engSlots →
        Completes (.fwd e) s (fun t => regs t ∧ Counts s t drop ∧ (t.engine e.val).per.held = (s.engine e.val).per.held))) ∧
    (Issues s e.val .push w → (byte 0 = tFEATURE ∨ byte 0 = tCONTEXT) → 1 ≤ len → len ≤ 128 → OutRoom s e.val len →
      Completes (.push e) s (fun t => regs t ∧ ∃ r : Rec, Held s t e.val r ∧
        r.typ = byte 0 ∧ r.units = len ∧ r.dev = s.link.dev.id ∧ r.cls = 1 ∧ r.idx = e.val ∧
        r.seq = mget 0 s.seqs (seqKey 1 e.val (byte 0)) ∧
        r.ts = BitVec.ofNat 48 (leNat (bytesAt (s.engine e.val).r.out 8 6)) ∧
        r.body = bytesAt (s.engine e.val).r.out 16 (16 * (len - 1)) ∧
        (∀ k, k < 8 → r.flags.testBit k =
          if 2 ^ k = fLATE then false else if 2 ^ k = fPOISON then (s.engine e.val).r.sticky.getLsbD 3
          else (byte 1).testBit k)))

/-- 09 R330, R331: CTXLD requests a context, which is answered no earlier than 32 ns later; a successful load fills the buffer
with the committed context, bytes 16 to 127 from this engine's own staged update where it has one, and sets the predicate; a
load that fails clears it and leaves the buffer's bytes; CTXST stages bytes 16 to 127, or clears its predicate without a context
in the buffer. -/
def Obligations.EngineContexts : Prop :=
  ∀ (e : Fin 192) (s : State) (w : Word),
    let i := e.val / 16
    let pd := fld w 21 2
    (Issues s e.val .ctxld w → Completes (.ctxld e) s (fun t => OnlyEngine s t e.val ∧ ∃ due, s.now + 48 ≤ due ∧
      ((t.engine e.val).r.cbuf (wB w)).req = some ⟨(sOf s e.val (wRa w)).toNat % 2 ^ 16, pd, due⟩)) ∧
    (∀ q, (s.engine e.val).r.c0.req = some q → q.due ≤ s.now → (s.bank (ctxBank q.id)).st = 0 →
      s.firstPoison 3 (ctxBank q.id) (ctxOff q.id) 128 = none →
      let c := s.ctxOf q.id
      let kind := (s.engine e.val).img.ctxKind
      let good := c.island = i ∧ (kind = 0 ∨ kind = c.kind) ∧ c.unrel = false
      let own := (s.island i).staged.find? (fun u => u.eng == some e.val && u.id == q.id)
      (good → Completes (.ctxldDone e) s (fun t => OnlyEngine s t e.val ∧ pOf t e.val q.pd = 0xFF ∧
        (t.engine e.val).r.c0.id = some q.id ∧ (t.engine e.val).r.c0.req = none ∧
        (own = none → (t.engine e.val).r.c0.bytes = c.bytes q.id) ∧
        (∀ u, own = some u → ((t.engine e.val).r.c0.bytes.drop 16).take 112 = fitBytes 112 u.state))) ∧
      (¬good → Completes (.ctxldDone e) s (fun t => OnlyEngine s t e.val ∧ pOf t e.val q.pd = 0 ∧
        (t.engine e.val).r.c0.bytes = (s.engine e.val).r.c0.bytes ∧ (t.engine e.val).r.c0.id = (s.engine e.val).r.c0.id))) ∧
    (Issues s e.val .ctxst w →
      (∀ id, ((s.engine e.val).r.cbuf (wB w)).id = some id → (s.island i).staged.length < 1024 →
        Completes (.ctxst e) s (fun t => pOf t e.val pd = 0xFF ∧ (∀ k, sOf t e.val k = sOf s e.val k) ∧
          ∃ u ∈ (t.island i).staged, u.eng = some e.val ∧ u.id = id ∧
            u.state = ((s.engine e.val).r.cbuf (wB w)).bytes.drop 16 ∧ u.poisoned = (s.engine e.val).r.sticky.getLsbD 3)) ∧
      (((s.engine e.val).r.cbuf (wB w)).id = none → Completes (.ctxst e) s (fun t => OnlyEngine s t e.val ∧ pOf t e.val pd = 0)))

/-- 09 R308, R332, R333: control. A taken branch sets the PC to the branch's own place plus the displacement, which must lie in
the code; JAL saves the place after it; LOOP counts its register down; YIELD and EOP end the invocation and keep the registers;
EVT raises line 84 + n with the time given. -/
def Obligations.EngineControl : Prop :=
  ∀ (e : Fin 192) (s : State) (w : Word),
    let x := s.engine e.val
    let disp := fun (n : Nat) => (x.r.pc : Int) + (w.toNat % 2 ^ n : Nat) - (if w.toNat % 2 ^ n < 2 ^ (n - 1) then 0 else 2 ^ n)
    let inCode := fun (d : Int) => 0 ≤ d ∧ d < x.img.codeWords
    let next := pastIssue s e.val
    let jumps := fun (c : Instr) (r : EngRegs) (d : Int) => Completes c s (fun t => OnlyEngine s t e.val ∧
      (t.engine e.val).r = r.jump d.toNat ∧ (t.engine e.val).st = .run)
    let ends := fun (c : Instr) (st : EngState) => Completes c s (fun t => (t.engine e.val).st = st ∧
      (t.engine e.val).r = { next with cur := none } ∧ (t.engine e.val).dmem = x.dmem ∧ ∀ k, k ≠ e.val → t.engine k = s.engine k)
    let p := pOf s e.val (fld w 24 2)
    let meets := [p ≠ 0, p = 0, p = 0xFF, p ≠ 0xFF].getD (fld w 22 2) False
    let count := sOf s e.val (wRd w) - 1
    (Issues s e.val .br w → inCode (disp 26) → jumps (.br e) next (disp 26)) ∧
    (Issues s e.val .bp w → (¬meets → EngineResult (.bp e) s e.val .bp w next) ∧
      (meets → inCode (disp 22) → jumps (.bp e) next (disp 22))) ∧
    (Issues s e.val .jal w → inCode (disp 21) →
      jumps (.jal e) (next.setS (wRd w) (BitVec.ofNat 32 (x.r.pc + 1))) (disp 21)) ∧
    (Issues s e.val .jr w → (sOf s e.val (wRa w)).toNat < x.img.codeWords →
      jumps (.jr e) next (sOf s e.val (wRa w)).toNat) ∧
    (Issues s e.val .loop w → wRd w = 0 → EngineResult (.loop e) s e.val .loop w next) ∧
    (Issues s e.val .loop w → wRd w ≠ 0 →
      (count = 0 → EngineResult (.loop e) s e.val .loop w (next.setS (wRd w) count)) ∧
      (count ≠ 0 → inCode (disp 21) → jumps (.loop e) (next.setS (wRd w) count) (disp 21))) ∧
    (Issues s e.val .yield w → ends (.yield e) .wait) ∧
    (Issues s e.val .eop w → ends (.eop e) .done) ∧
    (Issues s e.val .evt w → (s.fl.events.all (fun v => v.c.line != 84 + fld w 4 6 || v.tick != s.now)) = true →
      Completes (.evt e) s (fun t => (t.engine e.val).r = next ∧
        ⟨⟨84 + fld w 4 6, BitVec.ofNat 48 ((sOf s e.val (wRa w)).toNat + (sOf s e.val (wRa w + 1)).toNat % 2 ^ 16 * 2 ^ 32), false,
          none⟩, s.now⟩ ∈ t.fl.events))

/-- 09 R310, R311: an item of the current period at the head of the FIFO wakes an engine in WAIT at the item entry, and is
discarded and counted in ISL_ENG_EOPDROP by an engine that has ended the period. -/
def ClaimEngineItems : Prop :=
  ∀ (e : Fin 192) (s : State) (r : Rec), s.engHead e.val = some r → (s.island (e.val / 16)).phase = .run →
    ((s.engine e.val).st = .wait → Completes (.itemEntry e) s (fun t =>
      (t.engine e.val).st = .run ∧ (t.engine e.val).r.cur = some r ∧ (t.engine e.val).r.pc = (s.engine e.val).img.entryItem ∧
      (∀ k, sOf t e.val k = sOf s e.val k) ∧ (t.engine e.val).input.ents = (s.engine e.val).input.ents.tail)) ∧
    ((s.engine e.val).st = .done → (s.engine e.val).per.aborted = none → Completes (.doneItemDiscard e) s (fun t =>
      (t.engine e.val) = { s.engine e.val with input := (t.engine e.val).input } ∧
      (t.engine e.val).input.ents = (s.engine e.val).input.ents.tail ∧
      Counts s t (Reg.ISL_ENG_EOPDROP (e.val / 16) (e.val % 16))))

/-- 09 R319, R328, R333: the words of the stream and control instructions; an EVT of s31 spells nothing. -/
def ClaimEngineControlWords : Prop :=
  ∀ b pd ra n p c rd disp : Nat, b < 2 → pd < 4 → ra < 32 → n < 64 → p < 4 → c < 4 → rd < 32 →
    engDecode (wordI 0x28 pd 0 0) = some .pop ∧
    Spells [.fwd, .push] 1 (fun fn => wordI 0x28 0 0 fn) ∧
    engDecode (wordI 0x28 (b * 2 ^ 4 + pd) ra 3) = some .ctxld ∧
    engDecode (wordI 0x28 (b * 2 ^ 4 + pd) 0 4) = some .ctxst ∧
    engDecode (wordI 0x28 0 ra (n * 2 ^ 4 + 5)) = (if ra = 31 then none else some .evt) ∧
    (disp < 2 ^ 26 → engDecode (wordB 0x30 0 0 disp) = some .br) ∧
    (disp < 2 ^ 22 → engDecode (wordB 0x31 22 (p * 2 ^ 2 + c) disp) = some .bp) ∧
    (disp < 2 ^ 21 → engDecode (wordB 0x32 21 rd disp) = some .jal ∧ engDecode (wordB 0x34 21 rd disp) = some .loop) ∧
    engDecode (wordI 0x33 0 ra 0) = some .jr ∧
    Spells [.yield, .eop] 0x35 (fun m => wordI m 0 0 0)

/-- The statements above on one subject, together. -/
def Obligations.EngineRecords : Prop :=
  ClaimEngineControlWords ∧ ClaimEnginePop ∧ ClaimEngineForwardPush ∧ ClaimEngineItems

/-! ## Trigger sequencers (08) -/

/-- 08 R276 to R279: an armed sequencer takes the action of slot A when A's condition holds, and of B when only B's does; the
action names the next state and works on the counters; the new state's slots are first evaluated in the next tick. Every other
sequencer stays. -/
def ClaimFlintTransitionTaken : Prop :=
  ∀ (f : Fin 8) (s : State),
    let q := s.seqr f.val
    let a := s.slot f.val q.state 0
    let b := s.slot f.val q.state 1
    let counter := fun (op v load : Nat) => [v, min 0xFFFFFFFF (v + 1), v - 1, load].getD op v
    let takes := fun (x : Slot) => Completes (.flintTransition f) s (fun t =>
      let r := t.seqr f.val
      r.state = fld x.action 28 4 ∧ r.prev = q.state ∧ r.moved = s.now + 1 ∧
      r.c0 = counter (fld x.action 13 2) q.c0 (s.cntLoad f.val 0) ∧ r.c1 = counter (fld x.action 15 2) q.c1 (s.cntLoad f.val 1) ∧
      r.armed = !bit x.action 1 ∧
      (bit x.action 27 = true → s.holding f.val = false → r.num = (q.num + 1) % 2 ^ 32) ∧
      (bit x.action 27 = false → r.num = q.num) ∧
      (∀ g, g ≠ f.val → t.seqr g = s.seqr g) ∧ t.fl.image = s.fl.image ∧ t.ch = s.ch)
    q.armed = true → q.moved ≤ s.now →
      (s.slotHolds a = true → takes a) ∧ (s.slotHolds a = false → s.slotHolds b = true → takes b)

/-- 08 R279 to R281: what ends by itself. A running timer that reaches 0 stops and its line shows 1; a hold-off ends; the end of
a TRIG_OUT pulse ends a SET level that is older than the pulse. -/
def ClaimFlintTimedEnds : Prop :=
  ∀ (f : Fin 8) (k : Fin 2) (n : Fin 4) (s : State),
    (let tm := (s.seqr f.val).tmr k.val
     tm.run = true → tm.fin ≤ s.now → Completes (.flintTimerZero f k) s (fun t =>
      (t.seqr f.val).tmr k.val = ⟨0, false, 0⟩ ∧ (t.level (150 + 4 * f.val + k.val)).now = true ∧
      (∀ g, g ≠ f.val → t.seqr g = s.seqr g))) ∧
    (∀ d, (s.seqr f.val).holdEnd = some d → d ≤ s.now → Completes (.flintHoldoffEnd f) s (fun t =>
      t.seqr f.val = { s.seqr f.val with holdEnd := none } ∧ t.holding f.val = false ∧ ∀ g, g ≠ f.val → t.seqr g = s.seqr g)) ∧
    (∀ d, (s.tout n.val).until_ = some d → d ≤ s.now → Completes (.trigOutPulseEnd n) s (fun t =>
      (t.tout n.val).until_ = none ∧
      (∀ x y, (s.tout n.val).setAt = some x → (s.tout n.val).pulseAt = some y → x < y → (t.tout n.val).level = false) ∧
      (∀ x y, (s.tout n.val).setAt = some x → (s.tout n.val).pulseAt = some y → y ≤ x →
        (t.tout n.val).level = (s.tout n.val).level) ∧
      (∀ j, j ≠ n.val → t.tout j = s.tout j)))

/-- 08 R280, R284, R283: an auto trigger of an armed sequencer that has been silent for FLINT_AUTO ticks takes the next number,
counts in FLINT_FORCED_CNT and starts a hold-off of at least 150 ticks, and is suppressed and counted during one; a trigger whose
events have their times leaves as a TRIGGER record, and FLINT_LAST_TS takes the low half of the latest of them. -/
def ClaimFlintAutoAndComplete : Prop :=
  ∀ (f : Fin 8) (s : State),
    let q := s.seqr f.val
    (q.armed = true → s.autoTicks f.val ≠ 0 → q.autoBase + s.autoTicks f.val ≤ s.now →
      (s.holding f.val = false → Completes (.flintAutoTrigger f) s (fun t =>
        (t.seqr f.val).num = (q.num + 1) % 2 ^ 32 ∧
        (∃ e, (t.seqr f.val).holdEnd = some e ∧ s.now + 150 ≤ e) ∧ (t.seqr f.val).state = q.state ∧
        Counts s t (Reg.FLINT_FORCED_CNT f.val))) ∧
      (s.holding f.val = true → Completes (.flintAutoTrigger f) s (fun t =>
        (t.seqr f.val).num = q.num ∧ Counts s t (Reg.FLINT_SUPP_CNT f.val)))) ∧
    (∀ w c, s.fl.waits.find? (fun x => x.f == f.val) = some w → w.cands = [c] → c.ref = none →
      Completes (.triggerComplete f) s (fun t =>
        t.fl.waits = s.fl.waits.erase w ∧ t.rget (Reg.FLINT_LAST_TS f.val) = c.ts.setWidth 32 ∧
        ∃ x ∈ (t.island 0).evq, ∃ r, x.recs = [r] ∧ r.typ = tTRIGGER ∧ r.cls = 2 ∧ r.idx = f.val ∧ r.ts = c.ts))

/-- 08 R271, R273: the marks of a group that have run out go and the others stay; a new level of TRIG_IN[k] shows on line 64 + k,
inverted with FLINT_TRIGIN.inv. -/
def ClaimFlintMarksAndInputs : Prop :=
  ∀ (k : Fin 4) (v : Bool) (s : State),
    Completes .groupMarkExpiry s (fun t => (∀ g, g < 64 → t.marksOf g = (s.marksOf g).filter (fun e => decide (s.now < e.2))) ∧
      t.fl.seqs = s.fl.seqs ∧ t.fl.image = s.fl.image) ∧
    Completes (.trigInChange k v) s (fun t =>
      (t.level (64 + k.val)).now = (v != s.rb Reg.FLINT_TRIGIN k.val) ∧
      (∀ l, l ≠ 64 + k.val → t.level l = s.level l) ∧ t.fl.seqs = s.fl.seqs)

/-- 08 R288 to R291: a remote trigger that arrives on a port that carries them, and is no duplicate, waits in the queue of its
class, which holds eight; one that finds it full is counted in FLINT_RC_OVF; a delivered one pulses line 68 + class in that tick
with the message's time; and a message spelled in bytes reads back. -/
def ClaimFlintRemoteTriggers : Prop :=
  ∀ (p : PortN) (cls : Fin 16) (m : Msg) (r : RcMsg) (rest : List RcMsg) (s : State),
    let x := RcMsg.ofBytes m.payload p.val
    (s.headMsg p.val 1 0 = some m → s.trigPorts.contains p.val = true → s.rcDup x = false →
      (mget [] s.fl.rcq x.cls).all (fun y => y.num != x.num) = true → s.rb (Reg.FLINT_RC x.cls) 31 = false →
      ((mget [] s.fl.rcq x.cls).length < 8 → Completes (.trigger p) s (fun t =>
        mget [] t.fl.rcq x.cls = mget [] s.fl.rcq x.cls ++ [x] ∧
        (∀ c, c ≠ x.cls → mget [] t.fl.rcq c = mget [] s.fl.rcq c) ∧
        (t.port p.val).rx.inbox = (s.port p.val).rx.inbox.erase m)) ∧
      (8 ≤ (mget [] s.fl.rcq x.cls).length → Completes (.trigger p) s (fun t =>
        Counts s t Reg.FLINT_RC_OVF ∧ t.fl = s.fl))) ∧
    (mget [] s.fl.rcq cls.val = r :: rest → r.cls = cls.val → mget 0 s.fl.rcLast cls.val ≤ s.now →
      Completes (.rcDeliver cls) s (fun t =>
        mget [] t.fl.rcq cls.val = rest ∧ (⟨⟨68 + cls.val, r.ts, false, none⟩, s.now⟩ : LineEvt) ∈ t.fl.events ∧
        (r.origin, r.seq, r.num) ∈ t.fl.rcSeen ∧ mget 0 t.fl.rcLast cls.val = s.now + 1)) ∧
    (r.origin < 256 → r.seq < 256 → r.cls < 16 → r.num < 65536 → RcMsg.ofBytes r.bytes r.port = r)

/-- The statements above on one subject, together. -/
def Obligations.FlintEvents : Prop :=
  ClaimFlintTransitionTaken ∧ ClaimFlintTimedEnds ∧ ClaimFlintAutoAndComplete ∧ ClaimFlintMarksAndInputs ∧ ClaimFlintRemoteTriggers

/-- 08 R285, R296 to R298: the sequencer commands. FLINT_ARM puts each selected sequencer in its program's initial state with its
counters loaded, and disarms the others named; FLINT_FORCE makes each selected one take a trigger number at the tick that the
reply names; FLINT_LOAD of a program stores its words and marks the sequencer loaded. A write of the page that waits completes
first (03 R112). -/
def Obligations.FlintCommands : Prop :=
  ∀ (m : Master) (s : State),
    let e := entryOf s m.val
    let arm := e.p 0 1
    let dis := e.p 1 1
    let v := s.flintSettle
    (Admitted s m.val 0x0502 → e.len = 1 → arm &&& dis = 0 → arm + dis ≠ 0 → e.p 2 1 = 0 → e.p 3 5 = 0 →
      (∀ f, f < 8 → arm.testBit f = true → (v.seqr f).loaded = true) →
      AnswersAtBeacon (.flintArm m) s m.val (fun u res => res = [] ∧ ∀ f, f < 8 →
        (arm.testBit f = true → (u.seqr f).armed = true ∧ (u.seqr f).state = v.initState f ∧ (u.seqr f).holdEnd = none ∧
          (u.seqr f).c0 = v.cntLoad f 0 ∧ (u.seqr f).c1 = v.cntLoad f 1 ∧ (u.seqr f).t0run = false ∧ (u.seqr f).t1run = false) ∧
        (dis.testBit f = true → (u.seqr f).armed = false) ∧
        (arm.testBit f = false → dis.testBit f = false → u.seqr f = v.seqr f))) ∧
    (Admitted s m.val 0x0503 → e.len = 1 → arm ≠ 0 → dis ≤ 15 → e.p 2 1 ≤ 15 → e.p 3 1 ≤ 3 → e.p 4 4 = 0 →
      AnswersAt (.flintForce m) s m.val (fun u res ts => res = [] ∧ ts = s.tsNow ∧ ∀ f, f < 8 →
        (arm.testBit f = true → (u.seqr f).num = ((v.seqr f).num + 1) % 2 ^ 32 ∧ (u.seqr f).state = (v.seqr f).state ∧
          (u.seqr f).armed = (v.seqr f).armed ∧ Counts v u (Reg.FLINT_FORCED_CNT f)) ∧
        (arm.testBit f = false → u.seqr f = v.seqr f))) ∧
    (Admitted s m.val 0x0501 → e.p 0 1 = 0 → e.len = 68 → programOk e = true → (v.seqr (e.p 1 1)).armed = false →
      AnswersAtBeacon (.flintLoad m) s m.val (fun u res => res = [] ∧ (u.seqr (e.p 1 1)).loaded = true ∧
        (∀ k, k < 136 → u.img (136 * e.p 1 1 + k) = BitVec.ofNat 32 (e.p (4 * k) 4)) ∧
        (∀ j, j < 136 * e.p 1 1 ∨ 136 * e.p 1 1 + 136 ≤ j → u.img j = v.img j)))

/-! ## Time (14) -/

/-- The three copies of Quartz agree on a normal time, and no change waits. -/
def QuartzCalm (s : State) : Prop :=
  s.qtz.b = s.qtz.a ∧ s.qtz.c = s.qtz.a ∧ s.qtz.a.t.ns.toNat < 1000000000 ∧ s.qtz.incPend = none ∧
    incMin.toNat ≤ s.qtz.a.inc.toNat ∧ s.qtz.a.inc.toNat ≤ incMax.toNat ∧ s.qtz.a.t.sec.toNat + 1 < 2 ^ 48

/-- 14 R452, R453: with no command waiting a step is one tick: {ns, fraction} takes INC, a carry at 10^9 ns goes into the seconds
and makes a second boundary, and nothing but Quartz changes. The step on an empty queue is the model's choice (log entry 1). -/
def ClaimQuartzTick : Prop :=
  ∀ s : State, s.pending = [] → QuartzCalm s →
    ∃ t, step s = .next t ∧ t = { s with qtz := t.qtz, cyc := [] } ∧ t.qtz.now = s.qtz.now + 1 ∧ t.qtz.b = t.qtz.a ∧ t.qtz.c = t.qtz.a ∧
      t.qtz.time.full = s.qtz.time.full + s.qtz.a.inc.toNat ∧ t.qtz.time.ns.toNat < 1000000000 ∧
      (t.qtz.time.sec ≠ s.qtz.time.sec → t.qtz.secDue = true ∧ t.qtz.time.sec.toNat = s.qtz.time.sec.toNat + 1) ∧
      (t.qtz.now % 64 = s.qtz.pll % 64 → t.qtz.beaconDue = some t.qtz.time)

/-- 01 R20, 14 R453, R454, 11 R377, 18 R582: a beacon that is due is taken and its replies leave, or wait on in a pause of control; a second boundary pulses the SEC line,
starts PPS_OUT for 1 to 999 ms where it is enabled, and gives an EPOCH on the control port; so does a wrap of TS48 [47:16]; PPS_OUT
ends by itself. -/
def ClaimQuartzBoundaries : Prop :=
  ∀ s : State,
    (∀ q, s.qtz.beaconDue = some q → Completes .timeBeacon s (fun t =>
      t.qtz.beacon = q ∧ t.qtz.beaconDue = none ∧ t.cmd.atBeacon = (if s.triad.runs then [] else s.cmd.atBeacon) ∧ t.qtz.a = s.qtz.a)) ∧
    (s.qtz.secDue = true → s.qtz.reasons ≠ 0 → s.chgNow = false → s.qtz.voteBad = 0 → Completes .secondBoundary s (fun t =>
      t.qtz.secDue = false ∧ t.qtz.reasons = 0 ∧
      (⟨⟨189, s.qtz.reasonTime.ts, false, none⟩, s.now⟩ : LineEvt) ∈ t.fl.events ∧
      AtPort t 12 (fun r => r.typ = tEPOCH ∧ r.ts = s.qtz.reasonTime.ts ∧ fieldAt r.body 20 1 = s.qtz.reasons % 256) ∧
      (s.rb Reg.QTZ_PPS_OUT 31 = true → ∃ n, 1 ≤ n ∧ n ≤ 999 ∧ t.qtz.ppsUntil = some (s.now + 1500000 * n) ∧
        (1 ≤ s.rf Reg.QTZ_PPS_OUT 0 10 → s.rf Reg.QTZ_PPS_OUT 0 10 ≤ 999 → n = s.rf Reg.QTZ_PPS_OUT 0 10)) ∧
      (s.rb Reg.QTZ_PPS_OUT 31 = false → t.qtz.ppsUntil = s.qtz.ppsUntil))) ∧
    (s.qtz.wrapDue = true → s.qtz.reasons ≠ 0 → s.chgNow = false → Completes .ts48Wrap s (fun t =>
      t.qtz.wrapDue = false ∧ t.qtz.reasons = 0 ∧
      AtPort t 12 (fun r => r.typ = tEPOCH ∧ r.ts = s.qtz.reasonTime.ts ∧ fieldAt r.body 20 1 = s.qtz.reasons % 256))) ∧
    (∀ d, s.qtz.ppsUntil = some d → d ≤ s.now → Completes .ppsOutEnd s (fun t =>
      t = { s with qtz := { s.qtz with ppsUntil := none } }))

/-- 14 R456, R458 to R460: the TIME_EVENT of an applied INC names its tick and holds the new and the old value; a step or set at
its apply tick moves the time by exactly J where the limit of QTZ_JUMP_LIMIT and the sign of the result admit it, and otherwise
leaves the time and is counted in QTZ_REFUSE_CNT. -/
def ClaimQuartzChanges : Prop :=
  ∀ s : State,
    (∀ p o, s.qtz.incPend = some p → p.old = some o → Completes .incApply s (fun t =>
      t.qtz.incPend = none ∧ t.qtz.time = s.qtz.time ∧ EventSet t Reg.QTZ_EVT 1 ∧
      OnIsland0 t (fun r => r.typ = tTIME_EVENT ∧ r.ts = s.tsTick p.tick ∧ fieldAt r.body 4 1 = 10 ∧
        fieldAt r.body 8 8 = p.inc.toNat ∧ fieldAt r.body 16 8 = o.toNat))) ∧
    (∀ c, s.qtz.chg = some c → c.tick ≤ s.now →
      let j := s.jump c.kind
      (s.overLimit j = false → 0 ≤ s.qtz.time.full + j → s.qtz.time.full + j < 2 ^ 48 * 1000000000 * 2 ^ 32 →
        Completes .changeApply s (fun t => t.qtz.chg = none ∧ t.qtz.time.full = s.qtz.time.full + j ∧
          t.qtz.changes = s.qtz.changes + 1 ∧ (c.kind.isSet = true → t.qtz.timeValid = true ∧ EventSet t Reg.QTZ_EVT 2) ∧
          (c.kind.isSet = false → t.qtz.timeValid = s.qtz.timeValid ∧ EventSet t Reg.QTZ_EVT 3))) ∧
      (s.overLimit j = true ∨ s.qtz.time.full + j < 0 →
        Completes .changeApply s (fun t => t.qtz.chg = none ∧ t.qtz.time = s.qtz.time ∧ t.qtz.changes = s.qtz.changes ∧
          Counts s t Reg.QTZ_REFUSE_CNT ∧ EventSet t Reg.QTZ_EVT 6)))

/-- 14 R463: the voter takes the bitwise majority: a copy that differs from two that agree is marked, and the time is theirs. -/
def ClaimQuartzVote : Prop :=
  ∀ (x y : QCopy) (s : State), wfCopy x = true → wfCopy y = true → x ≠ y →
    incMin.toNat ≤ x.inc.toNat → x.inc.toNat ≤ incMax.toNat →
    let t0 : QTime := ⟨x.sec, x.ns, x.frac⟩
    let marks := fun (k : Nat) (t : State) => t.qtz.time = t0 ∧ t.qtz.voteBad = s.qtz.voteBad ||| 2 ^ k ∧
      t.qtz.timeValid = s.qtz.timeValid ∧ EventSet t Reg.QTZ_EVT 7
    Completes (.quartzVoteMismatch y x x) s (marks 0) ∧ Completes (.quartzVoteMismatch x y x) s (marks 1) ∧
    Completes (.quartzVoteMismatch x x y) s (marks 2)

/-- The statements above on one subject, together. -/
def Obligations.QuartzTime : Prop := ClaimQuartzTick ∧ ClaimQuartzBoundaries ∧ ClaimQuartzChanges ∧ ClaimQuartzVote

/-- 14 R457, R479 to R481: TOD_SET, TOD_STEP and TOD_SET_INCREMENT leave one pending change whose apply tick has a tick count that is a multiple of 64,
between 96 and 160 ticks on; BUSY while a set or step is pending, WRONG_STATE under the servo. -/
def ClaimTimeOfDayCommands : Prop :=
  ∀ (m : Master) (s : State),
    let e := entryOf s m.val
    let due := fun (k : Nat) => k % 64 = s.qtz.pll % 64 ∧ s.now + 96 ≤ k ∧ k < s.now + 160
    (Admitted s m.val 0x0A01 → e.len = 3 → e.p 6 2 = 0 → e.p 8 4 ≤ 999999999 → e.p 22 2 = 0 →
      (tsDiff (BitVec.ofNat 48 (e.p 16 6)) s.tsNow).natAbs ≤ 2000000000 * 65536 →
      (s.qtz.chg = none → Completes (.todSet m) s (fun t => ∃ k, due k ∧
        t.qtz.chg = some ⟨.set ((e.p 0 6 * 1000000000 + e.p 8 4) * 2 ^ 32 + e.p 12 4 : Nat) (BitVec.ofNat 48 (e.p 16 6)), k,
          some (ticketOf s m.val)⟩ ∧ t.qtz.time = s.qtz.time)) ∧
      (s.qtz.chg ≠ none → AnswersNow (.todSet m) s m.val stBUSY (fun u res => res = [] ∧ u.qtz = s.qtz))) ∧
    (Admitted s m.val 0x0A02 → e.len = 1 → e.p 0 8 ≠ 0 →
      (s.servoEn = false → s.qtz.chg = none → Completes (.todStep m) s (fun t => ∃ k, due k ∧
        t.qtz.chg = some ⟨.step (e.ps 0 8), k, some (ticketOf s m.val)⟩ ∧ t.qtz.time = s.qtz.time)) ∧
      (s.servoEn = true → AnswersNow (.todStep m) s m.val stWRONG_STATE (fun u res => res = [] ∧ u.qtz = s.qtz))) ∧
    (Admitted s m.val 0x0A03 → e.len = 1 → 0x0AA94D243 ≤ e.p 0 8 → e.p 0 8 ≤ 0x0AAC08313 → s.servoEn = false →
      s.qtz.incPend = none → Completes (.todSetIncrement m) s (fun t => ∃ k, due k ∧
        t.qtz.incPend = some ⟨BitVec.ofNat 36 (e.p 0 8), k, [ticketOf s m.val], none⟩ ∧ t.incReg = e.p 0 8 ∧
        t.qtz.time = s.qtz.time))

/-- 14 R466 to R469: a probe leaves with its t1 and awaits one echo; a probe that arrives on a DOWN port is counted as answered; an
echo that answers the outstanding probe, without a resend or a change of the time, adds its delay and offset to the last sixteen;
a probe without an echo in 200 µs fails. -/
def ClaimDelayProbes : Prop :=
  ∀ (p : PortN) (s : State),
    let x := s.probe p.val
    (s.rb Reg.QTZ_CTRL 29 = true → s.probes p.val = true → x.out = none → x.nextTick ≤ s.now →
      Completes (.probeSend p) s (fun t =>
        (∃ t1, (t.probe p.val).out = some ((x.num + 1) % 65536, t1, s.now, s.qtz.changes) ∧ (t1 = s.tsNow ∨ t1 = s.txStamp p.val)) ∧
        (t.probe p.val).nextTick = s.now + 1500 * max 50 (s.rf Reg.QTZ_CTRL 0 16) ∧ ∀ q, q ≠ p.val → t.probe q = s.probe q)) ∧
    (∀ m, s.headMsg p.val 1 1 = some m → (s.port p.val).role = 3 → Completes (.probe p) s (fun t =>
      Counts s t (banked Reg.QTZ_PROBE_CNT p.val) ∧ t.qtz.a = s.qtz.a)) ∧
    (∀ m n t1 at_ chg, s.headMsg p.val 1 2 = some m → x.out = some (n, t1, at_, chg) → fieldAt m.payload 0 2 = n →
      let up := tsDiff (BitVec.ofNat 48 (fieldAt m.payload 8 6)) t1
      let down := tsDiff m.ts (BitVec.ofNat 48 (fieldAt m.payload 16 6))
      let valid := m.resent = false ∧ x.resent = false ∧ fieldAt m.payload 2 1 % 2 = 0 ∧ s.qtz.changes = chg ∧
        (up + down) / 2 ≤ 65535 * 65536
      (valid → Completes (.echo p) s (fun t => (t.probe p.val).out = none ∧
        (t.probe p.val).delays = ((up + down) / 2 :: x.delays).take 16 ∧
        (t.probe p.val).offsets = ((up - down - (s.rget (banked Reg.QTZ_ASYM p.val)).toInt) / 2 :: x.offsets).take 16)) ∧
      (¬valid → Completes (.echo p) s (fun t => (t.probe p.val).out = none ∧ (t.probe p.val).delays = x.delays ∧
        Counts s t (banked Reg.QTZ_PROBE_FAIL p.val)))) ∧
    (∀ n t1 at_ chg, x.out = some (n, t1, at_, chg) → at_ + 300000 ≤ s.now → Completes (.probeTimeout p) s (fun t =>
      (t.probe p.val).out = none ∧ (t.probe p.val).delays = x.delays ∧ Counts s t (banked Reg.QTZ_PROBE_FAIL p.val)))

/-- 14 R473, R474: the servo takes one interval per sixteen exchanges; its first interval in ACQUIRE keeps the offset; without an
exchange for 256 probe intervals it enters HOLD and reports it. -/
def ClaimServoIntervals : Prop :=
  ∀ (p : Nat) (s : State),
    (s.followPort = some p → s.servoEn = true → 16 ≤ s.qtz.servo.exchanges → s.qtz.servo.pi = false → s.qtz.servo.prev = none →
      Completes .servoUpdate s (fun t => t.qtz.servo.exchanges = 0 ∧ t.qtz.servo.prev = some (s.offsetOf p) ∧ t.regs = s.regs)) ∧
    (s.servoEn = true → s.timeMaster = false → s.qtz.servo.follow ≠ 3 →
      s.qtz.servo.lastValid + 1500 * (256 * max 50 (s.rf Reg.QTZ_CTRL 0 16)) ≤ s.now →
      Completes .followLost s (fun t => t.qtz.servo.follow = 3 ∧ t.qtz.servo.exchanges = 0 ∧ EventSet t Reg.QTZ_EVT 9 ∧
        AtPort t 12 (fun r => r.typ = tALARM ∧ fieldAt r.body 4 2 = 0x0A01 ∧ fieldAt r.body 6 1 = 1)))

/-- The statements above on one subject, together. -/
def Obligations.TimeTransfer : Prop := ClaimTimeOfDayCommands ∧ ClaimDelayProbes ∧ ClaimServoIntervals

/-- 14 R472, 16 R544: an automatic PTM dialog starts when its interval has passed; a ResponseD ends it with t1, t4 − t1, the Master
Time and the delay in the registers; one without a ResponseD in 1 ms fails. The stamps are less the fused delay of the path's strobe
wire and the latency of its serialiser or deserialiser (01 R19, 14 R467), which the spec does not give: log entry 27. -/
def Obligations.PtmDialogs : Prop :=
  ∀ (mt : BitVec 64) (pd : Word) (ago : TS48) (s : State),
    let sent := s.tsNow - Config.strobeDelay 16 - Config.serLatency 16
    let came := s.tsNow - ago - Config.strobeDelay 16 - Config.desLatency 16
    let ms := s.rf Reg.HOSTIF_PTM_CTRL 0 16
    (s.rb Reg.HOSTIF_PTM_CTRL 31 = true → ms ≠ 0 → (s.pf 0).ptmEn = true → s.qtz.ptm.out = none → s.qtz.ptm.nextTick ≤ s.now →
      Completes .ptmDialogStart s (fun t => t.qtz.ptm.out = some (sent, s.now) ∧
        t.qtz.ptm.nextTick = s.now + 1500000 * ms ∧ t.out = s.out ++ [.ptmRequest] ∧ t.regs = s.regs)) ∧
    (∀ t1 at_, s.qtz.ptm.out = some (t1, at_) → Completes (.ptmResponse mt pd ago) s (fun t =>
      t.qtz.ptm.out = none ∧ t.qtz.ptm.t1 = t1 ∧ t.qtz.ptm.rtt = (came - t1).setWidth 32 ∧
      t.qtz.ptm.dialog = (s.qtz.ptm.dialog + 1) % 65536 ∧ t.rget Reg.HOSTIF_PTM_MT_LO = mt.setWidth 32 ∧
      t.rget Reg.HOSTIF_PTM_MT_HI = (mt >>> 32).setWidth 32 ∧ t.rget Reg.HOSTIF_PTM_PD = pd ∧ EventSet t Reg.HOSTIF_EVT 4)) ∧
    (∀ t1 at_, s.qtz.ptm.out = some (t1, at_) → at_ + 1500000 ≤ s.now → Completes .ptmTimeout s (fun t =>
      t.qtz.ptm.out = none ∧ Counts s t Reg.HOSTIF_PTM_FAIL ∧ EventSet t Reg.HOSTIF_EVT 5))


/-! ## Ownership and commands (03) -/

/-- A lease that a command may ask for: 0 for the default, or 50 to 600,000 ms (03 R96). -/
def LeaseOk (ms : Nat) : Prop := ms = 0 ∨ (50 ≤ ms ∧ ms ≤ 600000)

/-- The lease granted, in ms. -/
def grantedLease (s : State) (ms : Nat) : Nat := if ms = 0 then s.rf Reg.OWN_LEASE_DEFAULT 0 20 else ms

/-- Master `k` has become owner with this priority and lease and a token that the device has not issued before. -/
def OwnerNow (s t : State) (k prio lease : Nat) (forced : Bool) : Prop :=
  t.own.owner = some k ∧ t.own.prio = prio ∧ t.own.leaseMs = lease ∧ t.own.leaseEnd = s.now + 1500000 * lease ∧
    t.own.token ≠ 0 ∧ t.own.token ∉ s.own.issued ∧ t.own.issued = s.own.issued ++ [t.own.token] ∧
    t.own.lastForced = forced ∧ t.own.handover = none ∧ Counts s t Reg.OWN_CHANGES

/-- Ownership has become free. -/
def NoOwnerNow (s t : State) : Prop := t.own.owner = none ∧ t.own.waiting = s.own.waiting ∧ Counts s t Reg.OWN_CHANGES

/-- What an ownership command may change besides the queue of commands. -/
def ownParts : List Part := [.own, .cmd, .bus, .qtz, .regs, .triad, .freeCtr, .host, .out]

/-- 03 R95 to R97: OWN_CLAIM of a free device makes the claimer owner with a token never issued before; the owner's own claim
replaces priority and lease; a claim of an owned device is refused with the owner, its priority and the lease left, or waits with
PENDING for at most wait_ms, after which it leaves. A master has at most one waiting claim. A claim of M7 gives it no ownership
(03 R94). -/
def ClaimOwnershipClaim : Prop :=
  ∀ (m : Master) (s : State), s.own.issued.length + 1 < 2 ^ 64 →
    let e := entryOf s m.val
    let prio := e.p 0 1
    let lease := grantedLease s (e.p 4 4)
    (Admitted s m.val 0x0201 → e.len = 1 → prio ≤ 15 → e.p 1 1 ≤ 1 → LeaseOk (e.p 4 4) → (e.p 1 1 = 1 → e.p 2 2 ≠ 0) → m.val ≠ 7 →
      (s.own.owner = none → AnswersAtBeacon (.ownClaim m) s m.val (fun u res => OwnerNow s u m.val prio lease false ∧
        res = leBytes 8 u.own.token.toNat ++ leBytes 4 lease ++ leBytes 4 0 ∧ EventSet u Reg.OWN_EVT 0 ∧
        u.own.waiting = s.own.waiting ∧ Only ownParts s u)) ∧
      (s.ownerToken m.val e.token = true → AnswersAtBeacon (.ownClaim m) s m.val (fun u res =>
        u.own = { s.own with prio := prio, leaseMs := lease, leaseEnd := s.now + 1500000 * lease } ∧
        res = leBytes 8 s.own.token.toNat ++ leBytes 4 lease ++ leBytes 4 0 ∧ Only [.own, .cmd, .triad, .freeCtr] s u)) ∧
      (∀ k, s.own.owner = some k → s.ownerToken m.val e.token = false →
        (e.p 1 1 = 0 → AnswersNow (.ownClaim m) s m.val stREFUSED (fun u res => u = (s.takeCmd m.val).selfChecked ∧ u.own = s.own ∧
          res = leBytes 1 k ++ leBytes 1 s.own.prio ++ leBytes 2 0 ++ leBytes 4 ((s.own.leaseEnd - s.now) / 1500000))) ∧
        (e.p 1 1 = 1 → Completes (.ownClaim m) s (fun t => t.own =
          { s.own with waiting := s.own.waiting.filter (fun c => c.m != m.val) ++
              [⟨m.val, prio, lease, s.now + 1500000 * e.p 2 2, ticketOf s m.val⟩] })))) ∧
    (Admitted s 7 0x0201 → (entryOf s 7).len = 1 → (entryOf s 7).p 0 1 ≤ 15 → (entryOf s 7).p 1 1 ≤ 1 → LeaseOk ((entryOf s 7).p 4 4) →
      ((entryOf s 7).p 1 1 = 1 → (entryOf s 7).p 2 2 ≠ 0) → Completes (.ownClaim 7) s (fun t => t.own.owner = (taken s 7).own.owner)) ∧
    (s.own.waiting.any (fun c => c.m == m.val && decide (c.deadline ≤ s.now)) = true →
      Completes (.claimWaitTimeout m) s (fun t =>
        t.own = { s.own with waiting := s.own.waiting.filter (fun c => c.m != m.val) }))

/-- 03 R93, R99, R101, R104: the commands of the owner. OWN_RENEW restarts the lease, OWN_RELEASE frees the device, OWN_HANDOVER
names the successor and keeps the owner until the hand-over completes; OWN_QUERY and DEV_INFO change nothing but the queue; an
opcode outside the index answers UNKNOWN_OPCODE. -/
def ClaimOwnerCommands : Prop :=
  ∀ (m : Master) (s : State),
    let e := entryOf s m.val
    let left : Nat := if s.own.owner.isSome then ((taken s m.val).own.leaseEnd - s.now) / 1500000 else 0
    (Admitted s m.val 0x0202 → e.len = 0 → AnswersAtBeacon (.ownRenew m) s m.val (fun u res =>
      u.own = { s.own with leaseEnd := s.now + 1500000 * s.own.leaseMs } ∧ res = leBytes 4 s.own.leaseMs ++ leBytes 4 0 ∧
      Only [.own, .cmd, .triad, .freeCtr] s u)) ∧
    (Admitted s m.val 0x0203 → e.len = 0 → AnswersAtBeacon (.ownRelease m) s m.val (fun u res =>
      NoOwnerNow s u ∧ res = [] ∧ EventSet u Reg.OWN_EVT 1 ∧ Only ownParts s u)) ∧
    (Admitted s m.val 0x0204 → e.len = 1 → e.p 0 1 ≤ 6 → e.p 0 1 ≠ m.val → (e.p 0 1 = 6 → s.lifecycle = 1) →
      (e.p 1 1 ≤ 15 ∨ e.p 1 1 = 255) → e.p 2 2 = 0 → LeaseOk (e.p 4 4) →
      AnswersAtBeacon (.ownHandover m) s m.val (fun u res => res = [] ∧ u.own.owner = some m.val ∧
        u.own.handover = some ⟨e.p 0 1, if e.p 1 1 = 255 then s.own.prio else e.p 1 1, grantedLease s (e.p 4 4), false⟩ ∧
        Only [.own, .cmd, .triad, .freeCtr] s u)) ∧
    (Admitted s m.val 0x0205 → e.len = 0 → AnswersNow (.ownQuery m) s m.val stOK (fun u res => u = taken s m.val ∧
      res = leBytes 1 (s.own.owner.getD 0xFF) ++ leBytes 1 s.own.prio ++ leBytes 1 s.own.waiting.length
        ++ leBytes 1 (if s.own.lastForced then 1 else 0) ++ leBytes 4 left
        ++ leBytes 8 (if s.own.owner = some m.val then s.own.token.toNat else 0)
        ++ leBytes 4 (s.rget Reg.OWN_CHANGES).toNat ++ leBytes 4 0)) ∧
    (Admitted s m.val 0x0101 → e.len = 0 → AnswersNow (.devInfo m) s m.val stOK (fun u res => u = taken s m.val ∧
      fieldAt res 0 4 = 0x0192E1B0 ∧ fieldAt res 4 1 = s.sec.fuses.revision.toNat ∧ fieldAt res 5 1 = s.link.dev.id % 256 ∧
      fieldAt res 6 1 = s.lifecycle % 256 ∧ fieldAt res 8 4 = s.sec.start.fw.ver.toNat ∧
      fieldAt res 16 8 = s.sec.fuses.serial.toNat ∧ res.length = 24)) ∧
    (s.mayTake m.val = true → e.opcode ∉ opcodes →
      AnswersNow (.unknownOpcode m) s m.val stUNKNOWN_OPCODE (fun u res => u = s.takeCmd m.val ∧ res = []))

/-- The statements above on one subject, together. -/
def Obligations.OwnershipCommands : Prop := ClaimOwnershipClaim ∧ ClaimOwnerCommands

/-- 03 R97, R98, R100 to R102: what happens at a command boundary. A lease that has ended frees the device; a forced takeover
makes M4 owner; a hand-over gives the device to a successor that is present, and otherwise frees it; a free device goes to the
waiting claim of the highest priority, the oldest of them. -/
def Obligations.OwnershipBoundaries : Prop :=
  ∀ s : State, s.atBoundary = true → s.own.issued.length + 1 < 2 ^ 64 →
    (∀ k, s.own.owner = some k → s.own.leaseEnd ≤ s.now → Completes .leaseExpiry s (fun t =>
      NoOwnerNow s t ∧ EventSet t Reg.OWN_EVT 2 ∧ Only ownParts s t)) ∧
    (∀ p, s.own.force = some p → Completes .forcedTakeover s (fun t =>
      OwnerNow s t 4 p (grantedLease s 0) true ∧ t.own.force = none ∧ t.own.waiting = s.own.waiting ∧ EventSet t Reg.OWN_EVT 4 ∧
      Only ownParts s t)) ∧
    (∀ h, s.own.handover = some h → (∀ r ∈ s.cmd.atBeacon, r.tk.opcode ≠ 0x0204) → h.succ ≤ 6 →
      let here := h.succ = 4 ∨ (h.succ = 5 ∧ s.upPort ≠ none) ∨ (h.succ = 6 ∧ s.lifecycle = 1) ∨
        (h.succ < 4 ∧ h.flr = false ∧ (s.pf h.succ).rprEn = true ∧ s.host.up = true ∧ s.sec.straps.pcieEn = true)
      (here → Completes .handoverComplete s (fun t =>
        OwnerNow s t h.succ h.prio h.leaseMs false ∧ EventSet t Reg.OWN_EVT 3 ∧ Only ownParts s t)) ∧
      (¬here → Completes .handoverComplete s (fun t => NoOwnerNow s t ∧ Only ownParts s t))) ∧
    (∀ l1 c l2, s.own.owner = none → s.own.waiting = l1 ++ c :: l2 → (∀ d ∈ l1, d.prio < c.prio) →
      (∀ d ∈ l2, d.prio ≤ c.prio) → c.tk.req = true → Completes .ownershipGrant s (fun t =>
        OwnerNow s t c.m c.prio c.leaseMs false ∧ t.own.waiting = l1 ++ l2 ∧ EventSet t Reg.OWN_EVT 0 ∧
        (∃ r, t.cmd.atBeacon = s.cmd.atBeacon ++ [r] ∧ r.tk = c.tk ∧ r.status = stOK ∧
          r.result = leBytes 8 t.own.token.toNat ++ leBytes 4 c.leaseMs ++ leBytes 4 0) ∧
        Only ownParts s t))

/-- The message at the head of its VC of port `p` leaves on port `q` as it came. -/
def PassedOn (s t : State) (p q : Nat) (m : Msg) : Prop := t = (s.takeMsg p m).sendMsg q m.vc m.kind m.payload

/-- 03 R80, R106 to R110: a COMMAND for this device fills the next slot of M5 with byte 7 set to 5 and rings; a COMMAND or REPLY
for another device leaves on its route; a final REPLY ends the forwarded command and goes to its submitter, and one that comes
after its TIMEOUT is counted in CMD_FWD_LATE; a forwarded command without one in time is answered TIMEOUT. -/
def Obligations.ForwardedCommands : Prop :=
  ∀ (p : PortN) (s : State),
    (∀ m, s.headMsg p.val 0 0 = some m → 24 ≤ m.payload.length →
      let e := Entry.ofBytes (m.payload.drop 8)
      let q := s.cmdq 5
      (e.target = 0 ∨ (e.target = s.link.dev.id ∧ e.target ≠ 255) → s.ldev.up = some p.val → (q.tail + 128 - q.head) % 128 < 64 →
        Completes (.command p) s (fun t =>
          (t.cmdq 5).tail = (q.tail + 1) % 128 ∧ (t.cmdq 5).head = q.head ∧
          mget (0, 0) (t.cmdq 5).orig (q.tail % 64) = (fieldAt m.payload 0 1, fieldAt m.payload 1 1) ∧
          bytesAt t.cmd.sram (slotAddr 5 q.tail) (m.payload.length - 8) = overBytes (m.payload.drop 8) 7 [5] ∧
          (t.port p.val).rx.inbox = (s.port p.val).rx.inbox.erase m)) ∧
      (∀ r, e.target ≠ 0 → e.target ≠ 255 → e.target ≠ s.link.dev.id → (s.takeMsg p.val m).routePort e.target = some r →
        Completes (.command p) s (fun t => PassedOn s t p.val r m))) ∧
    (∀ m, s.headMsg p.val 0 1 = some m →
      let d := fieldAt m.payload 0 1
      let b := m.payload.drop 8
      let here := fun (f : Fwd) => f.tk.opcode = fieldAt b 0 2 ∧ f.tk.tag = fieldAt b 4 2 ∧
        (fieldAt b 6 1 ∈ f.missing ∨ (f.bcast = false ∧ fieldAt b 2 1 = stUNREACHABLE))
      (∀ r, d ≠ s.link.dev.id → (s.takeMsg p.val m).routePort d = some r →
        Completes (.reply p) s (fun t => PassedOn s t p.val r m)) ∧
      (d = s.link.dev.id → (∀ f ∈ s.cmd.fwd, ¬here f) → s.cmd.lateFwd = [(fieldAt b 0 2, fieldAt b 4 2, fieldAt b 6 1)] →
        Completes (.reply p) s (fun t => Counts s t Reg.CMD_FWD_LATE ∧ t.cmd.fwd = s.cmd.fwd ∧ t.cmd.q = s.cmd.q)) ∧
      (∀ f rest, d = s.link.dev.id → s.cmd.fwd = f :: rest → here f → f.missing = [fieldAt b 6 1] →
        fieldAt b 2 1 ≠ stPENDING → fieldAt b 2 1 ≠ stPARTIAL → Completes (.reply p) s (fun t => ∃ u : State, u.cmd.fwd = rest ∧
          t = u.writeReply ⟨f.tk, fieldAt b 2 1, (b.drop 16).take (8 * fieldAt b 3 1), BitVec.ofNat 48 (fieldAt b 8 6), false, fieldAt b 6 1⟩))) ∧
    (∀ f rest d, s.cmd.fwd = f :: rest → f.deadline ≤ s.now → f.missing = [d] → Completes .forwardTimeout s (fun t =>
      t = State.writeReply { s with cmd := { s.cmd with
          fwd := rest, lateFwd := s.cmd.lateFwd ++ [(f.tk.opcode, f.tk.tag, d)] } } ⟨f.tk, stTIMEOUT, [], s.beacon, true, d⟩))


/-! ## Register access (02) -/

/-- Master `m`'s accesses reach the registers, and it may write those of the owner: it is the owner, or the firmware. No guarded
pair is half written. -/
def MayWrite (s : State) (m : Nat) : Prop :=
  s.reaches m = true ∧ (m = 7 ∨ s.own.owner = some m) ∧ s.bus.guard = none

/-- The access completes with the response `r`, and `P` holds of the state after it. -/
def Responds (c : Instr) (s : State) (m : Nat) (r : Resp) (P : State → Prop) : Prop :=
  Completes c s (fun t => mget .none t.bus.resp m = r ∧ P t)

/-- A write that acts on nothing but the access log and the registers listed. -/
def Logged (l : List Nat) (s t : State) : Prop := Counts s t Reg.REGCTL_LOG_CNT ∧ RegsOnly (l ++ logRegs) s t

/-- Pages whose RW registers do nothing but hold their value. -/
def holdingPages : List Page := [.dev, .own, .regctl, .memctl, .comp, .sec, .isl, .islEng]

/-- 02 R51, R54, R55, R60, R61, R70: the order of checks on a write, and what a write stores. An unimplemented address, and a
partial write of a register with a field that is not RW, answer bus error; a master that is neither owner nor firmware, and one
that writes another master's own register, NOT_OWNER; a locked field ignores the write: each is logged and changes no other
register. A write of an RW register stores its implemented bits, within the limits of its fields; an alias sets, clears or toggles
the bits written as 1; a partial write keeps the other bytes; a read-only register ignores all. -/
def Obligations.RegisterWriteChecks : Prop :=
  ∀ (m : Master) (a : BitVec 26) (d : Word) (be : BitVec 4) (s : State), s.reaches m.val = true → s.bus.guard = none →
    let busErr := Responds (.registerWrite m a d be) s m.val .busError (Logged [Reg.HOSTIF_POSTED_DROP, Reg.HOSTIF_EVT] s)
    let denied := Responds (.registerWrite m a d be) s m.val .notOwner (Logged [] s)
    let bytes : Word := (List.range 4).foldl (fun w k => if be.getLsbD k then w ||| (0xFF#32 <<< (8 * k)) else w) 0
    (target a.toNat = none → busErr) ∧
    ∀ t, target a.toNat = some t →
      let old := s.rget t.addr
      (be ≠ 15 → t.allRw = false → busErr) ∧
      (be = 15 → m.val ≠ 7 → s.own.owner ≠ some m.val → t.perMaster = none → t.loc.page ≠ .own → t.loc.page ≠ .dev → denied) ∧
      (∀ k, be = 15 → t.perMaster = some k → k ≠ m.val → m.val ≠ 7 → denied) ∧
      (MayWrite s m.val → t.perMaster = none →
        (be = 15 → t.desc.kind = .rwl → t.alias_ = 0 → t.loc.page ≠ .ch → s.rb (t.page + 0xFF8) 0 = true →
          Responds (.registerWrite m a d be) s m.val .written (Logged [] s)) ∧
        (be = 15 → t.desc.kind = .ro → Responds (.registerWrite m a d be) s m.val .written (RegsOnly [] s)) ∧
        (t.loc.page ∈ holdingPages → t.desc.side = .none → t.alias_ = 0 →
          (be = 15 → (t.desc.kind = .rw ∨ (t.desc.kind = .rwl ∧ s.rb (t.page + 0xFF8) 0 = false)) →
            Responds (.registerWrite m a d be) s m.val .written (fun u => u.rget t.addr = t.desc.limited d ∧ RegsOnly [t.addr] s u)) ∧
          (be ≠ 15 → t.allRw = true →
            Responds (.registerWrite m a d be) s m.val .written (fun u =>
              u.rget t.addr = t.desc.limited ((old &&& ~~~bytes) ||| (d &&& bytes)) ∧ RegsOnly [t.addr] s u))) ∧
        (t.loc.page ∈ holdingPages → t.desc.side = .none → t.desc.kind = .rw → be = 15 → t.alias_ ≠ 0 →
          let on := d &&& t.desc.wmask
          Responds (.aliasWrite m a d be) s m.val .written (fun u => RegsOnly [t.addr] s u ∧
            (t.alias_ = 1 → u.rget t.addr = t.desc.limited (old ||| on)) ∧
            (t.alias_ = 2 → u.rget t.addr = t.desc.limited (old &&& ~~~on)) ∧
            (t.alias_ = 3 → u.rget t.addr = t.desc.limited (old ^^^ on)))))

/-- The state in which a read of address `a` by master `m` is served: the read has been counted (21 R653). -/
def readServed (s : State) (m a : Nat) : State := s.perfM 1 0 none m (some a) 1

/-- 02 R57, R58, R62, R63, R72, 21 R652: a read of LO returns it and keeps HI in the latch that the master has in the page, in place of
what that held; a read of HI by this master returns what was kept for its pair, and otherwise the live HI; a write of LO waits, and that of HI stores both; an event register clears its flags when the sequence
number written is the one before any event of the cycle, whose flags survive, and otherwise stays; a counter takes the value written plus
the counts of the cycle, with ovf clear unless one of these carried; a select that names an
event starts its counter at 0. -/
def Obligations.PairsEventsCounters : Prop :=
  ∀ (m : Master) (a a' : BitVec 26) (d : Word) (s : State),
    (∀ t h, s.reaches m.val = true → target a.toNat = some t → t.addr = a.toNat → t.desc.side = .lo →
      target (t.addr + 4) = some h → h.desc.side = .hi → h.page = t.page → h.addr = t.addr + 4 → a'.toNat = t.addr + 4 →
      let u := readServed s m.val a.toNat
      Responds (.pairLoRead m ⟨a, 15⟩) s m.val (.data (u.seen m.val t)) (fun x =>
        ∀ v : State, v.bus.latch = x.bus.latch → v.reaches m.val = true →
          Responds (.pairLoRead m ⟨a', 15⟩) v m.val (.data (u.seen m.val h)) (fun _ => True))) ∧
    (∀ t, s.reaches m.val = true → target a.toNat = some t →
      (t.desc.side = .lo → Responds (.pairLoRead m ⟨a, 15⟩) s m.val (.data ((readServed s m.val a.toNat).seen m.val t)) (fun x =>
        (∃ v, mget none x.bus.latch (latchKey t.page m.val) = some ⟨t.addr, v⟩) ∧
        ∀ k, k ≠ latchKey t.page m.val → mget none x.bus.latch k = mget none s.bus.latch k)) ∧
      (t.desc.side = .hi → (∀ l, mget none s.bus.latch (latchKey t.page m.val) = some l → l.addr + 4 ≠ t.addr) →
        Responds (.pairLoRead m ⟨a, 15⟩) s m.val (.data ((readServed s m.val a.toNat).seen m.val t)) (fun x => x.bus.latch = s.bus.latch))) ∧
    (MayWrite s m.val →
      (∀ k : Fin 64, (s.stream k.val).st = 0 →
        (a.toNat = Reg.HOSTIF_SR_BASE_LO k.val → Responds (.pairLoWrite m a d) s m.val .written (fun t => RegsOnly [] s t ∧
          mget none t.bus.staged (latchKey 0xB0000 m.val) = some ⟨a.toNat, d &&& 0xFFFFFFC0⟩)) ∧
        (∀ v, a.toNat = Reg.HOSTIF_SR_BASE_HI k.val →
          mget none s.bus.staged (latchKey 0xB0000 m.val) = some ⟨Reg.HOSTIF_SR_BASE_LO k.val, v⟩ →
          Responds (.pairHiWrite m a d) s m.val .written (fun t =>
            t.rget (Reg.HOSTIF_SR_BASE_LO k.val) = v ∧ t.rget a.toNat = d ∧
            RegsOnly [Reg.HOSTIF_SR_BASE_LO k.val, a.toNat] s t))) ∧
      (∀ t, target a.toNat = some t → t.desc.kind = .seq → t.alias_ = 0 → ¬perfCell t.addr →
        let now := (s.cycOf t.addr).flags
        let before := if now = 0 then fld (s.rget t.addr) 24 8 else (fld (s.rget t.addr) 24 8 + 255) % 256
        (fld d 24 8 = before → Responds (.eventClear m a d) s m.val .written (fun u =>
          u.rget t.addr = setFld (s.rget t.addr) 0 24 (now % 2 ^ 24) ∧ RegsOnly [t.addr] s u)) ∧
        (fld d 24 8 ≠ before → Responds (.eventClear m a d) s m.val .written (fun u =>
          Logged [] s u ∧ EventSet u Reg.REGCTL_EVT 5))) ∧
      (∀ t, target a.toNat = some t → t.desc.kind = .cnt → t.alias_ = 0 → t.loc.page ≠ .qtz → t.loc.page ≠ .lagoon → ¬perfCell t.addr →
        Responds (.counterWrite m a d) s m.val .written (fun u => RegsOnly [t.addr] s u ∧
          let n := fld d 0 31 + (s.cycOf t.addr).incs
          fld (u.rget t.addr) 0 31 = n % 2 ^ 31 ∧ bit (u.rget t.addr) 31 = ((s.cycOf t.addr).ovf || decide (2 ^ 31 ≤ n)))) ∧
      (∀ k, selOk d = true → Responds (.perfSelWrite m k d) s m.val .written (fun u =>
        u.rget (Reg.PERF_SEL k.val) = d ∧ u.rget (Reg.PERF_CNT_LO k.val) = 0 ∧ u.rget (Reg.PERF_CNT_HI k.val) = 0)))

/-- The posted write `p` of a page is done: it waits no more. -/
def PostedDone (s t : State) (page : Nat) : Prop := mget none t.bus.posted page = none ∧ t.bus.guard = s.bus.guard

/-- 02 R65, R66, R68 to R70: a posted register takes its value later, and a second write of its page meanwhile is lost; a guarded
register takes its first write when the second one, to A + 4, is its complement, from the same master within 100 µs; otherwise,
and after that time, the pair fails; a lock register takes one write. -/
def Obligations.PostedGuardedLocked : Prop :=
  ∀ (m : Master) (a : BitVec 26) (d : Word) (f : Fin 8) (s : State),
    let hold := Reg.FLINT_HOLDOFF f.val
    (MayWrite s m.val → a.toNat = hold →
      (mget none s.bus.posted 0x30000 = none → Responds (.registerWrite m a d 15) s m.val .written (fun t =>
        (∃ p, mget none t.bus.posted 0x30000 = some p ∧ p.addr = hold ∧ p.value = d ∧ p.m = m.val) ∧ RegsOnly [] s t)) ∧
      (∀ p, mget none s.bus.posted 0x30000 = some p → Responds (.registerWrite m a d 15) s m.val .written (fun t =>
        t.bus.posted = s.bus.posted ∧ Logged [Reg.FLINT_POSTED] s t ∧ EventSet t Reg.FLINT_POSTED 1))) ∧
    (∀ p, mget none s.bus.posted 0x30000 = some p → p.addr = hold → a.toNat / 0x4000 = 0x0C →
      Completes (.postedWriteDone a) s (fun t => PostedDone s t 0x30000 ∧ RegsOnly [hold] s t ∧
        ∃ x, target hold = some x ∧ t.rget hold = x.desc.limited p.value)) ∧
    (∀ r ∈ [Reg.OWN_FORCE, Reg.QTZ_STEP, Reg.QTZ_JUMP_LIMIT, Reg.SEC_PROG_SLOT, Reg.SEC_LC_ADVANCE],
      (MayWrite s m.val → a.toNat = r → Responds (.guardFirstWrite m a d) s m.val .written (fun t =>
        t.bus.guard = some ⟨m.val, r, d, s.now⟩ ∧ RegsOnly [] s t)) ∧
      (∀ g, s.reaches m.val = true → m.val = 7 ∨ s.own.owner = some m.val → s.bus.guard = some g → g.addr = r → a.toNat = r + 4 →
        d ≠ ~~~g.value ∨ g.m ≠ m.val ∨ g.tick + 150000 < s.now →
        Responds (.guardSecondWrite m a d) s m.val .written (fun t => t.bus.guard = none ∧ Logged [] s t ∧ t.qtz = s.qtz ∧
          t.sec = s.sec ∧ t.own = s.own))) ∧
    (∀ g, s.reaches m.val = true → m.val = 7 ∨ s.own.owner = some m.val → s.bus.guard = some g → g.addr = Reg.QTZ_JUMP_LIMIT →
      a.toNat = Reg.QTZ_JUMP_LIMIT + 4 → d = ~~~g.value → g.m = m.val → s.now ≤ g.tick + 150000 →
      Responds (.guardSecondWrite m a d) s m.val .written (fun t => t.bus.guard = none ∧ t.rget Reg.QTZ_JUMP_LIMIT = g.value ∧
        RegsOnly [Reg.QTZ_JUMP_LIMIT] s t)) ∧
    (∀ g, s.reaches 4 = true → s.bus.guard = some g → g.addr = Reg.OWN_FORCE → a.toNat = Reg.OWN_FORCE + 4 → d = ~~~g.value →
      g.m = 4 → s.now ≤ g.tick + 150000 → fld g.value 8 8 = 0xA5 →
      Responds (.guardSecondWrite 4 a d) s 4 .written (fun t => t.bus.guard = none ∧
        t.own = { s.own with force := some (fld g.value 0 4) })) ∧
    (∀ g, s.bus.guard = some g → g.tick + 150000 ≤ s.now → Completes .guardTimeout s (fun t => t.bus.guard = none ∧ Logged [] s t)) ∧
    (∀ r ∈ [Reg.DEV_LOCK, Reg.OWN_LOCK, Reg.EMIT_LOCK, Reg.TRIAD_LOCK, Reg.MEMCTL_LOCK], MayWrite s m.val → a.toNat = r →
      (r ∉ s.bus.wo1 → Responds (.lockWrite m a d) s m.val .written (fun t =>
        t.rget r = d &&& 1 ∧ r ∈ t.bus.wo1 ∧ RegsOnly [r] s t)) ∧
      (r ∈ s.bus.wo1 → Responds (.lockWrite m a d) s m.val .written (fun t => Logged [] s t ∧ t.bus.wo1 = s.bus.wo1)))

/-- Status byte of a management SPI response (02 R76). -/
def spiStatus (r : Resp) : Byte := match r with | .busError => 0x81 | .notOwner => 0x82 | .timeout => 0x83 | _ => 0x80

/-- The word of a response, 0 without one. -/
def respWord (r : Resp) : Nat := match r with | .data w => w.toNat | _ => 0

/-- 02 R75 to R78, 15 R511, R519: a management SPI frame is M4's access and answers with its status and, for a read, the word; an
access that does not complete answers 0x83 after 256 wait bytes. A REG_ACCESS from the active UP port for this device is M5's access
and sends the REG_RESULT to its origin; one for another device leaves on its route. RACC_GO sends one. -/
def Obligations.SpiAndRemoteAccess : Prop :=
  ∀ (mosi : List Byte) (a : BitVec 26) (m : Master) (p : PortN) (d : Word) (s : State),
    (fieldAt mosi 0 1 = 0x03 → 5 ≤ mosi.length → fieldAt mosi 1 4 = a.toNat → s.reaches 4 = true → Completes (.mgmtSpiFrame mosi) s (fun t =>
      ∃ u, exec (.pairLoRead 4 ⟨a, 15⟩) s = .next u ∧
        let r := mget .none u.bus.resp 4
        t = { u with bus := { u.bus with miso := (spiStatus r :: leBytes 4 (respWord r)).take (mosi.length - 5) } })) ∧
    (fieldAt mosi 0 1 = 0x02 → 9 ≤ mosi.length → fieldAt mosi 1 4 = a.toNat → s.reaches 4 = true → Completes (.mgmtSpiFrame mosi) s (fun t =>
      ∃ u, exec (.registerWrite 4 a (BitVec.ofNat 32 (fieldAt mosi 5 4)) 15) s = .next u ∧
        t = { u with bus := { u.bus with miso := [spiStatus (mget .none u.bus.resp 4)].take (mosi.length - 9) } })) ∧
    (fieldAt mosi 0 1 = 0x03 → 5 + 261 ≤ mosi.length → s.reaches 4 = true → Completes (.spiAccessTimeout mosi) s (fun t =>
      mget .none t.bus.resp 4 = .timeout ∧ t.bus.miso = List.replicate 256 0 ++ [0x83, 0, 0, 0, 0] ∧ Only [.bus] s t)) ∧
    (∀ x, s.headMsg p.val 0 2 = some x →
      let l := x.payload
      let v := s.takeMsg p.val x
      (fieldAt l 0 1 = s.link.dev.id → s.ldev.up = some p.val → fieldAt l 4 4 = a.toNat → Completes (.regAccess p) s (fun t =>
        ∃ u, exec (if bit (BitVec.ofNat 32 (fieldAt l 2 1)) 0 then .registerWrite 5 a (BitVec.ofNat 32 (fieldAt l 8 4)) 15
            else .pairLoRead 5 ⟨a, 15⟩) v = .next u ∧
          let r := mget .none u.bus.resp 5
          ∀ q, u.routePort (fieldAt l 1 1) = some q →
            t = u.sendMsg q 0 3 (leBytes 1 (fieldAt l 1 1) ++
              leBytes 1 (match r with | .busError => stBAD_PARAM | .notOwner => stNOT_OWNER | _ => stOK) ++ leBytes 1 0 ++
              leBytes 1 (fieldAt l 3 1) ++ leBytes 4 0 ++ leBytes 4 (respWord r)))) ∧
      (∀ q, fieldAt l 0 1 ≠ v.link.dev.id → fieldAt l 0 1 ≠ 255 → v.routePort (fieldAt l 0 1) = some q →
        Completes (.regAccess p) s (fun t => PassedOn s t p.val q x))) ∧
    (MayWrite s m.val → bit d 31 = true → s.ldev.racc = none → Responds (.raccGo m d) s m.val .written (fun t =>
      (s.routePort (s.rf Reg.LINK_RACC_TARGET 0 8) ≠ none → t.ldev.racc = some ⟨(s.ldev.raccTag + 1) % 256,
        s.rf Reg.LINK_RACC_TARGET 0 8, bit d 30, s.now + 1500000 * s.rf Reg.CMD_FWD_TIMEOUT 0 16⟩) ∧ t.cmd = s.cmd))

/-- The posted write of register `a` that waits in the page at `page`. -/
def Waits (s : State) (page a : Nat) (p : Posted) : Prop := mget none s.bus.posted page = some p ∧ p.addr = a

/-- 04 R137, R138, 05 R184, 07 R267, 08 R297, 17 R563, 19 R612: the posted writes that act. Enabling the excitation starts it,
100 µs before its first pulse; disabling discharges what may be charged; the gradient drift starts again; a capture fills or arms,
or ends; a sequencer arms or disarms; a bank changes its owner when it has served what its owner has issued; an emitter starts with its test, or ends with its discharge. -/
def ClaimPostedWritesAct : Prop :=
  ∀ (c : Ch) (f : Fin 8) (n : EmN) (p : Posted) (s : State),
    let page := 0x100000 + c.val * 0x4000
    let done := fun (i : Instr) (g : State → Prop) => Completes i s (fun t => g t ∧ mget none t.bus.posted (p.addr / 0x4000 * 0x4000) = none)
    let fe := s.fe c.val
    (Waits s page (Reg.CH_EXC_CTRL c.val) p → bit p.value 8 = false →
      (bit p.value 0 = true → s.rb (Reg.CH_EXC_CTRL c.val) 0 = false → s.retired = false →
        ((fe.exc = .off ∨ fe.exc = .fault) → done (.excEnable c) (fun t =>
          (t.fe c.val).exc = .idle ∧ (t.fe c.val).nextPulse = some (s.now + 150000))) ∧
        (fe.exc = .discharge → done (.excEnable c) (fun t => (t.fe c.val).exc = .enablePending))) ∧
      (bit p.value 0 = false → s.rb (Reg.CH_EXC_CTRL c.val) 0 = true → done (.excDisable c) (fun t =>
        (fe.exc = .pulse ∨ fe.exc = .vwDrive ∨ fe.exc = .discharge ∨ fe.exc = .enablePending → (t.fe c.val).exc = .discharge) ∧
        (fe.exc = .off ∨ fe.exc = .idle ∨ fe.exc = .fault ∨ fe.exc = .vwListen → (t.fe c.val).exc = .off)))) ∧
    (Waits s page (Reg.CH_BGCAL_CTRL c.val) p → bit p.value 1 = true → done (.bgcalRestart c) (fun t =>
      (t.cv c.val).converged = false ∧ (t.cv c.val).bgQuiet = 0 ∧ (t.cv c.val).drift = 0)) ∧
    (Waits s page (Reg.CH_CAP_CTRL c.val) p →
      (bit p.value 29 = true → fld p.value 30 2 = 1 ∨ fld p.value 30 2 = 2 → (s.capc c.val).st = .off → done (.captureArm c) (fun t =>
        (t.capc c.val).st = if s.rf (Reg.CH_CAP_PRE c.val) 0 16 ≤ (s.capc c.val).ring.length then .armed else .filling)) ∧
      (fld p.value 30 2 = 0 → done (.captureModeOff c) (fun t =>
        ((s.capc c.val).st = .filling ∨ (s.capc c.val).st = .armed ∨ (s.capc c.val).st = .holdoff → (t.capc c.val).st = .off) ∧
        ((s.capc c.val).st = .post ∨ (s.capc c.val).st = .spill ∨ (s.capc c.val).st = .readout →
          (t.capc c.val) = { s.capc c.val with offPend := true })))) ∧
    (Waits s 0x30000 (Reg.FLINT_CTRL f.val) p →
      (bit p.value 0 = true → bit p.value 1 = false → (s.seqr f.val).loaded = true → done (.flintCtrlArm f) (fun t =>
        (t.seqr f.val).armed = true ∧ (t.seqr f.val).state = s.initState f.val ∧ ∀ g, g ≠ f.val → t.seqr g = s.seqr g)) ∧
      (bit p.value 0 = false → bit p.value 1 = true → done (.flintCtrlDisarm f) (fun t =>
        (t.seqr f.val).armed = false ∧ (t.seqr f.val).state = (s.seqr f.val).state ∧ ∀ g, g ≠ f.val → t.seqr g = s.seqr g))) ∧
    (Waits s 0x80000 Reg.MEMCTL_BANK_OWNER p →
      let b := fld p.value 24 7
      let kind := fld p.value 16 3
      let index := fld p.value 0 8
      (ownerOk b kind index = true → s.bankQueued b = false → done .bankOwnerHandover (fun t =>
        (t.bank b).owner = kind ∧ (t.bank b).index = index ∧ (∀ k, k ≠ b → t.bank k = s.bank k) ∧ EventSet t Reg.MEMCTL_EVT 8)) ∧
      (ownerOk b kind index = true → s.bankQueued b = true → Completes .bankOwnerHandover s (fun t =>
        t.bank b = { s.bank b with hand := some (kind, index) } ∧ (∀ k, k ≠ b → t.bank k = s.bank k) ∧ t.bus = s.bus ∧
        t.regs = s.regs)) ∧
      (ownerOk b kind index = false → done .bankOwnerHandover (fun t =>
        (∀ k, t.bank k = s.bank k) ∧ EventSet t Reg.MEMCTL_EVT 9))) ∧
    (Waits s 0x50000 (Reg.EM_CTRL n.val) p →
      (bit p.value 31 = true → s.retired = false → (s.emitter n.val).st = 0 → done (.emEnable n) (fun t =>
        (t.emitter n.val).st = 1 ∧ (t.emitter n.val).due = s.now + 30000 ∧ ∀ k, k ≠ n.val → t.emitter k = s.emitter k)) ∧
      (bit p.value 31 = false → (s.emitter n.val).st = 1 ∨ (s.emitter n.val).st = 2 → done (.emDisable n) (fun t =>
        (t.emitter n.val).st = 3 ∧ (t.emitter n.val).due = s.now + 30000 ∧ ∀ k, k ≠ n.val → t.emitter k = s.emitter k)))

/-- 03 R81, R82, R85, 05 R195, 06 R231, 12 R406, 15 R488, R503, 16 R537, R544, 17 R573, 18 R598, 21 R658: writes and reads of one
register that act, by a master that may write: a command word, a doorbell, a reply head; a snapshot; a conversion of the house-keeping
by software; a reference; a queue flush; a lane; a time message sent and one read; a ring; a PTM dialog; a transfer of a bank; an
alarm acknowledged. -/
def ClaimRegisterWritesAct : Prop :=
  ∀ (m : Master) (p : PortN) (l : Fin 16) (k : Fin 68) (a : BitVec 26) (d : Word) (s : State), MayWrite s m.val →
    let writes := fun (c : Instr) (f : State → Prop) => Responds c s m.val .written f
    let q := s.cmdq m.val
    let tail := fld d 0 7
    let lane := s.lane l.val
    let port := s.port p.val
    let sel := if bit d 2 then fld d 0 2 else s.sec.straps.trefSel.toNat
    (q.woff < 512 → writes (.sqPortWrite m m d) (fun t =>
      bytesAt t.cmd.sram (slotAddr m.val q.tail + 4 * q.woff) 4 = leBytes 4 d.toNat ∧
      t.cmdq m.val = { q with woff := q.woff + 1 } ∧ ∀ j, j ≠ m.val → t.cmdq j = s.cmdq j)) ∧
    (tail ≠ q.tail → (tail + 128 - q.tail) % 128 + (q.tail + 128 - q.head) % 128 ≤ 64 → writes (.doorbell m m d) (fun t =>
      t.cmdq m.val = { q with woff := 0, tail := tail } ∧ ∀ j, j ≠ m.val → t.cmdq j = s.cmdq j)) ∧
    (tail ≠ q.tail → 64 < (tail + 128 - q.tail) % 128 + (q.tail + 128 - q.head) % 128 → writes (.doorbell m m d) (fun t =>
      t.cmdq m.val = { q with woff := 0 } ∧ EventSet t (Reg.CMD_EVT m.val) 2)) ∧
    (q.held = [] → writes (.rpHeadWrite m m d) (fun t => t.rget (Reg.CMD_RP_HEAD m.val) = d &&& 0x1F ∧ t.cmd = s.cmd)) ∧
    (bit d 0 = true → s.rb Reg.PERF_SNAP_CTRL 31 = false → s.perf.slate = none → writes (.regctlSnapTake m d) (fun t =>
      ∃ x, t.perf.slate = some x ∧ x.acc = s.now ∧ x.tick % 64 = s.qtz.pll % 64 ∧ s.now + 384 ≤ x.tick ∧ x.tick < s.now + 448)) ∧
    (s.rf Reg.HK_CTRL 0 2 = 3 → fld d 0 2 = 3 → bit d 8 = true → writes (.hkSwStart m d) (fun t =>
      t.hk.trigs = s.hk.trigs.filter (fun x => x.edge.isNone || decide (s.now < x.tick)) ++ [⟨s.now, none⟩] ∧
      t.rget Reg.HK_CTRL = d &&& 0x801E0003)) ∧
    (sel ≠ s.ref.sel → writes (.refSelectWrite m d) (fun t => t.ref.sel = sel ∧ t.rget Reg.QTZ_REF_CTRL = d &&& 7 ∧
      t.ref.st = if s.ref.st = 3 then 3 else 1)) ∧
    (bit d 0 = true → writes (.queueFlushWrite m d) (fun t =>
      (t.queue (s.rf Reg.LAG_Q_SEL 0 12)).st = 2 ∧ (t.queue (s.rf Reg.LAG_Q_SEL 0 12)).pend = none ∧
      ∀ j, j ≠ s.rf Reg.LAG_Q_SEL 0 12 → t.queue j = s.queue j)) ∧
    (a.toNat = Reg.LANE_CTRL l.val → s.rb (Reg.LANE_CTRL l.val) 31 = true → bit d 31 = false → lane.st ≠ 0 →
      (s.port (s.lanePort l.val)).st ≠ 2 → writes (.laneEnableWrite m a d) (fun t =>
        (t.lane l.val).st = 4 ∧ (t.lane l.val).due = (if lane.st = 4 ∨ lane.st = 5 then lane.due else s.now + 15000) ∧ ∀ j, j ≠ l.val → t.lane j = s.lane j)) ∧
    (a.toNat = Reg.LANE_CTRL l.val → bit d 31 = true → lane.st = 4 → writes (.laneEnableWrite m a d) (fun t =>
      (t.lane l.val).st = 5 ∧ EventSet t (Reg.LANE_EVT l.val) 3)) ∧
    (1 ≤ fld d 16 8 → fld d 16 8 ≤ 232 → port.st = 2 → writes (.tmsgSend m p d) (fun t => ∃ u v : State,
      (u.port p.val) = { port with tmsgTx := [] } ∧ t.link = v.link ∧
      v = u.sendMsg p.val 1 3 (leBytes 2 (fld d 0 16) ++ leBytes 1 (if bit d 31 then 1 else 0) ++ leBytes 1 (fld d 16 8) ++
        leBytes 4 0 ++ fitBytes (fld d 16 8) port.tmsgTx))) ∧
    (∀ x rest, port.rx.tmsg = x :: rest →
      Responds (.tmsgRxRead m p) s m.val (.data (BitVec.ofNat 32 (2 ^ 31 + x.len * 65536 + x.seq))) (fun t =>
        (t.port p.val).rx = { port.rx with tmsg := rest, tmsgOut := x.bytes } ∧ ∀ j, j ≠ p.val → t.port j = s.port j)) ∧
    ((64 ≤ k.val ∨ (s.stream k.val).st = 0) →
      let pf := if k.val < 64 then fld d 28 2 else k.val - 64
      (bit d 31 = true → s.pfLive pf = true → (s.ring k.val).st ≠ 3 → writes (.ringEnable m k d) (fun t =>
        t.ring k.val = { (s.ring k.val).cleared with st := 1, reading := some (0, s.now, false) } ∧
        t.out = s.out ++ [.hostRead pf (s.ringBase k.val) 16])) ∧
      (bit d 31 = false → s.rb (ringCfg k.val) 31 = true → writes (.ringEnable m k d) (fun t =>
        t.ring k.val = { (s.ring k.val).cleared with err := (s.ring k.val).err } ∧ t.out = s.out))) ∧
    (bit d 30 = true → (s.pf 0).ptmEn = true → s.qtz.ptm.out = none → writes (.ptmTrigger m d) (fun t =>
      t.qtz.ptm.out = some (s.tsNow - Config.strobeDelay 16 - Config.serLatency 16, s.now) ∧ t.out = s.out ++ [.ptmRequest])) ∧
    (bit d 0 = true → s.mem.dma.busy = false → s.dmaOk = true → s.bankHeld (s.rf Reg.MEMCTL_DMA_SRC 24 7) [3] = true →
      writes (.dmaGo m d) (fun t => t.mem.dma.busy = true ∧ t.mem.dma.tag = (s.mem.dma.tag + 1) % 65536 ∧
        t.mem.dma.deadline = s.now + 1500000 * s.rf Reg.CMD_FWD_TIMEOUT 0 16)) ∧
    (bit d 30 = true → s.rb Reg.TRIAD_LOCK 0 = false → writes (.alarmAck m d) (fun t =>
      t.triad = { s.triad with alarm := false }))

/-- The statements above on one subject, together. -/
def Obligations.RegisterEffects : Prop := ClaimPostedWritesAct ∧ ClaimRegisterWritesAct

/-- 06 R252, 14 R455, R457, R464, R471, 20 R637, R640, R641: time, start and security through registers. A read of QTZ_NOW_FRAC
keeps the whole beacon time for its master; one of QTZ_MSG_INFO takes a stamp from its FIFO. A write of INC stores the value within
its limits, to apply at a tick; a guarded STEP waits for its tick; a guarded write of a slot's hash or of the lifecycle burns only
what may be burnt; a start that awaits a pushed image takes it. -/
def Obligations.TimeAndSecurityRegisters : Prop :=
  ∀ (m : Master) (d : Word) (s : State),
    let due := fun (n : Nat) => n % 64 = s.qtz.pll % 64 ∧ s.now + 96 ≤ n ∧ n < s.now + 160
    let second := fun (a : Nat) (v : Word) => s.reaches m.val = true ∧ (m.val = 7 ∨ s.own.owner = some m.val) ∧ d = ~~~v ∧
      ∃ g, s.bus.guard = some g ∧ g.addr = a ∧ g.value = v ∧ g.m = m.val ∧ s.now ≤ g.tick + 150000
    (s.reaches m.val = true → Responds (.qtzNowFracRead m) s m.val (.data s.qtz.beacon.frac) (fun t =>
      t.nowSeen m.val = s.qtz.beacon ∧ ∀ j, j ≠ m.val → t.nowSeen j = s.nowSeen j)) ∧
    (s.reaches m.val = true → ∀ x rest, s.qtz.msgFifo = x :: rest → Responds (.qtzMsgInfoRead m) s m.val (.data x.info) (fun t =>
      t.qtz.msgFifo = rest ∧ mget 0 t.qtz.msgLatch m.val = x.ts)) ∧
    (MayWrite s m.val → s.qtz.incPend = none → mget none s.bus.staged (latchKey 0x20000 m.val) = none →
      let v := (s.rget Reg.QTZ_INC_LO).toNat + fld d 0 4 * 2 ^ 32
      let w := max 0x0AA94D243 (min 0x0AAC08313 v)
      Responds (.qtzIncWrite m d) s m.val .written (fun t => t.incReg = w ∧ t.qtz.time = s.qtz.time ∧
        (v ≠ w → EventSet t Reg.QTZ_EVT 4) ∧
        ∃ n x, t.qtz.incPend = some x ∧ due n ∧ x.tick = n ∧ x.inc.toNat = w)) ∧
    (∀ v : Word, second Reg.QTZ_STEP v →
      (s.qtz.chg = none → Responds (.qtzStepCommit m d) s m.val .written (fun t => t.bus.guard = none ∧
        ∃ n, due n ∧ t.qtz.chg = some ⟨.step v.toInt, n, none⟩)) ∧
      (s.qtz.chg ≠ none → Responds (.qtzStepCommit m d) s m.val .written (fun t => t.bus.guard = none ∧
        t.qtz.chg = s.qtz.chg ∧ EventSet t Reg.QTZ_EVT 5))) ∧
    (∀ v : Word, second Reg.SEC_PROG_SLOT v →
      let may := fld v 24 8 = 0x5C ∧ s.lifecycle ≤ 1 ∧ s.sec.fuses.programmed.getLsbD (fld v 0 2) = false
      (may → Responds (.secProgSlot m d) s m.val .written (fun t =>
        t.sec = { s.sec with burns := s.sec.burns ++
          [⟨.slot (fld v 0 2) ((List.range 8).flatMap (fun w => leBytes 4 (s.rget (Reg.SEC_PROG_DATA w)).toNat)),
            s.now + 30000000, none⟩] })) ∧
      (¬may → Responds (.secProgSlot m d) s m.val .written (fun t => t.sec = s.sec ∧ EventSet t Reg.SEC_EVT 3))) ∧
    (∀ v : Word, second Reg.SEC_LC_ADVANCE v →
      let may := fld v 24 8 = 0xC3 ∧ fld v 0 2 = s.sec.fuses.lifecycle + 1
      (may → Responds (.lifecycleAdvance m d) s m.val .written (fun t =>
        t.sec = { s.sec with fuses := { s.sec.fuses with lifecycle := s.sec.fuses.lifecycle + 1 } })) ∧
      (¬may → Responds (.lifecycleAdvance m d) s m.val .written (fun t => t.sec = s.sec ∧ EventSet t Reg.SEC_EVT 3))) ∧
    (s.reaches 0 = true → s.bus.guard = none → s.sec.start.step = 17 → bit d 0 = true →
      Responds (.devBootGo 0 d) s 0 .written (fun t => t.sec.start.step = 7 ∧ (∃ x, t.sec.start.cand = some x ∧ x.slot = 2)))


/-! ## Channels: front end (04) -/

/-- No other channel changes. -/
def OtherChans (s t : State) (c : Nat) : Prop := ∀ k, k ≠ c → t.chan k = s.chan k

/-- Level that a pulse uses: within the range of its mode, and at most CH_EXC_MAX (04 R131, R136). -/
def pulseLevel (s : State) (c : Nat) : Nat :=
  let v := s.rf (Reg.CH_EXC_LEVEL c) 0 15
  if s.rf (Reg.CH_EXC_CTRL c) 1 2 = 1 then min (max 10 (min 25000 v)) (s.rf (Reg.CH_EXC_MAX c) 16 15)
  else min (max 250 (min 10000 v)) (s.rf (Reg.CH_EXC_MAX c) 0 15)

/-- Ticks from one pulse start to the next: period, at least width + 100 µs, times the governor's stretch in 1/256, at most 60 s
(04 R132, R150). -/
def pulseSpacing (s : State) (c : Nat) : Nat :=
  min (max (s.rf (Reg.CH_EXC_PERIOD c) 0 26) (s.rf (Reg.CH_EXC_WIDTH c) 0 16 + 100) * 1500 * s.gov.stretch / 256) 90000000000

/-- 04 R126, R132 to R138, R141, R142: what the excitation does by itself. A pulse starts at its tick with level and width of the
registers and the next one a period later; it ends with CH_EXC_MEAS and the discharge, 16 pulses with a short in a row with FAULT;
the discharge ends in IDLE or OFF, and starts a channel that was enabled meanwhile; the channel timer goes on; a run starts with its
count; a vibrating-wire drive ends in the listen delay, which opens the gate, whose end gives the FREQ record. -/
def Obligations.ExcitationEvents : Prop :=
  ∀ (cc : Ch) (mv ua : BitVec 16) (s : State),
    let c := cc.val
    let f := s.fe c
    let ctrl := Reg.CH_EXC_CTRL c
    let due := fun (o : Option Nat) => ∃ t, o = some t ∧ t ≤ s.now
    let does := fun (i : Instr) (g : State → Prop) => Completes i s (fun t => g t ∧ OtherChans s t c)
    let measured := fun (t : State) => t.rget (Reg.CH_EXC_MEAS c) = BitVec.ofNat 32 (ua.toNat * 65536 + mv.toNat)
    (∀ at_, f.nextPulse = some at_ → at_ ≤ s.now → f.exc = .idle → does (.excPulseStart cc) (fun t =>
      (t.fe c).level = pulseLevel s c ∧ (t.fe c).pulseStart = s.now ∧ (t.fe c).nextPulse = some (at_ + pulseSpacing s c) ∧
      (s.rf ctrl 1 2 ≠ 2 → (t.fe c).exc = .pulse ∧ (t.fe c).pulseEnd = some (s.now + 1500 * s.rf (Reg.CH_EXC_WIDTH c) 0 16)) ∧
      (s.rf ctrl 1 2 = 2 → (t.fe c).exc = .vwDrive ∧ (t.fe c).sweepEnd = some (s.now + 1500 * s.rf (Reg.CH_VW_SWEEP c) 0 16)) ∧
      (t.fe c).neg = (if f.firstPulse = true ∨ s.rb ctrl 6 = false then s.rb ctrl 3 else !f.neg) ∧
      (s.rf ctrl 4 2 = 1 → (t.fe c).convDue = f.convDue ++ [s.now + (s.rget (Reg.CH_CONV_DELAY c)).toNat]) ∧
      (s.rf ctrl 4 2 ≠ 1 → (t.fe c).convDue = f.convDue))) ∧
    (due f.pulseEnd → f.exc = .pulse →
      (f.shortAt = none → does (.excPulseEnd cc mv ua) (fun t => measured t ∧ (t.fe c).exc = .discharge ∧ (t.fe c).shortRun = 0 ∧
        (t.fe c).excShort = false)) ∧
      (f.shortAt ≠ none → f.shortRun = 15 → does (.excPulseEnd cc mv ua) (fun t => measured t ∧ (t.fe c).exc = .fault ∧
        (t.fe c).nextPulse = none ∧ EventSet t (Reg.CH_EVT c) 7))) ∧
    (f.exc = .discharge → does (.excDischargeDone cc) (fun t =>
      (t.fe c).exc = if f.nextPulse = none then .off else .idle)) ∧
    (f.exc = .enablePending → does (.excDischargeDone cc) (fun t =>
      (t.fe c).exc = .idle ∧ (t.fe c).nextPulse = some (s.now + 150000))) ∧
    (∀ at_, f.timerNext = some at_ → at_ ≤ s.now → does (.channelTimer cc) (fun t =>
      (t.fe c).timerNext = some (at_ + 1500 * s.rf (Reg.CH_TIMER c) 0 26) ∧
      (t.fe c).convDue = f.convDue ++ (if s.rf ctrl 4 2 = 2 then [s.now + (s.rget (Reg.CH_CONV_DELAY c)).toNat] else []))) ∧
    (∀ at_ rest, f.convDue = at_ :: rest → at_ ≤ s.now → does (.convRunStart cc) (fun t =>
      (∃ old, (t.fe c).runs = old ++ [⟨s.now, s.rf (Reg.CH_CONV_COUNT c) 0 16, 0, none⟩] ∧ ∀ r ∈ old, ∃ e, r.stop = some e ∧ e ≤ s.now) ∧
      (t.fe c).convDue = rest ∧ (t.cv c).chainNext = some s.now ∧ (f.inRun s.now = true → EventSet t (Reg.CH_EVT c) 12))) ∧
    (due f.sweepEnd → f.exc = .vwDrive → f.shortAt = none → does (.vwSweepEnd cc mv ua) (fun t => measured t ∧
      (t.fe c).exc = .vwListen ∧ (t.fe c).listenAt = some (s.now + 1500 * s.rf (Reg.CH_VW_LISTEN c) 0 16))) ∧
    (due f.listenAt → does (.vwListenStart cc) (fun t => (t.fe c).listenAt = none ∧ (t.td c).freq =
      { FreqU.reset with
          on := true, vw := true, gateStart := s.now, gateEnd := s.now + 1500000 * s.rf (Reg.CH_VW_LISTEN c) 16 16 })) ∧
    (s.gateOver c true = true → s.charOn c = false → f.exc = .vwListen → f.mode = 2 → does (.vwGateEnd cc) (fun t =>
      (t.fe c).exc = .idle ∧ (t.td c).freq = FreqU.reset ∧
      (∃ x ∈ (t.island (c / 16)).evq, ∃ r, x.recs = [r] ∧ r.typ = tFREQ ∧ r.idx = c ∧ fieldAt r.body 4 1 = ((s.td c).freq.disc + 128) % 256) ∧
      ((s.td c).freq.first = none → (s.td c).freq.edges = [] → (t.fe c).vwMhz = 0 ∧ EventSet t (Reg.CH_EVT c) 11)))

/-- 04 R122, R127, R140, R144, R146, R150: what the front end finds. A clamp marks its samples until 1 µs after it ends; a settling
window ends; a short, an open, a reversed or a railed input shows itself in CH_EVT, and the flag that it sets clears when the input
is whole; an open-test step switches the source for 4 µs and judges the mean of the corrected samples of its last 2 µs, which the spec gives no rule
for when there is none (log entry 29); the governor turns every 10 ms. -/
def Obligations.FrontEndFindings : Prop :=
  ∀ (cc : Ch) (ball : Fin 4) (age : BitVec 8) (sense : BitVec 17) (bad : Bool) (s : State),
    let c := cc.val
    let f := s.fe c
    let test := Reg.CH_OPEN_TEST c
    let evt := Reg.CH_EVT c
    let drives := f.exc = .pulse ∨ f.exc = .vwDrive
    let does := fun (i : Instr) (g : State → Prop) => Completes i s (fun t => g t ∧ OtherChans s t c)
    (age.toNat ≤ 150 → age.toNat ≤ s.now → does (.clampDetect cc ball age) (fun t =>
      (t.fe c).clampBalls = f.clampBalls ||| 2 ^ ball.val ∧ EventSet t evt 2 ∧
      (t.fe c).clamps = if f.clamps.any (fun x => x.b.isNone) then f.clamps else f.clamps ++ [⟨s.now - age.toNat, none⟩])) ∧
    (f.clampBalls ≠ 0 → does (.clampEnd cc ball) (fun t =>
      (t.fe c).clampBalls = f.clampBalls &&& (15 - 2 ^ ball.val) ∧
      (f.clampBalls &&& (15 - 2 ^ ball.val) = 0 → ∀ x ∈ (t.fe c).clamps, x.b ≠ none) ∧ Only [.ch] s t)) ∧
    ((∀ x ∈ f.settles, ∃ b, x.b = some b ∧ b ≤ s.now) → does (.settleEnd cc) (fun t =>
      t.fe c = { f with settling := false } ∧ Only [.ch] s t)) ∧
    (f.revDone = false → f.exc = .pulse → f.pulseStart + 3000 ≤ s.now →
      (f.level ≤ 8 * sense.toInt.natAbs → (f.neg = true ∧ 0 < sense.toInt) ∨ (f.neg = false ∧ sense.toInt < 0) →
        does (.reversedCheck cc sense) (fun t => (t.fe c).reversed = true ∧ (t.fe c).revDone = true ∧ EventSet t evt 3)) ∧
      ((f.neg = true ∧ sense.toInt < 0) ∨ (f.neg = false ∧ 0 < sense.toInt) →
        does (.reversedCheck cc sense) (fun t => (t.fe c).reversed = false ∧ (t.fe c).revDone = true))) ∧
    (drives → f.shortAt = none → does (.excShortDetect cc) (fun t =>
      (t.fe c).shortAt = some s.now ∧ (t.fe c).excShort = true ∧ EventSet t evt 0)) ∧
    (∀ at_, drives → f.shortAt = some at_ → at_ + 15000 ≤ s.now → does (.excShortFoldback cc) (fun t =>
      t.fe c = { f with folded := true } ∧ Only [.ch] s t)) ∧
    (drives → s.rb (Reg.CH_EXC_CTRL c) 7 = true → does (.excOpenDetect cc) (fun t =>
      (t.fe c).excOpen = true ∧ (t.fe c).openAt = some s.now ∧ EventSet t evt 4)) ∧
    (s.rb test 17 = true → does (.railDetect cc) (fun t => (t.fe c).openWire = true ∧ EventSet t evt 1)) ∧
    (s.rf test 0 16 = 0 → does (.railAbsent cc) (fun t =>
      (t.fe c).openWire = false ∧ (∀ x ∈ (t.fe c).wireOpens, x.b ≠ none) ∧ Only [.ch] s t)) ∧
    (∀ at_, f.testNext = some at_ → at_ ≤ s.now → (s.chan c).held = false → f.testEnd = none → s.rf (Reg.CH_EXC_CTRL c) 4 2 = 0 →
      does (.openTestStep cc) (fun t => (t.fe c).src = 8 ∧ (t.fe c).testPrev = f.src ∧ (t.fe c).testEnd = some (s.now + 6000) ∧
        (t.fe c).testNext = some (at_ + 150000 * s.rf test 0 16))) ∧
    (∀ at_, f.testEnd = some at_ → at_ ≤ s.now → does (.openTestReturn cc bad) (fun t =>
      (t.fe c).testEnd = none ∧ (t.fe c).src = f.testPrev ∧
      (f.testN ≠ 0 → ((t.fe c).openWire = true ↔ 9 * 32768 * f.testN ≤ 10 * f.testSum.natAbs)) ∧
      ((t.fe c).openWire = true → EventSet t evt 1))) ∧
    (s.gov.next ≤ s.now → Completes .excGovernor s (fun t =>
      t.gov.next = s.gov.next + 15000000 ∧ t.ch = s.ch ∧
      ((∀ k, k < 192 → (s.fe k).exc = .off) → t.gov.stretch = 256 ∧ t.gov.preq = 0) ∧
      (256 ≤ s.gov.stretch → s.gov.stretch ≤ 4095 → 256 ≤ t.gov.stretch ∧ t.gov.stretch ≤ 4095)))

/-! ## Channels: conversion (05) -/

/-- Round half up of a quotient by a positive number. -/
def roundHalf (a b : Int) : Int := (2 * a + b) / (2 * b)

/-- y of a converter sample: offset, gain in 1/16384, limited to 16 bits (05 R167). -/
def correctedSample (s : State) (c : Nat) (code : BitVec 12) : Int :=
  let w := s.rget (Reg.CH_CORR c (s.fe c).gain)
  clamp 16 (roundHalf ((16 * ((code.toNat : Int) - 2048) + signedOf 16 (fld w 0 16)) * fld w 16 16) (2 ^ 14))

/-- 05 R160 to R167, R170, R173, R175: what conversion does. A group of D samples gives one value of 12 bits, the mean of its
corrected samples, to CH_LAST without decimation, and counts a saturation for each sample that step 4 limits; the divider restarts at
its tick; an update of the background calibration counts, and converges after eight quiet ones, or pauses; a decimated output is
discarded, ignored or kept with its SLOW record; the filter's taps add up to a power of two, its DC gain (05 R176). What each tap is, is a
free value of the model (log entry 25). -/
def Obligations.ConversionEvents : Prop :=
  ∀ (cc : Ch) (codes : List (BitVec 12)) (first : BitVec 16) (rest : List (BitVec 16)) (s : State),
    let c := cc.val
    let v := s.cv c
    let steps := (((first :: rest).map BitVec.toInt) ++ List.replicate 15 0).take 15
    let most := (steps.map Int.natAbs).foldl max 0
    let intervals := (s.now - s.qtz.pll) / 1048576
    let d := codes.length
    let g := s.now - 19 - d
    let ys := codes.map (correctedSample s c)
    let limited := (codes.filter (fun x => clamped 16 (roundHalf ((16 * ((x.toNat : Int) - 2048)
      + signedOf 16 (fld (s.rget (Reg.CH_CORR c (s.fe c).gain)) 0 16)) * fld (s.rget (Reg.CH_CORR c (s.fe c).gain)) 16 16) (2 ^ 14)))).length
    let does := fun (i : Instr) (f : State → Prop) => Completes i s (fun t => f t ∧ OtherChans s t c)
    (1 ≤ d → s.retired = false → v.groupDue s.now s.qtz.pll d = true → v.corrs = [] → v.fresh = false → v.marks = [] → v.set.decEn = false →
      (s.fe c).inWindow g = false → v.inside = false → s.rf (Reg.CH_EXC_CTRL c) 4 2 = 0 → does (.groupOutput cc codes) (fun t =>
        (t.cv c).last.v = clamp 12 (roundHalf ys.sum (16 * d)) ∧ (t.cv c).nextG = g + d ∧
        t.rget (Reg.CH_SAT_CNT c) = (if limited = 0 then s.rget (Reg.CH_SAT_CNT c) else cntAddW (s.rget (Reg.CH_SAT_CNT c)) limited) ∧
        (limited ≠ 0 → EventSet t (Reg.CH_EVT c) 13))) ∧
    (∀ n at_, v.restart = some (n, at_) → at_ ≤ s.now → does (.dividerRestart cc) (fun t =>
      (t.cv c).set = n ∧ (t.cv c).prev = v.set ∧ (t.cv c).since = at_ ∧ (t.cv c).restart = none ∧ Only [.ch] s t)) ∧
    (v.bgDone < intervals →
      (v.bgBad = false → s.rb (Reg.CH_BGCAL_CTRL c) 0 = false → does (.bgcalUpdate cc first rest) (fun t =>
        (t.cv c).updates = (v.updates + 1) % 65536 ∧ (t.cv c).weights = v.weights.zipWith (· + ·) steps ∧ (t.cv c).paused = false ∧
        (t.cv c).bgDone = intervals ∧ (t.cv c).bgQuiet = (if most ≤ 5 then v.bgQuiet + 1 else 0) ∧
        (50 < most → (t.cv c).converged = false) ∧ (most ≤ 5 → 7 ≤ v.bgQuiet → (t.cv c).converged = true))) ∧
      (v.bgBad = true → does (.bgcalUpdate cc first rest) (fun t =>
        (t.cv c).updates = v.updates ∧ (t.cv c).weights = v.weights ∧ (t.cv c).bgDone = intervals ∧ (t.cv c).paused = v.paused ∧
        ((t.cv c).bgBad = true ↔ (s.fe c).clampBalls ≠ 0 ∨ 1048576 < 100 * v.bgEdges.length)))) ∧
    (∀ o, v.slow = some o →
      (o.discard = true → does (.slowOutput cc) (fun t => Counts s t (Reg.CH_DEC_DISC c) ∧ t.cv c = { v with slow := none })) ∧
      (o.discard = false → o.inside = true → does (.slowOutput cc) (fun t => t.cv c = { v with slow := none } ∧ Only [.ch] s t)) ∧
      (o.discard = false → o.inside = false → does (.slowOutput cc) (fun t => (t.cv c).slow = none ∧
        (∃ x ∈ (t.island (c / 16)).smq, ∃ r, x.recs = [r] ∧ r.typ = tSLOW ∧ r.idx = c ∧ r.ts = s.tsHalf (o.half - 2 * s.now) ∧
          fieldAt r.body 9 1 = v.set.k % 256 ∧ fieldAt r.body 4 4 = (o.v % 2 ^ 32).toNat) ∧ (t.cv c).lastSlow.v = o.v ∧
        (t.cv c).lastSlow.ts = s.tsHalf (o.half - 2 * s.now)))) ∧
    (∀ k (x : Int), firSum k (List.replicate 64 x) = 2 ^ (Config.firPlaces k + 1) * x)

/-- The channels that a command's mask of 24 bytes names. -/
def maskOf (e : Entry) (c : Nat) : Prop := c < 192 ∧ (e.p 0 24).testBit c = true

/-- 04 R155 to R158, 05 R187 to R192: the channel commands. CH_CONFIGURE writes the selected registers of the channels that its mask
names, all or none, and is refused above a level's ceiling, BUSY under a calibration; CH_READ reports a channel; CH_CALIBRATE holds its
channels and reports when the last of them is done; the measurements of a gain step follow one another, and its end writes an offset
within ±4,096 and a gain within 0x399A to 0x4666 and fails otherwise. Writes of the channels that wait complete first (03 R112). -/
def Obligations.ChannelCommands : Prop :=
  ∀ (m : Master) (cc : Ch) (s : State),
    let e := entryOf s m.val
    let u := taken s m.val
    let v := u.settleMask e
    let c := cc.val
    let roundUp := fun (a b : Int) => (2 * a + b) / (2 * b)
    (Admitted s m.val 0x0301 → e.len = 11 → u.configureOk e = true →
      ((∃ k, maskOf e k ∧ (v.cv k).cal ≠ none) → AnswersNow (.chConfigure m) s m.val stBUSY (fun x res => x = v ∧ res = [])) ∧
      ((∀ k, maskOf e k → (v.cv k).cal = none) → (∃ k, maskOf e k ∧ v.levelHigh e k = true) →
        AnswersNow (.chConfigure m) s m.val stREFUSED (fun x res => x = v ∧ res = [])) ∧
      ((∀ k, maskOf e k → (v.cv k).cal = none) → (∀ k, maskOf e k → v.levelHigh e k = false) →
        AnswersAt (.chConfigure m) s m.val (fun x res ts => res = [] ∧ ts = s.tsNow ∧
          (∀ k off w, maskOf e k → (off, w) ∈ feWrites e → x.rget (0x100000 + k * 0x4000 + off) = w) ∧
          (∀ k, ¬maskOf e k → x.chan k = s.chan k)))) ∧
    (Admitted s m.val 0x0303 → e.len = 1 → e.p 0 2 ≤ 191 → e.p 2 6 = 0 → AnswersNow (.chRead m) s m.val stOK (fun x res => x = u ∧
      res.length = 32 ∧ fieldAt res 0 4 = ((s.lastOf (e.p 0 2)).v % 2 ^ 32).toNat ∧
      fieldAt res 5 1 = (s.fe (e.p 0 2)).src % 256 ∧ fieldAt res 6 1 = (s.fe (e.p 0 2)).gain % 256 ∧
      fieldAt res 7 1 = (s.fe (e.p 0 2)).exc.code ∧ fieldAt res 8 6 = (s.lastOf (e.p 0 2)).ts.toNat ∧
      fieldAt res 16 4 = (s.rget (Reg.CH_EXC_MEAS (e.p 0 2))).toNat)) ∧
    (Admitted s m.val 0x0302 → e.len = 4 → u.calibrateOk e = true → (∀ k, maskOf e k → (v.chan k).held = false) →
      Completes (.chCalibrate m) s (fun t => (∃ cs, t.calJobs = s.calJobs ++ [⟨ticketOf s m.val, cs, cs⟩] ∧ ∀ k, k ∈ cs ↔ maskOf e k) ∧
        (∀ k, maskOf e k → ∃ j, (t.cv k).cal = some j ∧ j.mode = e.p 25 1 ∧ j.n = e.p 26 1) ∧
        (∀ k, ¬maskOf e k → t.chan k = s.chan k))) ∧
    (∀ j, (s.cv c).cal = some j → j.due ≤ s.now → j.cnt = 2 ^ j.n →
      let g := j.gains.headD 0
      let corr := Reg.CH_CORR c g
      let next := fun (ph : Nat) (z q : Int) (t : State) => t.regs = s.regs ∧ (t.fe c).src = 3 + ph ∧
        ∃ x, (t.cv c).cal = some x ∧ x.phase = ph ∧ x.gains = j.gains ∧ x.zero = z ∧ x.pos = q ∧ x.cnt = 0
      let offset := fun (t : State) (sum : Int) =>
        let off := -(roundUp (16 * sum) (2 ^ j.n))
        (-4096 ≤ off ∧ off ≤ 4096 → signedOf 16 (fld (t.rget corr) 0 16) = off) ∧
        (off < -4096 ∨ 4096 < off → fld (t.rget corr) 0 16 = fld (s.rget corr) 0 16 ∧ EventSet t (Reg.CH_EVT c) 14)
      (j.phase = 0 → j.mode = 0 → Completes (.calMeasureDone cc 0) s (next 1 j.sum j.pos)) ∧
      (j.phase = 1 → Completes (.calMeasureDone cc 1) s (next 2 j.zero j.sum)) ∧
      (j.phase = 2 → j.mode = 0 → Completes (.calMeasureDone cc 2) s (fun t => offset t j.zero ∧
        let gain := roundUp (36864 * (refTrimOf Config.refTrim : Int) * 2 ^ 14 * 2 ^ j.n) (10 * 2 ^ 32 * (j.pos - j.sum))
        let good := j.sum < j.pos ∧ 0x399A ≤ gain ∧ gain ≤ 0x4666
        (good → (fld (t.rget corr) 16 16 : Int) = gain) ∧
        (¬good → fld (t.rget corr) 16 16 = fld (s.rget corr) 16 16 ∧ EventSet t (Reg.CH_EVT c) 14))) ∧
      ((j.phase = 0 ∧ j.mode = 1) ∨ (j.phase = 3 ∧ j.mode = 2) → Completes (.calMeasureDone cc (if j.mode = 1 then 0 else 3)) s (fun t => offset t j.sum ∧
        fld (t.rget corr) 16 16 = fld (s.rget corr) 16 16))) ∧
    (∀ j rest, s.calJobs = j :: rest → j.left = [] → Completes .chCalibrateDone s (fun t => t.calJobs = rest ∧ t.ch = s.ch ∧
      (j.tk.req = true → (∀ k ∈ j.chans, (s.cv k).calF = 0) → ∃ r, t.cmd.atBeacon = s.cmd.atBeacon ++ [r] ∧ r.tk = j.tk ∧
        r.status = stOK ∧ r.result.length = 8 * j.chans.length)))

/-! ## Channels: time measurement (06) -/

/-- An item with the one record `r`, of which `P` holds, waits on the event link of the Island of channel `c` (01 R23). -/
def EventItem (t : State) (c : Nat) (P : Rec → Prop) : Prop := ∃ x ∈ (t.island (c / 16)).evq, ∃ r, x.recs = [r] ∧ P r

/-- 06 R203 to R214: an edge switches its discriminator and is measured by a free interpolator where its time is needed, or is COARSE
and counted; the qualifier decides after three ticks, drops or keeps, and counts a runt; a measurement gives the fine code and the time
of the edge, from the TS48 of the second tick after its own with the INC of that tick (log entry 33); a sequence within the limits arms the interpolator again, and three failures more make it FAULT; an interpolator is
refreshed after 256 ticks. -/
def Obligations.EdgesAndInterpolators : Prop :=
  ∀ (cc : Ch) (k : Fin 2) (i : Fin 4) (lead : Bool) (frac v v1 v2 : BitVec 10) (s : State),
    let c := cc.val
    let t0 := s.td c
    let x := t0.mica i.val
    let does := fun (j : Instr) (g : State → Prop) => Completes j s g
    (s.discEn c k.val = true → (t0.disc k.val).s ≠ lead → does (.discEdge cc k lead frac) (fun t =>
      ((t.td c).disc k.val).s = lead ∧ (t.td c).nextEdge = t0.nextEdge + 1 ∧
      (∃ e ∈ (t.td c).edges, e.id = t0.nextEdge ∧ e.disc = k.val ∧ e.lead = lead ∧ e.tick = s.now ∧
        (lead = true → s.recMode c k.val ≠ 0 →
          e.timed = true ∧ e.mica = t0.freeMica ∧ (e.coarse = true ↔ t0.freeMica = none))) ∧
      (lead = true → s.recMode c k.val ≠ 0 →
        (∀ j, t0.freeMica = some j → ((t.td c).mica j).st = .measure ∧ ((t.td c).mica j).due = s.now + 14) ∧
        (t0.freeMica = none → Counts s t (Reg.CH_MICA_MISS c) ∧ EventSet t (Reg.CH_EVT c) 17)))) ∧
    (∀ e, t0.undecided k.val = some e → e.tick + 3 ≤ s.now →
      (e.dropped = true → does (.edgeQualify cc k) (fun t => ∀ y ∈ (t.td c).edges, y.id ≠ e.id)) ∧
      (e.dropped = false → e.timed = true → does (.edgeQualify cc k) (fun t => ∃ y ∈ (t.td c).edges, y.id = e.id ∧ y.decided = true)) ∧
      (e.dropped = false → e.lead = false → e.runt = true → does (.edgeQualify cc k) (fun t =>
        Counts s t (Reg.CH_RUNT_CNT c) ∧ EventSet t (Reg.CH_EVT c) 18))) ∧
    (∀ e, t0.edges.find? (fun y => x.edge == some y.id && y.decided) = some e → x.st = .measure → x.due ≤ s.now → x.v1 < x.v2 →
      let n := (max 1024 (min 2047 (1024 + roundHalf (1024 * ((v.toNat : Int) - x.v1)) ((x.v2 : Int) - x.v1)))).toNat
      does (.micaMeasureDone cc i v) (fun t =>
        ((t.td c).mica i.val).st = .calibrate ∧ ((t.td c).mica i.val).due = e.tick + 38 ∧ (∀ y ∈ (t.td c).edges, y.id ≠ e.id) ∧
        (∀ r ∈ t0.recs, r.lead = e.id → ∃ r' ∈ (t.td c).recs, r'.lead = e.id ∧ r'.fine = n ∧
          r'.leadTs = some (s.tsTick (e.tick + 2) - BitVec.ofNat 48 ((n * (s.qtz.scaleAt ((e.tick + 2 : Nat) : Int)).inc + 2 ^ 25) / 2 ^ 26)
            - (s.rget (Reg.CH_TDC_SKEW c e.disc)).signExtend 48)))) ∧
    (x.st = .calibrate → x.due ≤ s.now →
      let span : Int := (v2.toNat : Int) - v1.toNat
      let good := (s.rf (Reg.CH_MICA_LIMIT c) 0 10 : Int) ≤ span ∧ span ≤ s.rf (Reg.CH_MICA_LIMIT c) 16 10
      (good → does (.micaRearmDone cc i v1 v2) (fun t => ((t.td c).mica i.val).st = .armed ∧ ((t.td c).mica i.val).v1 = v1.toNat ∧
        ((t.td c).mica i.val).v2 = v2.toNat ∧ ((t.td c).mica i.val).fails = 0)) ∧
      (¬good → x.fails ≠ 3 → does (.micaRearmDone cc i v1 v2) (fun t => ((t.td c).mica i.val).st = .calibrate ∧
        ((t.td c).mica i.val).fails = x.fails + 1 ∧ ((t.td c).mica i.val).due = s.now + 25)) ∧
      (¬good → x.fails = 3 → does (.micaRearmDone cc i v1 v2) (fun t => ((t.td c).mica i.val).st = .fault ∧
        EventSet t (Reg.CH_EVT c) 16))) ∧
    (x.st = .armed → x.v2Tick + 256 ≤ s.now → (∃ j, j < 4 ∧ j ≠ i.val ∧ (t0.mica j).st = .armed) →
      (∀ j, j < 4 → j ≠ i.val → (t0.mica j).refresh = false) → does (.micaRefresh cc i) (fun t =>
        ((t.td c).mica i.val).st = .calibrate ∧ ((t.td c).mica i.val).due = s.now + 25 ∧ OtherChans s t c))

/-- 06 R208, R218 to R230: the measurement units. The oldest ready hit or pulse of a discriminator leaves as its record; a pulse that
lasts too long ends by itself; a gate gives frequency and period in the registers and a FREQ record, and the next one opens at once; a
NEAREST start is decided; a NEXT start that waits 2^31 ns overflows; a test pulse repeats. -/
def Obligations.MeasurementUnits : Prop :=
  ∀ (cc : Ch) (k : Fin 2) (s : State),
    let c := cc.val
    let t0 := s.td c
    let f := t0.freq
    let p := f.gate.evs.length * 2 ^ s.prescK c f.disc
    let us := s.rf (Reg.CH_FREQ_CTRL c) 0 21
    let starts := t0.ivl.starts
    (∀ r, s.charOn c = false → t0.heads.find? (fun y => y.pulse == false && t0.ready (s.cv c).nextG y) = some r → Completes (.hitBuild cc) s (fun t =>
      (t.td c).recs = t0.recs.filter (fun y => y.lead != r.lead) ∧
      EventItem t c (fun z => z.typ = tHIT ∧ z.idx = c + 0x100 * r.disc ∧ z.ts = r.leadTs.getD 0))) ∧
    (∀ r, s.charOn c = false → t0.heads.find? (fun y => y.pulse == true && t0.ready (s.cv c).nextG y) = some r → Completes (.pulseEmit cc) s (fun t =>
      (t.td c).recs = t0.recs.filter (fun y => y.lead != r.lead) ∧
      EventItem t c (fun z => z.typ = tPULSE ∧ z.idx = c + 0x100 * r.disc ∧ z.ts = r.leadTs.getD 0))) ∧
    (∀ r, t0.recs.find? (fun y => y.disc == k.val && y.pulse && y.to_.isNone) = some r → r.tick + 98303 ≤ s.now →
      (∀ e ∈ t0.edges, e.lead = false → e.of_ = r.lead → e.dropped = true) → Completes (.pulseLongTimeout cc k) s (fun t =>
        ∃ r' ∈ (t.td c).recs, r'.lead = r.lead ∧ r'.to_ = some (r.tick + 98303) ∧ r'.ext = r.ext ||| xLONG)) ∧
    (s.gateOver c false = true → Completes (.freqGateClose cc) s (fun t =>
      (t.td c).freq.gateStart = f.gateEnd ∧ (t.td c).freq.gateEnd = f.gateEnd + 1500 * us ∧
      (p = 0 → t.rget (Reg.CH_FREQ_MHZ_LO c) = 0 ∧ t.rget (Reg.CH_FREQ_MHZ_HI c) = 0 ∧ t.rget (Reg.CH_FREQ_PERIOD c) = 0) ∧
      (p ≠ 0 → f.gate.e ≠ 0 →
        (t.rget (Reg.CH_FREQ_MHZ_LO c)).toNat + 2 ^ 32 * (t.rget (Reg.CH_FREQ_MHZ_HI c)).toNat =
          (roundHalf (p * 10 ^ 12 * 65536 : Nat) f.gate.e).toNat % 2 ^ 64) ∧
      (s.charOn c = false → EventItem t c (fun z => z.typ = tFREQ ∧ z.idx = c)))) ∧
    (∀ a rest, starts = a :: rest → s.decideAt c a ≤ s.now → s.charOn c = false →
      let b := nearest a (s.rf (Reg.CH_IVL_WIN c) 16 16 * 65536 : Nat) (s.rf (Reg.CH_IVL_CTRL c) 16 8 == c) t0.ivl.stops
      (b ≠ none → Completes (.intervalDecide cc) s (fun t => (t.td c).ivl.starts = rest ∧
        EventItem t c (fun z => z.typ = tINTERVAL ∧ z.idx = c ∧ z.ts = a.ts))) ∧
      (b = none → Completes (.intervalDecide cc) s (fun t => (t.td c).ivl.starts = rest ∧ Counts s t (Reg.CH_IVL_NOSTOP c)))) ∧
    (∀ a, t0.ivl.armed = some a → a.tick + 3221225472 < s.now → s.stopTimed c a = false → t0.ivl.overflow = false → Completes (.intervalOverflow cc) s (fun t =>
      (t.td c).ivl = { t0.ivl with overflow := true } ∧ EventSet t (Reg.CH_EVT c) 19)) ∧
    ((s.fe c).src = 7 → t0.char = none → t0.tp0 + t0.tpM * s.rf (Reg.CH_TP_PERIOD c) 0 16 ≤ s.now →
      Completes (.testPulseLaunch cc) s (fun t => (t.td c).tpM = t0.tpM + 1 ∧ Only [.ch] s t ∧ OtherChans s t c ∧
        (t.td c).tpLast = some ⟨t0.tp0 + t0.tpM * s.rf (Reg.CH_TP_PERIOD c) 0 16, t0.tpM * s.rf (Reg.CH_TP_PERIOD c) 16 10 % 1024,
          signedOf 10 (s.rf (Reg.CH_TP c) 16 10), s.rf (Reg.CH_TP c) 0 8⟩))

/-- 06 R239 to R244: the commands of the time measurement: what TDC_CONFIGURE, FREQ_CONFIGURE and INTERVAL_CONFIGURE write into the
registers of the channels that the mask names, with a new gate sequence or an empty interval unit; TDC_CHARACTERISE holds its channels
until the last of them is due, and then gives their inputs back. Writes of the channels that wait complete first (03 R112). -/
def Obligations.TimeCommands : Prop :=
  ∀ (m : Master) (s : State),
    let e := entryOf s m.val
    let some_ := ∃ k, maskOf e k
    let v := (taken s m.val).settleMask e
    let others := fun (x : State) => ∀ k, ¬maskOf e k → x.chan k = s.chan k
    (Admitted s m.val 0x0401 → e.len = 7 → some_ → e.p 24 4 ≠ 0 → e.p 24 4 < 128 → e.p 28 4 ≤ 1 → e.p 44 4 = 0 → rangesOk (tdcWrites e) = true →
      AnswersAt (.tdcConfigure m) s m.val (fun x res ts => res = [] ∧ ts = s.tsNow ∧ others x ∧
        (∀ k off w, maskOf e k → (off, w) ∈ tdcWrites e → x.rget (0x100000 + k * 0x4000 + off) = w))) ∧
    (Admitted s m.val 0x0402 → e.len = 4 → some_ → 10 ≤ e.p 24 1 → e.p 24 1 ≤ 20 → e.p 25 1 ≤ 1 → e.p 26 6 = 0 →
      (∀ k, maskOf e k → (v.chan k).held = false ∧ (v.fe k).vwOn = false) → Completes (.tdcCharacterise m) s (fun t => others t ∧
        (∃ cs, t.charJobs = s.charJobs ++ [⟨ticketOf s m.val, cs, cs⟩] ∧ ∀ k, k ∈ cs ↔ maskOf e k) ∧
        (∀ k, maskOf e k → (t.fe k).src = 7 ∧ ∃ j, (t.td k).char = some j ∧ j.n = e.p 24 1 ∧ j.due = s.now + 80 * 2 ^ (e.p 24 1 + 1)))) ∧
    (∀ j rest, s.charJobs = j :: rest → (∀ k ∈ j.chans, ∃ y, (s.td k).char = some y ∧ y.due ≤ s.now) → Completes .tdcCharacteriseDone s
      (fun t => t.charJobs = rest ∧ (∀ k ∈ j.chans, (t.td k).char = none) ∧ (∀ k, k ∉ j.chans → t.chan k = s.chan k))) ∧
    (Admitted s m.val 0x0403 → e.len = 4 → some_ → chInRange 0x240 (BitVec.ofNat 32 (e.p 24 4)) = true → e.p 28 4 = 0 →
      ((∃ k, maskOf e k ∧ (v.fe k).vwOn = true) → AnswersNow (.freqConfigure m) s m.val stWRONG_STATE (fun x res => res = [] ∧ x = v)) ∧
      ((∀ k, maskOf e k → (v.fe k).vwOn = false) → AnswersAt (.freqConfigure m) s m.val (fun x res ts =>
        res = [] ∧ ts = s.tsNow ∧ others x ∧ ∀ k, maskOf e k → (x.rget (Reg.CH_FREQ_CTRL k)).toNat = e.p 24 4 ∧
          (x.td k).freq = { FreqU.reset with
            on := bit (x.rget (Reg.CH_FREQ_CTRL k)) 31, disc := (x.rf (Reg.CH_FREQ_CTRL k) 30 1), gateStart := s.now,
            gateEnd := s.now + 1500 * x.rf (Reg.CH_FREQ_CTRL k) 0 21 }))) ∧
    (Admitted s m.val 0x0404 → e.len = 4 → some_ → chInRange 0x260 (BitVec.ofNat 32 (e.p 24 4)) = true →
      chInRange 0x264 (BitVec.ofNat 32 (e.p 28 4)) = true → AnswersAtBeacon (.intervalConfigure m) s m.val (fun x res =>
        res = [] ∧ others x ∧ ∀ k, maskOf e k → (x.rget (Reg.CH_IVL_CTRL k)).toNat = e.p 24 4 ∧
          (x.rget (Reg.CH_IVL_WIN k)).toNat = e.p 28 4 ∧ (x.td k).ivl = { IvlU.reset with on := x.rb (Reg.CH_IVL_CTRL k) 31, since := s.now, old := (x.td k).ivl.old }))

/-! ## Channels: samples and capture (01 R22, 07) -/

/-- State that a capture's end leads to (07 R257). -/
def afterCapture (s : State) (c : Nat) (st : CapState) : Prop :=
  if (s.capc c).offPend = true ∨ s.rf (Reg.CH_CAP_CTRL c) 30 2 ≠ 2 then st = .off
  else if 0 < s.rf (Reg.CH_CAP_HOLDOFF c) 0 24 then st = .holdoff
  else st = .filling ∨ st = .armed

/-- 01 R22, 07 R253 to R261, R268, 12 R402: an item of samples closes 64 ticks after it opened; CAPTURE_CONFIGURE writes the registers of
the channels that its mask names; a freeze acts in FILLING and ARMED, gives out its CAPTURE when the window is written, and is counted in
READOUT and HOLDOFF; a read-out ends, when its items have left, with the count, the time and the state that the mode gives; hold-off ends; a spill resumes when there is room, ends with its CAPTURE, and is
cut when unread samples fill the ring. -/
def Obligations.CaptureEvents : Prop :=
  ∀ (m : Master) (cc : Ch) (s : State),
    let c := cc.val
    let x := s.capc c
    let e := entryOf s m.val
    let does := fun (i : Instr) (g : State → Prop) => Completes i s (fun t => g t ∧ OtherChans s t c)
    let ended := fun (r : CapRun) (t : State) => Counts s t (Reg.CH_CAP_COUNT c) ∧ t.rget (Reg.CH_CAP_LAST_TS_LO c) = tsLo r.ts ∧
      afterCapture s c (t.capc c).st ∧ (t.capc c).run = none
    (∀ p, (s.chan c).pack = some p → p.tick + 64 ≤ s.now → does (.sampleItemClose cc) (fun t => (t.chan c).pack = none ∧
      ∃ y ∈ (t.island (c / 16)).smq, y.ch = c ∧ y.words = 1 + (p.n + 7) / 8 ∧ y.ts = p.ts ∧ y.recs = p.recs)) ∧
    (Admitted s m.val 0x0504 → e.len = 8 → (taken s m.val).captureOk e = true → (e.p 28 4).testBit 1 = false → (e.p 28 4).testBit 2 = false →
      AnswersAt (.captureConfigure m) s m.val (fun u res ts => res = [] ∧ ts = s.tsNow ∧ (∀ k, ¬maskOf e k → u.chan k = s.chan k) ∧
        ∀ k off w, maskOf e k → (off, w) ∈ capWrites e →
          u.rget (0x100000 + k * 0x4000 + off) = if off = 0x320 then w &&& 0xDFFFFFFF else w)) ∧
    (∀ f, s.fl.freezes = [f] → f.ch = c → f.due ≤ s.now → s.rb (Reg.CH_CAP_CTRL c) (16 + f.flint) = true →
      let k := x.kOf (s.tickOf f.ts) (s.cv c)
      let post := (s.rget (Reg.CH_CAP_POST c)).toNat
      (∀ j, x.st = .armed → k = some j → s.rf (Reg.CH_CAP_PRE c) 0 16 + post ≤ 65536 → x.written < j + post → does (.captureFreeze cc)
        (fun t => t.fl.freezes = [] ∧ (t.capc c).st = .post ∧ ∃ r, (t.capc c).run = some r ∧ r.k = j ∧ r.stop = j + post ∧
          r.first = j - min (s.rf (Reg.CH_CAP_PRE c) 0 16) (j - x.oldest) ∧ r.ts = f.ts ∧ r.forced = f.forced ∧ r.flint = f.flint)) ∧
      (∀ j, x.st = .armed → k = some j → s.rf (Reg.CH_CAP_PRE c) 0 16 + post ≤ 65536 → j + post ≤ x.written → does (.captureFreeze cc)
        (fun t => t.fl.freezes = [] ∧ (t.capc c).st = .readout ∧
          ∃ y ∈ (t.island (c / 16)).roq, ∃ z, y.recs = [z] ∧ z.typ = tCAPTURE ∧ z.idx = c ∧ z.ts = f.ts)) ∧
      (x.st = .armed ∨ x.st = .filling → k = none → does (.captureFreeze cc) (fun t => t.fl.freezes = [] ∧
        Counts s t (Reg.CH_CAP_LATE c) ∧ EventSet t (Reg.CH_EVT c) 22 ∧ t.capc c = x)) ∧
      (x.st = .readout ∨ x.st = .holdoff → does (.captureFreeze cc) (fun t => t.fl.freezes = [] ∧
        Counts s t (Reg.CH_CAP_MISSED c) ∧ EventSet t (Reg.CH_EVT c) 23 ∧ (t.capc c).st = x.st ∧ (t.capc c).ring = x.ring))) ∧
    (∀ r, x.st = .readout → x.run = some r → r.due ≤ s.now → r.spill = false → s.roWaits c = false → does (.readoutDone cc) (ended r)) ∧
    (x.st = .holdoff → x.holdEnd ≤ s.now → does (.captureHoldoffEnd cc) (fun t =>
      t.capc c = { x with st := if s.rf (Reg.CH_CAP_PRE c) 0 16 ≤ x.ring.length then .armed else .filling } ∧ Only [.ch] s t)) ∧
    (∀ r q, x.run = some r → r.spillQ = some q →
      (x.stalled = true → s.spillRoom c q = true → 1024 ≤ r.buf.length → r.buf.length < 2048 → does (.spillDrainResume cc) (fun t =>
        (t.capc c).stalled = false ∧ ∃ r', (t.capc c).run = some r' ∧ r'.buf = r.buf.drop 1024)) ∧
      (x.st = .spill → r.stop ≤ x.written → r.buf = [] → r.planned = none → s.roWaits c = false → s.spillRoom c q = true → does (.spillDrainDone cc)
        (fun t => ended r t)) ∧
      (x.st = .spill → 65536 ≤ r.buf.length → does (.spillTruncate cc) (fun t => (t.capc c).st = .readout ∧
        EventSet t (Reg.CH_EVT c) 21 ∧ ∃ r', (t.capc c).run = some r' ∧ r'.trunc = true ∧ r'.planned = some r.stop ∧
          r'.stop = min r.stop x.written)))

/-! ## Lanes and links (15) -/

/-- A message waits on port `q`, or has left and is not acknowledged yet; of a longer one this is the first frame (15 R493, R501). -/
def Sent (t : State) (q vc kind : Nat) (l : List Byte) : Prop :=
  ∃ f ∈ (t.port q).tx.waiting ++ (t.port q).tx.unacked, f.vc = vc ∧ f.kind = kind ∧ f.payload = l.take 248

/-- A LINK_EVENT has been raised (11 R382, 15 R517). -/
def LinkRec (t : State) (p lane kind value : Nat) : Prop :=
  AtPort t 12 (fun r => r.typ = tLINK_EVENT ∧ r.idx = p ∧ fieldAt r.body 4 1 = p ∧ fieldAt r.body 5 1 = lane ∧
    fieldAt r.body 6 1 = kind ∧ fieldAt r.body 8 4 = value)

/-- No lane but `l` changes. -/
def OtherLanes (s t : State) (l : Nat) : Prop := ∀ k, k ≠ l → t.lane k = s.lane k

/-- What a lane or a port may change besides itself: its events and counters, its records, and the frames it sends. -/
def linkParts : List Part := [.link, .regs, .lag, .seqs, .out, .perf, .qtz]

/-- 15 R484 to R488, R505, R506, R517: a lane comes into lock, loses it, takes its figures of merit, idles, shuts down and adapts; its
far end's phase is kept. A trained port announces its credits and sends HELLO; the HELLO of the far end makes it ACTIVE; that of
another neighbour, and the loss of all its lanes for down_us, take an ACTIVE port DOWN. -/
def Obligations.LanesAndPorts : Prop :=
  ∀ (l : LaneN) (g : BitVec 16) (merit : Byte) (eq : Word) (blk : BitVec 64) (pp : PortN) (s : State),
    let n := l.val
    let x := s.lane n
    let p := s.lanePort n
    let y := s.port pp.val
    let does := fun (i : Instr) (h : State → Prop) => Completes i s (fun t => OtherLanes s t n ∧ h t)
    let alone := fun (i : Instr) (h : State → Prop) => does i (fun t => h t ∧ Only [.link] s t)
    let down := fun (t : State) (cause : Nat) => (t.port pp.val).st = 3 ∧ EventSet t (Reg.LINK_EVT pp.val) 1 ∧
      LinkRec t pp.val 255 3 cause ∧ (s.ldev.up = some pp.val → t.ldev.rooted = false ∧ t.ldev.failDue = some (0, s.now + 15000))
    (x.st = 1 ∨ (x.st = 6 ∧ x.lockTick = 0) → (s.port p).st ≠ 3 → does (.laneLock l g) (fun t =>
      t.lane n = { x with
        st := if x.st = 6 then 6 else 2, lockTick := max 1 s.now, frameTick := s.now, gearbox := g.toNat, meritMin := 255 } ∧
      Counts s t (Reg.LANE_LOCK_CNT n) ∧ EventSet t (Reg.LANE_EVT n) 0 ∧ LinkRec t p n 0 g.toNat ∧ Only linkParts s t)) ∧
    (x.st = 1 → (s.port p).st = 3 → s.rb (Reg.LINK_CTRL p) 31 = true → s.retired = false → Completes (.laneLock l g) s (fun t =>
      (t.port p).st = 1 ∧ Counts s t (Reg.LANE_LOCK_CNT n))) ∧
    (x.st = 2 ∨ x.st = 3 → does (.laneLockLost l) (fun t => t.lane n = { x with st := 1, lockTick := 0 } ∧
      Counts s t (Reg.LANE_LOSS_CNT n) ∧ EventSet t (Reg.LANE_EVT n) 1 ∧
      (∃ k, 16 ≤ k ∧ k ≤ 64 ∧ t.rget (Reg.LANE_BAD_SH n) = cntAddW (s.rget (Reg.LANE_BAD_SH n)) k) ∧
      LinkRec t p n 1 (min 0xFFFFFFFF ((s.now - x.lockTick) / 1500000)) ∧ Only (.freeCtr :: linkParts) s t ∧
      ((s.port p).st = 2 → (∀ k ∈ s.portLanes p, k ≠ n → (s.lane k).locked = false) → (t.port p).lostTick = s.now))) ∧
    (x.locked = true → x.meritN < 999 → alone (.laneMeritUpdate l merit) (fun t => t.lane n = { x with
      merit := merit.toNat, meritMin := min x.meritMin merit.toNat, meritSum := x.meritSum + merit.toNat, meritN := x.meritN + 1 })) ∧
    (x.locked = true → x.meritN = 999 → does (.laneMeritUpdate l merit) (fun t =>
      let mean := (x.meritSum + merit.toNat) / 1000
      (t.lane n).meritMean = mean ∧ (t.lane n).meritN = 0 ∧ (t.lane n).meritMin = min x.meritMin merit.toNat ∧
      (mean < s.rf (Reg.LANE_MERIT_LOW n) 0 8 → x.meritArmed = true →
        (t.lane n).meritArmed = false ∧ EventSet t (Reg.LANE_EVT n) 2 ∧ LinkRec t p n 7 (mean % 2 ^ 32)) ∧
      (mean < s.rf (Reg.LANE_MERIT_LOW n) 0 8 → x.meritArmed = false → t.regs = s.regs) ∧
      (s.rf (Reg.LANE_MERIT_LOW n) 0 8 + 8 ≤ mean → (t.lane n).meritArmed = true))) ∧
    (x.st = 2 → s.rb (Reg.LANE_CTRL n) 30 = true → s.timingLane p ≠ some n → x.frameTick + 15000 ≤ s.now →
      alone (.laneIdleEnter l) (fun t => t.lane n = { x with st := 3 })) ∧
    (x.st = 3 → alone (.laneIdleExit l) (fun t => t.lane n = { x with st := 2, frameTick := s.now })) ∧
    (x.st = 4 → (s.port p).st ≠ 5 → alone (.laneShutdownDone l) (fun t => (t.lane n).st = 0 ∧ (t.lane n).lockTick = 0 ∧
      ((s.port p).st = 4 → (∀ k ∈ s.portLanes p, k ≠ n → (s.lane k).st ≠ 4 ∧ (s.lane k).st ≠ 5) → (t.port p).st = 0))) ∧
    (x.st = 5 → (s.port p).st = 2 ∨ (s.port p).st = 3 → alone (.laneShutdownDone l) (fun t => (t.lane n).st = 1)) ∧
    (x.st = 6 → 0 < x.lockTick → x.ready = false → does (.laneAdaptDone l eq) (fun t =>
      t.lane n = { x with ready := true, eq := eq } ∧ t.out = s.out ++ [.train n true] ∧ Only [.link, .out] s t)) ∧
    (x.st = 6 → 0 < x.lockTick → blockGood blk = true → blockType blk = cbTRAIN → alone (.train l blk) (fun t =>
      (t.lane n).farReady = (blockField blk 1 1 == 1) ∧
      (x.ready = true → blockField blk 1 1 = 1 → (s.port p).st = 1 → (s.port p).firstReady = none →
        (t.port p).firstReady = some s.now))) ∧
    (y.st = 1 → y.hello = false → s.trainDone pp.val = true → Completes (.portTrained pp) s (fun t =>
      (t.port pp.val).hello = true ∧ Sent t pp.val 0 4 (s.helloMsg pp.val) ∧
      ∀ vc, vc < 4 → .block pp.val (creditBlock vc (mget (vcCredits vc) y.rx.released vc)) ∈ t.out)) ∧
    (y.st = 2 → s.lockedLanes pp.val = [] → y.lostTick + 1500 * max 50 (min 1000 (s.rf (Reg.LINK_CTRL pp.val) 0 16)) ≤ s.now →
      Completes (.portDownTimeout pp) s (fun t => down t 0)) ∧
    (∀ m, s.headMsg pp.val 0 4 = some m →
      (y.st = 2 → y.neighKnown = true → y.neighSerial ≠ BitVec.ofNat 64 (fieldAt m.payload 0 8) → Completes (.hello pp) s (fun t =>
        down t 3 ∧ (t.port pp.val).role = 0 ∧ (t.port pp.val).neighKnown = false)) ∧
      (y.st = 1 → y.hello = true → y.role = 0 → Completes (.hello pp) s (fun t =>
        (t.port pp.val).st = 2 ∧ (t.port pp.val).neighSerial = BitVec.ofNat 64 (fieldAt m.payload 0 8) ∧
        (t.port pp.val).neighId = fieldAt m.payload 8 1 ∧ (t.port pp.val).neighPort = fieldAt m.payload 9 1 % 4 ∧
        (t.port pp.val).role = 0 ∧ EventSet t (Reg.LINK_EVT pp.val) 0)))

/-- 15 R489, R492 to R497, R500, R503, R519: an ACK releases the frames up to its number, a NAK and the retry time send again from the
oldest missing one, eight times at most; a CREDIT adds credits; a frame that passes its CRC-32 is delivered in order, one that does
not is counted and answered with a NAK; acknowledgements, NAKs and credits go out at their times; a TIME_MSG enters the port's eight
places, a record of a stream goes on to Lagoon or the decompressor, and a REG_RESULT ends its access. -/
def Obligations.FramesAndRetry : Prop :=
  ∀ (pp : PortN) (blk : BitVec 64) (bytes : List Byte) (ago : TS48) (s : State),
    let p := pp.val
    let x := s.port p
    let a := blockField blk 1 2
    let busy := x.st = 2 ∨ x.st = 1
    let resends := fun (i : Instr) (q : Nat) =>
      (framesFrom x.tx.unacked q ≠ [] → x.tx.episodes < 8 → Completes i s (fun t =>
        t.out = s.out ++ (framesFrom x.tx.unacked q).map (fun f => .frame p (f.bytes true)) ∧ (t.port p).tx.unacked = x.tx.unacked ∧
        (t.port p).tx.episodes = x.tx.episodes + 1 ∧ (t.port p).tx.lastAck = s.now ∧
        t.rget (Reg.LINK_RESENT p) = cntAddW (s.rget (Reg.LINK_RESENT p)) (framesFrom x.tx.unacked q).length ∧
        EventSet t (Reg.LINK_EVT p) 3 ∧ Only linkParts s t)) ∧
      (8 ≤ x.tx.episodes → Completes i s (fun t => (t.port p).st = 3 ∧ LinkRec t p 255 3 1))
    (s.takesBlock p blk cbACK = true → x.tx.waiting = [] → Completes (.ack pp blk) s (fun t => Only [.link] s t ∧
      let rest := x.tx.unacked.filter (fun f => decide (2048 ≤ (a % 4096 + 4096 - f.seq) % 4096))
      (t.port p).tx.unacked = rest ∧ (rest.length < x.tx.unacked.length → (t.port p).tx.episodes = 0 ∧ (t.port p).tx.lastAck = s.now) ∧
      (rest.length = x.tx.unacked.length → t.port p = x))) ∧
    (s.takesBlock p blk cbNAK = true → resends (.nak pp blk) (a % 4096)) ∧
    (∀ f rest, x.st = 2 → x.tx.unacked = f :: rest →
      x.tx.lastAck + 1500 * max 1 (s.rf (Reg.LINK_RETRY_TMO p) 0 16) ≤ s.now → resends (.retryTimeout pp) f.seq) ∧
    (s.takesBlock p blk cbCREDIT = true → x.tx.waiting = [] → blockField blk 1 1 < 4 →
      let vc := blockField blk 1 1
      let more := (blockField blk 2 2 + 65536 - mget 0 x.tx.granted vc) % 65536
      more < 32768 → Completes (.credit pp blk) s (fun t => Only [.link] s t ∧
        mget 0 (t.port p).tx.avail vc = mget 0 x.tx.avail vc + more ∧ mget 0 (t.port p).tx.granted vc = blockField blk 2 2 ∧
        ∀ v, v ≠ vc → mget 0 (t.port p).tx.avail v = mget 0 x.tx.avail v)) ∧
    (blockType blk ≠ cbFRAME → ([cbIDLE, cbACK, cbCREDIT, cbNAK, cbTRAIN].contains (blockType blk) = false ∨ blockGood blk = false) →
      Completes (.badControlBlock pp blk) s (fun t =>
        Counts s t (Reg.LINK_CRC_ERR p) ∧ RegsOnly [Reg.LINK_CRC_ERR p] s t ∧ Only [.regs] s t)) ∧
    (wfFrame bytes = true → busy →
      (Frame.ofBytes bytes = none → Completes (.frame pp bytes ago) s (fun t => Counts s t (Reg.LINK_CRC_ERR p) ∧
        t.out = s.out ++ [.block p (nakBlock x.rx.expected)] ∧ (t.port p).rx.nakDue = some (s.now + 3000) ∧
        (t.port p).rx.inbox = x.rx.inbox ∧ Only [.link, .regs, .out] s t)) ∧
      (∀ f r, Frame.ofBytes bytes = some (f, r) →
        let d := (f.seq + 4096 - x.rx.expected) % 4096
        (2048 ≤ d → Completes (.frame pp bytes ago) s (fun t => t = s)) ∧
        (f.seq = x.rx.expected → x.rx.reorder = [] → f.kind < vcKinds f.vc → f.vc ≠ 0 ∨ (2 ≤ f.kind ∧ x.rx.part = none) →
          Completes (.frame pp bytes ago) s (fun t => (t.port p).rx.expected = (x.rx.expected + 1) % 4096 ∧
            (t.port p).rx.inbox = x.rx.inbox ++ [⟨f.vc, f.kind, f.payload, s.rxStamp p ago, f.cost, r, s.qtz.changes⟩] ∧
            Counts s t (Reg.LINK_FRAMES_RX p) ∧ Only linkParts s t)) ∧
        (0 < d → d ≤ 64 → f.vc ≠ 1 → (∀ e ∈ x.rx.reorder, e.1.seq ≠ f.seq ∧ e.1.seq ≠ x.rx.expected) →
          Completes (.frame pp bytes ago) s (fun t => (t.port p).rx.inbox = x.rx.inbox ∧ (t.port p).rx.expected = x.rx.expected ∧
            (t.port p).rx.reorder = x.rx.reorder ++ [(f, s.rxStamp p ago, r)] ∧
            (x.rx.nakDue = none → (t.port p).rx.nakDue = some (s.now + 1500)))))) ∧
    (∀ d, x.rx.ackDue = some d → d ≤ s.now → Completes (.ackTimer pp) s (fun t =>
      t.out = s.out ++ [.block p (ackBlock ((x.rx.expected + 4095) % 4096))] ∧
      t.port p = { x with rx := { x.rx with sinceAck := 0, ackDue := none } } ∧ Only [.link, .out] s t)) ∧
    (∀ d, x.rx.nakDue = some d → d ≤ s.now → Completes (.nakTimer pp) s (fun t =>
      t.out = s.out ++ [.block p (nakBlock x.rx.expected)] ∧
      t.port p = { x with rx := { x.rx with nakDue := some (s.now + 3000) } } ∧ Only [.link, .out] s t)) ∧
    (x.st = 2 → x.rx.creditDue ≤ s.now → Completes (.creditRepeat pp) s (fun t =>
      t.out = s.out ++ [0, 1, 2, 3].map (fun vc => .block p (creditBlock vc (mget (vcCredits vc) x.rx.released vc))) ∧
      t.port p = { x with rx := { x.rx with creditDue := s.now + 150000 } } ∧ Only [.link, .out] s t)) ∧
    (∀ m, s.headMsg p 1 3 = some m →
      let n := fieldAt m.payload 3 1
      (x.rx.tmsg.length < 8 → Completes (.timeMsg pp) s (fun t =>
        (t.port p).rx.tmsg = x.rx.tmsg ++ [⟨fieldAt m.payload 0 2, n, (m.payload.drop 8).take n⟩] ∧ EventSet t (Reg.LINK_EVT p) 7 ∧
        (bit (BitVec.ofNat 32 (fieldAt m.payload 2 1)) 0 = true → s.qtz.msgFifo.length < 64 →
          t.qtz.msgFifo = s.qtz.msgFifo ++ [⟨true, p, fieldAt m.payload 0 2, m.ts⟩]))) ∧
      (8 ≤ x.rx.tmsg.length → Completes (.timeMsg pp) s (fun t =>
        (t.port p).rx.tmsg = x.rx.tmsg ∧ EventSet t (Reg.LINK_EVT p) 8))) ∧
    (∀ m, s.headMsg p 2 0 = some m →
      let b := m.payload.drop 8
      let k := fieldAt m.payload 0 1
      let r := Rec.ofBytes b
      bit (BitVec.ofNat 32 (fieldAt m.payload 1 1)) 0 = true → 16 ≤ b.length → b.length = 16 * fieldAt b 2 2 →
        (r.typ ≠ tCBLOCK → r.typ ≠ tUBLOCK → Completes (.stream pp) s (fun t =>
          mget [] t.lag.ports (13 + p) = mget [] s.lag.ports (13 + p) ++ [⟨r, none, some k⟩] ∧ t.comp = s.comp)) ∧
        (r.typ = tCBLOCK ∨ r.typ = tUBLOCK → Completes (.stream pp) s (fun t =>
          t.comp.blocks = s.comp.blocks ++ [⟨p, k, r⟩] ∧ t.lag = s.lag))) ∧
    (∀ m, s.headMsg p 0 3 = some m →
      (∀ r, fieldAt m.payload 0 1 = s.link.dev.id → s.ldev.racc = some r → r.tag = fieldAt m.payload 3 1 →
        Completes (.regResult pp) s (fun t => t.ldev.racc = none ∧ t.ldev.raccStatus = fieldAt m.payload 1 1 ∧
          EventSet t (Reg.LINK_EVT 0) 9 ∧
          (r.write = false → t.rget Reg.LINK_RACC_DATA = BitVec.ofNat 32 (fieldAt m.payload 8 4)) ∧
          (r.write = true → t.rget Reg.LINK_RACC_DATA = s.rget Reg.LINK_RACC_DATA))) ∧
      (∀ q, fieldAt m.payload 0 1 ≠ s.link.dev.id → (s.takeMsg p m).routePort (fieldAt m.payload 0 1) = some q →
        Completes (.regResult pp) s (fun t => PassedOn s t p q m)))

/-- The final reply of a background command. -/
def Finishes (c : Instr) (s : State) (tk : Ticket) (st : Nat) (P : State → List Byte → Prop) : Prop :=
  Completes c s (fun t => ∃ u res, t = u.finish tk st res ∧ P u res)

/-- 15 R507 to R510: the first ENUM of a number makes its port the active UP, is answered CLAIM and REPORT and goes on to every other
ACTIVE port; CLAIM makes a port DOWN, three at most; a REPORT gains the port it came on and reaches the root, which gives IDs 2 ms after the last
one, in the order of path length and of the path read as a number, skipping its own; an ASSIGN sets the ID or goes on with its port
recorded; SB_START and SB find the standby ports; enumeration ends 2 ms after the last message of its last phase. -/
def ClaimEnumeration : Prop :=
  ∀ (pp : PortN) (s : State),
    let p := pp.val
    let d := s.ldev
    let active := fun (q : Nat) => q < 4 ∧ (s.port q).st = 2
    let num := leBytes 2 d.enumNum
    (∀ m, s.headMsg p 0 5 = some m →
      let n := fieldAt m.payload 0 2
      (n ≠ d.enumNum → Completes (.enum pp) s (fun t =>
        t.ldev.id = 0 ∧ t.ldev.up = some p ∧ t.ldev.hops = fieldAt m.payload 2 1 ∧ t.ldev.enumNum = n ∧ t.ldev.enumActive = true ∧
        t.ldev.rooted = false ∧ t.ldev.routes = [] ∧ (t.port p).role = 1 ∧ (∀ q, q < 4 → q ≠ p → (t.port q).role = 0) ∧
        t.cmd.fwd = [] ∧ Sent t p 0 6 (leBytes 2 n ++ leBytes 1 1) ∧
        Sent t p 0 7 (reportMsg s.sec.fuses.serial.toNat s.sec.straps.domainHead []) ∧
        ∀ q, active q → q ≠ p → Sent t q 0 5 (leBytes 2 n ++ leBytes 1 (fieldAt m.payload 2 1 + 1)))) ∧
      (n = d.enumNum → Completes (.enum pp) s (fun t => t = s.takeMsg p m))) ∧
    (∀ m, s.headMsg p 0 6 = some m → fieldAt m.payload 0 2 = d.enumNum → Completes (.claim pp) s (fun t =>
      (s.downPorts.length < 3 → (t.port p).role = 3) ∧ (3 ≤ s.downPorts.length → (t.port p).role = (s.port p).role) ∧ t.ldev = { d with standbys := if fieldAt m.payload 2 1 = 2 then d.standbys + 1 else d.standbys } ∧
      Only [.link, .out] s t)) ∧
    (∀ m, s.headMsg p 0 7 = some m →
      let path := p :: pathOf m.payload (fieldAt m.payload 9 1)
      let head := bit (BitVec.ofNat 32 (fieldAt m.payload 8 1)) 0
      (d.root = true → Completes (.report pp) s (fun t => t.ldev = { d with
        reports := d.reports ++ [⟨BitVec.ofNat 64 (fieldAt m.payload 0 8), head, path.length, path⟩]
        assignAt := some (s.now + 3000000) })) ∧
      (∀ q, d.root = false → s.upPort = some q → Completes (.report pp) s (fun t =>
        Sent t q 0 7 (reportMsg (fieldAt m.payload 0 8) head path) ∧ t.ldev = d))) ∧
    (∀ m, s.headMsg p 0 8 = some m → d.up = some p →
      (BitVec.ofNat 64 (fieldAt m.payload 0 8) = s.sec.fuses.serial → Completes (.assign pp) s (fun t =>
        t.ldev = { d with id := fieldAt m.payload 8 1, endAt := some (s.now + 3000000) })) ∧
      (∀ q, BitVec.ofNat 64 (fieldAt m.payload 0 8) ≠ s.sec.fuses.serial →
        (pathOf m.payload (fieldAt m.payload 9 1))[d.hops]? = some q → Completes (.assign pp) s (fun t =>
          mget none t.ldev.routes (fieldAt m.payload 8 1) = some q ∧ t.ldev.id = d.id ∧ Sent t q 0 8 m.payload))) ∧
    (∀ m, s.headMsg p 0 9 = some m → fieldAt m.payload 0 2 = d.enumNum → d.up = some p → Completes (.sbStart pp) s (fun t =>
      t.ldev = { d with endAt := some (s.now + 3000000) } ∧ (∀ q, active q → (s.port q).role = 3 → Sent t q 0 9 m.payload) ∧
      (s.sec.straps.domainHead = true → ∀ q, active q → (s.port q).role = 0 → Sent t q 0 10 num))) ∧
    (∀ m, s.headMsg p 0 10 = some m → fieldAt m.payload 0 2 = d.enumNum →
      ((s.port p).role = 0 → (∀ q, q < 4 → (s.port q).role ≠ 2) → Completes (.sb pp) s (fun t =>
        (t.port p).role = 2 ∧ t.ldev = { d with sbTaken := true, endAt := some (s.now + 3000000) } ∧
        Sent t p 0 6 (num ++ leBytes 1 2) ∧ ∀ q, active q → q ≠ p → (s.port q).role = 0 → Sent t q 0 10 num)) ∧
      ((∃ q, q < 4 ∧ (s.port q).role = 2) → Completes (.sb pp) s (fun t => ∀ q, (t.port q).role = (s.port q).role))) ∧
    (∀ a, d.assignAt = some a → d.root = true → a ≤ s.now → 1 ≤ d.id → d.id ≤ 254 → Completes .enumReportTimeout s (fun t =>
      t.ldev.assignAt = none ∧ t.ldev.endAt = some (s.now + 3000000) ∧
      t.ldev.given = min d.reports.length 253 + 1 ∧ t.ldev.left = d.reports.length - 253 ∧
      ∀ l1 r l2 q, d.reports = l1 ++ r :: l2 → (∀ y ∈ l1 ++ l2, y.before r = true ∨ r.before y = true) → r.path.head? = some q →
        let n := (l1 ++ l2).countP (fun y => y.before r)
        let id := if n + 1 < d.id then n + 1 else n + 2
        n < 253 → mget none t.ldev.routes id = some q ∧ Sent t q 0 8 (assignMsg r.serial.toNat id r.path))) ∧
    (∀ e, d.endAt = some e → d.enumActive = true → e ≤ s.now →
      (Completes .enumEnd s (fun t => t.ldev.enumActive = false ∧ t.ldev.endAt = none ∧
        EventSet t (Reg.LINK_EVT (d.up.getD 0)) 4 ∧ LinkRec t (d.up.getD 0) 255 6 ((d.id + d.hops * 256) % 2 ^ 32) ∧
        (d.root = true → t.ldev.rooted = true ∧ ∀ q, active q → (s.port q).role = 3 →
          Sent t q 1 5 (leBytes 1 d.id ++ leBytes 1 d.hops)) ∧
        (d.root = false → t.ldev.rooted = d.rooted))) ∧
      (∀ tk, d.root = true → d.enumTk = some tk → Finishes .enumEnd s tk (if d.left = 0 then stOK else stNO_RESOURCE) (fun u res =>
        u.ldev.enumTk = none ∧ res = leBytes 2 d.given ++ leBytes 2 d.left ++ leBytes 1 d.maxHops ++ leBytes 1 d.standbys ++
          leBytes 2 d.enumNum)))

/-- 15 R512 to R515: ROOT_LOST on the active UP unroots the device and goes down the tree; ROOTED roots it and goes on; an ANNOUNCE
on a DOWN port makes that port the route of each ID named. A failover takes the standby port, or makes a head with PCIe the root, or
waits for ROOTED on the old port while that is ACTIVE, or leaves the device orphaned. -/
def ClaimFailover : Prop :=
  ∀ (pp : PortN) (s : State),
    let p := pp.val
    let d := s.ldev
    let downs := fun (q : Nat) => q < 4 ∧ (s.port q).st = 2 ∧ (s.port q).role = 3
    (∀ m, s.headMsg p 1 4 = some m → d.up = some p → Completes (.rootLost pp) s (fun t =>
      t.ldev = { d with rooted := false, failDue := some (1, s.now + 15000) } ∧ ∀ q, downs q → Sent t q 1 4 (leBytes 1 d.id))) ∧
    (∀ m, s.headMsg p 1 5 = some m → d.up = some p →
      (d.rooted = true → Completes (.rooted pp) s (fun t => t.ldev = { d with hops := fieldAt m.payload 1 1 + 1 })) ∧
      (d.rooted = false → Completes (.rooted pp) s (fun t => t.ldev.rooted = true ∧ t.ldev.orphan = false ∧
        t.ldev.hops = fieldAt m.payload 1 1 + 1 ∧ t.ldev.announceHeld = [] ∧
        ∀ q, downs q → Sent t q 1 5 (leBytes 1 (fieldAt m.payload 0 1) ++ leBytes 1 (fieldAt m.payload 1 1 + 1))))) ∧
    (∀ m, s.headMsg p 1 6 = some m → (s.port p).role = 3 →
      let ids := ((m.payload.drop 8).take (fieldAt m.payload 0 1)).map BitVec.toNat
      Completes (.announce pp) s (fun t => (∀ i ∈ ids, mget none t.ldev.routes i = some p) ∧
        (∀ i, i ∉ ids → mget none t.ldev.routes i = mget none d.routes i) ∧
        (d.rooted = false → t.ldev.announceHeld = d.announceHeld ++ ids) ∧
        (∀ q, d.rooted = true → s.upPort = some q → ids ≠ [] → ids.length ≤ 240 →
          Sent t q 1 6 (leBytes 1 ids.length ++ leBytes 7 0 ++ ids.map (BitVec.ofNat 8))))) ∧
    (∀ cause w old, d.failDue = some (cause, w) → d.up = some old →
      let standby := (List.range 4).find? (fun q => (s.port q).st == 2 && (s.port q).role == 2)
      let takes := s.sec.straps.domainHead = true ∧ s.sec.straps.pcieEn = true
      (∀ new, standby = some new → Completes .failover s (fun t => t.ldev.up = some new ∧ t.ldev.failDue = none ∧
        (t.port new).role = 1 ∧ (old ≠ new → (t.port old).role = 0) ∧ Counts s t (Reg.LINK_FAILOVERS new) ∧
        EventSet t (Reg.LINK_EVT new) 2 ∧ LinkRec t new 255 4 ((old + cause * 256) % 2 ^ 32) ∧
        AtPort t 12 (fun r => r.typ = tALARM ∧ fieldAt r.body 4 2 = 0x0901 ∧ fieldAt r.body 6 1 = 1))) ∧
      (standby = none → takes → Completes .failover s (fun t => t.ldev.up = none ∧ t.ldev.root = true ∧ t.ldev.rooted = true ∧
        t.ldev.hops = 0 ∧ t.ldev.failDue = none ∧ (t.port old).role = 0 ∧ EventSet t (Reg.LINK_EVT old) 2 ∧
        LinkRec t old 255 4 ((old + 512) % 2 ^ 32) ∧ ∀ q, downs q → q ≠ old → Sent t q 1 5 (leBytes 1 d.id ++ leBytes 1 0))) ∧
      (standby = none → ¬takes → (s.port old).st = 2 → Completes .failover s (fun t =>
        t = s.updDev (fun x => { x with failDue := none }))) ∧
      (standby = none → ¬takes → (s.port old).st ≠ 2 → Completes .failover s (fun t => t.ldev.up = none ∧ t.ldev.orphan = true ∧
        (t.port old).role = 0 ∧ EventSet t (Reg.LINK_EVT old) 6 ∧ LinkRec t old 255 4 ((old + 768) % 2 ^ 32) ∧
        AtPort t 12 (fun r => r.typ = tALARM ∧ fieldAt r.body 4 2 = 0x0902 ∧ fieldAt r.body 6 1 = 2))))

/-- The statements above on one subject, together. -/
def Obligations.Topology : Prop := ClaimEnumeration ∧ ClaimFailover

/-- 15 R507, R521 to R523: LINK_TRAIN is refused while an enumeration runs and, without FORCE, for the active UP; otherwise the ports
selected take their widths and train, and the final reply says for each how it stands. LINK_ENUMERATE makes a domain head the root,
which sends ENUM on every ACTIVE port. LINK_STATUS reads the ports. -/
def Obligations.LinkCommands : Prop :=
  ∀ (m : Master) (s : State),
    let e := entryOf s m.val
    let mask := e.p 0 1
    let force := bit (BitVec.ofNat 32 (e.p 1 1)) 1
    let full := bit (BitVec.ofNat 32 (e.p 1 1)) 0
    let code := fun (p : Nat) => e.p 2 2 / 4 ^ p % 4
    let sel := fun (p : Nat) => p < 4 ∧ mask.testBit p = true
    let upSel := ∃ p, sel p ∧ s.ldev.up = some p
    (Admitted s m.val 0x0901 → e.len = 1 → mask ≠ 0 → mask < 16 → e.p 1 1 ≤ 3 → e.p 4 4 = 0 →
      (∀ p, sel p → p = 1 ∨ p = 3 → code p ≠ 3 ∧ (sel (p - 1) → code (p - 1) ≠ 3)) →
      (s.ldev.enumActive = true → AnswersNow (.linkTrain m) s m.val stBUSY (fun u res => res = [] ∧ u.link = s.link)) ∧
      (s.ldev.enumActive = false → upSel → force = false →
        AnswersNow (.linkTrain m) s m.val stREFUSED (fun u res => res = [] ∧ u.link = s.link)) ∧
      (s.ldev.enumActive = false → ¬upSel ∨ force = true → Completes (.linkTrain m) s (fun t =>
        (∃ ports, (∀ p, p ∈ ports ↔ sel p) ∧
          t.ldev.train = s.ldev.train ++ [⟨ticketOf s m.val, ports, s.now + if full then 30000000 else 3000000⟩]) ∧
        (∀ p, sel p → t.rf (Reg.LINK_CTRL p) 28 2 = code p ∧
          (s.rb (Reg.LINK_CTRL p) 31 = true → s.retired = false →
            (p = 1 ∨ p = 3 → sel (p - 1) ∨ s.rf (Reg.LINK_CTRL (p - 1)) 28 2 ≠ 3) → (t.port p).st = 1))))) ∧
    (∀ j rest, s.ldev.train = j :: rest →
      let word := fun (p : Nat) => leBytes 1 p ++ leBytes 1 (s.port p).st ++ leBytes 1 (s.lockedMask p)
        ++ leBytes 1 (((s.portLanes p).map (fun l => (s.lane l).meritMin)).foldl min 255)
        ++ leBytes 1 (s.rf (Reg.LINK_CTRL p) 28 2) ++ leBytes 1 (s.port p).neighId ++ leBytes 1 (s.port p).neighPort ++ leBytes 1 0
      ((∀ p ∈ j.ports, (s.port p).st = 2) → Finishes .linkTrainDone s j.tk stOK (fun u res =>
        u.ldev.train = rest ∧ res = j.ports.flatMap word)) ∧
      ((∃ p ∈ j.ports, (s.port p).st ≠ 2) → j.deadline ≤ s.now → Finishes .linkTrainDone s j.tk stTIMEOUT (fun u res =>
        u.ldev.train = rest ∧ res = j.ports.flatMap word))) ∧
    (Admitted s m.val 0x0902 → e.len = 1 → 1 ≤ e.p 0 1 → e.p 0 1 ≤ 254 → e.p 1 7 = 0 →
      (s.sec.straps.domainHead = false →
        AnswersNow (.linkEnumerate m) s m.val stWRONG_STATE (fun u res => res = [] ∧ u.link = s.link)) ∧
      (s.sec.straps.domainHead = true → s.ldev.enumActive = true →
        AnswersNow (.linkEnumerate m) s m.val stBUSY (fun u res => res = [] ∧ u.link = s.link)) ∧
      (s.sec.straps.domainHead = true → s.ldev.enumActive = false → Completes (.linkEnumerate m) s (fun t =>
        t.ldev.id = e.p 0 1 ∧ t.ldev.root = true ∧ t.ldev.rooted = true ∧ t.ldev.up = none ∧ t.ldev.hops = 0 ∧ t.ldev.routes = [] ∧
        t.ldev.enumActive = true ∧ t.ldev.enumNum ≠ 0 ∧ t.ldev.enumNum ≠ s.ldev.enumNum ∧
        t.ldev.assignAt = some (s.now + 3000000) ∧ t.ldev.enumTk = some (ticketOf s m.val) ∧ (∀ p, p < 4 → (t.port p).role = 0) ∧
        ∀ p, p < 4 → (s.port p).st = 2 → Sent t p 0 5 (leBytes 2 t.ldev.enumNum ++ leBytes 1 1)))) ∧
    (Admitted s m.val 0x0903 → e.len = 1 → e.p 0 1 ≤ 3 → e.p 1 7 = 0 → AnswersNow (.linkStatus m) s m.val stOK (fun u res =>
      let p := e.p 0 1
      let x := s.port p
      u = taken s m.val ∧ res.length = 32 ∧ fieldAt res 0 1 = p ∧ fieldAt res 1 1 = x.st % 256 ∧ fieldAt res 2 1 = x.role % 256 ∧
      fieldAt res 3 1 = s.rf (Reg.LINK_CTRL p) 28 2 ∧ fieldAt res 4 1 = s.lockedMask p % 256 ∧ fieldAt res 6 1 = x.neighId % 256 ∧
      fieldAt res 7 1 = s.ldev.hops % 256 ∧ fieldAt res 8 8 = x.neighSerial.toNat ∧
      fieldAt res 16 4 = (s.rget (Reg.LINK_CRC_ERR p)).toNat ∧ fieldAt res 20 4 = (s.rget (Reg.LINK_RESENT p)).toNat ∧
      fieldAt res 24 4 = (s.rget (Reg.LINK_FAILOVERS p)).toNat)) ∧
    (Admitted s m.val 0x0903 → e.len = 1 → e.p 0 1 = 255 → e.p 1 7 = 0 → AnswersNow (.linkStatus m) s m.val stOK (fun u res =>
      u = taken s m.val ∧ res = [0, 1, 2, 3].flatMap s.linkWords))

/-! ## Straits and kernels (01, 09), periods and contexts (10) -/

/-- The Strait that a command names. -/
def straitOf (s : State) (x : StraitSel) : Strait :=
  match x with
  | .inbound i => (s.island i.val).strait
  | .engineIn e => (s.engine e.val).input
  | .engineOut e => (s.engine e.val).output

/-- The index that its GAP and FLUSH records carry (11 R370). -/
def straitIdx (x : StraitSel) : Nat :=
  match x with
  | .inbound i => 0x1200 + i.val
  | .engineIn e => 0x1000 + e.val
  | .engineOut e => 0x1100 + e.val

/-- 01 R21, R23, R25, R33 to R41: an island link that has a word free gives its Strait the next item that has crossed it, events before
samples before read-outs; a Strait takes it when every segment finds 16 words free as the writer samples them, after the GAP that tells
of what was dropped, and drops it otherwise as one more item into the pending marker, while a read-out item waits; the reader sees an
entry from its second edge on; it hands a record to the engine bound to its channel when that takes it, and otherwise to the routes, a
spill's to its queue. A flush empties the reader; its token leaves a FLUSH record. That the 4,000 words of a pause of 2 µs stay free of
read-out items is the model's choice (log entry 36). -/
def Obligations.Straits : Prop :=
  ∀ (ii : Isl) (sel : StraitSel) (cause : Byte) (s : State),
    let i := ii.val
    let x := s.island i
    let last := x.evq = [] ∧ x.smq = []
    let next := fun (it : Item) => it.tick + 4 ≤ s.now ∧ x.linkAt < 7 * (s.now + 1) ∧ x.strait.flush = none ∧
      (x.evq = [it] ∨ (x.evq = [] ∧ x.smq = [it]) ∨ (x.evq = [] ∧ x.smq = [] ∧ x.roq = [it]))
    let used := fun (y : Strait) => (y.ents.map SEnt.words).sum + ((y.freed.filter (fun e => decide (s.now < e.1))).map Prod.snd).sum
    let room := fun (it : Item) => (∀ h ∈ x.strait.ents, h.isGap = false) ∧
      (last → used x.strait + 16 * ((it.words + 15) / 16) ≤ 96) ∧ used x.strait + 16 * ((it.words + 15) / 16) ≤ 4096
    let whole := fun (it : Item) => it.recs.filter (fun r => !x.strait.torn.contains (r.typ, r.idx))
    (∀ it, next it → room it → Completes (.straitPush ii) s (fun t => Only [.isl, .freeCtr] s t ∧ ∃ n,
      (480 ≤ x.freq → x.freq ≤ 960 → s.now + 2 ≤ n ∧ n ≤ s.now + 6) ∧ (t.island i).linkAt = max x.linkAt (7 * s.now) + it.words ∧
      (t.island i).evq.length + (t.island i).smq.length + (t.island i).roq.length + 1 = x.evq.length + x.smq.length + x.roq.length ∧
      (t.island i).strait.pend = none ∧
      (x.strait.pend = none → (t.island i).strait.ents = x.strait.ents ++ [.item { it with recs := whole it, tick := n }]) ∧
      (∀ d, x.strait.pend = some d →
        (t.island i).strait.ents = x.strait.ents ++ [.gap (d.gap (0x1200 + i) 0), .item { it with recs := whole it, tick := n }]))) ∧
    (∀ it, next it → ¬last → ¬room it → it.recs ≠ [] → x.strait.torn = [] → Completes (.straitPush ii) s (fun t =>
      Only [.isl, .freeCtr] s t ∧ (t.island i).strait.ents = x.strait.ents ∧ ∃ d, (t.island i).strait.pend = some d ∧ d.last = it.ts ∧
        d.count = (match x.strait.pend with | some o => o.count | none => 0) + 1)) ∧
    (∀ it, next it → last → ¬room it → Completes (.straitPush ii) s (fun t => t.island i = x ∧ Only [.isl, .freeCtr] s t)) ∧
    (∀ it q r rest, x.strait.ents = .item it :: rest → x.strait.flush = none → it.tick ≤ s.now → it.recs = [r] → it.spillQ = some q →
      Completes (.straitPop (.inbound ii)) s (fun t => (t.island i).strait.ents = rest ∧ t.eng = s.eng ∧
        ∃ y ∈ mget [] t.lag.ports i, y.spill = some q ∧ y.r.typ = r.typ ∧ y.r.idx = r.idx ∧ y.r.ts = r.ts ∧ y.r.body = r.body)) ∧
    (∀ it r rest, x.strait.ents = .item it :: rest → x.strait.flush = none → it.tick ≤ s.now → it.spillQ = none → it.recs = [r] →
      let e := s.boundTo i (r.idx % 256)
      (∀ k, r.cls = 0 → e = some k → s.engTakes k r = true → Completes (.straitPop (.inbound ii)) s (fun t =>
        (t.island i).strait.ents = rest ∧ t.lag = s.lag ∧
        ((s.engine k).input.pend = none → (s.engine k).input.torn = [] → (∀ h ∈ (s.engine k).input.ents, h.isGap = false) →
          (s.engine k).input.flush = none → used (s.engine k).input + 16 * ((r.units + 15) / 16) ≤ 1024 →
          ∃ y, (t.engine k).input.ents = (s.engine k).input.ents ++ [.item y] ∧ y.recs = [r] ∧ y.words = r.units))) ∧
      (r.cls ≠ 0 ∨ e = none ∨ (∃ k, e = some k ∧ s.engTakes k r = false) → Completes (.straitPop (.inbound ii)) s (fun t =>
        (t.island i).strait.ents = rest ∧ t.eng = s.eng ∧
        AtPort t i (fun z => z.typ = r.typ ∧ z.cls = r.cls ∧ z.idx = r.idx ∧ z.ts = r.ts ∧ z.flags = r.flags ∧ z.body = r.body)))) ∧
    (∀ k : Fin 192, (∀ it rest, (s.engine k.val).output.ents = .item it :: rest → (s.engine k.val).output.flush = none → it.tick ≤ s.now →
      Completes (.straitPop (.engineOut k)) s (fun t => (t.engine k.val).output.ents = rest ∧
        mget [] t.lag.ports (k.val / 16) = mget [] s.lag.ports (k.val / 16) ++ it.recs.map (fun r => ⟨r, none, none⟩)))) ∧
    (∀ k : Fin 192, (∀ g it rest, (s.engine k.val).input.ents = .gap g :: .item it :: rest → (s.engine k.val).input.flush = none → it.tick ≤ s.now →
      g.cls = 4 → fieldAt g.body 4 4 ≠ 0 → Completes (.straitPop (.engineIn k)) s (fun t =>
        (t.engine k.val).input.ents = .item it :: rest ∧ (t.engine k.val).ingap = true ∧
        t.rget (Reg.ISL_ENG_INGAP (k.val / 16) (k.val % 16)) =
          cntAddW (s.rget (Reg.ISL_ENG_INGAP (k.val / 16) (k.val % 16))) (fieldAt g.body 4 4) ∧
        AtPort t (k.val / 16) (fun z => z.typ = g.typ ∧ z.idx = g.idx ∧ z.ts = g.ts ∧ z.body = g.body)))) ∧
    ((straitOf s sel).flushing = false → (∀ k, sel = .engineOut k → ∀ h ∈ (s.engine k.val).per.held, h.isToken = false) →
      Completes (.straitFlush sel cause) s (fun t => (straitOf t sel).ents = [] ∧
      (∃ f, (straitOf t sel).flush = some f ∧ f.cause = cause.toNat) ∧ Only [.isl, .eng] s t)) ∧
    ((straitOf s sel).flushing = true → Completes (.straitFlush sel cause) s (fun t => straitOf t sel = straitOf s sel)) ∧
    (∀ f, (straitOf s sel).flush = some f → Completes (.straitFlushToken sel) s (fun t => Only [.isl, .eng] s t ∧
      (straitOf t sel).flush = none ∧ (straitOf t sel).pend = none ∧
      ∃ r, (straitOf t sel).ents = [.token r] ∧ r.typ = tFLUSH ∧ r.cls = 4 ∧ r.idx = straitIdx sel ∧ r.ts = s.beacon ∧
        fieldAt r.body 12 4 = (match (straitOf s sel).pend with | some d => d.count % 2 ^ 32 | none => 0) ∧
        fieldAt r.body 16 1 = f.cause % 256))

/-- 09 R336 to R341: KERNEL_LOAD copies from a bank that the owner holds; the engines of its mask take the image when its header,
length, and signature or the DEVELOP lifecycle admit it, and become unloaded otherwise. An engine that either holds in the background
answers BUSY. KERNEL_START starts loaded, stopped engines at the next period start when the Island's clock can meet what they declare;
each binding of the entry counts, a channel having one engine: that the engines that run or will start come first in it is the model's
choice (log entry 37). KERNEL_STOP stops at the next period start, or at once with NOW; that it answers at once in an Island without a
period is the model's choice (log entry 37). -/
def Obligations.Kernels : Prop :=
  ∀ (m : Master) (s : State),
    let e := entryOf s m.val
    let i := e.p 0 1
    let flag := bit (BitVec.ofNat 32 (e.p 1 1)) 0
    let mask := e.p 2 2
    let sel := fun (k : Nat) => k / 16 = i ∧ mask.testBit (k % 16) = true
    let loadSel := fun (k : Nat) => k / 16 = i ∧ (e.p 12 2).testBit (k % 16) = true
    (Admitted s m.val 0x0601 → e.len = 2 → i ≤ 11 → e.p 1 1 ≤ 7 → e.p 2 2 = 0 → e.p 4 4 % 16 = 0 → e.p 4 4 + e.p 8 4 ≤ 262144 →
      e.p 12 2 ≠ 0 → e.p 14 2 = 0 →
      let held := ((s.bank (8 * i + e.p 1 1)).owner = 4 ∨ (s.bank (8 * i + e.p 1 1)).owner = 5) ∧ (s.bank (8 * i + e.p 1 1)).hand = none
      let works := ∃ k, loadSel k ∧ ((s.engine k).startPend = true ∨ ∃ j ∈ s.ctx.loads, j.island = i ∧ j.mask.testBit (k % 16) = true)
      ((∀ k, loadSel k → (s.engine k).st.runs = false) → held → works → AnswersNow (.kernelLoad m) s m.val stBUSY (fun u res =>
        res = [] ∧ u.eng = s.eng ∧ u.ctx = s.ctx)) ∧
      ((∀ k, loadSel k → (s.engine k).st.runs = false) → held → ¬works → Completes (.kernelLoad m) s (fun t =>
        t.ctx.loads = s.ctx.loads ++ [⟨ticketOf s m.val, i, e.p 1 1, e.p 4 4, e.p 8 4, e.p 12 2⟩] ∧ t.eng = s.eng)) ∧
      ((∃ k, loadSel k ∧ (s.engine k).st.runs = true) ∨ ¬held →
        AnswersNow (.kernelLoad m) s m.val stWRONG_STATE (fun u res => res = [] ∧ u.eng = s.eng ∧ u.ctx = s.ctx))) ∧
    (∀ j rest, s.ctx.loads = j :: rest → s.mem.poison = [] →
      let l := s.bankBytes j.island j.bank j.off j.len
      let good := 256 ≤ j.len ∧ headerOk (l.take 256) = true ∧ imageLen l = j.len
      let signed := if fieldAt l 6 2 = 0 then s.lifecycle = 1 else s.kernelVerifies l = true
      let ours := fun (k : Nat) => k / 16 = j.island ∧ j.mask.testBit (k % 16) = true
      let others := fun (u : State) => ∀ k, ¬ours k → u.engine k = s.engine k
      (good → signed → Finishes .kernelLoadDone s j.tk stOK (fun u res => u.ctx.loads = rest ∧ others u ∧
        res = leBytes 4 (fieldAt l 8 4) ++ leBytes 4 (fieldAt l 12 4) ++ leBytes 2 j.mask ++ leBytes 6 0 ∧
        ∀ k, ours k → (u.engine k).loaded = true ∧ (u.engine k).st = .stopped ∧ (u.engine k).img = imageOf l ∧
          (∀ n, n < fieldAt l 16 2 → mget 0 (u.engine k).imem n = BitVec.ofNat 32 (fieldAt l (256 + sigLen l + 4 * n) 4)))) ∧
      (¬good → Finishes .kernelLoadDone s j.tk stBAD_PARAM (fun u res => u.ctx.loads = rest ∧ res = [] ∧ others u ∧
        ∀ k, ours k → (u.engine k).loaded = false ∧ (u.engine k).st = .stopped)) ∧
      (good → fieldAt l 6 2 = 0 → s.lifecycle ≠ 1 → Finishes .kernelLoadDone s j.tk stLOCKED (fun u res =>
        res = [] ∧ others u ∧ ∀ k, ours k → (u.engine k).loaded = false)) ∧
      (good → fieldAt l 6 2 = 1 → s.kernelVerifies l = false → Finishes .kernelLoadDone s j.tk stSIG_INVALID (fun u res =>
        res = [] ∧ EventSet u Reg.SEC_EVT 2 ∧ others u ∧ ∀ k, ours k → (u.engine k).loaded = false))) ∧
    (Admitted s m.val 0x0602 → e.len = 5 → (taken s m.val).startParamOk e = true →
      let ready := ∀ k, sel k → (s.engine k).loaded = true ∧ (s.engine k).st = .stopped
      let need := fun (k : Nat) => (s.engine k).img.budgetStart +
        (if mask.testBit (k % 16) then e.p 4 4 else (s.engine k).itemsMax) * (s.engine k).img.budgetItem
      let works := ∃ k, sel k ∧ ((s.engine k).startPend = true ∨ ∃ j ∈ s.ctx.loads, j.island = i ∧ j.mask.testBit (k % 16) = true)
      let counts := fun (k : Nat) => k / 16 = i ∧ (mask.testBit (k % 16) = true ∨ (s.engine k).st.runs = true ∨ (s.engine k).startPend = true)
      (¬ready ∨ (s.island i).cfg = none → AnswersNow (.kernelStart m) s m.val stWRONG_STATE (fun u res => res = [] ∧ u.eng = s.eng)) ∧
      (ready → (s.island i).cfg ≠ none → works → AnswersNow (.kernelStart m) s m.val stBUSY (fun u res => res = [] ∧ u.eng = s.eng)) ∧
      (∀ c, ready → (s.island i).cfg = some c → ¬works → 0 < c.ticks →
        ((∃ k, counts k ∧ (s.island i).fmax * c.ticks < need k * 960) →
          AnswersNow (.kernelStart m) s m.val stREFUSED (fun u res => res = [] ∧ u.eng = s.eng)) ∧
        ((∀ k, counts k → need k * 960 ≤ (s.island i).fmax * c.ticks) → Completes (.kernelStart m) s (fun t =>
          t.ctx.startJobs = s.ctx.startJobs ++ [⟨ticketOf s m.val, [i], 0, []⟩] ∧
          (∀ k, sel k → (t.engine k).startPend = true ∧ (t.engine k).itemsMax = e.p 4 4) ∧
          (flag = false ∨ (∀ k, k / 16 = i → (s.engine k).bind < 65536) →
            (∀ k, counts k → (t.engine k).bind = if flag then (s.engine k).bind else e.p (8 + 2 * (k % 16)) 2) ∧
            ∀ k k' c, k / 16 = i → k' / 16 = i → k ≠ k' → (t.engine k).bind.testBit c = true → (t.engine k').bind.testBit c = false) ∧
          ∀ k, k / 16 ≠ i → t.engine k = s.engine k)))) ∧
    (Admitted s m.val 0x0603 → e.len = 1 → i ≤ 11 → e.p 1 1 ≤ 1 → e.p 4 4 = 0 →
      let busy := fun (k : Nat) => sel k ∧ (s.engine k).st ≠ .stopped
      ((∀ k, ¬busy k) → AnswersNow (.kernelStop m) s m.val stWRONG_STATE (fun u res => res = [] ∧ u.eng = s.eng)) ∧
      (flag = true → (∃ k, busy k) → AnswersAtBeacon (.kernelStop m) s m.val (fun u res => res = [] ∧
        EventSet u (Reg.ISL_EVT i) 7 ∧ ∀ k, busy k → (u.engine k).st = .stopped)) ∧
      let stops := fun (t : State) => ∀ k, busy k → if (s.engine k).st = .fault then (t.engine k).st = .stopped else (t.engine k).stopPend = true
      (flag = false → (∃ k, busy k) → (s.island i).cfg ≠ none → Completes (.kernelStop m) s (fun t =>
        t.ctx.stopJobs = s.ctx.stopJobs ++ [⟨ticketOf s m.val, [i], 0, []⟩] ∧ stops t)) ∧
      (flag = false → (∃ k, busy k) → (s.island i).cfg = none → AnswersAtBeacon (.kernelStop m) s m.val (fun u res => res = [] ∧ stops u)))

/-- 09 R307, 10 R347 to R359, R366: boundary and deadline marks enter an Island's FIFO at their ticks and are taken in order; the commit
begins when every running engine has finished, or with the deadline mark; it aborts an engine that has not finished, publishes what the
others hold and applies the staged updates, and takes 64 ns and 2 ns for each; then contexts change hands, and the next period starts,
after a planned change of the clock. A configuration takes effect at the first tick whose TS48 is at or after its anchor, which ends the
boundaries of the one before. That a deadline mark passes a boundary mark that the Island cannot act on yet is the model's choice (log
entry 39). -/
def Obligations.Periods : Prop :=
  ∀ (ii : Isl) (m : Master) (s : State),
    let i := ii.val
    let x := s.island i
    let e := entryOf s m.val
    let early := match x.cfg with | some c => !c.deadlineMode | none => true
    let finished := ∀ k, k / 16 = i → (s.engine k).st.runs = true → s.engFinished k = true
    let alone := fun (c : Instr) (h : State → Prop) => Completes c s (fun t => h t ∧ Only [.isl] s t ∧ ∀ j, j ≠ i → t.island j = s.island j)
    let endTs := match x.marked with | some k => k.ts | none => x.startTs
    let on := fun (id : Nat) => (s.bank (96 + id / 2048)).st = 0
    (∀ c, x.cfg = some c → c.unconf = false → x.nextB ≤ s.now → (∀ p, s.anchorDue i = some p → x.nextB < s.firstTick p.anchor) →
      Completes (.periodBoundaryTick ii) s (fun t =>
        let g := c.ticks * c.frac / 256
        (t.island i).marks = x.marks ++ [⟨true, g == 0, x.nextB, s.tsTick x.nextB⟩] ∧ (t.island i).nextB = x.nextB + c.ticks ∧
        (t.island i).deadlines = (if g = 0 then x.deadlines else x.deadlines ++ [(x.nextB + g, x.nextB)]) ∧
        (t.island i).phase = x.phase)) ∧
    (∀ p, s.anchorDue i = some p → s.firstTick p.anchor ≤ x.nextB → Completes (.periodBoundaryTick ii) s (fun t => t = s)) ∧
    (∀ d b rest, x.deadlines = (d, b) :: rest → d ≤ s.now → alone (.deadlineTick ii) (fun t =>
      t.island i = { x with marks := x.marks ++ [⟨false, true, b, s.tsTick d⟩], deadlines := rest })) ∧
    (∀ k rest, x.marks = k :: rest → k.bnd = true → x.phase = .run → x.marked = none → alone (.boundaryMark ii) (fun t =>
      (t.island i).marks = rest ∧ (t.island i).marked = some k ∧
      (k.dl = true ∨ (early = true ∧ finished) → (t.island i).phase = .ready) ∧
      (k.dl = false → (early = false ∨ ¬finished) → (t.island i).phase = .run))) ∧
    (∀ l k rest, x.marks = l ++ k :: rest → (∀ y ∈ l, y.bnd = true) → (l = [] ∨ x.phase ≠ .run ∨ x.marked ≠ none) →
      k.bnd = false → k.dl = true → alone (.deadlineMark ii) (fun t =>
        (∀ b, x.marked = some b → b.b = k.b →
          t.island i = { x with marks := l ++ rest, phase := if x.phase = .run then .ready else x.phase }) ∧
        ((∀ b, x.marked = some b → b.b ≠ k.b) →
          t.island i = { x with marks := (l ++ rest).map (fun y => if y.bnd && y.b == k.b then { y with dl := true } else y) }))) ∧
    (x.phase = .run → x.marked ≠ none → early = true → finished → alone (.enginesFinished ii) (fun t =>
      t.island i = { x with phase := .ready })) ∧
    (x.phase = .ready → Completes (.periodCommit ii) s (fun t =>
      (x.staged = [] → (t.island i).phase = .commit (s.now + 96) ∧ (t.island i).commitNs = 64) ∧
      (t.island i).commitTs = endTs ∧
      (∀ k, k / 16 = i → (s.engine k).st.runs = true →
        (s.engFinished k = true → (s.engine k).per.aborted = none → (s.engine k).output.pend = none →
          (∀ h ∈ (s.engine k).per.held, ∃ it r, h = .item it ∧ it.recs = [r] ∧ r.cls ≠ 0) → ∃ n, s.now + 2 ≤ n ∧
          (t.engine k).output.ents = (s.engine k).output.ents ++ (s.engine k).per.held.map (SEnt.seen n) ∧ (t.engine k).per.held = []) ∧
        (s.engFinished k = false → EventSet t (Reg.ISL_PER_EVT i) 2 ∧
          AtPort t i (fun r => r.typ = tPERIOD_DROP ∧ r.cls = 1 ∧ r.idx = k ∧ fieldAt r.body 8 1 = 0))) ∧
      (∀ u, x.staged = [u] → u.poisoned = false → s.mem.poison = [] → on u.id → (s.ctxOf u.id).unrel = false →
        (∀ k, k / 16 = i → (s.engine k).st.runs = true → s.engFinished k = true) →
        (t.ctxOf u.id).state = u.state ∧ (t.ctxOf u.id).commits = ((s.ctxOf u.id).commits + 1) % 65536 ∧
        (t.ctxOf u.id).ts = endTs ∧ (t.ctxOf u.id).host = u.eng.isNone ∧
        (t.island i).commitNs = 66 ∧ (t.island i).phase = .commit (s.now + 99) ∧ (t.island i).staged = []))) ∧
    (∀ d c, x.phase = .commit d → d ≤ s.now → x.cfg = some c → (∀ u ∈ x.late, (s.bank (96 + u.id / 2048)).waits = false) →
      Completes (.commitDone ii) s (fun t =>
      (c.unconf = false → (t.island i).phase = .start) ∧ (c.unconf = true → (t.island i).cfg = none ∧ (t.island i).phase = .run) ∧
      (c.unconf = false → t.ctx.assign = (s.ctx.assign.filter (fun a => a.fromIsl != i || a.late)).map (fun a =>
        if a.fromIsl == i then { a with late := false } else a)) ∧
      (∀ a, s.ctx.assign = [a] → a.fromIsl = i → a.late = false → a.clear = false → x.late = [] → (c.unconf = true → x.staged = []) →
        ∀ id, a.first ≤ id → id < a.first + a.count → (s.ctxOf id).island = i →
          t.ctxOf id = { s.ctxOf id with island := a.island, kind := a.kind }))) ∧
    (∀ d, x.phase = .commit d → d ≤ s.now → (∃ u ∈ x.late, (s.bank (96 + u.id / 2048)).waits = true) →
      Completes (.commitDone ii) s (fun t => Only [.mem] s t)) ∧
    (let started := fun (t : State) (paused : Bool) =>
        (t.island i).phase = .run ∧ (t.island i).startTick = s.now ∧ (t.island i).startTs = endTs ∧
        (t.island i).marked = none ∧ (t.island i).replan = paused ∧
        (t.island i).num = (if x.renew then 0 else (x.num + 1) % 2 ^ 32) ∧
        ∀ k, k / 16 = i →
          ((s.engine k).st.runs = true → (s.engine k).stopPend = true → (t.engine k).st = .stopped) ∧
          ((s.engine k).startPend = true ∨ (s.engine k).st.runs = true → (s.engine k).stopPend = false →
            (t.engine k).st = .run ∧ (t.engine k).r.pc = (s.engine k).img.entryStart ∧ (t.engine k).startPend = false ∧
            (t.engine k).perNum = if (s.engine k).startPend then 0 else ((s.engine k).perNum + 1) % 2 ^ 32)
     (x.phase = .start → s.dueChange i = none → Completes (.periodStart ii) s (fun t => started t false)) ∧
     (∀ d, x.phase = .pause d → d ≤ s.now → Completes (.periodStart ii) s (fun t => started t true)) ∧
     (∀ f v, x.phase = .start → s.dueChange i = some (f, v) → Completes (.periodStart ii) s (fun t =>
        (t.island i).freq = f ∧ (t.island i).vdd = v ∧ (t.island i).phase = .pause (s.now + 3000) ∧ EventSet t (Reg.ISL_PER_EVT i) 1))) ∧
    (∀ p, s.anchorDue i = some p → Completes (.periodAnchor ii) s (fun t => EventSet t (Reg.ISL_PER_EVT i) 0 ∧
      let b := s.firstTick p.anchor
      (t.island i).pend = x.pend.erase p ∧
      (x.cfg = none → p.unconf = false → (t.island i).cfg = some p ∧ (t.island i).nextB = b + p.ticks ∧
        (t.island i).startTs = s.tsTick b ∧ (t.island i).phase = .start ∧ (t.island i).renew = true) ∧
      (x.cfg = none → p.unconf = true → (t.island i).cfg = none) ∧
      (x.cfg ≠ none → (t.island i).cfg = some p ∧ (t.island i).renew = true ∧ (t.island i).nextB = b + p.ticks ∧
        ((∀ c, x.cfg = some c → c.unconf = true ∨ s.now < x.nextB ∨ b ≤ x.nextB) →
          (t.island i).marks = x.marks ++ [⟨true, p.ticks * p.frac / 256 == 0, b, s.tsTick b⟩])))) ∧
    (Admitted s m.val 0x0604 → e.len = 3 → (taken s m.val).perParamOk e = true →
      let sel := fun (k : Nat) => k < 12 ∧ (e.p 0 2).testBit k = true
      let unconf := bit (BitVec.ofNat 32 (e.p 3 1)) 1
      let anchor := if e.p 16 6 = 0 then s.tsAt 1500000 else BitVec.ofNat 48 (e.p 16 6)
      (unconf = true → (∃ k, sel (k / 16) ∧ ((s.engine k).st.runs = true ∨ (s.engine k).startPend = true)) →
        AnswersNow (.periodConfigure m) s m.val stWRONG_STATE (fun u res => res = [] ∧ u.isl = s.isl)) ∧
      (unconf = false → (∃ k, sel k ∧ (s.island k).fmax < s.freqAt k (e.p 8 8)) →
        AnswersNow (.periodConfigure m) s m.val stREFUSED (fun u res => res = [] ∧ u.isl = s.isl)) ∧
      ((unconf = true ∧ ∀ k, sel (k / 16) → (s.engine k).st.runs = false ∧ (s.engine k).startPend = false) ∨
          (unconf = false ∧ ∀ k, sel k → s.freqAt k (e.p 8 8) ≤ (s.island k).fmax) → Completes (.periodConfigure m) s (fun t =>
        (∀ k, sel k → t.island k = { s.island k with pend := (s.island k).pend ++
          [⟨e.p 8 8, e.p 2 1, bit (BitVec.ofNat 32 (e.p 3 1)) 0, unconf, anchor⟩] }) ∧
        (∀ k, ¬sel k → t.island k = s.island k) ∧
        ∃ is, t.ctx.perJobs = s.ctx.perJobs ++ [⟨ticketOf s m.val, is, anchor, []⟩] ∧ ∀ k, k ∈ is ↔ sel k)))

/-- 10 R345, R352, R361, R363 to R365: CTX_WRITE writes the contexts of Islands that are not configured at once, and stages the others
for the next commit; an unreliable context is refused without CLEAR_UNRELIABLE. CTX_READ returns the committed contexts, and waits while
one of them is being committed. A command whose context lies in a bank in
RETENTION wakes it and waits (17 R558). CTX_ASSIGN gives contexts to another Island, at once where their owner is not configured, and
otherwise with its next commit. -/
def Obligations.Contexts : Prop :=
  ∀ (m : Master) (s : State),
    let e := entryOf s m.val
    let n := e.p 0 1
    let clear := bit (BitVec.ofNat 32 (e.p 1 1)) 0
    let cid := fun (k : Nat) => e.p (8 + 120 * k) 2
    let body := fun (k : Nat) => fitBytes 112 ((e.params.drop (16 + 120 * k)).take 112)
    let home := fun (id : Nat) => (s.ctxOf id).island
    let conf := fun (id : Nat) => home id < 12 ∧ (s.island (home id)).cfg ≠ none
    let bk := fun (id : Nat) => s.bank (96 + id / 2048)
    let late := fun (i : Nat) => if s.committing i then [i] else []
    let wakes := fun (i : Instr) (ids : List Nat) => Completes i s (fun t => Only [.mem] s t ∧ ∀ id ∈ ids, (bk id).st = 1 →
      (t.bank (96 + id / 2048)).st = 4 ∧ (t.bank (96 + id / 2048)).due = s.now + 3000)
    (Admitted s m.val 0x0701 → (∃ c, c < 16 ∧ e.len = 16 + 15 * c) → cwParamOk e = true →
      let now := (List.range n).map cid |>.filter (fun id => (s.ctxIsl id).isNone)
      ((∃ id ∈ now, (bk id).waits = true) → wakes (.ctxWrite m) now) ∧
      ((∀ id ∈ now, (bk id).st = 0) → (∃ k, k < n ∧ (s.ctxOf (cid k)).unrel = true) → clear = false →
        AnswersNow (.ctxWrite m) s m.val stREFUSED (fun u res => res = [] ∧ u.ctx = s.ctx ∧ u.isl = s.isl)) ∧
      (clear = true ∨ (∀ k, k < n → (s.ctxOf (cid k)).unrel = false) → s.ctx.assign = [] →
        ((∀ k, k < n → ¬conf (cid k) ∧ (bk (cid k)).st = 0) → AnswersAtBeacon (.ctxWrite m) s m.val (fun u res => res = [] ∧ u.isl = s.isl ∧
          (∀ k, k < n → u.ctxOf (cid k) = { s.ctxOf (cid k) with
            state := body k, host := true, unrel := (s.ctxOf (cid k)).unrel && !clear }) ∧
          (∀ id, (∀ k, k < n → cid k ≠ id) → u.ctxOf id = s.ctxOf id))) ∧
        (∀ i, (∀ k, k < n → conf (cid k) ∧ home (cid k) = i) → 1024 < (s.island i).staged.length + n →
          AnswersNow (.ctxWrite m) s m.val stBUSY (fun u res => res = [] ∧ u.ctx = s.ctx ∧ u.isl = s.isl)) ∧
        (∀ i, (∀ k, k < n → conf (cid k) ∧ home (cid k) = i) → (s.island i).staged.length + n ≤ 1024 →
          Completes (.ctxWrite m) s (fun t => t.ctx.ctx = s.ctx.ctx ∧
            (t.island i).staged = (s.island i).staged ++ (List.range n).map (fun k => ⟨none, cid k, body k, false, clear⟩) ∧
            t.ctx.writeJobs = s.ctx.writeJobs ++ [⟨ticketOf s m.val, [i], 0, late i⟩])))) ∧
    (Admitted s m.val 0x0702 → e.len = 1 → 1 ≤ e.p 2 1 → e.p 2 1 ≤ 15 → e.p 0 2 + e.p 2 1 ≤ 65536 → e.p 3 5 = 0 → s.mem.poison = [] →
      let ids := (List.range (e.p 2 1)).map (fun k => e.p 0 2 + k)
      let waits := ∃ id ∈ ids, home id < 12 ∧ ∃ d, (s.island (home id)).phase = .commit d
      ((∃ id ∈ ids, (bk id).waits = true) → wakes (.ctxRead m) ids) ∧
      ((∀ id ∈ ids, (bk id).st = 0) → ¬waits → AnswersNow (.ctxRead m) s m.val (if ids.any (fun id => (s.ctxOf id).unrel) then stUNCORRECTABLE else stOK)
        (fun u res => res = ids.flatMap (fun id => (s.ctxOf id).bytes id) ∧ u.ctx = s.ctx)) ∧
      ((∀ id ∈ ids, (bk id).st = 0) → waits → Completes (.ctxRead m) s (fun t => t = s))) ∧
    (let cnt := if e.p 2 2 = 0 then 65536 else e.p 2 2
     Admitted s m.val 0x0703 → e.len = 1 → e.p 0 2 + cnt ≤ 65536 → e.p 4 1 ≤ 11 ∨ e.p 4 1 = 255 → e.p 6 1 ≤ 1 → e.p 7 1 = 0 →
      let zero := bit (BitVec.ofNat 32 (e.p 6 1)) 0
      let inRange := fun (id : Nat) => e.p 0 2 ≤ id ∧ id < e.p 0 2 + cnt
      ((∀ id, inRange id → ¬conf id) → AnswersAtBeacon (.ctxAssign m) s m.val (fun u res => res = [] ∧
        (∀ id, inRange id → u.ctxOf id = if zero then ⟨e.p 5 1, e.p 4 1, false, true, 0, 0, List.replicate 112 0⟩
          else { s.ctxOf id with island := e.p 4 1, kind := e.p 5 1 }) ∧
        (∀ id, ¬inRange id → u.ctxOf id = s.ctxOf id))) ∧
      (∀ i, (∀ id, inRange id → conf id ∧ home id = i) → Completes (.ctxAssign m) s (fun t => t.ctx.ctx = s.ctx.ctx ∧
        t.ctx.assign = s.ctx.assign ++ [⟨e.p 0 2, cnt, i, e.p 4 1, e.p 5 1, zero, s.committing i⟩] ∧
        t.ctx.assignJobs = s.ctx.assignJobs ++ [⟨ticketOf s m.val, [i], 0, late i⟩])))

/-! ## Lagoon (12) and compression (13) -/

/-- The queue to which a record at ingress port `p` goes (12 R393, R394, R397): by its origin stream, by its spill, or by its source. -/
def lagoonDest (s : State) (p : Nat) (a : Arrival) : Option Nat :=
  match a.origin, a.spill with
  | some o, _ => s.lag.originDest p o
  | none, some n => if (s.queue n).port = p then some n else none
  | none, none => (s.lag.dests p a.r.cls a.r.typ a.r.idx).head?

/-- Queue `n` has written the records of `l` behind what it held. -/
def Written (s t : State) (n : Nat) (l : List Rec) : Prop :=
  (t.queue n).ents.map (fun e => e.r) = (s.queue n).ents.map (fun e => e.r) ++ l ∧
    (t.queue n).tail = (s.queue n).tail + (l.map (fun r => 1 + (r.body.length + 15) / 16)).sum

/-- 12 R392 to R408, R420 to R422: a record at an ingress port goes to the queue of its route, behind the GAP that tells of earlier
losses, when the queue has room for it and for what is kept back; without room it is counted into the pending GAP; without a route, or to
a DISABLED queue, it is counted as unrouted; an EPOCH gives a copy to each queue. A queue writes its watermark when it has advanced by
hb_us, and (log entry 40, the model's choice) at once when it has written none. A record becomes readable after the cut-through delay. A flush empties the queue and leaves a FLUSH record, or adds to
the one that has not been read. QUEUE_CONFIGURE sets
a queue and its routes. -/
def Obligations.LagoonQueues : Prop :=
  ∀ (pp : Fin 17) (qq : QueueN) (m : Master) (s : State),
    let p := pp.val
    let n := qq.val
    let q := s.queue n
    let e := entryOf s m.val
    (∀ a rest, mget [] s.lag.ports p = a :: rest → a.r.typ ≠ tEPOCH → a.r.typ ≠ tWATERMARK → (a.origin = none → a.spill = none → a.r.cls ≠ 4) →
      let came := fun (t : State) => mget [] t.lag.ports p = rest ∧ ∀ k, k ≠ p → mget [] t.lag.ports k = mget [] s.lag.ports k
      (lagoonDest s p a = some n → q.st = 1 → q.heldWm = none →
        (q.pend = none → a.r.units + 3 ≤ s.qRoom n → Completes (.lagoonIngress pp) s (fun t => came t ∧ Written s t n [a.r] ∧
          (t.queue n).dataSince = true ∧ Counts s t (banked Reg.LAG_Q_ACCEPT n) ∧ ∀ k, k ≠ n → t.queue k = s.queue k)) ∧
        (∀ d, q.pend = some d → a.r.units + 6 ≤ s.qRoom n → Completes (.lagoonIngress pp) s (fun t => came t ∧
          (t.queue n).pend = none ∧ ∃ g, Written s t n [g, a.r] ∧ g.typ = tGAP ∧ g.cls = 4 ∧ g.idx = n ∧
            fieldAt g.body 4 4 = min 0xFFFFFFFF d.count)) ∧
        (s.qRoom n < a.r.units + 3 → Completes (.lagoonIngress pp) s (fun t => came t ∧ (t.queue n).ents = q.ents ∧
          (∃ d, (t.queue n).pend = some d ∧ d.count = (match q.pend with | some o => o.count | none => 0) + 1 ∧ d.last = a.r.ts) ∧
          Counts s t (banked Reg.LAG_Q_DROP n) ∧ EventSet t Reg.LAG_EVT 4))) ∧
      (lagoonDest s p a = none ∨ (lagoonDest s p a = some n ∧ q.st = 0) → Completes (.lagoonIngress pp) s (fun t => came t ∧
        t.lag.queues = s.lag.queues ∧ Counts s t Reg.LAG_UNROUTED ∧ EventSet t Reg.LAG_EVT 0))) ∧
    (∀ a rest, mget [] s.lag.ports p = a :: rest → a.r.typ = tEPOCH → a.origin = none → a.spill = none → s.lag.dests p 3 tEPOCH 0 = [n] →
      q.st = 1 → q.heldWm = none → q.pend = none → a.r.units + 3 ≤ s.qRoom n → Completes (.lagoonIngress pp) s (fun t => Written s t n [a.r])) ∧
    (∀ w, q.st = 1 → q.heldWm = none → q.pend = none → 5 ≤ s.qRoom n →
      (s.qProgress n = some w ∨ (q.port = 12 ∧ w = s.beacon - BitVec.ofNat 48 (65536000 * q.lagUs))) →
      q.wmSet = false ∨ ((65536000 * q.hbUs : Nat) : Int) ≤ tsDiff w q.wmLast → Completes (.portWatermark qq) s (fun t =>
        (t.queue n).wmLast = w ∧ (t.queue n).wmSet = true ∧ (t.queue n).dataSince = false ∧
        ∃ r, Written s t n [r] ∧ r.typ = tWATERMARK ∧ r.cls = 4 ∧ r.idx = n ∧ r.ts = w ∧
          fieldAt r.body 4 1 = if q.dataSince then 0 else 1)) ∧
    (Completes (.cutThroughReady qq) s (fun t => Only [.lag] s t ∧
      (t.queue n).ents = q.ents.map (fun x => { x with ready := x.ready || decide (x.written + 5 ≤ s.now) }) ∧
      ∀ k, k ≠ n → t.queue k = s.queue k)) ∧
    (Admitted s m.val 0x0804 → e.len = 1 → 1 ≤ e.p 2 2 → e.p 0 2 + e.p 2 2 ≤ 4096 → e.p 4 1 ≤ 1 → e.p 5 3 = 0 →
      let qs := (List.range (e.p 2 2)).map (fun k => e.p 0 2 + k)
      Completes (.queueFlush m) s (fun t =>
        (∀ k ∈ qs, (t.queue k).st = 2 ∧ (t.queue k).pend = none ∧
          (let own := fun (y : QEnt) => !y.stored && y.r.typ == tFLUSH && y.r.cls == 4 && y.r.idx == k
           let lost := (s.queue k).ents.countP (fun y => !y.stored && !own y && y.r.typ != tWATERMARK)
           ((∀ y ∈ (s.queue k).ents, own y = false) → (t.queue k).ents = (s.queue k).ents.filter (fun y => y.stored)) ∧
           (∀ y ∈ (s.queue k).ents, own y = true → 20 ≤ y.r.body.length → ∃ z ∈ (t.queue k).ents, z.pos = y.pos ∧ z.r.idx = k ∧
              fieldAt z.r.body 4 4 = (fieldAt y.r.body 4 4 + lost) % 2 ^ 32)) ∧
          ((s.queue k).flush = none → ∃ f, (t.queue k).flush = some f ∧ f.cause = 1)) ∧
        ∃ es, t.lag.jobs = s.lag.jobs ++ [⟨ticketOf s m.val, qs, es, 0, 0⟩] ∧
          ∀ k, k ∈ es ↔ (e.p 4 1 = 1 ∧ k < 192 ∧ ∃ r ∈ s.lag.routes, r.q ∈ qs ∧ r.port = k / 16 ∧ r.origin = false ∧
            (r.cls = 1 ∨ r.cls = 255) ∧ r.first ≤ k ∧ k ≤ r.last))) ∧
    (∀ f, q.flush = some f → Completes (.queueFlushDone qq) s (fun t => (t.queue n).flush = none ∧
      (t.queue n).st = (if f.disable then 0 else 1) ∧ (f.into = true → (t.queue n).ents = q.ents) ∧
      (f.into = false → EventSet t Reg.LAG_EVT 3 ∧ ∃ r, Written s t n [r] ∧ r.typ = tFLUSH ∧ r.cls = 4 ∧ r.idx = n ∧ r.ts = s.beacon ∧ fieldAt r.body 4 4 = f.whole % 2 ^ 32 ∧
        fieldAt r.body 8 4 = f.part % 2 ^ 32 ∧ fieldAt r.body 12 4 = f.held % 2 ^ 32 ∧ fieldAt r.body 16 1 = f.cause % 256))) ∧
    (Admitted s m.val 0x0803 → e.len = 3 + 2 * e.p 22 1 → (taken s m.val).queueParamOk e = true →
      let k := e.p 0 2
      let o := s.queue k
      let on := bit (BitVec.ofNat 32 (e.p 2 1)) 0
      let off := bit (BitVec.ofNat 32 (e.p 2 1)) 1
      let new := bit (BitVec.ofNat 32 (e.p 2 1)) 2
      let busy := (∃ j, o.stream = some j ∧ (s.stream j).st ≠ 0) ∧ (off = true ∨ e.p 3 1 ≠ o.port)
      let others := s.lag.routes.filter (fun r => r.q != k)
      let mine := (s.lag.routes.filter (fun r => r.q == k)).map (fun r => { r with port := e.p 3 1 })
      (¬busy → new = false → others.length + mine.length ≤ 512 → AnswersAtBeacon (.queueConfigure m) s m.val (fun u res => res = [] ∧
        u.lag.routes = others ++ mine)) ∧
      (busy → AnswersNow (.queueConfigure m) s m.val stWRONG_STATE (fun u res => res = [] ∧ u.lag = s.lag)) ∧
      (¬busy → new = true → 512 < others.length + e.p 22 1 →
        AnswersNow (.queueConfigure m) s m.val stNO_RESOURCE (fun u res => res = [] ∧ u.lag = s.lag)) ∧
      (¬busy → new = true → others.length + e.p 22 1 ≤ 512 → AnswersAtBeacon (.queueConfigure m) s m.val (fun u res => res = [] ∧
        u.lag.routes = others ++ routesOf e ∧ (∀ j, j ≠ k → u.queue j = s.queue j) ∧
        (u.queue k).st = (if on = true ∧ o.st = 0 then 1 else if off = true ∧ o.st = 1 then 0 else o.st) ∧
        (u.queue k).port = e.p 3 1 ∧ (u.queue k).prio = e.p 4 1 ∧ (u.queue k).cut = e.p 5 1 ∧ (u.queue k).hbUs = e.p 6 2 ∧
        (u.queue k).quota = e.p 8 4 ∧ (u.queue k).guar = e.p 12 4 ∧ (u.queue k).lagUs = e.p 16 4 ∧ (u.queue k).ageUs = e.p 20 2 ∧
        (u.queue k).ents = o.ents ∧ (o.port ≠ e.p 3 1 → (u.queue k).wmLast = s.tsNow))))

/-- 12 R409 to R417, R423 to R425: a MERGED stream reads its inputs in rotation: a WATERMARK moves its input and with it R_s, a record
waits in the store or, below R_s, passes at once as LATE; an input that is silent too long stalls; an arbiter serves the ready record of
the highest priority. STREAM_OPEN attaches the inputs, unless a load in the background holds its dictionary; STREAM_CLOSE ends them, and the stream is CLOSED when all is handed over. -/
def Obligations.Streams : Prop :=
  ∀ (kk : StrmN) (m : Master) (up : Bool) (s : State),
    let k := kk.val
    let x := s.stream k
    let e := entryOf s m.val
    (∀ i n h, x.st = 1 → x.prioMode = false → x.store.length < x.sortMax → s.nextInput k = some (i, n, h) →
      (h.r.typ = tWATERMARK → Completes (.mergeRead kk) s (fun t =>
        (t.queue n).ents = (s.queue n).ents.filter (fun y => y.pos != h.pos) ∧
        (t.stream k).inputs = x.inputs.mapIdx (fun j y =>
          if j = i then { y with w := tsMax y.w h.r.ts, lastTick := s.now, stalled := false } else y) ∧
        ∀ w, tsLeast (((t.stream k).inputs.filter (fun y => !y.stalled)).map (fun y => y.w)) = some w →
          (t.stream k).rel = tsMax x.rel w ∧ (t.stream k).store = x.store.filter (fun y => !tsLt y.r.ts (tsMax x.rel w)) ∧
          ∃ z, (t.stream k).out.map (fun y => y.r) =
            x.out.map (fun y => y.r) ++ (x.store.filter (fun y => tsLt y.r.ts (tsMax x.rel w))).map (fun y => y.r) ++ z ∧ z.length ≤ 1)) ∧
      (h.r.typ ≠ tWATERMARK → tsLt h.r.ts x.rel = true → Completes (.mergeRead kk) s (fun t =>
        Counts s t Reg.LAG_LATE ∧ Counts s t (Reg.LAG_S_LATE k) ∧ EventSet t Reg.LAG_EVT 5 ∧
        ∃ y ∈ (t.stream k).out, y.r = { h.r with flags := h.r.flags ||| 1 } ∧ y.input = i)) ∧
      (h.r.typ ≠ tWATERMARK → tsLt h.r.ts x.rel = false → Completes (.mergeRead kk) s (fun t =>
        (∃ y ∈ (t.stream k).store ++ (t.stream k).out, y.r = h.r ∧ y.input = i) ∧
        (t.queue n).ents = (s.queue n).ents.map (fun y => if y.pos = h.pos then { y with stored := true } else y)))) ∧
    (∀ n, x.st = 1 → x.prioMode = true → x.inputs.map (fun y => y.q) = [n] → ∀ h, s.qHead n = some h → h.r.typ = tWATERMARK →
      Completes (.mergeRead kk) s (fun t => (t.queue n).ents = (s.queue n).ents.filter (fun y => y.pos != h.pos))) ∧
    (let silent := fun (y : MInput) => decide (y.lastTick + 1500000 * x.timeoutMs ≤ s.now)
     x.st ≠ 0 → x.prioMode = false → (∃ y ∈ x.inputs, y.stalled = false ∧ silent y = true) → Completes (.mergeInputStall kk) s (fun t =>
        (t.stream k).inputs = x.inputs.map (fun y => { y with stalled := y.stalled || silent y }) ∧ EventSet t Reg.LAG_EVT 7)) ∧
    (∀ j r, s.arbitrate up = some (j, r) → s.mem.poison = [] → Completes (.egressServe up) s (fun t =>
      mget 63 t.lag.rr (if up then 1 else 0) = j ∧
      (∀ n, r.q = some n → (t.queue n).ents = (s.queue n).ents.filter (fun y => y.pos != r.pos)) ∧
      ((s.stream j).prioMode = false → (t.stream j).out = (s.stream j).out.tail) ∧
      (∀ c, s.cstream j = some c → ∃ c', t.cstream j = some c' ∧ c'.block = c.block ++ r.r.bytes) ∧
      (∀ b, s.cstream j = none → up = false → (s.ring j).st = 1 → (s.ring j).recs = [] → (s.ring j).buf = some b → s.pfLive (s.ringPf j) = true →
        b.used + 16 * r.r.units ≤ s.ringSize j → .hostWrite (s.ringPf j) (b.addr + b.used) r.r.bytes ∈ t.out))) ∧
    (Admitted s m.val 0x0801 → e.len = 2 + (e.p 3 1 + 3) / 4 → streamParamOk e = true →
      let j := e.p 0 1
      let ins := (List.range (e.p 3 1)).map (fun i => e.p (16 + 2 * i) 2)
      (s.streamWrong e = true → AnswersNow (.streamOpen m) s m.val stWRONG_STATE (fun u res => res = [] ∧ u.lag = s.lag)) ∧
      let loads := bit (BitVec.ofNat 32 (e.p 1 1)) 2 = true ∧ bit (BitVec.ofNat 32 (e.p 2 1)) 7 = false ∧
        ∃ d ∈ s.comp.loads, d.idx = e.p 2 1 % 16
      (s.streamWrong e = false → loads → AnswersNow (.streamOpen m) s m.val stBUSY (fun u res => res = [] ∧ u.lag = s.lag)) ∧
      (s.streamWrong e = false → ¬loads → s.streamShort e = true →
        AnswersNow (.streamOpen m) s m.val stNO_RESOURCE (fun u res => res = [] ∧ u.lag = s.lag)) ∧
      (s.streamWrong e = false → ¬loads → s.streamShort e = false → AnswersAt (.streamOpen m) s m.val (fun u res ts => res = [] ∧ ts = s.tsNow ∧
        (u.stream j).st = 1 ∧ (u.stream j).prioMode = bit (BitVec.ofNat 32 (e.p 1 1)) 0 ∧ (u.stream j).up = bit (BitVec.ofNat 32 (e.p 1 1)) 1 ∧
        (u.stream j).sortMax = e.p 4 2 ∧ (u.stream j).wmOutUs = e.p 6 2 ∧ (u.stream j).charge = e.p 8 4 ∧
        (u.stream j).timeoutMs = e.p 12 2 ∧ (u.stream j).rel = s.tsNow ∧ (u.stream j).store = [] ∧
        (u.stream j).inputs.map (fun y => y.q) = ins ∧ (∀ y ∈ (u.stream j).inputs, y.w = s.tsNow ∧ y.stalled = false) ∧
        (∀ n ∈ ins, (u.queue n).stream = some j) ∧ (∀ i, i ≠ j → u.stream i = s.stream i)))) ∧
    (Admitted s m.val 0x0802 → e.len = 1 → e.p 0 1 ≤ 63 → e.p 1 1 ≤ 1 → e.p 2 6 = 0 →
      let j := e.p 0 1
      let drain := bit (BitVec.ofNat 32 (e.p 1 1)) 0
      ((s.stream j).st ≠ 1 → AnswersNow (.streamClose m) s m.val stWRONG_STATE (fun u res => res = [] ∧ u.lag = s.lag)) ∧
      ((s.stream j).st = 1 → Completes (.streamClose m) s (fun t => (t.stream j).st = 2 ∧
        (t.stream j).close = some ⟨drain, some (ticketOf s m.val)⟩ ∧
        ∀ n ∈ (s.stream j).inputs.map (fun y => y.q), (drain = true → ((s.queue n).st ≠ 2 → (t.queue n).st = 0) ∧ (t.queue n).ents = (s.queue n).ents) ∧
          (drain = false → (t.queue n).st = 2 ∧ ∃ f, (t.queue n).flush = some f ∧ f.disable = true)))) ∧
    (∀ c tk, x.st = 2 → x.close = some c → c.tk = some tk → x.out = [] → x.store = [] → s.cstream k = none →
      (∀ y ∈ x.inputs, (s.queue y.q).ents = [] ∧ (s.queue y.q).flush = none) → x.up = true ∨ (s.ring k).st = 0 →
      Finishes (.streamCloseDone kk) s tk stOK (fun u res => res = [] ∧ (u.stream k).st = 0 ∧
        ∀ y ∈ x.inputs, (u.queue y.q).stream = none))

/-- 13 R428 to R451: a block closes at its limit, its time or a WATERMARK; its verifier sends it coded when that is shorter and decodes
back, and as it is otherwise; a decoder gives back the records of a block, or discards it whole with a GAP; a dictionary is loaded from a
bank, checked, and taken, or unloaded. -/
def Obligations.Compression : Prop :=
  ∀ (kk : StrmN) (pp : PortN) (m : Master) (s : State),
    let k := kk.val
    let p := pp.val
    let e := entryOf s m.val
    let ports := fun (t : State) (l : List Rec) (o : Nat) =>
      mget [] t.lag.ports (13 + p) = mget [] s.lag.ports (13 + p) ++ l.map (fun r => ⟨r, none, some o⟩)
    (∀ x, s.cstream k = some x → s.blockDue k x = true → 16 ≤ x.block.length → Completes (.compressBlockClose kk) s (fun t =>
      t.cstream k = some { x with closed := some ⟨x.block, x.ts⟩, block := [], wmSeen := false } ∧
      t.rget (Reg.COMP_CMP_IN x.cmp) = cntAddW (s.rget (Reg.COMP_CMP_IN x.cmp)) (x.block.length / 16))) ∧
    (∀ x b, s.cstream k = some x → x.closed = some b → (x.dyn = true ∨ (s.sdict x.idx).loaded = true) →
      let reset := x.dyn && (x.resetNext || ((s.stream k).up && x.set.resync != 0 && decide (x.set.resync ≤ x.since)))
      let coded := s.encodeBlock x reset b.bytes
      let sent := fun (t : State) (typ : Nat) (y : CStream) (l : List Byte) => ∃ (u : State) (r : Rec), t = u.toDest k r ∧ u.cstream k = some y ∧
        r.typ = typ ∧ r.cls = 4 ∧ r.idx = 0x2000 + k ∧ r.ts = b.ts ∧ fieldAt r.body 4 4 = b.bytes.length % 2 ^ 32 ∧
        fieldAt r.body 12 4 = l.length % 2 ^ 32 ∧ (r.body.drop 16).take l.length = l
      (coded.1.length < b.bytes.length → s.dictFault x = none → Completes (.blockVerify kk true) s (fun t =>
        sent t tCBLOCK { x with closed := none, dict := coded.2, resetNext := false, since := if reset then 1 else x.since + 1 } coded.1)) ∧
      (∀ good off, s.dictFault x = some off → Completes (.blockVerify kk good) s (fun t =>
        Counts s t Reg.COMP_VFAIL ∧ EventSet t Reg.COMP_EVT 0 ∧ (t.sdict x.idx).loaded = false)) ∧
      (∀ good, b.bytes.length ≤ coded.1.length → s.dictFault x = none → Completes (.blockVerify kk good) s (fun t =>
        sent t tUBLOCK { x with closed := none, dict := [], resetNext := true, since := 0 } b.bytes)) ∧
      (coded.1.length < b.bytes.length → s.dictFault x = none → Completes (.blockVerify kk false) s (fun t =>
        Counts s t Reg.COMP_VFAIL ∧ EventSet t Reg.COMP_EVT 0 ∧ ∃ y, t.cstream k = some y ∧ y.closed = none ∧ y.dict = []))) ∧
    (∀ b, s.comp.blocks.find? (fun b => b.port == p) = some b →
      let l := (b.r.body.drop 16).take (fieldAt b.r.body 12 4)
      let n := fieldAt b.r.body 4 4
      let dyn := bit (BitVec.ofNat 32 (fieldAt b.r.body 8 1)) 7
      let gone := fun (t : State) => t.comp.blocks = s.comp.blocks.erase b
      let lost := fun (t : State) => gone t ∧ Counts s t Reg.COMP_DEC_DISC ∧
        ∃ g, ports t [g] b.origin ∧ g.typ = tGAP ∧ g.cls = 4 ∧ g.idx = 0x2000 + b.origin ∧ fieldAt g.body 4 4 = 0xFFFFFFFF
      (b.r.typ = tUBLOCK → l.length = n → wholeRecs l = true → Completes (.decompressBlock pp) s (fun t => gone t ∧
        ports t (recsOf (l.length / 16 + 1) l) b.origin)) ∧
      (b.r.typ = tUBLOCK → (l.length ≠ n ∨ wholeRecs l = false) → Completes (.decompressBlock pp) s (fun t =>
        lost t ∧ EventSet t Reg.COMP_EVT 2)) ∧
      (b.r.typ ≠ tUBLOCK → dyn = false →
        let d := s.sdict (fieldAt b.r.body 8 1 % 16)
        let limit := min 65536 (s.rf Reg.COMP_RATIO 0 8 * fieldAt b.r.body 12 4)
        (d.loaded = false → Completes (.decompressBlock pp) s lost) ∧
        (∀ o x, d.loaded = true → decodeStatic l limit d.entries (codeFuel l) 0 [] = .ok o x → o.length = n → wholeRecs o = true →
          Completes (.decompressBlock pp) s (fun t => gone t ∧ ports t (recsOf (o.length / 16 + 1) o) b.origin)) ∧
        (d.loaded = true → decodeStatic l limit d.entries (codeFuel l) 0 [] = .error → Completes (.decompressBlock pp) s (fun t =>
          lost t ∧ EventSet t Reg.COMP_EVT 2)))) ∧
    (Admitted s m.val 0x0805 → e.len = 2 → dictParamOk e = true →
      let i := e.p 0 1
      let unload := bit (BitVec.ofNat 32 (e.p 1 1)) 1
      let comp := bit (BitVec.ofNat 32 (e.p 1 1)) 0
      let bk := s.bank (8 * e.p 2 1 + e.p 3 1)
      let held := (bk.owner = 4 ∨ bk.owner = 5) ∧ bk.hand = none
      let loads := ∃ d ∈ s.comp.loads, d.idx = i
      (s.comp.dictInUse i = false → loads → unload = true ∨ held →
        AnswersNow (.dictLoad m) s m.val stBUSY (fun u res => res = [] ∧ u.comp = s.comp)) ∧
      (s.comp.dictInUse i = true → AnswersNow (.dictLoad m) s m.val stWRONG_STATE (fun u res => res = [] ∧ u.comp = s.comp)) ∧
      (s.comp.dictInUse i = false → unload = true → ¬loads → AnswersAtBeacon (.dictLoad m) s m.val (fun u res => res = [] ∧
        (u.sdict i).loaded = false ∧ ∀ j, j ≠ i → u.sdict j = s.sdict j)) ∧
      (s.comp.dictInUse i = false → unload = false → held → ¬loads → Completes (.dictLoad m) s (fun t => t.comp =
        { s.comp with loads := s.comp.loads ++ [⟨ticketOf s m.val, i, e.p 2 1, e.p 3 1, e.p 4 4, e.p 8 4, comp⟩] })) ∧
      (s.comp.dictInUse i = false → unload = false → ¬held →
        AnswersNow (.dictLoad m) s m.val stWRONG_STATE (fun u res => res = [] ∧ u.comp = s.comp))) ∧
    (∀ j rest, s.comp.loads = j :: rest → s.mem.poison = [] → j.comp = false →
      let l := s.bankBytes j.island j.bank j.off j.len
      (∀ d, dictImage l = some d → Finishes .dictLoadDone s j.tk stOK (fun u res => u.comp.loads = rest ∧ u.sdict j.idx = d ∧
        d.loaded = true ∧ d.id = BitVec.ofNat 32 (fieldAt l 8 4) ∧ EventSet u Reg.COMP_EVT 3 ∧
        res = leBytes 4 d.id.toNat ++ leBytes 4 d.hash.toNat ++ leBytes 2 d.entries.length ++ leBytes 6 0)) ∧
      (dictImage l = none → Finishes .dictLoadDone s j.tk stBAD_PARAM (fun u res => res = [] ∧ u.comp.loads = rest ∧
        (u.sdict j.idx).loaded = false)))

/-! ## On-chip memory (17) -/

/-- No command waits for a bank and no access of BAR2 does. -/
def BanksQuiet (s : State) : Prop := s.mem.jobs = [] ∧ s.host.waits = []

/-- 17 R556 to R563, R573 to R579: a bank enters RETENTION, wakes, is cleared to 0 with its default owner, and goes OFF, each at the end
of its time; the command that waits for the last bank answers. A BULK WRITE is written into a bank that its peer owns and its last one is
answered with DONE; a DONE, or the timeout, ends the transfer. MEM_ASSIGN hands over banks that are ON once the accesses of the
old owner are served, and wakes others; MEM_RETAIN
starts the change of state and sets the KEEP bits; ON during a shut-down waits for its end, and OFF cancels it. -/
def Obligations.BanksAndTransfers : Prop :=
  ∀ (nn : BankN) (pp : PortN) (m : Master) (s : State),
    let n := nn.val
    let b := s.bank n
    let e := entryOf s m.val
    let only := fun (c : Instr) (b' : Bank) => Completes c s (fun t => t = s.updBank n (fun _ => b'))
    let settled := mget none s.bus.posted (Reg.MEMCTL_BANK_OWNER / 4096 * 4096) = none
    (BanksQuiet s → b.st = 1 → b.entering = true → b.due ≤ s.now → only (.bankRetentionEntered nn) { b with entering := false }) ∧
    (∀ j, s.host.waits = [] → s.mem.jobs = [j] → j.banks = [n] → j.state = some 1 → j.owner = none → b.st = 1 → b.entering = true →
      b.due ≤ s.now → Finishes (.bankRetentionEntered nn) s j.tk stOK (fun u res => res = [] ∧ u.mem.jobs = [] ∧
        u.bank n = { b with entering := false })) ∧
    (b.st = 4 → b.due ≤ s.now →
      (b.fromOff = true → only (.bankWakeDone nn) { b with
        st := 3, fromOff := false, due := b.due + if n < 96 then s.cycTicks (n / 8) 4096 else 6144 }) ∧
      (BanksQuiet s → b.fromOff = false → Completes (.bankWakeDone nn) s (fun t => t.bank n = { b with st := 0 } ∧ Only [.mem] s t))) ∧
    (BanksQuiet s → b.st = 3 → b.due ≤ s.now → Completes (.bankClearDone nn) s (fun t =>
      t.bank n = ⟨0, b.keep, if n < 96 then 2 else if n < 128 then 6 else 7, if n < 96 then n / 8 else 0, 0, false, false, 0, none⟩ ∧
      (n < 96 → ∀ o, o < 262144 → t.bankBytes (n / 8) (n % 8) o 1 = [0]) ∧
      (∀ i c o, i < 12 → c < 8 → o < 262144 → 8 * i + c ≠ n → t.bankBytes i c o 1 = s.bankBytes i c o 1) ∧
      (96 ≤ n → n < 128 → (s.ctx.ctx.map Prod.fst).Nodup → ∀ id, id / 2048 = n - 96 →
        t.ctxOf id = { Ctx.reset with kind := (s.ctxOf id).kind, island := (s.ctxOf id).island }) ∧
      (∀ id, id / 2048 + 96 ≠ n → t.ctxOf id = s.ctxOf id))) ∧
    (b.due ≤ s.now →
      (BanksQuiet s → b.st = 5 → only (.bankShutdownDone nn) { b with st := 2 }) ∧
      (b.st = 6 → only (.bankShutdownDone nn) { b with st := 4, fromOff := true, due := b.due + 15000 })) ∧
    (s.now < b.due → b.st = 5 ∨ b.st = 6 → Completes (.bankShutdownDone nn) s (fun t => t = s)) ∧
    (∀ x, s.headMsg pp.val 3 0 = some x →
      let f := fun o k => fieldAt x.payload o k
      let k := f 6 1
      let data := (x.payload.drop 16).take (f 12 2)
      let answers := fun (t : State) (st : Nat) => ∀ q, s.routePort (f 1 1) = some q → ∃ r, Sent t q 3 0 r ∧
        fieldAt r 0 1 = f 1 1 ∧ fieldAt r 2 1 = 1 ∧ fieldAt r 3 1 = st ∧ fieldAt r 4 2 = f 4 2
      let refuses := fun (t : State) (st : Nat) => t.isl = s.isl ∧ t.mem.dma.refused = s.mem.dma.refused ++ [(f 1 1, f 4 2)] ∧ answers t st
      (f 2 1 = 0 → f 0 1 = s.link.dev.id → (f 1 1, f 4 2) ∈ s.mem.dma.refused → Completes (.bulkWrite pp) s (fun t => t.isl = s.isl ∧
        t.mem.dma.refused = if bit (BitVec.ofNat 32 (f 7 1)) 0 then s.mem.dma.refused.filter (· != (f 1 1, f 4 2)) else s.mem.dma.refused)) ∧
      (f 2 1 = 0 → f 0 1 = s.link.dev.id → (f 1 1, f 4 2) ∉ s.mem.dma.refused →
        ((s.bank k).st = 2 ∨ (s.bank k).st = 5 → Completes (.bulkWrite pp) s (fun t => refuses t stWRONG_STATE)) ∧
        (k < 96 → (s.bank k).owner = 3 → (s.bank k).hand = none → (s.bank k).st ≠ 2 → (s.bank k).st ≠ 5 → f 8 4 + data.length ≤ 262144 →
          Completes (.bulkWrite pp) s (fun t => t.bankBytes (k / 8) (k % 8) (f 8 4) data.length = data ∧
            (bit (BitVec.ofNat 32 (f 7 1)) 0 = true → answers t stOK))) ∧
        ((s.bank k).st ≠ 2 → (s.bank k).st ≠ 5 →
          96 ≤ k ∨ (s.bank k).owner ≠ 3 ∨ (s.bank k).hand ≠ none ∨ 262144 < f 8 4 + data.length →
            Completes (.bulkWrite pp) s (fun t => refuses t stREFUSED))) ∧
      (f 2 1 = 1 → f 0 1 = s.link.dev.id → s.mem.dma.busy = true → s.mem.dma.tag = f 4 2 → Completes (.bulkDone pp) s (fun t =>
        t.mem.dma = { s.mem.dma with busy := false, status := if s.mem.dma.uncorr then stUNCORRECTABLE else f 3 1 } ∧
        EventSet t Reg.MEMCTL_EVT 6)) ∧
      (∀ q, f 2 1 ≤ 1 → f 0 1 ≠ s.link.dev.id → (s.takeMsg pp.val x).routePort (f 0 1) = some q →
        Completes (if f 2 1 = 0 then .bulkWrite pp else .bulkDone pp) s (fun t => PassedOn s t pp.val q x))) ∧
    (s.mem.dma.busy = true → s.mem.dma.deadline ≤ s.now → Completes .dmaTimeout s (fun t => Only [.mem, .regs] s t ∧
      t.mem.dma = { s.mem.dma with busy := false, status := if s.mem.dma.uncorr then stUNCORRECTABLE else stTIMEOUT } ∧
      EventSet t Reg.MEMCTL_EVT 6)) ∧
    (Admitted s m.val 0x0B01 → e.len = 1 → (taken s m.val).assignOk e = true → settled →
      let sel := fun (k : Nat) => e.p 0 1 ≤ k ∧ k < e.p 0 1 + e.p 1 1
      let off := ∃ k, sel k ∧ ((s.bank k).st = 2 ∨ (s.bank k).st = 5 ∨ (s.bank k).st = 6)
      let copied := ∃ k, sel k ∧ s.bankCopied k = true
      (off → AnswersNow (.memAssign m) s m.val stWRONG_STATE (fun u res => res = [] ∧ u.mem = s.mem)) ∧
      (¬off → copied → AnswersNow (.memAssign m) s m.val stBUSY (fun u res => res = [] ∧ u.mem = s.mem)) ∧
      let queued := fun (k : Nat) => ∃ j y, j / 16 = k / 8 ∧ y ∈ (s.engine j).sh ∧ y.2 / 262144 = k % 8
      (¬copied → (∀ k, sel k → (s.bank k).st = 0 ∧ ¬queued k) → AnswersAtBeacon (.memAssign m) s m.val (fun u res => res = [] ∧
        EventSet u Reg.MEMCTL_EVT 8 ∧ (∀ k, sel k → u.bank k = { s.bank k with owner := e.p 2 1, index := e.p 4 2, hand := none }) ∧
        ∀ k, ¬sel k → u.bank k = s.bank k)) ∧
      (¬copied → ¬off → (∃ k, sel k ∧ ((s.bank k).st ≠ 0 ∨ queued k)) → Completes (.memAssign m) s (fun t =>
        (∀ k, sel k → ((s.bank k).st = 1 → (t.bank k).st = 4 ∧ (t.bank k).owner = (s.bank k).owner) ∧
          ((s.bank k).st = 0 → queued k → (t.bank k).owner = (s.bank k).owner ∧ (t.bank k).hand = some (e.p 2 1, e.p 4 2)) ∧
          ((s.bank k).st = 0 → ¬queued k → (t.bank k).owner = e.p 2 1 ∧ (t.bank k).index = e.p 4 2)) ∧
        ∃ j, t.mem.jobs = s.mem.jobs ++ [j] ∧ j.tk = ticketOf s m.val ∧ j.owner = some (e.p 2 1, e.p 4 2)))) ∧
    (Admitted s m.val 0x0B02 → e.len = 1 → 1 ≤ e.p 2 2 → e.p 0 2 + e.p 2 2 ≤ 208 → e.p 5 1 ≤ 2 → e.p 6 2 = 0 → settled →
      let sel := fun (k : Nat) => e.p 0 2 ≤ k ∧ k < e.p 0 2 + e.p 2 2
      let keep := fun (k : Nat) => if e.p 5 1 = 1 then true else if e.p 5 1 = 2 then false else (s.bank k).keep
      (e.p 4 1 = 2 → (∃ k, sel k ∧ s.offRefused k = true) →
        AnswersNow (.memRetain m) s m.val stWRONG_STATE (fun u res => res = [] ∧ u.mem = s.mem)) ∧
      (e.p 4 1 = 2 → BanksQuiet s → (∀ k, sel k → s.offRefused k = false ∧ ((s.bank k).st = 0 ∨ (s.bank k).st = 1)) →
        Completes (.memRetain m) s (fun t => (∀ k, sel k → t.bank k = { s.bank k with
          keep := keep k, st := 5, owner := 0, index := 0, entering := false, due := s.now + 7500, hand := none }) ∧ ∀ k, ¬sel k → t.bank k = s.bank k)) ∧
      (e.p 4 1 = 2 → BanksQuiet s → (∀ k, sel k → s.offRefused k = false ∧ (s.bank k).st = 6) → Completes (.memRetain m) s (fun t =>
        (∀ k, sel k → t.bank k = { s.bank k with keep := keep k, st := 5 }) ∧ ∀ k, ¬sel k → t.bank k = s.bank k)) ∧
      (e.p 4 1 = 0 → BanksQuiet s → (∀ k, sel k → (s.bank k).st = 5) → Completes (.memRetain m) s (fun t =>
        EventSet t Reg.MEMCTL_EVT 7 ∧ ∀ k, sel k → t.bank k = { s.bank k with keep := keep k, st := 6 })) ∧
      (e.p 4 1 = 1 → BanksQuiet s → (∀ k, sel k → (s.bank k).st = 0) → Completes (.memRetain m) s (fun t =>
        (∀ k, sel k → t.bank k = { s.bank k with keep := keep k, st := 1, entering := true, due := s.now + 1500, retFrom := s.now }) ∧
        ∃ j, t.mem.jobs = [j] ∧ j.tk = ticketOf s m.val ∧ j.state = some 1 ∧ ∀ k, k ∈ j.banks ↔ sel k)) ∧
      (e.p 4 1 = 0 → BanksQuiet s → (∀ k, sel k → (s.bank k).st = 2) → Completes (.memRetain m) s (fun t =>
        ∀ k, sel k → t.bank k = { s.bank k with keep := keep k, st := 4, fromOff := true, due := s.now + 15000 })) ∧
      (e.p 4 1 = 255 → BanksQuiet s → Completes (.memRetain m) s (fun t => ∀ k, sel k → t.bank k = { s.bank k with keep := keep k })))

/-- 17 R552, R553, R555, R564 to R572, R580: an agent's line with single-bit errors is counted; a byte with a double-bit error is
poisoned, reported with its place and raises ALARM 0x0B01; a lap ends, with its duration, when every line has been read in it, and is
urgent when it lasts too long. A march test line, at most as many a millisecond as the rate says, that fails takes a spare of its array, or stays in service with ALARM 0x0B02. MEM_TEST writes MEMCTL_MT_CTRL or runs one pass
over every line, and answers with what the pass found. -/
def Obligations.ScrubAndTest : Prop :=
  ∀ (aa : Fin 15) (rr : Fin 7) (uu : Byte) (ll : BitVec 16) (errs : List (Fin 64 × Bool)) (fail : Bool) (vmin : BitVec 10) (m : Master)
    (s : State),
    let a := aa.val
    let x := s.scrub a
    let e := entryOf s m.val
    let ours := s.agentLine a rr.val uu.toNat ll.toNat = true
    let single := errs ≠ [] ∧ ∀ y ∈ errs, y.2 = false
    let key := (rr.val * 256 + uu.toNat) * 65536 + ll.toNat
    let seen := mput false x.seen key true
    (wfErrs errs = true → ours → x.next = [] →
      (single → Completes (.scrubLine aa rr uu ll errs) s (fun t => t.mem.poison = s.mem.poison ∧ EventSet t Reg.MEMCTL_EVT 0 ∧
        t.rget Reg.MEMCTL_CE = cntAddW (s.rget Reg.MEMCTL_CE) errs.length)) ∧
      (errs = [] → s.mem.poison = [] → s.agentSeen a seen < s.agentLines a → Completes (.scrubLine aa rr uu ll errs) s (fun t =>
        t.scrub a = { x with seen := seen } ∧ Only [.mem] s t)) ∧
      (errs = [] → s.mem.poison = [] → s.agentLines a ≤ s.agentSeen a seen → Completes (.scrubLine aa rr uu ll errs) s (fun t =>
        t.scrub a = { x with start := s.now, seen := [], urgent := false } ∧
        (t.rget (Reg.MEMCTL_SCRUB_LAP a)).toNat = min 0xFFFFFFFF ((s.now - x.start) / 1500))) ∧
      (∀ k, errs = [(k, true)] → s.mem.poison = [] → Completes (.scrubLine aa rr uu ll errs) s (fun t =>
        t.poisoned rr.val uu.toNat (64 * ll.toNat + k.val) = true ∧ Counts s t Reg.MEMCTL_UE ∧ EventSet t Reg.MEMCTL_EVT 1 ∧
        EventSet t Reg.MEMCTL_EVT 2 ∧ (t.rget Reg.MEMCTL_UE_OFF).toNat = 64 * ll.toNat + k.val ∧
        (t.rget Reg.MEMCTL_UE_LOC).toNat = 2 ^ 31 + rr.val * 2 ^ 24 + uu.toNat * 2 ^ 16 ∧
        AtPort t 12 (fun r => r.typ = tALARM ∧ fieldAt r.body 4 2 = 0x0B01 ∧ fieldAt r.body 6 1 = 1)))) ∧
    (x.urgent = false → 1500 * (s.rget Reg.MEMCTL_SCRUB_URGENT_LAP).toNat < s.now - x.start → Completes (.scrubUrgent aa) s (fun t =>
      t.scrub a = { x with urgent := true } ∧ EventSet t Reg.MEMCTL_EVT 2 ∧ Only [.mem, .regs] s t)) ∧
    (let inPass := s.passWants rr.val uu.toNat ll.toNat
     errs = [] → s.mem.poison = [] → ours → s.rb Reg.MEMCTL_MT_CTRL 31 = true ∨ inPass = true →
       x.mtFrom + 1500000 ≤ s.now ∨ x.mtCount < s.mtRate inPass →
      let arr := memArray rr.val uu.toNat ll.toNat
      Completes (.marchTestLine aa rr uu ll errs fail vmin) s (fun t => Counts s t Reg.MEMCTL_MT_LINES ∧
        (t.rget Reg.MEMCTL_MT_POS).toNat = rr.val * 2 ^ 24 + uu.toNat * 2 ^ 16 + ll.toNat ∧
        (∀ p, inPass = true → s.mem.pass = some p → ∃ p', t.mem.pass = some p' ∧ p'.seen = mput false p.seen key true) ∧
        (fail = false → s.mtMargin inPass = true →
          (t.rget Reg.MEMCTL_MT_VMIN).toNat = max (s.rf Reg.MEMCTL_MT_VMIN 0 10) vmin.toNat) ∧
        (fail = false → t.rget Reg.MEMCTL_MT_FAIL = s.rget Reg.MEMCTL_MT_FAIL ∧ t.mem.spares = s.mem.spares) ∧
        (fail = true → Counts s t Reg.MEMCTL_MT_FAIL ∧ EventSet t Reg.MEMCTL_EVT 3 ∧
          (mget 0 s.mem.spares arr < 8 → mget 0 t.mem.spares arr = mget 0 s.mem.spares arr + 1 ∧ Counts s t Reg.MEMCTL_MT_REPAIR ∧
            EventSet t Reg.MEMCTL_EVT 4) ∧
          (8 ≤ mget 0 s.mem.spares arr → t.mem.spares = s.mem.spares ∧ EventSet t Reg.MEMCTL_EVT 5 ∧
            AtPort t 12 (fun r => r.typ = tALARM ∧ fieldAt r.body 4 2 = 0x0B02 ∧ fieldAt r.body 6 1 = 2))))) ∧
    (Admitted s m.val 0x0B03 → e.len = 1 → e.p 0 1 ≤ 2 → e.p 1 1 ≤ 1 → e.p 4 4 = 0 →
      (e.p 0 1 ≤ 1 → AnswersAtBeacon (.memTest m) s m.val (fun u res => res = [] ∧
        (u.rget Reg.MEMCTL_MT_CTRL).toNat = e.p 0 1 * 2 ^ 31 + e.p 1 1 * 2 ^ 30 +
          (if e.p 2 2 = 0 then s.rf Reg.MEMCTL_MT_CTRL 0 16 else e.p 2 2))) ∧
      (e.p 0 1 = 2 → s.mem.pass ≠ none → AnswersNow (.memTest m) s m.val stBUSY (fun u res => res = [] ∧ u.mem = s.mem)) ∧
      (e.p 0 1 = 2 → s.mem.pass = none → Completes (.memTest m) s (fun t => ∃ j, t.mem.pass = some j ∧ j.tk = ticketOf s m.val ∧
        j.margin = decide (e.p 1 1 = 1) ∧ j.rate = (if e.p 2 2 = 0 then s.rf Reg.MEMCTL_MT_CTRL 0 16 else e.p 2 2) ∧ j.seen = [] ∧
        j.fails = 0 ∧ j.repairs = 0 ∧ t.rget Reg.MEMCTL_MT_VMIN = 0))) ∧
    (∀ j, s.mem.pass = some j → (∀ k, k < 15 → s.agentLines k ≤ s.agentSeen k j.seen) →
      Finishes .memTestPassDone s j.tk (if j.spareOut then stHW_FAULT else stOK) (fun u res => u.mem.pass = none ∧
        res = leBytes 4 j.seen.length ++ leBytes 2 j.fails ++ leBytes 2 j.repairs ++
          leBytes 2 (if j.margin then s.rf Reg.MEMCTL_MT_VMIN 0 10 else 0) ++ leBytes 6 0))

/-! ## Triad, Touchstone, margin planner (18) -/

/-- The device has raised this ALARM (11 R383, 18 R597). -/
def Alarmed (t : State) (code sev d0 d1 : Nat) : Prop :=
  AtPort t 12 (fun r => r.typ = tALARM ∧ r.cls = 5 ∧ fieldAt r.body 4 2 = code ∧ fieldAt r.body 6 1 = sev ∧
    fieldAt r.body 8 8 = d0 % 2 ^ 64 ∧ fieldAt r.body 16 8 = d1 % 2 ^ 64)

/-- 18 R583 to R598: a member that disagrees is fenced and tests itself for 1 ms; in DUPLEX both test each other, and what follows is a
restart, SIMPLEX or HALTED; a fenced member that passes is copied to and joins again, one that fails eight times is retired; a donor that
fails leaves the copy to the other member's test; a checkpoint copies the working region between
two commands, and control resumes from it; the command that ran returns DEGRADED (03 R118). Each change counts in
TRIAD_SWITCHES and raises its alarm. Modes: 0 TRIPLEX, 1 DUPLEX, 2 COPY, 3 SIMPLEX, 4 TEST, 5 RESTART, 6 HALTED. Member states: 0 VOTING,
1 FENCED, 2 SELFTEST, 3 COPY_TARGET, 4 RETIRED. -/
def Obligations.TriadModes : Prop :=
  ∀ (nn : Fin 3) (cause : Fin 3) (bad : BitVec 3) (s : State),
    let n := nn.val
    let x := s.member n
    let mode := s.triad.mode
    let on := s.sec.start.step = 0
    let runs := mode = 0 ∨ mode = 1 ∨ mode = 3
    let changed := fun (t : State) (md bit : Nat) => t.triad.mode = md ∧ Counts s t Reg.TRIAD_SWITCHES ∧ EventSet t Reg.TRIAD_EVT bit
    let joins := fun (k : Nat) => (s.member k).st = 0 ∨ (s.member k).st = 3
    let halted := fun (t : State) => changed t 6 4 ∧ Alarmed t 0x0C15 3 mode 0 ∧ t.triad.due = s.now + 150000000 ∧ t.alarmN = true
    let fenced := fun (t : State) (k c : Nat) => changed t 1 0 ∧ Counts s t Reg.TRIAD_VOTE_DIS ∧ Alarmed t 0x0C10 1 k c ∧
      t.member k = { s.member k with st := 2, due := s.now + 1500000, cause := c } ∧ ∀ j, j ≠ k → t.member j = s.member j
    let simplex := fun (t : State) (k why : Nat) => changed t 3 2 ∧ Alarmed t 0x0C13 2 k why ∧ t.triad.donorTest = none ∧
      ∀ j, j < 3 → j ≠ k → (t.member j).st = if (s.member j).st = 4 then 4 else 2
    let testing := fun (t : State) => t.triad.mode = 4 ∧ t.triad.due = s.now + 1500000 ∧ Counts s t Reg.TRIAD_VOTE_DIS ∧
      Counts s t Reg.TRIAD_SWITCHES
    (on → s.triad.donorTest = none → x.st = 0 →
      (mode = 0 → Completes (.triadDisagreement nn cause) s (fun t => fenced t n cause.val)) ∧
      (mode = 1 → Completes (.triadDisagreement nn cause) s testing)) ∧
    (on → runs → s.triad.nextSlice ≤ s.now →
      let mem := fun (k : Nat) => k < 3 ∧ (s.member k).st = 0 ∧ bad.toNat.testBit k = true
      let sliced := fun (t : State) => s.now < t.triad.nextSlice
      ((∀ k, ¬mem k) → Completes (.selftestSlice bad none) s (fun t => t = { s with triad := t.triad } ∧ t.triad.mode = mode ∧ sliced t)) ∧
      ((∀ k, ¬mem k) → Completes (.selftestSlice bad (some nn)) s (fun t => EventSet t Reg.TRIAD_EVT 5 ∧ Alarmed t 0x0C16 3 n 0 ∧
        t.triad.mode = mode ∧ sliced t)) ∧
      (mode = 0 → (∀ k, mem k ↔ k = n) → (∃ k, k < 3 ∧ k ≠ n ∧ (s.member k).st = 0) →
        Completes (.selftestSlice bad none) s (fun t => fenced t n 1 ∧ Counts s t Reg.TRIAD_ST_FAIL ∧ EventSet t Reg.TRIAD_EVT 6)) ∧
      (mode ≠ 3 → (∀ k, k < 3 → (s.member k).st = 0 → mem k) → (∃ k, mem k) → Completes (.selftestSlice bad none) s (fun t =>
        t.triad.mode = mode ∧ EventSet t Reg.TRIAD_EVT 10 ∧ EventSet t Reg.TRIAD_EVT 6 ∧ Alarmed t 0x0C17 3 0 0)) ∧
      (mode = 3 → (∃ k, mem k) → Completes (.selftestSlice bad none) s halted)) ∧
    (x.st = 2 → x.due ≤ s.now → mode = 1 ∨ mode = 3 →
      ((∀ k, k < 3 → k ≠ n → (s.member k).st ≠ 2 ∨ s.now < (s.member k).due) → Completes (.fencedSelftestDone nn true) s (fun t =>
        t.member n = { x with st := 3, fails := 0 } ∧ t.triad.mode = 2 ∧ t.triad.due = s.now + 1125000 ∧
        (∀ k, s.voting.head? = some k → t.triad.donor = k) ∧ Counts s t Reg.TRIAD_SWITCHES)) ∧
      ((∀ k, k < 3 → (s.member k).st ≠ 3) →
        (x.fails < 7 → Completes (.fencedSelftestDone nn false) s (fun t => t.triad.mode = mode ∧ Counts s t Reg.TRIAD_ST_FAIL ∧
          t.member n = { x with st := 1, fails := x.fails + 1, due := x.due + 148500000 })) ∧
        (7 ≤ x.fails → Completes (.fencedSelftestDone nn false) s (fun t => (t.member n).st = 4 ∧ (t.member n).fails = x.fails + 1 ∧
          Counts s t Reg.TRIAD_ST_FAIL ∧ Counts s t Reg.TRIAD_SWITCHES ∧ Alarmed t 0x0C12 2 n (x.fails + 1))))) ∧
    (x.st = 1 → x.due ≤ s.now → Completes (.memberRetest nn) s (fun t =>
      t = s.updMember n (fun y => { y with st := 2, due := s.now + 1500000 }))) ∧
    (mode = 2 → s.triad.donorTest = none →
      (s.triad.due ≤ s.now → Completes .copyDone s (fun t =>
        changed t (if joins 0 ∧ joins 1 ∧ joins 2 then 0 else 1) 1 ∧
        (∀ k, k < 3 → (t.member k).st = if (s.member k).st = 3 then 0 else (s.member k).st) ∧
        AtPort t 12 (fun r => r.typ = tALARM ∧ fieldAt r.body 4 2 = 0x0C11 ∧ fieldAt r.body 6 1 = 0))) ∧
      (∀ k l, s.voting.filter (fun j => j != s.triad.donor) = k :: l → Completes .donorFail s (fun t =>
        t.triad = { s.triad with donorTest := some k, due := s.now + 1500000 } ∧ Only [.triad] s t)) ∧
      (s.voting.filter (fun j => j != s.triad.donor) = [] → Completes .donorFail s halted)) ∧
    (∀ k, mode = 2 → s.triad.donorTest = some k → s.triad.due ≤ s.now →
      Completes (.nonDonorSelftestDone true) s (fun t => simplex t k 0) ∧
      Completes (.nonDonorSelftestDone false) s (fun t => halted t ∧ Counts s t Reg.TRIAD_ST_FAIL)) ∧
    (mode = 4 → s.triad.due ≤ s.now →
      let good := s.voting.filter (fun k => bad.toNat.testBit k)
      (2 ≤ good.length → Completes (.twoMemberTestDone bad) s (fun t => changed t 5 3 ∧ t.triad.due = s.now + 525000)) ∧
      (∀ k, good = [k] → Completes (.twoMemberTestDone bad) s (fun t => simplex t k 1)) ∧
      (good = [] → Completes (.twoMemberTestDone bad) s halted)) ∧
    ((¬on ∨ s.inTurn = true) → ∀ c, Completes (.checkpoint c) s (fun t => t = s)) ∧
    (on → runs → s.inTurn = false → s.triad.nextCkpt ≤ s.now →
      Completes (.checkpoint none) s (fun t => Only [.triad] s t ∧ t.triad.ckptNum = s.triad.ckptNum + 1 ∧ t.triad.replay = 0 ∧
        s.now < t.triad.nextCkpt ∧ ∀ k a, k < 3 → (s.member k).st = 0 → a < 2031616 →
          mget 0 (t.member k).mem (a + 2097152) = mget 0 (s.member k).mem a ∧ mget 0 (t.member k).mem a = mget 0 (s.member k).mem a) ∧
      (mode = 0 → x.st = 0 → Completes (.checkpoint (some nn)) s (fun t => fenced t n 1)) ∧
      (mode = 1 → x.st = 0 → Completes (.checkpoint (some nn)) s testing)) ∧
    (mode = 5 → s.triad.due ≤ s.now → Completes .restartDone s (fun t => t.triad.mode = 1 ∧ Counts s t Reg.TRIAD_SWITCHES ∧
      Alarmed t 0x0C14 2 s.triad.ckptNum s.triad.replay ∧
      (∀ k a, k < 3 → (s.member k).st = 0 → a < 2031616 → mget 0 (t.member k).mem a = mget 0 (s.member k).mem (a + 2097152)) ∧
      (∀ r, s.cmd.running = some r.tk → s.cmd.atBeacon = [r] → ∃ u : State, t = u.reply r.tk stDEGRADED [] ∧ u.cmd.atBeacon = [] ∧
        t.own = s.own)))

/-- 18 R599 to R610: a report measures the drift of each Island's oscillators and leaves as a TOUCHSTONE record, every interval or as the
answer of HEALTH_REPORT; a service Island's supply moves in steps of 5 mV; MARGIN_POLICY sets the policy, the guard and the hours, and
with RUN the plan is made and applied at once where no period is configured. -/
def Obligations.TouchstoneAndPlan : Prop :=
  ∀ (counts : List (BitVec 24 × BitVec 24)) (k : Fin 6) (m : Master) (s : State),
    let e := entryOf s m.val
    let runs := s.sec.start.step = 0 ∧ (s.triad.mode = 0 ∨ s.triad.mode = 1 ∨ s.triad.mode = 3)
    let drifts := fun (u : State) => ∀ i f g, i < 18 → counts[i]? = some (f, g) →
      u.rget (Reg.TRIAD_RO_DRIFT i) = BitVec.ofNat 32 (field16 (driftOf i f.toNat g.toNat))
    let counted := fun (u : State) => u.triad.num = (s.triad.num + 1) % 65536 ∧ EventSet u Reg.TRIAD_EVT 7 ∧
      u.rget Reg.TRIAD_TS_TS_LO = BitVec.ofNat 32 s.beacon.toNat
    let report := fun (u : State) (cause : Nat) => AtPort u 12 (fun r => r.typ = tTOUCHSTONE ∧ r.cls = 5 ∧
      fieldAt r.body 4 2 = (s.triad.num + 1) % 65536 ∧ fieldAt r.body 6 1 = cause)
    (∀ j, runs → s.triad.job = some j → Finishes (.touchstoneReport counts) s j.tk stOK (fun u res => drifts u ∧ counted u ∧
      u.triad.job = none ∧ (j.record = true → report u 1) ∧ fieldAt res 4 2 = (s.triad.num + 1) % 65536 ∧ fieldAt res 6 1 = 1)) ∧
    (runs → s.triad.job = none → s.rb Reg.TRIAD_TS_CTRL 31 = true → s.triad.nextReport ≤ s.now → 1 ≤ s.rf Reg.TRIAD_TS_CTRL 0 24 →
      Completes (.touchstoneReport counts) s (fun t => drifts t ∧ counted t ∧ report t 0 ∧ s.now < t.triad.nextReport ∧
        ∀ i, i < 12 → (mget [] t.triad.fits i).length = min 64 ((mget [] s.triad.fits i).length + 1))) ∧
    (∀ v, mget none s.triad.svcStep (12 + k.val) = some v → v.due ≤ s.now →
      let old := mget 750 s.triad.svcVdd (12 + k.val)
      let new := if old < v.target then min v.target (old + 5) else max v.target (old - 5)
      Completes (.serviceVoltStep k) s (fun t => mget 750 t.triad.svcVdd (12 + k.val) = new ∧ EventSet t Reg.TRIAD_EVT 9 ∧
        mget none t.triad.svcStep (12 + k.val) = if new = v.target then none else some ⟨v.target, v.due + 15000⟩)) ∧
    (Admitted s m.val 0x0C01 → e.len = 1 → e.p 1 1 ≤ 1 → e.p 2 6 = 0 →
      (s.triad.job = none → Completes (.healthReport m) s (fun t =>
        t.triad.job = some ⟨ticketOf s m.val, e.p 0 1, decide (e.p 1 1 = 1)⟩)) ∧
      (s.triad.job ≠ none → AnswersNow (.healthReport m) s m.val stBUSY (fun u res => res = [] ∧ u.triad.job = s.triad.job))) ∧
    (Admitted s m.val 0x0C02 → e.len = 2 → e.p 0 1 ≤ 2 → e.p 1 1 ≤ 1 → 10 ≤ e.p 2 2 → e.p 2 2 ≤ 100 → e.p 4 4 = 0 → e.p 12 4 = 0 →
      let set := fun (u : State) => u.triad.policy = e.p 0 1 ∧ u.triad.guard = e.p 2 2 ∧ u.triad.hoursOff = e.p 8 4 ∧
        (e.p 0 1 = 1 → ∀ i, i < 12 → mget 0 u.triad.vHold i = (s.island i).vdd)
      (s.triad.mode = 3 → AnswersNow (.marginPolicy m) s m.val stDEGRADED (fun u res => res = [] ∧ u.triad.policy = s.triad.policy)) ∧
      (s.triad.mode ≠ 3 → e.p 1 1 = 0 → AnswersAtBeacon (.marginPolicy m) s m.val (fun u res => res = [] ∧ set u ∧ u.isl = s.isl)) ∧
      (s.triad.mode ≠ 3 → e.p 1 1 = 1 → Completes (.marginPolicy m) s (fun t => set t ∧
        ∀ i, i < 12 → (s.island i).cfg = none →
          let p := planAt (s.setPolicy e).plans i
          p.2 ≤ 850 → (t.island i).freq = p.1 ∧ (t.island i).vdd = p.2)))

/-! ## Host interface (16) -/

/-- Vector `v` of function `m` is neither masked nor held back (16 R532, R540). -/
def VectorOpen (s : State) (m v : Nat) : Prop :=
  (s.pf m).msixEn = true ∧ (s.pf m).msixMask = false ∧ (mget MsixEnt.reset (s.pf m).msix v).masked = false ∧ s.pfLive m = true

/-- 16 R536 to R541: a ring keeps the next descriptor as it was last read, and opens its buffer when a record waits and the descriptor
is READY; one that is not is read once more, and then the ring stalls and polls. A failed read puts it into ERROR. A buffer that has been
open too long is closed by bytes 8 to 15 of its descriptor, with the timeout bit, and signals its vector, at most once per moderation
interval. -/
def Obligations.DescriptorRings : Prop :=
  ∀ (kk : Fin 68) (bytes : List Byte) (k64 : StrmN) (s : State),
    let k := kk.val
    let r := s.ring k
    let pf := s.ringPf k
    let addr := fieldAt bytes 0 8 / 64 * 64
    let ready := (fieldAt bytes 15 1).testBit 7
    let idle := r.buf ≠ none ∨ (r.recs = [] ∧ r.last = false)
    let wants := fun (u : State) (i : Nat) => Out.hostRead pf (s.ringBase k + 16 * i) 16 ∈ u.out
    let poll := s.now + 1500 * s.rf Reg.HOSTIF_POLL 0 8
    (∀ i t0 second, r.reading = some (i, t0, second) → bytes.length = 16 →
      (i ≠ r.next ∨ idle → Completes (.descriptorReadDone kk bytes) s (fun t =>
        t.ring k = { r with reading := none, copy := some ⟨i, addr, ready⟩ } ∧ Only [.host, .perf, .regs] s t)) ∧
      (i = r.next → ¬idle → r.ended = false → ready = false →
        (second = false → Completes (.descriptorReadDone kk bytes) s (fun t => wants t i ∧
          t.ring k = { r with reading := some (i, s.now, true), copy := some ⟨i, addr, false⟩ })) ∧
        (second = true → Completes (.descriptorReadDone kk bytes) s (fun t => t.out = s.out ∧
          t.ring k = { r with reading := none, copy := some ⟨i, addr, false⟩, st := 2, pollAt := poll } ∧
          (k < 64 → r.st = 1 → Counts s t (Reg.HOSTIF_SR_STALL k))))) ∧
      (∀ x, i = r.next → r.buf = none → r.recs = [x] → r.last = false → ready = true → r.st = 1 → s.pfLive pf = true →
        16 * x.units ≤ s.ringSize k → Completes (.descriptorReadDone kk bytes) s (fun t =>
          Out.hostWrite pf addr x.bytes ∈ t.out ∧ wants t ((i + 1) % s.ringN k) ∧
          t.ring k = { r with
            recs := [], buf := some ⟨addr, x.bytes.length, some s.now⟩, copy := none
            reading := some ((i + 1) % s.ringN k, s.now, false) }))) ∧
    (r.st = 2 → r.reading = none → r.pollAt ≤ s.now →
      (∀ b, s.pfLive pf = true → r.buf = some b → r.recs = [] → r.last = false → Completes (.ringPoll kk) s (fun t =>
        t.ring k = { r with st := 1 } ∧ Only [.host] s t)) ∧
      (s.pfLive pf = true → r.buf = none → Completes (.ringPoll kk) s (fun t => t.ring k = { r with reading := some (r.next, s.now, true) } ∧
        t.out = s.out ++ [.hostRead pf (s.ringBase k + 16 * r.next) 16] ∧ Only [.host, .out] s t)) ∧
      (s.pfLive pf = false → Completes (.ringPoll kk) s (fun t => t.ring k = { r with pollAt := poll } ∧ Only [.host] s t))) ∧
    (r.reading ≠ none → Completes (.ringError kk) s (fun t => t.ring k = { r with st := 3, reading := none, err := true } ∧
      EventSet t Reg.HOSTIF_EVT 2 ∧ Only [.host, .regs, .out] s t)) ∧
    (∀ b t0, r.buf = some b → b.firstTick = some t0 → t0 + s.ringClose k ≤ s.now → s.pfLive pf = true → r.recs = [] → r.last = false →
      Completes (.bufferClose kk) s (fun t =>
        Out.hostWrite pf (s.ringBase k + 16 * r.next + 8) (leBytes 4 b.used ++ leBytes 2 r.seq ++ leBytes 1 1 ++ leBytes 1 0x40) ∈ t.out ∧
        (t.ring k).buf = none ∧ (t.ring k).seq = (r.seq + 1) % 65536 ∧ (t.ring k).next = (r.next + 1) % s.ringN k ∧
        (t.ring k).st = r.st ∧ (t.ring k).recs = [] ∧ (t.ring k).copy = r.copy ∧
        (64 ≤ k → s.rb (ringCfg k) 30 = true → VectorOpen s pf 65 → Out.msix pf 65 ∈ t.out) ∧
        (k < 64 → s.rb (Reg.HOSTIF_SR_IRQ k) 31 = true →
          let gap := s.rf (Reg.HOSTIF_SR_IRQ k) 0 16
          (gap = 0 → VectorOpen s pf k → Out.msix pf k ∈ t.out) ∧
          (gap ≠ 0 → r.modEnd = none → VectorOpen s pf k → Out.msix pf k ∈ t.out ∧ (t.ring k).modEnd = some (s.now + 1500 * gap)) ∧
          (∀ t1, gap ≠ 0 → r.modEnd = some t1 → s.now < t1 → (t.ring k).modPend = true)))) ∧
    (let x := s.ring k64.val
     let gap := s.rf (Reg.HOSTIF_SR_IRQ k64.val) 0 16
     ∀ t1, x.modEnd = some t1 → t1 ≤ s.now →
      (x.modPend = false → Completes (.msixModeration k64) s (fun t => t.ring k64.val = { x with modEnd := none } ∧ Only [.host] s t)) ∧
      (x.modPend = true → gap ≠ 0 → s.rb (Reg.HOSTIF_SR_IRQ k64.val) 31 = true → VectorOpen s (s.ringPf k64.val) k64.val →
        Completes (.msixModeration k64) s (fun t => t.ring k64.val = { x with modPend := false, modEnd := some (s.now + 1500 * gap) } ∧
          t.out = s.out ++ [.msix (s.ringPf k64.val) k64.val] ∧ Only [.host, .out] s t)))

/-- Function `m` has been reset (16 R531): its registers, its rings, its waiting accesses and its commands that have not started are gone,
its HOST streams close, and it owns the device no more. -/
def FunctionReset (s t : State) (m : Nat) : Prop :=
  t.pf m = Pf.reset ∧ (∀ w ∈ t.host.waits, w.pf ≠ m) ∧ (t.cmdq m).head = (t.cmdq m).tail ∧ t.own.owner ≠ some m ∧
    (s.own.owner = some m → NoOwnerNow s t) ∧
    (∀ k, k < 68 → s.ringPf k = m → (t.ring k).st = 0 ∧ t.rb (ringCfg k) 31 = false) ∧
    (∀ k, k < 64 → (s.stream k).st ≠ 0 → (s.stream k).up = false → (s.stream k).pf = m →
      (t.stream k).st = 2 ∧ ∃ c, (t.stream k).close = some c ∧ c.drain = false)

/-- 16 R527 to R535, R540, R542: a hot reset or the loss of the link resets every function, an FLR one; configuration writes set power
state, bus mastering, MSI-X, PTM and the reply ring; a table write sets an MSI-X entry and sends what was pending. BAR2 takes writes and
reads of the function's own submission queue, of the boot window while it is open, and of the shared banks of the host when its function
owns the device; every other write is dropped and logged, every read of an unassigned region or of a bank that is OFF is aborted; a read
returns contexts while none of their Islands commits; a bank in RETENTION wakes, and the access waits. -/
def Obligations.HostFunctions : Prop :=
  ∀ (pf : PfN) (off : BitVec 12) (o2 : BitVec 28) (len : BitVec 13) (bytes : List Byte) (vv : Fin 256) (ww : Fin 4) (up : Bool)
    (speed : BitVec 3) (width : BitVec 5) (d : Word) (s : State),
    let m := pf.val
    let a := o2.toNat
    let n := bytes.length
    let f := s.pf m
    let config := fun (P : Pf → Prop) => Completes (.configWrite pf off d) s (fun t => P (t.pf m))
    let ring := fun (c : Instr) => Completes c s (fun t => (t.pf m).rprEn = bit d 0 ∧ (t.pf m).rprIrq = bit d 1 ∧
      (bit d 0 = true → f.rprEn = false → (t.cmdq m).rpTail = s.rf (Reg.CMD_RP_HEAD m) 0 5))
    let wrote := fun (P : State → Prop) => Completes (.bar2Write pf o2 bytes) s P
    let dropped := wrote (fun t => Counts s t Reg.REGCTL_LOG_CNT ∧ t.cmd = s.cmd ∧ t.sec = s.sec ∧ t.isl = s.isl ∧ t.mem = s.mem ∧
      t.ctx = s.ctx)
    let reads := fun (P : State → Prop) => Completes (.bar2Read pf o2 len) s P
    let abort := fun (t : State) => Out.completion m [] true false ∈ t.out ∧ Counts s t Reg.HOSTIF_CPL_ABORT
    let free := 0x2800000 ≤ a ∨ (0x80000 ≤ a ∧ a < 0x400000) ∨ (0x400000 ≤ a ∧ a < 0x800000 ∧ s.sec.start.step ≠ 17)
    let b := (a - 0x1000000) / 0x40000
    let bank := 0x1000000 ≤ a ∧ a < 0x2800000
    (s.sec.straps.pcieEn = true →
      Completes .hotReset s (fun t => (∀ k, k < 4 → t.pf k = Pf.reset) ∧ EventSet t Reg.HOSTIF_EVT 1 ∧ t.bus.resp = s.bus.resp) ∧
      Completes (.flr pf) s (fun t => FunctionReset s t m ∧ EventSet t Reg.HOSTIF_EVT 1) ∧
      (s.host.perst = false → Completes (.pcieLinkChange up speed width) s (fun t => t.host.up = up ∧
        t.host.speed = (if up then speed.toNat else 0) ∧ t.host.width = (if up then width.toNat else 0) ∧
        (s.host.speed ≠ t.host.speed ∨ s.host.width ≠ t.host.width → EventSet t Reg.HOSTIF_EVT 3) ∧
        (s.host.up = true → up = false → ∀ k, k < 4 → t.pf k = Pf.reset)))) ∧
    (s.hostServed = false → Completes (.configWrite pf off d) s (fun t => t = s)) ∧
    (s.hostServed = true →
      (off.toNat = 0x004 → config (fun g => g.busMaster = bit d 2 ∧ g.msixEn = f.msixEn ∧ g.d3hot = f.d3hot)) ∧
      (off.toNat = 0x044 → config (fun g => g.d3hot = (if fld d 0 2 = 3 then true else if fld d 0 2 = 0 then false else f.d3hot) ∧
        g.busMaster = f.busMaster)) ∧
      (off.toNat = 0x058 → bit d 15 = true → Completes (.configWrite pf off d) s (fun t => FunctionReset s t m)) ∧
      (off.toNat = 0x090 → config (fun g => g.msixEn = bit d 31 ∧ g.msixMask = bit d 30)) ∧
      (off.toNat = 0x150 → m = 0 → config (fun g => g.ptmEn = bit d 0)) ∧
      (off.toNat = 0x308 → config (fun g => g.rprBase = f.rprBase / 2 ^ 32 * 2 ^ 32 + d.toNat / 4096 * 4096)) ∧
      (off.toNat = 0x30C → config (fun g => g.rprBase = f.rprBase % 2 ^ 32 + d.toNat * 2 ^ 32)) ∧
      (off.toNat = 0x310 → config (fun g => g.rprWb = f.rprWb / 2 ^ 32 * 2 ^ 32 + d.toNat / 4 * 4)) ∧
      (off.toNat = 0x314 → config (fun g => g.rprWb = f.rprWb % 2 ^ 32 + d.toNat * 2 ^ 32)) ∧
      ((s.cmdq m).held = [] → ring (.rprEnable pf d) ∧ (off.toNat = 0x318 → ring (.configWrite pf off d))) ∧
      (let x := mget MsixEnt.reset f.msix vv.val
       Completes (.msixTableWrite pf vv ww d) s (fun t =>
        let y := mget MsixEnt.reset (t.pf m).msix vv.val
        y.addr = (if ww.val = 0 then x.addr / 2 ^ 32 * 2 ^ 32 + d.toNat / 4 * 4
          else if ww.val = 1 then x.addr % 2 ^ 32 + d.toNat * 2 ^ 32 else x.addr) ∧
        y.data = (if ww.val = 2 then d else x.data) ∧ y.masked = (if ww.val = 3 then bit d 0 else x.masked) ∧
        (ww.val = 3 → bit d 0 = false → x.pend = true → f.msixEn = true → f.msixMask = false → s.pfLive m = true →
          y.pend = false ∧ Out.msix m vv.val ∈ t.out) ∧
        Only [.host, .out] s t)) ∧
      (wfBar2Write o2 bytes = true →
        (free → dropped ∧ wrote (fun t => Counts s t Reg.HOSTIF_POSTED_DROP ∧ EventSet t Reg.HOSTIF_EVT 0)) ∧
        (a < 0x80000 → a / 0x20000 = m → wrote (fun t => bytesAt t.cmd.sram a n = bytes ∧ t.sec = s.sec ∧ t.isl = s.isl)) ∧
        (a < 0x80000 → a / 0x20000 ≠ m → dropped) ∧
        (0x400000 ≤ a → a < 0x800000 → s.sec.start.step = 17 →
          (s.own.owner = some m ∨ m = 0 → wrote (fun t => bytesAt t.sec.bootWin (a - 0x400000) n = bytes ∧ t.cmd = s.cmd ∧ t.isl = s.isl)) ∧
          (s.own.owner ≠ some m → m ≠ 0 → dropped)) ∧
        (0x800000 ≤ a → a < 0x1000000 → dropped) ∧
        (bank → s.own.owner ≠ some m ∨ (s.bank b).owner ≠ 4 ∨ (s.bank b).hand ≠ none ∨ (s.bank b).st = 2 ∨ (s.bank b).st = 5 → dropped) ∧
        (bank → s.own.owner = some m → (s.bank b).owner = 4 → (s.bank b).hand = none →
          ((s.bank b).st = 0 → wrote (fun t => t.bankBytes (b / 8) (b % 8) (a % 0x40000) n = bytes ∧ t.cmd = s.cmd ∧ t.sec = s.sec ∧
            ∀ i, i ≠ b / 8 → t.island i = s.island i)) ∧
          ((s.bank b).waits = true → wrote (fun t => t.isl = s.isl ∧ t.host.waits = s.host.waits ++ [⟨m, a, n, some bytes⟩] ∧
            ((s.bank b).st = 1 → (t.bank b).st = 4 ∧ (t.bank b).due = s.now + 3000))))) ∧
      (wfBar2Read o2 len = true →
        (free → reads (fun t => abort t ∧ Counts s t Reg.REGCTL_LOG_CNT)) ∧
        (a < 0x80000 → s.mem.poison = [] → reads (fun t => Out.completion m (bytesAt s.cmd.sram a len.toNat) false false ∈ t.out)) ∧
        (0x400000 ≤ a → a < 0x800000 → s.sec.start.step = 17 →
          reads (fun t => Out.completion m (bytesAt s.sec.bootWin (a - 0x400000) len.toNat) false false ∈ t.out)) ∧
        (bank → (s.bank b).st = 2 ∨ (s.bank b).st = 5 → reads abort) ∧
        (bank → (s.bank b).waits = true → reads (fun t => t.host.waits = s.host.waits ++ [⟨m, a, len.toNat, none⟩] ∧ t.out = s.out ∧
          ((s.bank b).st = 1 → (t.bank b).st = 4 ∧ (t.bank b).due = s.now + 3000))) ∧
        (bank → (s.bank b).st = 0 → s.mem.poison = [] → reads (fun t =>
          Out.completion m (s.bankBytes (b / 8) (b % 8) (a % 0x40000) len.toNat) false false ∈ t.out ∧ t.host.waits = s.host.waits)) ∧
        (0x800000 ≤ a → a < 0x1000000 → (s.bank (96 + (a - 0x800000) / 0x40000)).st = 0 → s.mem.poison = [] →
          ((∀ i, i < 12 → s.committing i = false) → reads (fun t =>
            Out.completion m (s.ctxWindow (a - 0x800000) len.toNat) false false ∈ t.out ∧ t.ctx = s.ctx)))))

/-! ## Emitters (19) -/

/-- A pulse of emitter `n` is placed at tick `k` under the schedule `e` (19 R619). -/
def Placed (s t : State) (n k : Nat) (e : EmSched) : Prop :=
  (t.emitter n).lastPulse = some k ∧ (t.emitter n).st = 2 ∧ Counts s t (Reg.EM_PULSES n) ∧
    let ts := s.tsTick k + BitVec.ofNat 48 ((e.fine * s.qtz.inc.toNat + 2 ^ 25) / 2 ^ 26)
    t.rget (Reg.EM_LAST_TS_LO n) = BitVec.ofNat 32 ts.toNat ∧ t.rget (Reg.EM_LAST_TS_HI n) = BitVec.ofNat 32 (ts.toNat / 2 ^ 32)

/-- 19 R612 to R622, R625: the pin-pair test of 20 µs ends in RUN or in FAULT, which raises ALARM 0x0E01; a ramp-down ends in OFF or, where it was
enabled meanwhile, in a new test; in RUN a short ends in FAULT and a sink that does not reach its current sets `open`; the values that pend, and the factor, apply
at a spread-period boundary; a pulse is placed in RUN under FREE or ISLAND; the governor lowers all factors so that the emitters draw at
most 6 W and raises them to at most 5.7 W; EMIT_CONFIGURE writes the selected registers of the selected emitters, and refuses a level
above the limit. -/
def Obligations.Emitters : Prop :=
  ∀ (nn : EmN) (kk : Fin 9) (meas : List (BitVec 10 × BitVec 16)) (m : Master) (s : State),
    let n := nn.val
    let x := s.emitter n
    let e := entryOf s m.val
    let faulted := fun (t : State) (k bit : Nat) => EventSet t (Reg.EM_EVT n) bit ∧ EventSet t Reg.EMIT_EVT 1 ∧
      t.emitter n = { x with st := 5, shortEm := if k < 8 then k else 0, shortGnd := decide (k = 8) } ∧
      (∀ j, j ≠ n → t.emitter j = s.emitter j) ∧ Alarmed t 0x0E01 2 n (t.emitter n).status.toNat
    let spread := 65536 * x.slot
    let b := (s.now + spread - s.qtz.pll % spread) / spread * spread + s.qtz.pll % spread - spread
    let ready := fun (k : Nat) => k ≤ s.now ∧ x.due ≤ k ∧ ∀ l, x.lastPulse = some l → l < k
    let governs := fun (sc : EmSched) => (x.scheds = [] ∧ sc = EmSched.reset) ∨ ∃ t0, x.scheds = [(t0, sc)] ∧ t0 ≤ x.due
    (x.st = 1 → x.due ≤ s.now →
      Completes (.emTestDone nn none) s (fun t => t = s.updEmitter n (fun y => { y with st := 2 })) ∧
      Completes (.emTestDone nn (some kk)) s (fun t => faulted t kk.val 2)) ∧
    (x.due ≤ s.now →
      (x.st = 3 → Completes (.emRampdownDone nn) s (fun t => t = s.updEmitter n (fun y => { y with st := 0 }))) ∧
      (x.st = 4 → Completes (.emRampdownDone nn) s (fun t =>
        t = s.updEmitter n (fun y => { y with st := 1, due := s.now + 30000, shortEm := 0, shortGnd := false })))) ∧
    (s.now < x.due → x.st = 3 ∨ x.st = 4 → Completes (.emRampdownDone nn) s (fun t => t = s)) ∧
    (∀ p, Waits s 0x50000 (Reg.EM_CTRL n) p →
      (bit p.value 31 = true → s.retired = false → x.st = 3 → Completes (.emEnable nn) s (fun t =>
        t.emitter n = { x with st := 4, scheds := (t.emitter n).scheds } ∧ EventSet t (Reg.EM_EVT n) 7)) ∧
      (bit p.value 31 = false → x.st = 4 → Completes (.emDisable nn) s (fun t =>
        t.emitter n = { x with st := 3, scheds := (t.emitter n).scheds }))) ∧
    (x.st = 2 → Completes (.emShortRun nn kk) s (fun t => faulted t kk.val 3) ∧
      Completes (.emSinkOutOfCompliance nn) s (fun t => EventSet t (Reg.EM_EVT nn.val) 1 ∧ Only [.regs] s t ∧ RegsOnly [Reg.EM_EVT n] s t)) ∧
    (x.st ≠ 2 → Completes (.emSinkOutOfCompliance nn) s (fun t => t = s) ∧ Completes (.emPulse nn) s (fun t => t = s)) ∧
    (x.bound < b → Completes (.spreadBoundary nn) s (fun t => Only [.emit] s t ∧ (∀ j, j ≠ n → t.emitter j = s.emitter j) ∧
      let y := t.emitter n
      let imax := s.rf (Reg.EM_IMAX n) 0 10
      y.bound = b ∧ y.st = x.st ∧ y.factor = (if s.rf (Reg.EM_CTRL n) 28 2 = 2 then x.factor else min s.emit.g x.d) ∧
      (x.pendTick < b → y.code = min imax (x.levelPend.getD x.code) ∧ y.onCount = x.onPend.getD x.onCount ∧
        y.slot = x.slotPend.getD x.slot ∧ y.levelPend = none ∧ y.onPend = none ∧ y.slotPend = none) ∧
      (b ≤ x.pendTick → y.code = min imax x.code ∧ y.onCount = x.onCount ∧ y.slot = x.slot ∧ y.levelPend = x.levelPend))) ∧
    (∀ sc, x.st = 2 → governs sc →
      (sc.isl = none → sc.coarse < sc.period → s.qtz.pll + sc.coarse ≤ s.now →
        let k := s.now - (s.now - s.qtz.pll - sc.coarse) % sc.period
        (ready k → Completes (.emPulse nn) s (fun t => Placed s t n k sc)) ∧
        (∀ l, x.lastPulse = some l → k ≤ l → Completes (.emPulse nn) s (fun t => t = s))) ∧
      (∀ i c, sc.isl = some i → x.bounds = [(i, c)] → ready (c + sc.coarse) →
        Completes (.emPulse nn) s (fun t => Placed s t n (c + sc.coarse) sc))) ∧
    (s.emit.govNext ≤ s.now → Completes (.emGovernor meas) s (fun t =>
      let p := (s.emMeas meas).emPower
      let g := if gFor p 6000000 < s.emit.g then gFor p 6000000 else max s.emit.g (gFor p 5700000)
      t.emit = { s.emit with g := g, preq := min 65535 (p.1 / (1000 * p.2)), govNext := s.emit.govNext + 15000000 } ∧ Only [.emit, .regs] s t ∧
      (∀ i c v, i < 8 → meas[i]? = some (c, v) → t.rget (Reg.EM_IMEAS i) = BitVec.ofNat 32 (c.toNat * 65536 + v.toNat)) ∧
      (s.emit.g = 256 → g < 256 → EventSet t Reg.EMIT_EVT 2))) ∧
    (Admitted s m.val 0x0E01 → e.len = 6 → s.emitOk e = true →
      let sel := fun (k : Nat) => k < 8 ∧ (e.p 0 1).testBit k = true
      let excess := (e.p 1 2).testBit 1 = true ∧ ∃ k, sel k ∧ s.rf (Reg.EM_IMAX k) 0 10 < e.p 12 4
      (excess → AnswersNow (.emitConfigure m) s m.val stREFUSED (fun u res => res = [] ∧ u.emit = s.emit)) ∧
      (¬excess → mget none s.bus.posted 0x50000 = none → AnswersAt (.emitConfigure m) s m.val (fun u res ts => res = [] ∧
        ts = u.tsTick (u.emEffectTick e) ∧
        (∀ k, k < 8 → ¬sel k → u.emitter k = s.emitter k) ∧
        (∀ k, sel k → (∀ w ∈ emWrites e, u.rget (0x50100 + 64 * k + w.1) = w.2) ∧
          ((e.p 1 2).testBit 1 = true → (u.emitter k).levelPend = some (e.p 12 4)) ∧
          ((e.p 1 2).testBit 0 = true → (e.p 8 4).testBit 31 = true → (s.emitter k).st = 0 ∨ (s.emitter k).st = 5 →
            (u.emitter k).st = 1 ∧ (u.emitter k).due = s.now + 30000) ∧
          ((e.p 1 2).testBit 0 = true → (e.p 8 4).testBit 31 = false → (s.emitter k).st = 2 →
            (u.emitter k).st = 3 ∧ (u.emitter k).due = s.now + 30000)))))

/-! ## Start-up (20) -/

/-- A cold start has begun: every unit is reset, the fuses, the flash and the straps stay, and the lifecycle that was burnt is in effect
(20 R627, R641). -/
def ColdBegun (s t : State) (straps : Straps) (cause : Nat) (bist full : Bool) : Prop :=
  t.pending = s.pending ∧ (∀ p, p ∉ [Part.host, .sec, .freeCtr, .out] → p.Same State.reset t) ∧
    t.host = { HostIf.reset with perst := s.host.perst } ∧ t.sec.straps = straps ∧ t.sec.flash = s.sec.flash ∧
    t.sec.fuses = { s.sec.fuses with state := s.sec.fuses.lifecycle } ∧ t.sec.bootWin = [] ∧ t.sec.burns = [] ∧
    t.sec.start = { Start.reset with cause := cause, bist := bist, full := full }

/-- A warm start has begun (20 R626, R632, R645): the time and INC, the fuses, the flash, the firmware's copy, the device's ID and the
contents of the banks with KEEP that hold any stay (one that is waking from RETENTION is ON after it); ownership, the command queues and every register outside the kept ones are reset. -/
def WarmBegun (s t : State) (cause : Nat) (bist full : Bool) : Prop :=
  t.pending = s.pending ∧
    (t.qtz.now = s.qtz.now ∧ t.qtz.a = s.qtz.a ∧ t.qtz.b = s.qtz.b ∧ t.qtz.c = s.qtz.c ∧ t.qtz.timeValid = s.qtz.timeValid) ∧
    t.own.owner = none ∧ t.own.issued = s.own.issued ∧ t.own.waiting = [] ∧ t.cmd = Cmd.reset ∧ t.eng = [] ∧ t.lag = Lagoon.reset ∧
    (t.sec.fuses = s.sec.fuses ∧ t.sec.flash = s.sec.flash ∧ t.sec.straps = s.sec.straps) ∧
    t.sec.start = { Start.reset with
      warm := true, cause := cause, bist := bist, full := full, since := s.now, fw := s.sec.start.fw
      charTick := s.sec.start.charTick, charTemp := s.sec.start.charTemp } ∧
    Counts s t Reg.DEV_WARM_CNT ∧ (cause = 3 → EventSet t Reg.DEV_EVT 1) ∧ t.link.dev.id = s.link.dev.id ∧
    (t.triad.policy = s.triad.policy ∧ t.triad.guard = s.triad.guard ∧ t.triad.hoursOff = s.triad.hoursOff) ∧
    (∀ a, keepsReg (s.rb Reg.EMIT_LOCK 0) a = true → a ≠ Reg.DEV_WARM_CNT → t.rget a = s.rget a) ∧
    (s.ref.sel = s.sec.straps.trefSel.toNat → ∀ a, keepsReg (s.rb Reg.EMIT_LOCK 0) a = false →
      a ∉ [Reg.QTZ_INC_LO, Reg.QTZ_INC_HI, Reg.DEV_EVT] → t.rget a = State.reset.rget a) ∧
    ∀ n, n < 96 → (t.bank n).keep = (s.bank n).keep ∧
      let stays := (s.bank n).keep = true ∧ ((s.bank n).st ≤ 1 ∨ ((s.bank n).st = 4 ∧ (s.bank n).fromOff = false))
      (stays → (t.bank n).st = (if (s.bank n).st = 1 then 1 else 0) ∧ ∀ o, o < 262144 → t.bankBytes (n / 8) (n % 8) o 1 = s.bankBytes (n / 8) (n % 8) o 1) ∧
      (¬stays → (t.bank n).st = 0 ∧ ∀ o, o < 262144 → t.bankBytes (n / 8) (n % 8) o 1 = [0])

/-- 16 R529, R530, 18 R594, 20 R626 to R628, R647, 22 R668, R669: what starts the device anew, and how. DEV_RESET answers and acts 1 ms
later; the watchdog, a halted triad and PERST_N begin a warm start; the supplies begin a cold one. -/
def Obligations.Resets : Prop :=
  ∀ (straps : Straps) (m : Master) (s : State),
    let e := entryOf s m.val
    let step := s.sec.start.step
    let running := step = 0 ∨ step = 18
    Completes (.powerOn straps) s (fun t => ColdBegun s t straps 0 false false) ∧
    Completes .supplyFault s (fun t => t.sec.start.step = 19 ∧ t.own.owner = none ∧ t.sec.fuses.lifecycle = s.sec.fuses.lifecycle ∧
      t.regs = [] ∧ t.qtz = Quartz.reset) ∧
    (Admitted s m.val 0x0102 → e.len = 1 → e.p 0 1 ≤ 1 → e.p 1 1 ≤ 3 → e.p 2 6 = 0 → Completes (.devReset m) s (fun t =>
      t = (((taken s m.val).reply (ticketOf s m.val) stOK []).updStart (fun x => { x with
        resetPend := some ⟨s.now + 1500000, e.p 0 1 == 1, (e.p 1 1).testBit 0, (e.p 1 1).testBit 1⟩ })).keepTurn (ticketOf s m.val))) ∧
    (∀ r, s.sec.start.resetPend = some r →
      (s.now < r.tick → Completes .devResetStart s (fun t => t = s)) ∧
      (r.tick ≤ s.now → r.cold = true → Completes .devResetStart s (fun t => ColdBegun s t s.sec.straps 1 r.bist r.full)) ∧
      (r.tick ≤ s.now → r.cold = false → running → Completes .devResetStart s (fun t => WarmBegun s t 4 r.bist r.full))) ∧
    (step = 0 → s.triad.mode ≠ 6 → Completes .watchdogExpiry s (fun t => WarmBegun s t 3 false false)) ∧
    (step ≠ 0 ∨ s.triad.mode = 6 → Completes .watchdogExpiry s (fun t => t = s)) ∧
    (s.triad.mode = 6 → step = 0 → s.triad.due ≤ s.now →
      (s.rb Reg.TRIAD_CTRL 0 = true → Completes .haltResetTimeout s (fun t => WarmBegun s t 5 false false)) ∧
      (s.rb Reg.TRIAD_CTRL 0 = false → Completes .haltResetTimeout s (fun t => t = s))) ∧
    (s.sec.straps.pcieEn = false → Completes .perstAssert s (fun t => t = s)) ∧
    (s.sec.straps.pcieEn = true →
      (running → Completes .perstAssert s (fun t => WarmBegun s t 2 false false ∧ t.host = { HostIf.reset with perst := true })) ∧
      (¬running → step ≠ 19 → Completes .perstAssert s (fun t => t = { s with host := { HostIf.reset with perst := true } })) ∧
      (s.host.perst = false → 2 ≤ step → step ≤ 18 → Completes .configReady s (fun t => t = { s with host := { s.host with cfgReady := true } })) ∧
      (s.host.perst = true → Completes .configReady s (fun t => t = s))) ∧
    Completes .perstRelease s (fun t => t = { s with host := { s.host with perst := false } })

/-- 20 R629 to R637, 14 R478, 18 R608: the steps of a start, in order. A warm start skips steps 2, 3, the memory test unless asked, and the
loading of an image that is still whole; an image that does not verify falls back to the other slot, a pushed one to AWAIT_PUSH with
boot_fail; TREF ends the wait and starts the time at 0; the triad starts on the members that pass, and step 8 generates the identity key from the fused seed (20 R643); step 9 is skipped when the last
characterisation still holds. -/
def Obligations.StartSteps : Prop :=
  ∀ (pass : BitVec 3) (since : BitVec 27) (s : State),
    let x := s.sec.start
    let done := fun (P : State → Prop) => Completes (.startStepDone pass) s P
    let next := fun (k : Nat) => done (fun t => t.sec.start.step = k)
    (x.step = 1 →
      (x.warm = false → next 2) ∧
      (x.warm = true → done (fun t => t.sec.start.step = 3 ∧ t.sec.start.skipped.testBit 1 = true)) ∧
      (s.sec.fuses.state ≠ 3 → done (fun t => t.hk.sysNext = some (s.hk.sysNext.getD (s.now + 30000)))) ∧
      (s.sec.fuses.state = 3 → done (fun t => t.hk = s.hk))) ∧
    (x.step = 2 → done (fun t => t = s.updStart (fun y => { y with step := 16, acc := x.acc + (s.now - x.since), since := s.now }))) ∧
    (x.step = 16 → Completes (.pllLock since) s (fun t => t.sec.start = { x with step := 4, acc := x.acc + since.toNat, since := s.now } ∧
      t.qtz = { Quartz.reset with now := s.now, pll := s.now } ∧ t.ref.pllLocked = true ∧ t.ref.st = 0 ∧ t.regs = s.regs)) ∧
    (x.step = 3 →
      (x.bist = true ∨ s.rb Reg.DEV_CTRL 0 = true → next 4) ∧
      (x.bist = false → s.rb Reg.DEV_CTRL 0 = false → done (fun t => t.sec.start.step = 5 ∧ t.sec.start.skipped.testBit 2 = true ∧
        t.sec.start.skipped.testBit 3 = true))) ∧
    (x.step = 4 → next 5) ∧
    (x.step = 5 →
      (x.warm = true → x.full = false → done (fun t => t.sec.start.step = 6 ∧ t.sec.start.hashing = true ∧
        t.sec.start.skipped.testBit 4 = true)) ∧
      (x.warm = false ∨ x.full = true →
        (s.bootSrc = 1 → next 17) ∧
        (∀ k l, s.bootSrc ≠ 1 → s.slotOrder.filter (fun j => !x.tried.contains j) = k :: l → done (fun t =>
          t.sec.start.step = 6 ∧ t.sec.start.hashing = false ∧ t.sec.start.tried = x.tried ++ [k] ∧
          ∃ im, t.sec.start.cand = some im ∧ im.slot = k)) ∧
        (s.bootSrc ≠ 1 → s.slotOrder.filter (fun j => !x.tried.contains j) = [] → next (if s.bootSrc = 2 then 17 else 18)))) ∧
    (x.step = 6 →
      (x.hashing = false → next 7) ∧
      (x.hashing = true → pass.toNat.testBit 0 = true → s.activeSlot = some x.fw.slot → done (fun t => t.sec.start.step = 8 ∧
        t.sec.start.fw = x.fw ∧ t.sec.start.skipped.testBit 5 = true ∧ t.sec.start.skipped.testBit 6 = true))) ∧
    (∀ im, x.step = 7 → x.cand = some im →
      let l := s.imageBytes im.slot
      (s.fwVerifies l = true → done (fun t => t.sec.start.step = 8 ∧ t.sec.start.fw = fwImageOf im.slot l)) ∧
      (s.fwVerifies l = false → im.slot < 2 → done (fun t => EventSet t Reg.DEV_EVT 2 ∧ t.sec.start.fw = x.fw)) ∧
      (s.fwVerifies l = false → 2 ≤ im.slot → done (fun t => EventSet t Reg.DEV_EVT 3 ∧ t.sec.start.step = 17))) ∧
    (x.step = 8 → done (fun t => t.sec.idKey = Config.shake256 (s.sec.fuses.seed ++ identityLabel) 96)) ∧
    (x.step = 8 → (∀ k, k < 3 → (s.member k).st = 0) →
      (pass = 7#3 → done (fun t => t.sec.start.step = 9 ∧ t.triad.mode = 0 ∧ t.triad.nextSlice = s.now + 1500000 ∧
        t.triad.nextCkpt = s.now + 15000000 ∧ ∀ k, k < 3 → (t.member k).st = 0)) ∧
      (∀ k, k < 3 → pass = 7#3 ^^^ BitVec.ofNat 3 (2 ^ k) → done (fun t => t.sec.start.step = 9 ∧ t.triad.mode = 1 ∧ (t.member k).st = 2)) ∧
      (∀ k, k < 3 → pass = BitVec.ofNat 3 (2 ^ k) → done (fun t => t.sec.start.step = 9 ∧ t.triad.mode = 3 ∧
        Alarmed t 0x0C13 2 k 2 ∧ ∀ j, j < 3 → j ≠ k → (t.member j).st = 2)) ∧
      (pass = 0#3 → done (fun t => t.sec.start.step = 0 ∧ t.triad.mode = 6))) ∧
    (x.step = 9 →
      next 10 ∧
      (s.charKept = true → done (fun t => t.sec.start.skipped.testBit 8 = true ∧ ∀ c < 192, ∀ g < 8,
        t.rget (Reg.CH_CORR c g) = s.rget (Reg.CH_CORR c g))) ∧
      (s.charKept = false → done (fun t => t.sec.start.charTick = some s.now ∧
        t.sec.start.charTemp = mget 0 s.hk.sys 0 + mget 0 s.hk.sys 1))) ∧
    (x.step = 10 → Completes .startComplete s (fun t => t.sec.start = { x with step := 0, endTick := s.now, tried := [] } ∧
      (t.rget Reg.DEV_START).toNat = min 65535 ((x.acc + (s.now - x.since)) / 1500000) * 65536 + x.skipped % 1024 ∧
      EventSet t Reg.DEV_EVT 0 ∧ Alarmed t 0x0101 0 x.cause x.skipped))

/-! ## Housekeeping (05, 22) -/

/-- 05 R193 to R199, 22 R683: a timer's expiry is a trigger, and an emitter's edge is one when HK_CTRL selects it; a trigger begins a scan, waits as the one queued, or is counted as lost; a
scan converts its inputs in ascending order, 1 µs each, sampled 0.25 µs after the start; its end gives the results, their limits, the event
and the record; a system conversion goes round the 24 inputs every 20 µs, sets the emitters' thermal factors, and trips at the third
reading of 120 °C in a row: every excitation and emitter goes off with ALARM 0x0102. -/
def Obligations.Housekeeping : Prop :=
  ∀ (code : BitVec 12) (s : State),
    let h := s.hk
    (∀ t0, h.timerNext = some t0 → t0 ≤ s.now → Completes .hkTimerExpiry s (fun t =>
      t = { s with hk := { h with trigs := h.trigs ++ [⟨t0, none⟩], timerNext := some (t0 + 1500 * s.rf Reg.HK_TIMER 0 24) } })) ∧
    (∀ t0 edge rest, h.trigs = ⟨t0, edge⟩ :: rest → t0 ≤ s.now → (∀ y ∈ rest, y.edge = none ∧ t0 ≤ y.tick) →
      let new := fun (sc : Scan) => sc.start = t0 + 15 * s.rf Reg.HK_DELAY 0 16 ∧ sc.done = [] ∧ sc.running = false ∧
        sc.record = s.rb Reg.HK_CTRL 31 ∧ sc.left.Pairwise (· < ·) ∧
        ∀ i, i ∈ sc.left ↔ (i < 16 ∧ s.rb Reg.HK_SCAN_LO i = true) ∨ (16 ≤ i ∧ i < 32 ∧ s.rb Reg.HK_SCAN_HI (i - 16) = true)
      let is := ∀ k trailing, edge = some (k, trailing) → s.rf Reg.HK_CTRL 0 2 = 2 ∧ s.rf Reg.HK_CTRL 18 3 = k ∧ s.rb Reg.HK_CTRL 17 = trailing
      (¬is → rest = [] → Completes .hkTrigger s (fun t => t = { s with hk := { h with trigs := [] } })) ∧
      (is → h.scan = none → Completes .hkTrigger s (fun t => ∃ sc, new sc ∧ t = { s with hk := { h with trigs := rest, scan := some sc } })) ∧
      (is → h.scan ≠ none → h.queued = none → Completes .hkTrigger s (fun t => ∃ sc, new sc ∧
        t = { s with hk := { h with trigs := rest, queued := some sc } })) ∧
      (is → h.scan ≠ none → h.queued ≠ none → Completes .hkTrigger s (fun t => t.hk = { h with trigs := rest } ∧
        Counts s t Reg.HK_OVR_CNT ∧ EventSet t Reg.HK_EVT 1 ∧ Only [.hk, .regs] s t))) ∧
    (∀ sc, h.scan = some sc → sc.running = false →
      let t0 := max sc.start h.free
      t0 ≤ s.now → (∀ d, h.sysNext = some d → t0 < d) → Completes .hkScanStart s (fun t =>
        t = { s with hk := { h with scan := some { sc with running := true }, conv := if sc.left = [] then none else some (t0 + 1500) } })) ∧
    (∀ sc e n rest, h.scan = some sc → h.conv = some e → e ≤ s.now → sc.left = n :: rest →
      let t0 := e - 1500 + 375
      Completes (.hkConversion code) s (fun t => t = { s with hk := { h with
        scan := some { sc with
          left := rest, done := sc.done ++ [(n, t0, code.toNat)], ts := if sc.done = [] then s.tsTick ((t0 + 64 - s.qtz.pll % 64) / 64 * 64 + s.qtz.pll % 64 - 64) else sc.ts }
        conv := if rest = [] ∨ h.sysBy e = true then none else some (e + 1500)
        free := max h.free e } })) ∧
    (∀ sc, h.scan = some sc → sc.running = true → sc.left = [] → (sc.done.map Prod.fst).Nodup →
      (∀ x ∈ sc.done, x.1 < 32 ∧ x.2.2 < 4096) → Completes .hkScanEnd s (fun t =>
        EventSet t Reg.HK_EVT 0 ∧ t.hk.scanNum = h.scanNum + 1 ∧ t.hk.queued = none ∧
        t.hk.scan = h.queued.map (fun q => { q with start := max q.start (max sc.start h.free) }) ∧
        (∀ x ∈ sc.done, (t.rget (Reg.HK_DATA x.1)).toNat = h.scanNum % 256 * 2 ^ 24 + 2 ^ 15 + x.2.2 ∧
          (t.hk.beyond.testBit x.1 = true ↔ x.2.2 < s.rf (Reg.HK_LIM x.1) 0 12 ∨ s.rf (Reg.HK_LIM x.1) 16 12 < x.2.2) ∧
          (t.hk.beyond.testBit x.1 = true → EventSet t Reg.HK_EVT 2)) ∧
        (sc.record = true → sc.done ≠ [] → AtPort t 12 (fun r => r.typ = tHK ∧ r.cls = 5 ∧ r.ts = sc.ts ∧
          fieldAt r.body 4 1 = sc.done.length % 256 ∧ fieldAt r.body 5 1 = h.scanNum % 256)))) ∧
    (∀ d, h.sysNext = some d → h.conv = none →
      let e := max d h.free + 1500
      let n := h.sysInput
      let temp : Int := 10 * (code.toNat : Int) - 27315
      e ≤ s.now →
      Completes (.hkSystemConversion code) s (fun t => mget 0 t.hk.sys n = code.toNat ∧ t.hk.free = e ∧ t.hk.sysNext = some (d + 30000) ∧
        t.hk.sysInput = (n + 1) % 24) ∧
      (n < 4 → 11000 < temp → mget false h.warned n = false → Completes (.hkSystemConversion code) s (fun t =>
        AtPort t 12 (fun r => r.typ = tALARM ∧ fieldAt r.body 4 2 = 0x0103 ∧ fieldAt r.body 6 1 = 1 ∧ fieldAt r.body 8 8 = n))) ∧
      (n < 4 → 12000 ≤ temp → mget 0 h.hot n = 2 → h.tripped = false → Completes (.hkSystemConversion code) s (fun t =>
        t.alarmN = true ∧ t.hk.tripped = true ∧ (∀ c, c < 192 → t.rb (Reg.CH_EXC_CTRL c) 0 = false) ∧
        (∀ k, k < 8 → t.rb (Reg.EM_CTRL k) 31 = false ∧ (s.rb (Reg.EM_CTRL k) 31 = true → (t.emitter k).st ≠ 2)) ∧
        AtPort t 12 (fun r => r.typ = tALARM ∧ fieldAt r.body 4 2 = 0x0102 ∧ fieldAt r.body 6 1 = 3 ∧ fieldAt r.body 8 8 = n))) ∧
      (16 ≤ n → n < 24 → Completes (.hkSystemConversion code) s (fun t =>
        let lo := s.rf (Reg.EM_TOFF (n - 16)) 0 12
        let hi := s.rf (Reg.EM_TDERATE (n - 16)) 0 12
        let c := code.toNat
        (t.emitter (n - 16)).d = (if 4000 ≤ c then 0 else if hi ≤ c then 256 else if c ≤ lo then 0 else 256 * (c - lo) / (hi - lo)) ∧
        ∀ j, j ≠ n - 16 → t.emitter j = s.emitter j)))

/-! ## Reference and PPS (06) -/

/-- A TIME_EVENT of this kind, with its first value, has been made (06 R232 to R235). -/
def TimeEvent (t : State) (kind : Nat) (ts : TS48) (v : Int) : Prop :=
  OnIsland0 t (fun r => r.typ = tTIME_EVENT ∧ r.cls = 3 ∧ r.ts = ts ∧ fieldAt r.body 4 1 = kind ∧ fieldAt r.body 8 8 = unsignedOf 64 v)

/-- 06 R231 to R235: four empty windows in a row end LOCKED with HOLDOVER and RELOCK with HOLDOVER, 64 windows with an edge lead from
HOLDOVER to RELOCK, whose end is LOCKED; a PPS edge is a record, and its interval is good within 1 s ± 100 µs; two edges that do not come are
a loss. States: 0 LOCKED, 1 HOLDOVER, 2 RELOCK, 3 FREE. -/
def Obligations.ReferenceAndPps : Prop :=
  ∀ (edge : Bool) (shift : TS48) (s : State),
    let r := s.ref
    let p := trefTicks r.sel
    let miss := if edge then 0 else min 4 (r.miss + 1)
    let good := if edge then min 64 (r.good + 1) else 0
    let closes := fun (P : State → Prop) => Completes (.trefWindowClose edge) s P
    let apart := fun (l : Nat) => 1500000000 ≤ s.now - l + 150000 ∧ s.now - l ≤ 1500000000 + 150000
    (r.st = 3 ∨ s.now < r.nextWin → closes (fun t => t = s)) ∧
    (r.st < 3 → r.nextWin ≤ s.now →
      ((r.st = 1 ∨ miss ≠ 4) → (r.st ≠ 1 ∨ good ≠ 64) → closes (fun t =>
        t = { s with ref := { r with nextWin := r.nextWin + p, miss := miss, good := good } })) ∧
      (r.st = 0 → miss = 4 → closes (fun t => t.ref.st = 1 ∧ t.ref.holdFrom = s.now ∧ EventSet t Reg.QTZ_REF_EVT 0 ∧
        TimeEvent t 0 s.tsNow 0 ∧ (t.level 190).now = true)) ∧
      (r.st = 2 → miss = 4 → closes (fun t => t.ref.st = 1 ∧ t.ref.holdFrom = r.holdFrom)) ∧
      (r.st = 1 → good = 64 → closes (fun t => t.ref.st = 2 ∧ t.ref.miss = 0 ∧ t.ref.good = 0))) ∧
    (r.st = 2 → Completes (.refBack shift) s (fun t => t.ref.st = 0 ∧ EventSet t Reg.QTZ_REF_EVT 1 ∧ TimeEvent t 2 s.tsNow shift.toInt ∧
      t.ref.holdS = min 65535 ((s.now - r.holdFrom) / 1500000000) ∧ t.ref.nextWin = s.now + p + p / 4)) ∧
    (r.st ≠ 2 → Completes (.refBack shift) s (fun t => t = s)) ∧
    Completes .ppsInEdge s (fun t => TimeEvent t 3 (s.tsAt (-3)) 0 ∧ t.ref.ppsLast = some s.now ∧
      (∀ l, r.ppsLast = some l → apart l → t.ref.ppsOk = true ∧ t.ref.ppsBad = 0 ∧ t.ref.ppsLost = false ∧
        (r.ppsLost = true → TimeEvent t 5 (s.tsAt (-3)) 0 ∧ EventSet t Reg.QTZ_REF_EVT 3)) ∧
      (∀ l, r.ppsLast = some l → ¬apart l → t.ref.ppsBad = r.ppsBad + 1 ∧ t.ref.ppsGood = false ∧ t.ref.ppsOk = r.ppsOk)) ∧
    (∀ l, r.ppsLost = false → r.ppsLast = some l → r.ppsBad = 0 →
      (l + 3000000000 + 150000 ≤ s.now → Completes .ppsLost s (fun t => t.ref.ppsLost = true ∧ t.ref.ppsOk = false ∧
        TimeEvent t 4 s.tsNow 0 ∧ EventSet t Reg.QTZ_REF_EVT 2)) ∧
      (s.now < l + 3000000000 + 150000 → Completes .ppsLost s (fun t => t = s)))

/-! ## Counters and Slates (21) -/

/-- 21 R655 to R661, R664: SNAP_TAKE and the edge of SNAP_IN take the next Slate, at the first tick count that is a multiple of 64 and lies 384 ticks ahead; when
one is pending or hold is set the command is turned away and the edge is counted; at the Slate tick every copied register is copied with
its value; a window of bandwidth shows bytes per µs; a dump carries the group's counters. -/
def Obligations.CountersAndSlates : Prop :=
  ∀ (m : Master) (g : Fin 16) (s : State),
    let e := entryOf s m.val
    let tick := (s.now + 511 - s.qtz.pll % 64) / 64 * 64 + s.qtz.pll % 64 - 64
    let held := s.rb Reg.PERF_SNAP_CTRL 31 = true
    (Admitted s m.val 0x0103 → e.len = 0 →
      (held → AnswersNow (.snapTake m) s m.val stREFUSED (fun u res => res = [] ∧ u.perf.slate = s.perf.slate)) ∧
      (∀ p, ¬held → s.perf.slate = some p → p.acc ≠ s.now →
        AnswersNow (.snapTake m) s m.val stBUSY (fun u res => res = [] ∧ u.perf.slate = s.perf.slate)) ∧
      (¬held → s.perf.slate = none → Completes (.snapTake m) s (fun t =>
        t.perf.slate = some ⟨tick, s.now, 1, [ticketOf s m.val], none⟩))) ∧
    (s.rb Reg.PERF_SNAP_CTRL 0 = false → Completes .snapInEdge s (fun t => t.perf = s.perf)) ∧
    (s.rb Reg.PERF_SNAP_CTRL 0 = true →
      (¬held → s.perf.slate = none → Completes .snapInEdge s (fun t => t.perf.slate = some ⟨tick, s.now, 2, [], none⟩)) ∧
      (held → Completes .snapInEdge s (fun t => t.perf.slate = s.perf.slate ∧ Counts s t Reg.PERF_SNAP_DROP ∧ EventSet t Reg.PERF_EVT 2))) ∧
    (∀ p, s.perf.slate = some p → p.tick ≤ s.now → p.rest = none → s.pausedIslands = [] → Completes .slateLatch s (fun t =>
      t.perf.slate = none ∧ t.perf.valid = true ∧ t.perf.srcLast = p.src ∧ t.perf.late = false ∧ t.perf.num = (s.perf.num + 1) % 65536 ∧
      EventSet t Reg.PERF_EVT 1 ∧ t.rget Reg.REGCTL_SNAP_TS_LO = BitVec.ofNat 32 (s.tsTick p.tick).toNat ∧
      ∀ n ∈ snapPages, ∀ x ∈ snapPage n, mget 0 t.perf.copies x.addr = s.view x)) ∧
    (∀ p, s.perf.slate = some p → s.now < p.tick → Completes .slateLatch s (fun t => t = s)) ∧
    (∀ t0, s.perf.winStart = some t0 → t0 + 1500 * s.rf Reg.PERF_BW_WIN 0 20 ≤ s.now → Completes .bwWindowEnd s (fun t =>
      t.perf.bytes = [] ∧ t.perf.winStart = some (t0 + 1500 * s.rf Reg.PERF_BW_WIN 0 20) ∧ Only [.perf, .regs] s t ∧
      ∀ k, k < 20 → (t.rget (Reg.PERF_BW k)).toNat = min 1048575 (mget 0 s.perf.bytes k / s.rf Reg.PERF_BW_WIN 0 20))) ∧
    (let cfg := s.rget (Reg.PERF_DUMP_CFG g.val)
     ∀ t0, bit cfg 31 = true → bit cfg 30 = false → mget none s.perf.dumpNext g.val = some t0 → t0 ≤ s.now →
      Completes (.dumpPeriodic g) s (fun t =>
        mget none t.perf.dumpNext g.val = some (t0 + 1500 * s.rf (Reg.PERF_DUMP_PER g.val) 0 24) ∧
        t.rget (Reg.PERF_DUMP_NUM g.val) = s.rget (Reg.PERF_DUMP_NUM g.val) + 1 ∧
        (bit cfg 29 = true → AtPort t 12 (fun r => r.typ = tCOUNTERS ∧ r.cls = 6 ∧ r.idx = g.val ∧ r.ts = s.tsTick t0 ∧
          fieldAt r.body 4 2 = s.rf (Reg.PERF_DUMP_CFG g.val) 0 10 ∧ fieldAt r.body 6 2 = s.rf (Reg.PERF_DUMP_N g.val) 0 11 ∧
          ∀ j, j < s.rf (Reg.PERF_DUMP_N g.val) 0 11 →
            fieldAt r.body (16 + 8 * j) 4 = (s.rget (Reg.PERF_CNT_LO ((s.rf (Reg.PERF_DUMP_CFG g.val) 0 10 + j) % 1024))).toNat)) ∧
        (bit cfg 28 = true → (s.ring (64 + fld cfg 24 2)).st ≠ 1 → Counts s t Reg.PERF_DUMP_SKIP)))

/-! ## Firmware, keys and fuses (20) -/

/-- 20 R638 to R650: FW_UPDATE takes an image whose source and slot it may use, and at its end programs the slot of an image that
verifies, writes the directory and, when asked, raises the floor; ATTEST gives a report with the challenge, signed, in 25 replies; KEY_REVOKE
burns the key's bit unless it cannot or need not, and images signed by a revoked slot verify no more; a burn takes 20 ms and sets its fuse
bits. -/
def Obligations.FirmwareAndKeys : Prop :=
  ∀ (m : Master) (good : Bool) (s : State),
    let e := entryOf s m.val
    let f := s.sec.fuses
    (Admitted s m.val 0x0D01 → e.len = 2 → s.fwUpdateOk e = true →
      let target := s.fwTarget (e.p 2 1)
      let only := (e.p 3 1).testBit 3 = true
      let barred := target = s.sec.start.fw.slot ∨ ∃ b ∈ srcBanks e,
        ((s.bank (8 * e.p 0 1 + b)).owner ≠ 4 ∧ (s.bank (8 * e.p 0 1 + b)).owner ≠ 5) ∨ (s.bank (8 * e.p 0 1 + b)).hand ≠ none
      let answers := fun (st : Nat) => AnswersNow (.fwUpdate m) s m.val st (fun u res => res = [] ∧ u.sec = s.sec)
      (¬only → barred → answers stWRONG_STATE) ∧
      (only ∨ ¬barred → s.triad.mode = 3 → answers stDEGRADED) ∧
      (only ∨ ¬barred → s.triad.mode ≠ 3 → s.sec.fwJob ≠ none → answers stBUSY) ∧
      (only ∨ ¬barred → s.triad.mode ≠ 3 → s.sec.fwJob = none → Completes (.fwUpdate m) s (fun t => ∃ j, t.sec.fwJob = some j ∧
        j.tk = ticketOf s m.val ∧ j.target = target ∧ j.flags = e.p 3 1 ∧
        (only → j.image = some (s.imageBytes target)) ∧
        (¬only → (e.p 3 1).testBit 1 = false →
          j.image = some (bytesAt (s.island (e.p 0 1)).shmem (e.p 1 1 * 0x40000 + e.p 4 4) (e.p 8 4)))))) ∧
    (∀ j, s.sec.fwJob = some j →
      let ends := fun (st : Nat) => Completes (.fwUpdateDone good) s (fun t => ∃ u : State, t = u.reply j.tk st [] ∧ u.sec.fwJob = none ∧
        u.sec.flash = s.sec.flash ∧ u.sec.fuses = f)
      (j.image = none → ends stSIG_INVALID) ∧
      (∀ l, j.image = some l →
        (fwFormat l && s.fwSignedOk l) = false → ends stSIG_INVALID) ∧
      (∀ l, j.image = some l → (fwFormat l && s.fwSignedOk l) = true →
        (fieldAt l 12 2 < f.svnFloor → ends stREFUSED) ∧
        (f.svnFloor ≤ fieldAt l 12 2 → j.flags.testBit 3 = false → j.target < 2 → l.length ≤ 2097152 →
          (good = true → Finishes (.fwUpdateDone good) s j.tk stOK (fun u res => res = [] ∧ u.sec.fwJob = none ∧
            flashBytes u.sec.flash (slotBase j.target) l.length = l ∧
            u.sec.fuses = { f with svnFloor := if j.flags.testBit 2 then max f.svnFloor (fieldAt l 12 2) else f.svnFloor } ∧
            ∃ k d, u.dirCopy k = some d ∧ slotValid d j.target = true ∧
              (d.drop (16 + 32 * j.target)).take 32 = fitBytes 32 (Config.shake256 (fwSigned l) 32) ∧
              (j.flags.testBit 0 = true → fieldAt d 8 1 = j.target))) ∧
          (good = false → Completes (.fwUpdateDone good) s (fun t => ∃ u : State, t = u.reply j.tk stHW_FAULT [] ∧ u.sec.fuses = f ∧
            flashBytes u.sec.flash 0 8192 = flashBytes s.sec.flash 0 8192))))) ∧
    (Admitted s m.val 0x0D02 → e.len = 4 →
      (s.sec.attest ≠ none → AnswersNow (.attest m) s m.val stBUSY (fun u res => res = [] ∧ u.sec = s.sec)) ∧
      (s.sec.attest = none → Completes (.attest m) s (fun t => t.sec.attest = some (ticketOf s m.val, leBytes 32 (e.p 0 32))))) ∧
    (∀ tk ch, s.sec.attest = some (tk, ch) → Completes .attestDone s (fun t => ∃ (u : State) (l : List Byte), u.sec.attest = none ∧
      EventSet u Reg.SEC_EVT 0 ∧ t = State.replyParts 24 u tk l ∧ l.length = 50176 ∧ l.take 32 = fitBytes 32 ch ∧
      fieldAt l 32 4 = 0x0192E1B0 ∧ fieldAt l 37 1 = f.state % 256 ∧ fieldAt l 40 8 = f.serial.toNat ∧
      (l.drop 256).take 64 = identityPublic s.sec.idKey ∧
      l.drop 320 = fitBytes 49856 (Config.slhSign s.sec.idKey "ryngo-attest" (l.take 256)))) ∧
    (let k := e.p 0 1
     let hash := leBytes 8 (e.p 8 8) = (s.keyHash k).take 8
     Admitted s m.val 0x0D03 → e.len = 2 → k ≤ 3 → e.p 2 6 = 0 → e.p 1 1 + k ≠ 255 ∨ ¬hash →
      AnswersNow (.keyRevoke m) s m.val stBAD_PARAM (fun u res => res = [] ∧ u.sec = s.sec)) ∧
    (Admitted s m.val 0x0D03 → e.len = 2 → e.p 0 1 ≤ 3 → e.p 2 6 = 0 → e.p 1 1 + e.p 0 1 = 255 →
      leBytes 8 (e.p 8 8) = (s.keyHash (e.p 0 1)).take 8 →
      let k := e.p 0 1
      let answers := fun (st : Nat) => AnswersNow (.keyRevoke m) s m.val st (fun u res => res = [] ∧ u.sec = s.sec)
      (f.programmed.getLsbD k = false → answers stWRONG_STATE) ∧
      (f.programmed.getLsbD k = true → s.sec.start.fw.keySlot = k → answers stREFUSED) ∧
      (f.programmed.getLsbD k = true → s.sec.start.fw.keySlot ≠ k → s.triad.mode = 3 → answers stDEGRADED) ∧
      (f.programmed.getLsbD k = true → s.sec.start.fw.keySlot ≠ k → s.triad.mode ≠ 3 →
        (f.revoked.getLsbD k = true → answers stOK) ∧
        (f.revoked.getLsbD k = false → Completes (.keyRevoke m) s (fun t =>
          t.sec.burns = s.sec.burns ++ [⟨.revoke k, s.now + 30000000, some (ticketOf s m.val)⟩])))) ∧
    (∀ b rest, s.sec.burns = b :: rest → b.due ≤ s.now →
      (∀ k tk, k < 4 → b.what = .revoke k → b.tk = some tk → Finishes .fuseBurnDone s tk stOK (fun u res => res = [] ∧ u.sec.burns = rest ∧
        u.sec.fuses.revoked = f.revoked ||| BitVec.ofNat 4 (2 ^ k) ∧ u.eng = s.eng ∧ EventSet u Reg.SEC_EVT 1 ∧ EventSet u Reg.SEC_EVT 4)) ∧
      (∀ k h, k < 4 → b.what = .slot k h → b.tk = none → Completes .fuseBurnDone s (fun t => t.sec.burns = rest ∧
        t.sec.fuses.programmed = f.programmed ||| BitVec.ofNat 4 (2 ^ k) ∧ t.keyHash k = h ∧
        (∀ j, j < 4 → j ≠ k → t.keyHash j = s.keyHash j) ∧ t.sec.fuses.revoked = f.revoked ∧ EventSet t Reg.SEC_EVT 1))) ∧
    (∀ k l, k < 4 → f.revoked.getLsbD k = true →
      (fieldAt l 14 1 = k → s.fwSignedOk l = false) ∧ (fieldAt l 31 1 = k → s.kernelVerifies l = false))

/-! ## No command stops the part -/

/-- Every command, on every state and with any operands, answers a next state: no rule of the spec stops the part. A list of a length
that no event of the part has stops nothing either: what is no frame is a damaged frame (15 R494); a host request that PCI Express
makes malformed is discarded and reported, one of no bytes moves none; of a list that is no descriptor the first 16 bytes count, with
zeros for those it lacks; and a byte of a line that two entries name is in error as the first says (log entry 2: the model's choices). -/
def Obligations.IllFormedCommands : Prop :=
  (∀ (c : Instr) (s : State), ∃ t, exec c s = .next t) ∧
  ∀ (pf : PfN) (off : BitVec 28) (bytes : List Byte) (len : BitVec 13) (ring : Fin 68) (pp : PortN) (ts : TS48) (a : Fin 15) (r : Fin 7)
    (u : Byte) (line : BitVec 16) (x : Fin 64) (y z : Bool) (errs : List (Fin 64 × Bool)) (fail : Bool) (vmin : BitVec 10) (s : State),
    let p := pp.val
    let runs := fun (c d : Instr) => Completes c s (fun t => exec d s = .next t)
    let fatal := fun (t : State) => t.out = s.out ++ [.aerFatal pf.val] ∧ Only [.out] s t
    (wfBar2Write off bytes = false → s.hostServed = true →
      (bytes = [] → Completes (.bar2Write pf off bytes) s (fun t => t = s)) ∧
      (bytes ≠ [] → Completes (.bar2Write pf off bytes) s fatal)) ∧
    (wfBar2Read off len = false → s.hostServed = true →
      (len = 0 → Completes (.bar2Read pf off len) s (fun t => t.out = s.out ++ [.completion pf.val [] false false])) ∧
      (len ≠ 0 → Completes (.bar2Read pf off len) s fatal)) ∧
    (wfDescriptor bytes = false →
      runs (.descriptorReadDone ring bytes) (.descriptorReadDone ring ((bytes ++ List.replicate 16 0).take 16))) ∧
    (wfFrame bytes = false → (s.port p).st = 1 ∨ (s.port p).st = 2 → Completes (.frame pp bytes ts) s (fun t =>
      Counts s t (Reg.LINK_CRC_ERR p) ∧ t.out = s.out ++ [.block p (nakBlock (s.port p).rx.expected)] ∧
      (t.port p).rx.nakDue = some (s.now + 3000) ∧ (t.port p).rx.inbox = (s.port p).rx.inbox)) ∧
    runs (.scrubLine a r u line ((x, y) :: (x, z) :: errs)) (.scrubLine a r u line ((x, y) :: errs)) ∧
    runs (.marchTestLine a r u line ((x, y) :: (x, z) :: errs) fail vmin) (.marchTestLine a r u line ((x, y) :: errs) fail vmin)

/-! ## What every step keeps -/

/-- 20 R640, R641, R648, R650: fuses only advance. Whatever a step does, the lifecycle that is burnt never goes back and never passes RETIRED,
the state in effect is at most the one burnt, a key slot that is programmed or revoked stays so, the firmware's floor never falls, and the
serial number, the vendor root and the seed of the identity key never change. -/
def Obligations.FusesOnlyAdvance : Prop := ∀ s t : State, FusesOk s → step s = .next t → FusesOk t ∧ FusesOnward s t

/-- Every memory keeps its canonical form: rising addresses, and no entry that reads as an unlisted one (the model's own form, log entry 3). -/
def Obligations.MemoryStaysCanonical : Prop := ∀ s t : State, s.memoryOk → step s = .next t → t.memoryOk

/-- 02 R50 to R53, 03 R79, R94, 14 R455, 20 R626, R645, 19 R623: after reset no command waits, no master owns the device, the start is at
step 1, the memories list nothing and every register reads the value its table gives; and what every step keeps holds there. -/
def Obligations.Reset : Prop :=
  let s := State.reset
  s.pending = [] ∧ s.own.owner = none ∧ s.own.token = 0 ∧ s.sec.start.step = 1 ∧ s.qtz.now = 0 ∧ s.qtz.inc = 0x0AAAAAAAB#36 ∧
    s.qtz.timeValid = false ∧ s.cmd = Cmd.reset ∧ FusesOk s ∧ s.memoryOk ∧
    (∀ a t, target a = some t → t.loc.page ≠ .ch → s.rget t.addr = t.desc.reset) ∧
    (s.rget Reg.DEV_WDOG).toNat = 1000 ∧ (s.rget Reg.OWN_LEASE_DEFAULT).toNat = 2000 ∧ (s.rget Reg.CMD_FWD_TIMEOUT).toNat = 100 ∧
    (s.rget Reg.QTZ_JUMP_LIMIT).toNat = 1000 ∧ (s.rget Reg.QTZ_INC_LO).toNat = 0xAAAAAAAB ∧ (s.rget Reg.TRIAD_TS_CTRL).toNat = 0x80000E10 ∧
    ∀ k, k < 8 → (s.rget (Reg.EM_PERIOD k)).toNat = 75000 ∧ (s.rget (Reg.EM_IMAX k)).toNat = 1023
end

