-- ==== Sys2Proof/Laws/State.lean ====
section
/-! SUPPORT. What each named update of the state leaves alone, field by field, and a unit read after an update of its kind. -/

namespace Sys2Proof.Machine

variable (s : State)


@[simp] theorem State.updChan_pending (c : Nat) (f : Chan → Chan) : (s.updChan c f).pending = s.pending := rfl
@[simp] theorem State.updChan_freeCtr (c : Nat) (f : Chan → Chan) : (s.updChan c f).freeCtr = s.freeCtr := rfl
@[simp] theorem State.updChan_qtz (c : Nat) (f : Chan → Chan) : (s.updChan c f).qtz = s.qtz := rfl
@[simp] theorem State.updChan_regs (c : Nat) (f : Chan → Chan) : (s.updChan c f).regs = s.regs := rfl
@[simp] theorem State.updChan_cyc (c : Nat) (f : Chan → Chan) : (s.updChan c f).cyc = s.cyc := rfl
@[simp] theorem State.updChan_bus (c : Nat) (f : Chan → Chan) : (s.updChan c f).bus = s.bus := rfl
@[simp] theorem State.updChan_own (c : Nat) (f : Chan → Chan) : (s.updChan c f).own = s.own := rfl
@[simp] theorem State.updChan_cmd (c : Nat) (f : Chan → Chan) : (s.updChan c f).cmd = s.cmd := rfl
@[simp] theorem State.updChan_gov (c : Nat) (f : Chan → Chan) : (s.updChan c f).gov = s.gov := rfl
@[simp] theorem State.updChan_calJobs (c : Nat) (f : Chan → Chan) : (s.updChan c f).calJobs = s.calJobs := rfl
@[simp] theorem State.updChan_charJobs (c : Nat) (f : Chan → Chan) : (s.updChan c f).charJobs = s.charJobs := rfl
@[simp] theorem State.updChan_hk (c : Nat) (f : Chan → Chan) : (s.updChan c f).hk = s.hk := rfl
@[simp] theorem State.updChan_ref (c : Nat) (f : Chan → Chan) : (s.updChan c f).ref = s.ref := rfl
@[simp] theorem State.updChan_fl (c : Nat) (f : Chan → Chan) : (s.updChan c f).fl = s.fl := rfl
@[simp] theorem State.updChan_isl (c : Nat) (f : Chan → Chan) : (s.updChan c f).isl = s.isl := rfl
@[simp] theorem State.updChan_eng (c : Nat) (f : Chan → Chan) : (s.updChan c f).eng = s.eng := rfl
@[simp] theorem State.updChan_ctx (c : Nat) (f : Chan → Chan) : (s.updChan c f).ctx = s.ctx := rfl
@[simp] theorem State.updChan_lag (c : Nat) (f : Chan → Chan) : (s.updChan c f).lag = s.lag := rfl
@[simp] theorem State.updChan_comp (c : Nat) (f : Chan → Chan) : (s.updChan c f).comp = s.comp := rfl
@[simp] theorem State.updChan_link (c : Nat) (f : Chan → Chan) : (s.updChan c f).link = s.link := rfl
@[simp] theorem State.updChan_host (c : Nat) (f : Chan → Chan) : (s.updChan c f).host = s.host := rfl
@[simp] theorem State.updChan_mem (c : Nat) (f : Chan → Chan) : (s.updChan c f).mem = s.mem := rfl
@[simp] theorem State.updChan_triad (c : Nat) (f : Chan → Chan) : (s.updChan c f).triad = s.triad := rfl
@[simp] theorem State.updChan_emit (c : Nat) (f : Chan → Chan) : (s.updChan c f).emit = s.emit := rfl
@[simp] theorem State.updChan_sec (c : Nat) (f : Chan → Chan) : (s.updChan c f).sec = s.sec := rfl
@[simp] theorem State.updChan_perf (c : Nat) (f : Chan → Chan) : (s.updChan c f).perf = s.perf := rfl
@[simp] theorem State.updChan_seqs (c : Nat) (f : Chan → Chan) : (s.updChan c f).seqs = s.seqs := rfl
@[simp] theorem State.updChan_out (c : Nat) (f : Chan → Chan) : (s.updChan c f).out = s.out := rfl

@[simp] theorem State.updIsland_pending (i : Nat) (f : Island → Island) : (s.updIsland i f).pending = s.pending := rfl
@[simp] theorem State.updIsland_freeCtr (i : Nat) (f : Island → Island) : (s.updIsland i f).freeCtr = s.freeCtr := rfl
@[simp] theorem State.updIsland_qtz (i : Nat) (f : Island → Island) : (s.updIsland i f).qtz = s.qtz := rfl
@[simp] theorem State.updIsland_regs (i : Nat) (f : Island → Island) : (s.updIsland i f).regs = s.regs := rfl
@[simp] theorem State.updIsland_cyc (i : Nat) (f : Island → Island) : (s.updIsland i f).cyc = s.cyc := rfl
@[simp] theorem State.updIsland_bus (i : Nat) (f : Island → Island) : (s.updIsland i f).bus = s.bus := rfl
@[simp] theorem State.updIsland_own (i : Nat) (f : Island → Island) : (s.updIsland i f).own = s.own := rfl
@[simp] theorem State.updIsland_cmd (i : Nat) (f : Island → Island) : (s.updIsland i f).cmd = s.cmd := rfl
@[simp] theorem State.updIsland_ch (i : Nat) (f : Island → Island) : (s.updIsland i f).ch = s.ch := rfl
@[simp] theorem State.updIsland_gov (i : Nat) (f : Island → Island) : (s.updIsland i f).gov = s.gov := rfl
@[simp] theorem State.updIsland_calJobs (i : Nat) (f : Island → Island) : (s.updIsland i f).calJobs = s.calJobs := rfl
@[simp] theorem State.updIsland_charJobs (i : Nat) (f : Island → Island) : (s.updIsland i f).charJobs = s.charJobs := rfl
@[simp] theorem State.updIsland_hk (i : Nat) (f : Island → Island) : (s.updIsland i f).hk = s.hk := rfl
@[simp] theorem State.updIsland_ref (i : Nat) (f : Island → Island) : (s.updIsland i f).ref = s.ref := rfl
@[simp] theorem State.updIsland_fl (i : Nat) (f : Island → Island) : (s.updIsland i f).fl = s.fl := rfl
@[simp] theorem State.updIsland_eng (i : Nat) (f : Island → Island) : (s.updIsland i f).eng = s.eng := rfl
@[simp] theorem State.updIsland_ctx (i : Nat) (f : Island → Island) : (s.updIsland i f).ctx = s.ctx := rfl
@[simp] theorem State.updIsland_lag (i : Nat) (f : Island → Island) : (s.updIsland i f).lag = s.lag := rfl
@[simp] theorem State.updIsland_comp (i : Nat) (f : Island → Island) : (s.updIsland i f).comp = s.comp := rfl
@[simp] theorem State.updIsland_link (i : Nat) (f : Island → Island) : (s.updIsland i f).link = s.link := rfl
@[simp] theorem State.updIsland_host (i : Nat) (f : Island → Island) : (s.updIsland i f).host = s.host := rfl
@[simp] theorem State.updIsland_mem (i : Nat) (f : Island → Island) : (s.updIsland i f).mem = s.mem := rfl
@[simp] theorem State.updIsland_triad (i : Nat) (f : Island → Island) : (s.updIsland i f).triad = s.triad := rfl
@[simp] theorem State.updIsland_emit (i : Nat) (f : Island → Island) : (s.updIsland i f).emit = s.emit := rfl
@[simp] theorem State.updIsland_sec (i : Nat) (f : Island → Island) : (s.updIsland i f).sec = s.sec := rfl
@[simp] theorem State.updIsland_perf (i : Nat) (f : Island → Island) : (s.updIsland i f).perf = s.perf := rfl
@[simp] theorem State.updIsland_seqs (i : Nat) (f : Island → Island) : (s.updIsland i f).seqs = s.seqs := rfl
@[simp] theorem State.updIsland_out (i : Nat) (f : Island → Island) : (s.updIsland i f).out = s.out := rfl

@[simp] theorem State.updEngine_pending (e : Nat) (f : Eng → Eng) : (s.updEngine e f).pending = s.pending := rfl
@[simp] theorem State.updEngine_freeCtr (e : Nat) (f : Eng → Eng) : (s.updEngine e f).freeCtr = s.freeCtr := rfl
@[simp] theorem State.updEngine_qtz (e : Nat) (f : Eng → Eng) : (s.updEngine e f).qtz = s.qtz := rfl
@[simp] theorem State.updEngine_regs (e : Nat) (f : Eng → Eng) : (s.updEngine e f).regs = s.regs := rfl
@[simp] theorem State.updEngine_cyc (e : Nat) (f : Eng → Eng) : (s.updEngine e f).cyc = s.cyc := rfl
@[simp] theorem State.updEngine_bus (e : Nat) (f : Eng → Eng) : (s.updEngine e f).bus = s.bus := rfl
@[simp] theorem State.updEngine_own (e : Nat) (f : Eng → Eng) : (s.updEngine e f).own = s.own := rfl
@[simp] theorem State.updEngine_cmd (e : Nat) (f : Eng → Eng) : (s.updEngine e f).cmd = s.cmd := rfl
@[simp] theorem State.updEngine_ch (e : Nat) (f : Eng → Eng) : (s.updEngine e f).ch = s.ch := rfl
@[simp] theorem State.updEngine_gov (e : Nat) (f : Eng → Eng) : (s.updEngine e f).gov = s.gov := rfl
@[simp] theorem State.updEngine_calJobs (e : Nat) (f : Eng → Eng) : (s.updEngine e f).calJobs = s.calJobs := rfl
@[simp] theorem State.updEngine_charJobs (e : Nat) (f : Eng → Eng) : (s.updEngine e f).charJobs = s.charJobs := rfl
@[simp] theorem State.updEngine_hk (e : Nat) (f : Eng → Eng) : (s.updEngine e f).hk = s.hk := rfl
@[simp] theorem State.updEngine_ref (e : Nat) (f : Eng → Eng) : (s.updEngine e f).ref = s.ref := rfl
@[simp] theorem State.updEngine_fl (e : Nat) (f : Eng → Eng) : (s.updEngine e f).fl = s.fl := rfl
@[simp] theorem State.updEngine_isl (e : Nat) (f : Eng → Eng) : (s.updEngine e f).isl = s.isl := rfl
@[simp] theorem State.updEngine_ctx (e : Nat) (f : Eng → Eng) : (s.updEngine e f).ctx = s.ctx := rfl
@[simp] theorem State.updEngine_lag (e : Nat) (f : Eng → Eng) : (s.updEngine e f).lag = s.lag := rfl
@[simp] theorem State.updEngine_comp (e : Nat) (f : Eng → Eng) : (s.updEngine e f).comp = s.comp := rfl
@[simp] theorem State.updEngine_link (e : Nat) (f : Eng → Eng) : (s.updEngine e f).link = s.link := rfl
@[simp] theorem State.updEngine_host (e : Nat) (f : Eng → Eng) : (s.updEngine e f).host = s.host := rfl
@[simp] theorem State.updEngine_mem (e : Nat) (f : Eng → Eng) : (s.updEngine e f).mem = s.mem := rfl
@[simp] theorem State.updEngine_triad (e : Nat) (f : Eng → Eng) : (s.updEngine e f).triad = s.triad := rfl
@[simp] theorem State.updEngine_emit (e : Nat) (f : Eng → Eng) : (s.updEngine e f).emit = s.emit := rfl
@[simp] theorem State.updEngine_sec (e : Nat) (f : Eng → Eng) : (s.updEngine e f).sec = s.sec := rfl
@[simp] theorem State.updEngine_perf (e : Nat) (f : Eng → Eng) : (s.updEngine e f).perf = s.perf := rfl
@[simp] theorem State.updEngine_seqs (e : Nat) (f : Eng → Eng) : (s.updEngine e f).seqs = s.seqs := rfl
@[simp] theorem State.updEngine_out (e : Nat) (f : Eng → Eng) : (s.updEngine e f).out = s.out := rfl

@[simp] theorem State.updLane_pending (l : Nat) (f : Lane → Lane) : (s.updLane l f).pending = s.pending := rfl
@[simp] theorem State.updLane_freeCtr (l : Nat) (f : Lane → Lane) : (s.updLane l f).freeCtr = s.freeCtr := rfl
@[simp] theorem State.updLane_qtz (l : Nat) (f : Lane → Lane) : (s.updLane l f).qtz = s.qtz := rfl
@[simp] theorem State.updLane_regs (l : Nat) (f : Lane → Lane) : (s.updLane l f).regs = s.regs := rfl
@[simp] theorem State.updLane_cyc (l : Nat) (f : Lane → Lane) : (s.updLane l f).cyc = s.cyc := rfl
@[simp] theorem State.updLane_bus (l : Nat) (f : Lane → Lane) : (s.updLane l f).bus = s.bus := rfl
@[simp] theorem State.updLane_own (l : Nat) (f : Lane → Lane) : (s.updLane l f).own = s.own := rfl
@[simp] theorem State.updLane_cmd (l : Nat) (f : Lane → Lane) : (s.updLane l f).cmd = s.cmd := rfl
@[simp] theorem State.updLane_ch (l : Nat) (f : Lane → Lane) : (s.updLane l f).ch = s.ch := rfl
@[simp] theorem State.updLane_gov (l : Nat) (f : Lane → Lane) : (s.updLane l f).gov = s.gov := rfl
@[simp] theorem State.updLane_calJobs (l : Nat) (f : Lane → Lane) : (s.updLane l f).calJobs = s.calJobs := rfl
@[simp] theorem State.updLane_charJobs (l : Nat) (f : Lane → Lane) : (s.updLane l f).charJobs = s.charJobs := rfl
@[simp] theorem State.updLane_hk (l : Nat) (f : Lane → Lane) : (s.updLane l f).hk = s.hk := rfl
@[simp] theorem State.updLane_ref (l : Nat) (f : Lane → Lane) : (s.updLane l f).ref = s.ref := rfl
@[simp] theorem State.updLane_fl (l : Nat) (f : Lane → Lane) : (s.updLane l f).fl = s.fl := rfl
@[simp] theorem State.updLane_isl (l : Nat) (f : Lane → Lane) : (s.updLane l f).isl = s.isl := rfl
@[simp] theorem State.updLane_eng (l : Nat) (f : Lane → Lane) : (s.updLane l f).eng = s.eng := rfl
@[simp] theorem State.updLane_ctx (l : Nat) (f : Lane → Lane) : (s.updLane l f).ctx = s.ctx := rfl
@[simp] theorem State.updLane_lag (l : Nat) (f : Lane → Lane) : (s.updLane l f).lag = s.lag := rfl
@[simp] theorem State.updLane_comp (l : Nat) (f : Lane → Lane) : (s.updLane l f).comp = s.comp := rfl
@[simp] theorem State.updLane_host (l : Nat) (f : Lane → Lane) : (s.updLane l f).host = s.host := rfl
@[simp] theorem State.updLane_mem (l : Nat) (f : Lane → Lane) : (s.updLane l f).mem = s.mem := rfl
@[simp] theorem State.updLane_triad (l : Nat) (f : Lane → Lane) : (s.updLane l f).triad = s.triad := rfl
@[simp] theorem State.updLane_emit (l : Nat) (f : Lane → Lane) : (s.updLane l f).emit = s.emit := rfl
@[simp] theorem State.updLane_sec (l : Nat) (f : Lane → Lane) : (s.updLane l f).sec = s.sec := rfl
@[simp] theorem State.updLane_perf (l : Nat) (f : Lane → Lane) : (s.updLane l f).perf = s.perf := rfl
@[simp] theorem State.updLane_seqs (l : Nat) (f : Lane → Lane) : (s.updLane l f).seqs = s.seqs := rfl
@[simp] theorem State.updLane_out (l : Nat) (f : Lane → Lane) : (s.updLane l f).out = s.out := rfl

@[simp] theorem State.updPort_pending (p : Nat) (f : Port → Port) : (s.updPort p f).pending = s.pending := rfl
@[simp] theorem State.updPort_freeCtr (p : Nat) (f : Port → Port) : (s.updPort p f).freeCtr = s.freeCtr := rfl
@[simp] theorem State.updPort_qtz (p : Nat) (f : Port → Port) : (s.updPort p f).qtz = s.qtz := rfl
@[simp] theorem State.updPort_regs (p : Nat) (f : Port → Port) : (s.updPort p f).regs = s.regs := rfl
@[simp] theorem State.updPort_cyc (p : Nat) (f : Port → Port) : (s.updPort p f).cyc = s.cyc := rfl
@[simp] theorem State.updPort_bus (p : Nat) (f : Port → Port) : (s.updPort p f).bus = s.bus := rfl
@[simp] theorem State.updPort_own (p : Nat) (f : Port → Port) : (s.updPort p f).own = s.own := rfl
@[simp] theorem State.updPort_cmd (p : Nat) (f : Port → Port) : (s.updPort p f).cmd = s.cmd := rfl
@[simp] theorem State.updPort_ch (p : Nat) (f : Port → Port) : (s.updPort p f).ch = s.ch := rfl
@[simp] theorem State.updPort_gov (p : Nat) (f : Port → Port) : (s.updPort p f).gov = s.gov := rfl
@[simp] theorem State.updPort_calJobs (p : Nat) (f : Port → Port) : (s.updPort p f).calJobs = s.calJobs := rfl
@[simp] theorem State.updPort_charJobs (p : Nat) (f : Port → Port) : (s.updPort p f).charJobs = s.charJobs := rfl
@[simp] theorem State.updPort_hk (p : Nat) (f : Port → Port) : (s.updPort p f).hk = s.hk := rfl
@[simp] theorem State.updPort_ref (p : Nat) (f : Port → Port) : (s.updPort p f).ref = s.ref := rfl
@[simp] theorem State.updPort_fl (p : Nat) (f : Port → Port) : (s.updPort p f).fl = s.fl := rfl
@[simp] theorem State.updPort_isl (p : Nat) (f : Port → Port) : (s.updPort p f).isl = s.isl := rfl
@[simp] theorem State.updPort_eng (p : Nat) (f : Port → Port) : (s.updPort p f).eng = s.eng := rfl
@[simp] theorem State.updPort_ctx (p : Nat) (f : Port → Port) : (s.updPort p f).ctx = s.ctx := rfl
@[simp] theorem State.updPort_lag (p : Nat) (f : Port → Port) : (s.updPort p f).lag = s.lag := rfl
@[simp] theorem State.updPort_comp (p : Nat) (f : Port → Port) : (s.updPort p f).comp = s.comp := rfl
@[simp] theorem State.updPort_host (p : Nat) (f : Port → Port) : (s.updPort p f).host = s.host := rfl
@[simp] theorem State.updPort_mem (p : Nat) (f : Port → Port) : (s.updPort p f).mem = s.mem := rfl
@[simp] theorem State.updPort_triad (p : Nat) (f : Port → Port) : (s.updPort p f).triad = s.triad := rfl
@[simp] theorem State.updPort_emit (p : Nat) (f : Port → Port) : (s.updPort p f).emit = s.emit := rfl
@[simp] theorem State.updPort_sec (p : Nat) (f : Port → Port) : (s.updPort p f).sec = s.sec := rfl
@[simp] theorem State.updPort_perf (p : Nat) (f : Port → Port) : (s.updPort p f).perf = s.perf := rfl
@[simp] theorem State.updPort_seqs (p : Nat) (f : Port → Port) : (s.updPort p f).seqs = s.seqs := rfl
@[simp] theorem State.updPort_out (p : Nat) (f : Port → Port) : (s.updPort p f).out = s.out := rfl

@[simp] theorem State.updDev_pending (f : LinkDev → LinkDev) : (s.updDev f).pending = s.pending := rfl
@[simp] theorem State.updDev_freeCtr (f : LinkDev → LinkDev) : (s.updDev f).freeCtr = s.freeCtr := rfl
@[simp] theorem State.updDev_qtz (f : LinkDev → LinkDev) : (s.updDev f).qtz = s.qtz := rfl
@[simp] theorem State.updDev_regs (f : LinkDev → LinkDev) : (s.updDev f).regs = s.regs := rfl
@[simp] theorem State.updDev_cyc (f : LinkDev → LinkDev) : (s.updDev f).cyc = s.cyc := rfl
@[simp] theorem State.updDev_bus (f : LinkDev → LinkDev) : (s.updDev f).bus = s.bus := rfl
@[simp] theorem State.updDev_own (f : LinkDev → LinkDev) : (s.updDev f).own = s.own := rfl
@[simp] theorem State.updDev_cmd (f : LinkDev → LinkDev) : (s.updDev f).cmd = s.cmd := rfl
@[simp] theorem State.updDev_ch (f : LinkDev → LinkDev) : (s.updDev f).ch = s.ch := rfl
@[simp] theorem State.updDev_gov (f : LinkDev → LinkDev) : (s.updDev f).gov = s.gov := rfl
@[simp] theorem State.updDev_calJobs (f : LinkDev → LinkDev) : (s.updDev f).calJobs = s.calJobs := rfl
@[simp] theorem State.updDev_charJobs (f : LinkDev → LinkDev) : (s.updDev f).charJobs = s.charJobs := rfl
@[simp] theorem State.updDev_hk (f : LinkDev → LinkDev) : (s.updDev f).hk = s.hk := rfl
@[simp] theorem State.updDev_ref (f : LinkDev → LinkDev) : (s.updDev f).ref = s.ref := rfl
@[simp] theorem State.updDev_fl (f : LinkDev → LinkDev) : (s.updDev f).fl = s.fl := rfl
@[simp] theorem State.updDev_isl (f : LinkDev → LinkDev) : (s.updDev f).isl = s.isl := rfl
@[simp] theorem State.updDev_eng (f : LinkDev → LinkDev) : (s.updDev f).eng = s.eng := rfl
@[simp] theorem State.updDev_ctx (f : LinkDev → LinkDev) : (s.updDev f).ctx = s.ctx := rfl
@[simp] theorem State.updDev_lag (f : LinkDev → LinkDev) : (s.updDev f).lag = s.lag := rfl
@[simp] theorem State.updDev_comp (f : LinkDev → LinkDev) : (s.updDev f).comp = s.comp := rfl
@[simp] theorem State.updDev_host (f : LinkDev → LinkDev) : (s.updDev f).host = s.host := rfl
@[simp] theorem State.updDev_mem (f : LinkDev → LinkDev) : (s.updDev f).mem = s.mem := rfl
@[simp] theorem State.updDev_triad (f : LinkDev → LinkDev) : (s.updDev f).triad = s.triad := rfl
@[simp] theorem State.updDev_emit (f : LinkDev → LinkDev) : (s.updDev f).emit = s.emit := rfl
@[simp] theorem State.updDev_sec (f : LinkDev → LinkDev) : (s.updDev f).sec = s.sec := rfl
@[simp] theorem State.updDev_perf (f : LinkDev → LinkDev) : (s.updDev f).perf = s.perf := rfl
@[simp] theorem State.updDev_seqs (f : LinkDev → LinkDev) : (s.updDev f).seqs = s.seqs := rfl
@[simp] theorem State.updDev_out (f : LinkDev → LinkDev) : (s.updDev f).out = s.out := rfl

@[simp] theorem State.updCmdq_pending (m : Nat) (f : CmdQ → CmdQ) : (s.updCmdq m f).pending = s.pending := rfl
@[simp] theorem State.updCmdq_freeCtr (m : Nat) (f : CmdQ → CmdQ) : (s.updCmdq m f).freeCtr = s.freeCtr := rfl
@[simp] theorem State.updCmdq_qtz (m : Nat) (f : CmdQ → CmdQ) : (s.updCmdq m f).qtz = s.qtz := rfl
@[simp] theorem State.updCmdq_regs (m : Nat) (f : CmdQ → CmdQ) : (s.updCmdq m f).regs = s.regs := rfl
@[simp] theorem State.updCmdq_cyc (m : Nat) (f : CmdQ → CmdQ) : (s.updCmdq m f).cyc = s.cyc := rfl
@[simp] theorem State.updCmdq_bus (m : Nat) (f : CmdQ → CmdQ) : (s.updCmdq m f).bus = s.bus := rfl
@[simp] theorem State.updCmdq_own (m : Nat) (f : CmdQ → CmdQ) : (s.updCmdq m f).own = s.own := rfl
@[simp] theorem State.updCmdq_ch (m : Nat) (f : CmdQ → CmdQ) : (s.updCmdq m f).ch = s.ch := rfl
@[simp] theorem State.updCmdq_gov (m : Nat) (f : CmdQ → CmdQ) : (s.updCmdq m f).gov = s.gov := rfl
@[simp] theorem State.updCmdq_calJobs (m : Nat) (f : CmdQ → CmdQ) : (s.updCmdq m f).calJobs = s.calJobs := rfl
@[simp] theorem State.updCmdq_charJobs (m : Nat) (f : CmdQ → CmdQ) : (s.updCmdq m f).charJobs = s.charJobs := rfl
@[simp] theorem State.updCmdq_hk (m : Nat) (f : CmdQ → CmdQ) : (s.updCmdq m f).hk = s.hk := rfl
@[simp] theorem State.updCmdq_ref (m : Nat) (f : CmdQ → CmdQ) : (s.updCmdq m f).ref = s.ref := rfl
@[simp] theorem State.updCmdq_fl (m : Nat) (f : CmdQ → CmdQ) : (s.updCmdq m f).fl = s.fl := rfl
@[simp] theorem State.updCmdq_isl (m : Nat) (f : CmdQ → CmdQ) : (s.updCmdq m f).isl = s.isl := rfl
@[simp] theorem State.updCmdq_eng (m : Nat) (f : CmdQ → CmdQ) : (s.updCmdq m f).eng = s.eng := rfl
@[simp] theorem State.updCmdq_ctx (m : Nat) (f : CmdQ → CmdQ) : (s.updCmdq m f).ctx = s.ctx := rfl
@[simp] theorem State.updCmdq_lag (m : Nat) (f : CmdQ → CmdQ) : (s.updCmdq m f).lag = s.lag := rfl
@[simp] theorem State.updCmdq_comp (m : Nat) (f : CmdQ → CmdQ) : (s.updCmdq m f).comp = s.comp := rfl
@[simp] theorem State.updCmdq_link (m : Nat) (f : CmdQ → CmdQ) : (s.updCmdq m f).link = s.link := rfl
@[simp] theorem State.updCmdq_host (m : Nat) (f : CmdQ → CmdQ) : (s.updCmdq m f).host = s.host := rfl
@[simp] theorem State.updCmdq_mem (m : Nat) (f : CmdQ → CmdQ) : (s.updCmdq m f).mem = s.mem := rfl
@[simp] theorem State.updCmdq_triad (m : Nat) (f : CmdQ → CmdQ) : (s.updCmdq m f).triad = s.triad := rfl
@[simp] theorem State.updCmdq_emit (m : Nat) (f : CmdQ → CmdQ) : (s.updCmdq m f).emit = s.emit := rfl
@[simp] theorem State.updCmdq_sec (m : Nat) (f : CmdQ → CmdQ) : (s.updCmdq m f).sec = s.sec := rfl
@[simp] theorem State.updCmdq_perf (m : Nat) (f : CmdQ → CmdQ) : (s.updCmdq m f).perf = s.perf := rfl
@[simp] theorem State.updCmdq_seqs (m : Nat) (f : CmdQ → CmdQ) : (s.updCmdq m f).seqs = s.seqs := rfl
@[simp] theorem State.updCmdq_out (m : Nat) (f : CmdQ → CmdQ) : (s.updCmdq m f).out = s.out := rfl

@[simp] theorem State.updQueue_pending (q : Nat) (f : LQueue → LQueue) : (s.updQueue q f).pending = s.pending := rfl
@[simp] theorem State.updQueue_freeCtr (q : Nat) (f : LQueue → LQueue) : (s.updQueue q f).freeCtr = s.freeCtr := rfl
@[simp] theorem State.updQueue_qtz (q : Nat) (f : LQueue → LQueue) : (s.updQueue q f).qtz = s.qtz := rfl
@[simp] theorem State.updQueue_regs (q : Nat) (f : LQueue → LQueue) : (s.updQueue q f).regs = s.regs := rfl
@[simp] theorem State.updQueue_cyc (q : Nat) (f : LQueue → LQueue) : (s.updQueue q f).cyc = s.cyc := rfl
@[simp] theorem State.updQueue_bus (q : Nat) (f : LQueue → LQueue) : (s.updQueue q f).bus = s.bus := rfl
@[simp] theorem State.updQueue_own (q : Nat) (f : LQueue → LQueue) : (s.updQueue q f).own = s.own := rfl
@[simp] theorem State.updQueue_cmd (q : Nat) (f : LQueue → LQueue) : (s.updQueue q f).cmd = s.cmd := rfl
@[simp] theorem State.updQueue_ch (q : Nat) (f : LQueue → LQueue) : (s.updQueue q f).ch = s.ch := rfl
@[simp] theorem State.updQueue_gov (q : Nat) (f : LQueue → LQueue) : (s.updQueue q f).gov = s.gov := rfl
@[simp] theorem State.updQueue_calJobs (q : Nat) (f : LQueue → LQueue) : (s.updQueue q f).calJobs = s.calJobs := rfl
@[simp] theorem State.updQueue_charJobs (q : Nat) (f : LQueue → LQueue) : (s.updQueue q f).charJobs = s.charJobs := rfl
@[simp] theorem State.updQueue_hk (q : Nat) (f : LQueue → LQueue) : (s.updQueue q f).hk = s.hk := rfl
@[simp] theorem State.updQueue_ref (q : Nat) (f : LQueue → LQueue) : (s.updQueue q f).ref = s.ref := rfl
@[simp] theorem State.updQueue_fl (q : Nat) (f : LQueue → LQueue) : (s.updQueue q f).fl = s.fl := rfl
@[simp] theorem State.updQueue_isl (q : Nat) (f : LQueue → LQueue) : (s.updQueue q f).isl = s.isl := rfl
@[simp] theorem State.updQueue_eng (q : Nat) (f : LQueue → LQueue) : (s.updQueue q f).eng = s.eng := rfl
@[simp] theorem State.updQueue_ctx (q : Nat) (f : LQueue → LQueue) : (s.updQueue q f).ctx = s.ctx := rfl
@[simp] theorem State.updQueue_comp (q : Nat) (f : LQueue → LQueue) : (s.updQueue q f).comp = s.comp := rfl
@[simp] theorem State.updQueue_link (q : Nat) (f : LQueue → LQueue) : (s.updQueue q f).link = s.link := rfl
@[simp] theorem State.updQueue_host (q : Nat) (f : LQueue → LQueue) : (s.updQueue q f).host = s.host := rfl
@[simp] theorem State.updQueue_mem (q : Nat) (f : LQueue → LQueue) : (s.updQueue q f).mem = s.mem := rfl
@[simp] theorem State.updQueue_triad (q : Nat) (f : LQueue → LQueue) : (s.updQueue q f).triad = s.triad := rfl
@[simp] theorem State.updQueue_emit (q : Nat) (f : LQueue → LQueue) : (s.updQueue q f).emit = s.emit := rfl
@[simp] theorem State.updQueue_sec (q : Nat) (f : LQueue → LQueue) : (s.updQueue q f).sec = s.sec := rfl
@[simp] theorem State.updQueue_perf (q : Nat) (f : LQueue → LQueue) : (s.updQueue q f).perf = s.perf := rfl
@[simp] theorem State.updQueue_seqs (q : Nat) (f : LQueue → LQueue) : (s.updQueue q f).seqs = s.seqs := rfl
@[simp] theorem State.updQueue_out (q : Nat) (f : LQueue → LQueue) : (s.updQueue q f).out = s.out := rfl

@[simp] theorem State.updStream_pending (k : Nat) (f : LStream → LStream) : (s.updStream k f).pending = s.pending := rfl
@[simp] theorem State.updStream_freeCtr (k : Nat) (f : LStream → LStream) : (s.updStream k f).freeCtr = s.freeCtr := rfl
@[simp] theorem State.updStream_qtz (k : Nat) (f : LStream → LStream) : (s.updStream k f).qtz = s.qtz := rfl
@[simp] theorem State.updStream_regs (k : Nat) (f : LStream → LStream) : (s.updStream k f).regs = s.regs := rfl
@[simp] theorem State.updStream_cyc (k : Nat) (f : LStream → LStream) : (s.updStream k f).cyc = s.cyc := rfl
@[simp] theorem State.updStream_bus (k : Nat) (f : LStream → LStream) : (s.updStream k f).bus = s.bus := rfl
@[simp] theorem State.updStream_own (k : Nat) (f : LStream → LStream) : (s.updStream k f).own = s.own := rfl
@[simp] theorem State.updStream_cmd (k : Nat) (f : LStream → LStream) : (s.updStream k f).cmd = s.cmd := rfl
@[simp] theorem State.updStream_ch (k : Nat) (f : LStream → LStream) : (s.updStream k f).ch = s.ch := rfl
@[simp] theorem State.updStream_gov (k : Nat) (f : LStream → LStream) : (s.updStream k f).gov = s.gov := rfl
@[simp] theorem State.updStream_calJobs (k : Nat) (f : LStream → LStream) : (s.updStream k f).calJobs = s.calJobs := rfl
@[simp] theorem State.updStream_charJobs (k : Nat) (f : LStream → LStream) : (s.updStream k f).charJobs = s.charJobs := rfl
@[simp] theorem State.updStream_hk (k : Nat) (f : LStream → LStream) : (s.updStream k f).hk = s.hk := rfl
@[simp] theorem State.updStream_ref (k : Nat) (f : LStream → LStream) : (s.updStream k f).ref = s.ref := rfl
@[simp] theorem State.updStream_fl (k : Nat) (f : LStream → LStream) : (s.updStream k f).fl = s.fl := rfl
@[simp] theorem State.updStream_isl (k : Nat) (f : LStream → LStream) : (s.updStream k f).isl = s.isl := rfl
@[simp] theorem State.updStream_eng (k : Nat) (f : LStream → LStream) : (s.updStream k f).eng = s.eng := rfl
@[simp] theorem State.updStream_ctx (k : Nat) (f : LStream → LStream) : (s.updStream k f).ctx = s.ctx := rfl
@[simp] theorem State.updStream_comp (k : Nat) (f : LStream → LStream) : (s.updStream k f).comp = s.comp := rfl
@[simp] theorem State.updStream_link (k : Nat) (f : LStream → LStream) : (s.updStream k f).link = s.link := rfl
@[simp] theorem State.updStream_host (k : Nat) (f : LStream → LStream) : (s.updStream k f).host = s.host := rfl
@[simp] theorem State.updStream_mem (k : Nat) (f : LStream → LStream) : (s.updStream k f).mem = s.mem := rfl
@[simp] theorem State.updStream_triad (k : Nat) (f : LStream → LStream) : (s.updStream k f).triad = s.triad := rfl
@[simp] theorem State.updStream_emit (k : Nat) (f : LStream → LStream) : (s.updStream k f).emit = s.emit := rfl
@[simp] theorem State.updStream_sec (k : Nat) (f : LStream → LStream) : (s.updStream k f).sec = s.sec := rfl
@[simp] theorem State.updStream_perf (k : Nat) (f : LStream → LStream) : (s.updStream k f).perf = s.perf := rfl
@[simp] theorem State.updStream_seqs (k : Nat) (f : LStream → LStream) : (s.updStream k f).seqs = s.seqs := rfl
@[simp] theorem State.updStream_out (k : Nat) (f : LStream → LStream) : (s.updStream k f).out = s.out := rfl

@[simp] theorem State.updPf_pending (m : Nat) (f : Pf → Pf) : (s.updPf m f).pending = s.pending := rfl
@[simp] theorem State.updPf_freeCtr (m : Nat) (f : Pf → Pf) : (s.updPf m f).freeCtr = s.freeCtr := rfl
@[simp] theorem State.updPf_qtz (m : Nat) (f : Pf → Pf) : (s.updPf m f).qtz = s.qtz := rfl
@[simp] theorem State.updPf_regs (m : Nat) (f : Pf → Pf) : (s.updPf m f).regs = s.regs := rfl
@[simp] theorem State.updPf_cyc (m : Nat) (f : Pf → Pf) : (s.updPf m f).cyc = s.cyc := rfl
@[simp] theorem State.updPf_bus (m : Nat) (f : Pf → Pf) : (s.updPf m f).bus = s.bus := rfl
@[simp] theorem State.updPf_own (m : Nat) (f : Pf → Pf) : (s.updPf m f).own = s.own := rfl
@[simp] theorem State.updPf_cmd (m : Nat) (f : Pf → Pf) : (s.updPf m f).cmd = s.cmd := rfl
@[simp] theorem State.updPf_ch (m : Nat) (f : Pf → Pf) : (s.updPf m f).ch = s.ch := rfl
@[simp] theorem State.updPf_gov (m : Nat) (f : Pf → Pf) : (s.updPf m f).gov = s.gov := rfl
@[simp] theorem State.updPf_calJobs (m : Nat) (f : Pf → Pf) : (s.updPf m f).calJobs = s.calJobs := rfl
@[simp] theorem State.updPf_charJobs (m : Nat) (f : Pf → Pf) : (s.updPf m f).charJobs = s.charJobs := rfl
@[simp] theorem State.updPf_hk (m : Nat) (f : Pf → Pf) : (s.updPf m f).hk = s.hk := rfl
@[simp] theorem State.updPf_ref (m : Nat) (f : Pf → Pf) : (s.updPf m f).ref = s.ref := rfl
@[simp] theorem State.updPf_fl (m : Nat) (f : Pf → Pf) : (s.updPf m f).fl = s.fl := rfl
@[simp] theorem State.updPf_isl (m : Nat) (f : Pf → Pf) : (s.updPf m f).isl = s.isl := rfl
@[simp] theorem State.updPf_eng (m : Nat) (f : Pf → Pf) : (s.updPf m f).eng = s.eng := rfl
@[simp] theorem State.updPf_ctx (m : Nat) (f : Pf → Pf) : (s.updPf m f).ctx = s.ctx := rfl
@[simp] theorem State.updPf_lag (m : Nat) (f : Pf → Pf) : (s.updPf m f).lag = s.lag := rfl
@[simp] theorem State.updPf_comp (m : Nat) (f : Pf → Pf) : (s.updPf m f).comp = s.comp := rfl
@[simp] theorem State.updPf_link (m : Nat) (f : Pf → Pf) : (s.updPf m f).link = s.link := rfl
@[simp] theorem State.updPf_mem (m : Nat) (f : Pf → Pf) : (s.updPf m f).mem = s.mem := rfl
@[simp] theorem State.updPf_triad (m : Nat) (f : Pf → Pf) : (s.updPf m f).triad = s.triad := rfl
@[simp] theorem State.updPf_emit (m : Nat) (f : Pf → Pf) : (s.updPf m f).emit = s.emit := rfl
@[simp] theorem State.updPf_sec (m : Nat) (f : Pf → Pf) : (s.updPf m f).sec = s.sec := rfl
@[simp] theorem State.updPf_perf (m : Nat) (f : Pf → Pf) : (s.updPf m f).perf = s.perf := rfl
@[simp] theorem State.updPf_seqs (m : Nat) (f : Pf → Pf) : (s.updPf m f).seqs = s.seqs := rfl
@[simp] theorem State.updPf_out (m : Nat) (f : Pf → Pf) : (s.updPf m f).out = s.out := rfl

@[simp] theorem State.updRing_pending (r : Nat) (f : HRing → HRing) : (s.updRing r f).pending = s.pending := rfl
@[simp] theorem State.updRing_freeCtr (r : Nat) (f : HRing → HRing) : (s.updRing r f).freeCtr = s.freeCtr := rfl
@[simp] theorem State.updRing_qtz (r : Nat) (f : HRing → HRing) : (s.updRing r f).qtz = s.qtz := rfl
@[simp] theorem State.updRing_regs (r : Nat) (f : HRing → HRing) : (s.updRing r f).regs = s.regs := rfl
@[simp] theorem State.updRing_cyc (r : Nat) (f : HRing → HRing) : (s.updRing r f).cyc = s.cyc := rfl
@[simp] theorem State.updRing_bus (r : Nat) (f : HRing → HRing) : (s.updRing r f).bus = s.bus := rfl
@[simp] theorem State.updRing_own (r : Nat) (f : HRing → HRing) : (s.updRing r f).own = s.own := rfl
@[simp] theorem State.updRing_cmd (r : Nat) (f : HRing → HRing) : (s.updRing r f).cmd = s.cmd := rfl
@[simp] theorem State.updRing_ch (r : Nat) (f : HRing → HRing) : (s.updRing r f).ch = s.ch := rfl
@[simp] theorem State.updRing_gov (r : Nat) (f : HRing → HRing) : (s.updRing r f).gov = s.gov := rfl
@[simp] theorem State.updRing_calJobs (r : Nat) (f : HRing → HRing) : (s.updRing r f).calJobs = s.calJobs := rfl
@[simp] theorem State.updRing_charJobs (r : Nat) (f : HRing → HRing) : (s.updRing r f).charJobs = s.charJobs := rfl
@[simp] theorem State.updRing_hk (r : Nat) (f : HRing → HRing) : (s.updRing r f).hk = s.hk := rfl
@[simp] theorem State.updRing_ref (r : Nat) (f : HRing → HRing) : (s.updRing r f).ref = s.ref := rfl
@[simp] theorem State.updRing_fl (r : Nat) (f : HRing → HRing) : (s.updRing r f).fl = s.fl := rfl
@[simp] theorem State.updRing_isl (r : Nat) (f : HRing → HRing) : (s.updRing r f).isl = s.isl := rfl
@[simp] theorem State.updRing_eng (r : Nat) (f : HRing → HRing) : (s.updRing r f).eng = s.eng := rfl
@[simp] theorem State.updRing_ctx (r : Nat) (f : HRing → HRing) : (s.updRing r f).ctx = s.ctx := rfl
@[simp] theorem State.updRing_lag (r : Nat) (f : HRing → HRing) : (s.updRing r f).lag = s.lag := rfl
@[simp] theorem State.updRing_comp (r : Nat) (f : HRing → HRing) : (s.updRing r f).comp = s.comp := rfl
@[simp] theorem State.updRing_link (r : Nat) (f : HRing → HRing) : (s.updRing r f).link = s.link := rfl
@[simp] theorem State.updRing_mem (r : Nat) (f : HRing → HRing) : (s.updRing r f).mem = s.mem := rfl
@[simp] theorem State.updRing_triad (r : Nat) (f : HRing → HRing) : (s.updRing r f).triad = s.triad := rfl
@[simp] theorem State.updRing_emit (r : Nat) (f : HRing → HRing) : (s.updRing r f).emit = s.emit := rfl
@[simp] theorem State.updRing_sec (r : Nat) (f : HRing → HRing) : (s.updRing r f).sec = s.sec := rfl
@[simp] theorem State.updRing_perf (r : Nat) (f : HRing → HRing) : (s.updRing r f).perf = s.perf := rfl
@[simp] theorem State.updRing_seqs (r : Nat) (f : HRing → HRing) : (s.updRing r f).seqs = s.seqs := rfl
@[simp] theorem State.updRing_out (r : Nat) (f : HRing → HRing) : (s.updRing r f).out = s.out := rfl

@[simp] theorem State.updBank_pending (n : Nat) (f : Bank → Bank) : (s.updBank n f).pending = s.pending := rfl
@[simp] theorem State.updBank_freeCtr (n : Nat) (f : Bank → Bank) : (s.updBank n f).freeCtr = s.freeCtr := rfl
@[simp] theorem State.updBank_qtz (n : Nat) (f : Bank → Bank) : (s.updBank n f).qtz = s.qtz := rfl
@[simp] theorem State.updBank_regs (n : Nat) (f : Bank → Bank) : (s.updBank n f).regs = s.regs := rfl
@[simp] theorem State.updBank_cyc (n : Nat) (f : Bank → Bank) : (s.updBank n f).cyc = s.cyc := rfl
@[simp] theorem State.updBank_bus (n : Nat) (f : Bank → Bank) : (s.updBank n f).bus = s.bus := rfl
@[simp] theorem State.updBank_own (n : Nat) (f : Bank → Bank) : (s.updBank n f).own = s.own := rfl
@[simp] theorem State.updBank_cmd (n : Nat) (f : Bank → Bank) : (s.updBank n f).cmd = s.cmd := rfl
@[simp] theorem State.updBank_ch (n : Nat) (f : Bank → Bank) : (s.updBank n f).ch = s.ch := rfl
@[simp] theorem State.updBank_gov (n : Nat) (f : Bank → Bank) : (s.updBank n f).gov = s.gov := rfl
@[simp] theorem State.updBank_calJobs (n : Nat) (f : Bank → Bank) : (s.updBank n f).calJobs = s.calJobs := rfl
@[simp] theorem State.updBank_charJobs (n : Nat) (f : Bank → Bank) : (s.updBank n f).charJobs = s.charJobs := rfl
@[simp] theorem State.updBank_hk (n : Nat) (f : Bank → Bank) : (s.updBank n f).hk = s.hk := rfl
@[simp] theorem State.updBank_ref (n : Nat) (f : Bank → Bank) : (s.updBank n f).ref = s.ref := rfl
@[simp] theorem State.updBank_fl (n : Nat) (f : Bank → Bank) : (s.updBank n f).fl = s.fl := rfl
@[simp] theorem State.updBank_isl (n : Nat) (f : Bank → Bank) : (s.updBank n f).isl = s.isl := rfl
@[simp] theorem State.updBank_eng (n : Nat) (f : Bank → Bank) : (s.updBank n f).eng = s.eng := rfl
@[simp] theorem State.updBank_ctx (n : Nat) (f : Bank → Bank) : (s.updBank n f).ctx = s.ctx := rfl
@[simp] theorem State.updBank_lag (n : Nat) (f : Bank → Bank) : (s.updBank n f).lag = s.lag := rfl
@[simp] theorem State.updBank_comp (n : Nat) (f : Bank → Bank) : (s.updBank n f).comp = s.comp := rfl
@[simp] theorem State.updBank_link (n : Nat) (f : Bank → Bank) : (s.updBank n f).link = s.link := rfl
@[simp] theorem State.updBank_host (n : Nat) (f : Bank → Bank) : (s.updBank n f).host = s.host := rfl
@[simp] theorem State.updBank_triad (n : Nat) (f : Bank → Bank) : (s.updBank n f).triad = s.triad := rfl
@[simp] theorem State.updBank_emit (n : Nat) (f : Bank → Bank) : (s.updBank n f).emit = s.emit := rfl
@[simp] theorem State.updBank_sec (n : Nat) (f : Bank → Bank) : (s.updBank n f).sec = s.sec := rfl
@[simp] theorem State.updBank_perf (n : Nat) (f : Bank → Bank) : (s.updBank n f).perf = s.perf := rfl
@[simp] theorem State.updBank_seqs (n : Nat) (f : Bank → Bank) : (s.updBank n f).seqs = s.seqs := rfl
@[simp] theorem State.updBank_out (n : Nat) (f : Bank → Bank) : (s.updBank n f).out = s.out := rfl

@[simp] theorem State.updMember_pending (n : Nat) (f : Member → Member) : (s.updMember n f).pending = s.pending := rfl
@[simp] theorem State.updMember_freeCtr (n : Nat) (f : Member → Member) : (s.updMember n f).freeCtr = s.freeCtr := rfl
@[simp] theorem State.updMember_qtz (n : Nat) (f : Member → Member) : (s.updMember n f).qtz = s.qtz := rfl
@[simp] theorem State.updMember_regs (n : Nat) (f : Member → Member) : (s.updMember n f).regs = s.regs := rfl
@[simp] theorem State.updMember_cyc (n : Nat) (f : Member → Member) : (s.updMember n f).cyc = s.cyc := rfl
@[simp] theorem State.updMember_bus (n : Nat) (f : Member → Member) : (s.updMember n f).bus = s.bus := rfl
@[simp] theorem State.updMember_own (n : Nat) (f : Member → Member) : (s.updMember n f).own = s.own := rfl
@[simp] theorem State.updMember_cmd (n : Nat) (f : Member → Member) : (s.updMember n f).cmd = s.cmd := rfl
@[simp] theorem State.updMember_ch (n : Nat) (f : Member → Member) : (s.updMember n f).ch = s.ch := rfl
@[simp] theorem State.updMember_gov (n : Nat) (f : Member → Member) : (s.updMember n f).gov = s.gov := rfl
@[simp] theorem State.updMember_calJobs (n : Nat) (f : Member → Member) : (s.updMember n f).calJobs = s.calJobs := rfl
@[simp] theorem State.updMember_charJobs (n : Nat) (f : Member → Member) : (s.updMember n f).charJobs = s.charJobs := rfl
@[simp] theorem State.updMember_hk (n : Nat) (f : Member → Member) : (s.updMember n f).hk = s.hk := rfl
@[simp] theorem State.updMember_ref (n : Nat) (f : Member → Member) : (s.updMember n f).ref = s.ref := rfl
@[simp] theorem State.updMember_fl (n : Nat) (f : Member → Member) : (s.updMember n f).fl = s.fl := rfl
@[simp] theorem State.updMember_isl (n : Nat) (f : Member → Member) : (s.updMember n f).isl = s.isl := rfl
@[simp] theorem State.updMember_eng (n : Nat) (f : Member → Member) : (s.updMember n f).eng = s.eng := rfl
@[simp] theorem State.updMember_ctx (n : Nat) (f : Member → Member) : (s.updMember n f).ctx = s.ctx := rfl
@[simp] theorem State.updMember_lag (n : Nat) (f : Member → Member) : (s.updMember n f).lag = s.lag := rfl
@[simp] theorem State.updMember_comp (n : Nat) (f : Member → Member) : (s.updMember n f).comp = s.comp := rfl
@[simp] theorem State.updMember_link (n : Nat) (f : Member → Member) : (s.updMember n f).link = s.link := rfl
@[simp] theorem State.updMember_host (n : Nat) (f : Member → Member) : (s.updMember n f).host = s.host := rfl
@[simp] theorem State.updMember_mem (n : Nat) (f : Member → Member) : (s.updMember n f).mem = s.mem := rfl
@[simp] theorem State.updMember_emit (n : Nat) (f : Member → Member) : (s.updMember n f).emit = s.emit := rfl
@[simp] theorem State.updMember_sec (n : Nat) (f : Member → Member) : (s.updMember n f).sec = s.sec := rfl
@[simp] theorem State.updMember_perf (n : Nat) (f : Member → Member) : (s.updMember n f).perf = s.perf := rfl
@[simp] theorem State.updMember_seqs (n : Nat) (f : Member → Member) : (s.updMember n f).seqs = s.seqs := rfl
@[simp] theorem State.updMember_out (n : Nat) (f : Member → Member) : (s.updMember n f).out = s.out := rfl

@[simp] theorem State.updEmitter_pending (n : Nat) (f : Emitter → Emitter) : (s.updEmitter n f).pending = s.pending := rfl
@[simp] theorem State.updEmitter_freeCtr (n : Nat) (f : Emitter → Emitter) : (s.updEmitter n f).freeCtr = s.freeCtr := rfl
@[simp] theorem State.updEmitter_qtz (n : Nat) (f : Emitter → Emitter) : (s.updEmitter n f).qtz = s.qtz := rfl
@[simp] theorem State.updEmitter_regs (n : Nat) (f : Emitter → Emitter) : (s.updEmitter n f).regs = s.regs := rfl
@[simp] theorem State.updEmitter_cyc (n : Nat) (f : Emitter → Emitter) : (s.updEmitter n f).cyc = s.cyc := rfl
@[simp] theorem State.updEmitter_bus (n : Nat) (f : Emitter → Emitter) : (s.updEmitter n f).bus = s.bus := rfl
@[simp] theorem State.updEmitter_own (n : Nat) (f : Emitter → Emitter) : (s.updEmitter n f).own = s.own := rfl
@[simp] theorem State.updEmitter_cmd (n : Nat) (f : Emitter → Emitter) : (s.updEmitter n f).cmd = s.cmd := rfl
@[simp] theorem State.updEmitter_ch (n : Nat) (f : Emitter → Emitter) : (s.updEmitter n f).ch = s.ch := rfl
@[simp] theorem State.updEmitter_gov (n : Nat) (f : Emitter → Emitter) : (s.updEmitter n f).gov = s.gov := rfl
@[simp] theorem State.updEmitter_calJobs (n : Nat) (f : Emitter → Emitter) : (s.updEmitter n f).calJobs = s.calJobs := rfl
@[simp] theorem State.updEmitter_charJobs (n : Nat) (f : Emitter → Emitter) : (s.updEmitter n f).charJobs = s.charJobs := rfl
@[simp] theorem State.updEmitter_hk (n : Nat) (f : Emitter → Emitter) : (s.updEmitter n f).hk = s.hk := rfl
@[simp] theorem State.updEmitter_ref (n : Nat) (f : Emitter → Emitter) : (s.updEmitter n f).ref = s.ref := rfl
@[simp] theorem State.updEmitter_fl (n : Nat) (f : Emitter → Emitter) : (s.updEmitter n f).fl = s.fl := rfl
@[simp] theorem State.updEmitter_isl (n : Nat) (f : Emitter → Emitter) : (s.updEmitter n f).isl = s.isl := rfl
@[simp] theorem State.updEmitter_eng (n : Nat) (f : Emitter → Emitter) : (s.updEmitter n f).eng = s.eng := rfl
@[simp] theorem State.updEmitter_ctx (n : Nat) (f : Emitter → Emitter) : (s.updEmitter n f).ctx = s.ctx := rfl
@[simp] theorem State.updEmitter_lag (n : Nat) (f : Emitter → Emitter) : (s.updEmitter n f).lag = s.lag := rfl
@[simp] theorem State.updEmitter_comp (n : Nat) (f : Emitter → Emitter) : (s.updEmitter n f).comp = s.comp := rfl
@[simp] theorem State.updEmitter_link (n : Nat) (f : Emitter → Emitter) : (s.updEmitter n f).link = s.link := rfl
@[simp] theorem State.updEmitter_host (n : Nat) (f : Emitter → Emitter) : (s.updEmitter n f).host = s.host := rfl
@[simp] theorem State.updEmitter_mem (n : Nat) (f : Emitter → Emitter) : (s.updEmitter n f).mem = s.mem := rfl
@[simp] theorem State.updEmitter_triad (n : Nat) (f : Emitter → Emitter) : (s.updEmitter n f).triad = s.triad := rfl
@[simp] theorem State.updEmitter_sec (n : Nat) (f : Emitter → Emitter) : (s.updEmitter n f).sec = s.sec := rfl
@[simp] theorem State.updEmitter_perf (n : Nat) (f : Emitter → Emitter) : (s.updEmitter n f).perf = s.perf := rfl
@[simp] theorem State.updEmitter_seqs (n : Nat) (f : Emitter → Emitter) : (s.updEmitter n f).seqs = s.seqs := rfl
@[simp] theorem State.updEmitter_out (n : Nat) (f : Emitter → Emitter) : (s.updEmitter n f).out = s.out := rfl

@[simp] theorem State.updSeqr_pending (f : Nat) (g : Seqr → Seqr) : (s.updSeqr f g).pending = s.pending := rfl
@[simp] theorem State.updSeqr_freeCtr (f : Nat) (g : Seqr → Seqr) : (s.updSeqr f g).freeCtr = s.freeCtr := rfl
@[simp] theorem State.updSeqr_qtz (f : Nat) (g : Seqr → Seqr) : (s.updSeqr f g).qtz = s.qtz := rfl
@[simp] theorem State.updSeqr_regs (f : Nat) (g : Seqr → Seqr) : (s.updSeqr f g).regs = s.regs := rfl
@[simp] theorem State.updSeqr_cyc (f : Nat) (g : Seqr → Seqr) : (s.updSeqr f g).cyc = s.cyc := rfl
@[simp] theorem State.updSeqr_bus (f : Nat) (g : Seqr → Seqr) : (s.updSeqr f g).bus = s.bus := rfl
@[simp] theorem State.updSeqr_own (f : Nat) (g : Seqr → Seqr) : (s.updSeqr f g).own = s.own := rfl
@[simp] theorem State.updSeqr_cmd (f : Nat) (g : Seqr → Seqr) : (s.updSeqr f g).cmd = s.cmd := rfl
@[simp] theorem State.updSeqr_ch (f : Nat) (g : Seqr → Seqr) : (s.updSeqr f g).ch = s.ch := rfl
@[simp] theorem State.updSeqr_gov (f : Nat) (g : Seqr → Seqr) : (s.updSeqr f g).gov = s.gov := rfl
@[simp] theorem State.updSeqr_calJobs (f : Nat) (g : Seqr → Seqr) : (s.updSeqr f g).calJobs = s.calJobs := rfl
@[simp] theorem State.updSeqr_charJobs (f : Nat) (g : Seqr → Seqr) : (s.updSeqr f g).charJobs = s.charJobs := rfl
@[simp] theorem State.updSeqr_hk (f : Nat) (g : Seqr → Seqr) : (s.updSeqr f g).hk = s.hk := rfl
@[simp] theorem State.updSeqr_ref (f : Nat) (g : Seqr → Seqr) : (s.updSeqr f g).ref = s.ref := rfl
@[simp] theorem State.updSeqr_isl (f : Nat) (g : Seqr → Seqr) : (s.updSeqr f g).isl = s.isl := rfl
@[simp] theorem State.updSeqr_eng (f : Nat) (g : Seqr → Seqr) : (s.updSeqr f g).eng = s.eng := rfl
@[simp] theorem State.updSeqr_ctx (f : Nat) (g : Seqr → Seqr) : (s.updSeqr f g).ctx = s.ctx := rfl
@[simp] theorem State.updSeqr_lag (f : Nat) (g : Seqr → Seqr) : (s.updSeqr f g).lag = s.lag := rfl
@[simp] theorem State.updSeqr_comp (f : Nat) (g : Seqr → Seqr) : (s.updSeqr f g).comp = s.comp := rfl
@[simp] theorem State.updSeqr_link (f : Nat) (g : Seqr → Seqr) : (s.updSeqr f g).link = s.link := rfl
@[simp] theorem State.updSeqr_host (f : Nat) (g : Seqr → Seqr) : (s.updSeqr f g).host = s.host := rfl
@[simp] theorem State.updSeqr_mem (f : Nat) (g : Seqr → Seqr) : (s.updSeqr f g).mem = s.mem := rfl
@[simp] theorem State.updSeqr_triad (f : Nat) (g : Seqr → Seqr) : (s.updSeqr f g).triad = s.triad := rfl
@[simp] theorem State.updSeqr_emit (f : Nat) (g : Seqr → Seqr) : (s.updSeqr f g).emit = s.emit := rfl
@[simp] theorem State.updSeqr_sec (f : Nat) (g : Seqr → Seqr) : (s.updSeqr f g).sec = s.sec := rfl
@[simp] theorem State.updSeqr_perf (f : Nat) (g : Seqr → Seqr) : (s.updSeqr f g).perf = s.perf := rfl
@[simp] theorem State.updSeqr_seqs (f : Nat) (g : Seqr → Seqr) : (s.updSeqr f g).seqs = s.seqs := rfl
@[simp] theorem State.updSeqr_out (f : Nat) (g : Seqr → Seqr) : (s.updSeqr f g).out = s.out := rfl

@[simp] theorem State.updCtx_pending (i : Nat) (f : Ctx → Ctx) : (s.updCtx i f).pending = s.pending := rfl
@[simp] theorem State.updCtx_freeCtr (i : Nat) (f : Ctx → Ctx) : (s.updCtx i f).freeCtr = s.freeCtr := rfl
@[simp] theorem State.updCtx_qtz (i : Nat) (f : Ctx → Ctx) : (s.updCtx i f).qtz = s.qtz := rfl
@[simp] theorem State.updCtx_regs (i : Nat) (f : Ctx → Ctx) : (s.updCtx i f).regs = s.regs := rfl
@[simp] theorem State.updCtx_cyc (i : Nat) (f : Ctx → Ctx) : (s.updCtx i f).cyc = s.cyc := rfl
@[simp] theorem State.updCtx_bus (i : Nat) (f : Ctx → Ctx) : (s.updCtx i f).bus = s.bus := rfl
@[simp] theorem State.updCtx_own (i : Nat) (f : Ctx → Ctx) : (s.updCtx i f).own = s.own := rfl
@[simp] theorem State.updCtx_cmd (i : Nat) (f : Ctx → Ctx) : (s.updCtx i f).cmd = s.cmd := rfl
@[simp] theorem State.updCtx_ch (i : Nat) (f : Ctx → Ctx) : (s.updCtx i f).ch = s.ch := rfl
@[simp] theorem State.updCtx_gov (i : Nat) (f : Ctx → Ctx) : (s.updCtx i f).gov = s.gov := rfl
@[simp] theorem State.updCtx_calJobs (i : Nat) (f : Ctx → Ctx) : (s.updCtx i f).calJobs = s.calJobs := rfl
@[simp] theorem State.updCtx_charJobs (i : Nat) (f : Ctx → Ctx) : (s.updCtx i f).charJobs = s.charJobs := rfl
@[simp] theorem State.updCtx_hk (i : Nat) (f : Ctx → Ctx) : (s.updCtx i f).hk = s.hk := rfl
@[simp] theorem State.updCtx_ref (i : Nat) (f : Ctx → Ctx) : (s.updCtx i f).ref = s.ref := rfl
@[simp] theorem State.updCtx_fl (i : Nat) (f : Ctx → Ctx) : (s.updCtx i f).fl = s.fl := rfl
@[simp] theorem State.updCtx_isl (i : Nat) (f : Ctx → Ctx) : (s.updCtx i f).isl = s.isl := rfl
@[simp] theorem State.updCtx_eng (i : Nat) (f : Ctx → Ctx) : (s.updCtx i f).eng = s.eng := rfl
@[simp] theorem State.updCtx_lag (i : Nat) (f : Ctx → Ctx) : (s.updCtx i f).lag = s.lag := rfl
@[simp] theorem State.updCtx_comp (i : Nat) (f : Ctx → Ctx) : (s.updCtx i f).comp = s.comp := rfl
@[simp] theorem State.updCtx_link (i : Nat) (f : Ctx → Ctx) : (s.updCtx i f).link = s.link := rfl
@[simp] theorem State.updCtx_host (i : Nat) (f : Ctx → Ctx) : (s.updCtx i f).host = s.host := rfl
@[simp] theorem State.updCtx_mem (i : Nat) (f : Ctx → Ctx) : (s.updCtx i f).mem = s.mem := rfl
@[simp] theorem State.updCtx_triad (i : Nat) (f : Ctx → Ctx) : (s.updCtx i f).triad = s.triad := rfl
@[simp] theorem State.updCtx_emit (i : Nat) (f : Ctx → Ctx) : (s.updCtx i f).emit = s.emit := rfl
@[simp] theorem State.updCtx_sec (i : Nat) (f : Ctx → Ctx) : (s.updCtx i f).sec = s.sec := rfl
@[simp] theorem State.updCtx_perf (i : Nat) (f : Ctx → Ctx) : (s.updCtx i f).perf = s.perf := rfl
@[simp] theorem State.updCtx_seqs (i : Nat) (f : Ctx → Ctx) : (s.updCtx i f).seqs = s.seqs := rfl
@[simp] theorem State.updCtx_out (i : Nat) (f : Ctx → Ctx) : (s.updCtx i f).out = s.out := rfl

@[simp] theorem State.updQtz_pending (f : Quartz → Quartz) : (s.updQtz f).pending = s.pending := rfl
@[simp] theorem State.updQtz_freeCtr (f : Quartz → Quartz) : (s.updQtz f).freeCtr = s.freeCtr := rfl
@[simp] theorem State.updQtz_regs (f : Quartz → Quartz) : (s.updQtz f).regs = s.regs := rfl
@[simp] theorem State.updQtz_cyc (f : Quartz → Quartz) : (s.updQtz f).cyc = s.cyc := rfl
@[simp] theorem State.updQtz_bus (f : Quartz → Quartz) : (s.updQtz f).bus = s.bus := rfl
@[simp] theorem State.updQtz_own (f : Quartz → Quartz) : (s.updQtz f).own = s.own := rfl
@[simp] theorem State.updQtz_cmd (f : Quartz → Quartz) : (s.updQtz f).cmd = s.cmd := rfl
@[simp] theorem State.updQtz_ch (f : Quartz → Quartz) : (s.updQtz f).ch = s.ch := rfl
@[simp] theorem State.updQtz_gov (f : Quartz → Quartz) : (s.updQtz f).gov = s.gov := rfl
@[simp] theorem State.updQtz_calJobs (f : Quartz → Quartz) : (s.updQtz f).calJobs = s.calJobs := rfl
@[simp] theorem State.updQtz_charJobs (f : Quartz → Quartz) : (s.updQtz f).charJobs = s.charJobs := rfl
@[simp] theorem State.updQtz_hk (f : Quartz → Quartz) : (s.updQtz f).hk = s.hk := rfl
@[simp] theorem State.updQtz_ref (f : Quartz → Quartz) : (s.updQtz f).ref = s.ref := rfl
@[simp] theorem State.updQtz_fl (f : Quartz → Quartz) : (s.updQtz f).fl = s.fl := rfl
@[simp] theorem State.updQtz_isl (f : Quartz → Quartz) : (s.updQtz f).isl = s.isl := rfl
@[simp] theorem State.updQtz_eng (f : Quartz → Quartz) : (s.updQtz f).eng = s.eng := rfl
@[simp] theorem State.updQtz_ctx (f : Quartz → Quartz) : (s.updQtz f).ctx = s.ctx := rfl
@[simp] theorem State.updQtz_lag (f : Quartz → Quartz) : (s.updQtz f).lag = s.lag := rfl
@[simp] theorem State.updQtz_comp (f : Quartz → Quartz) : (s.updQtz f).comp = s.comp := rfl
@[simp] theorem State.updQtz_link (f : Quartz → Quartz) : (s.updQtz f).link = s.link := rfl
@[simp] theorem State.updQtz_host (f : Quartz → Quartz) : (s.updQtz f).host = s.host := rfl
@[simp] theorem State.updQtz_mem (f : Quartz → Quartz) : (s.updQtz f).mem = s.mem := rfl
@[simp] theorem State.updQtz_triad (f : Quartz → Quartz) : (s.updQtz f).triad = s.triad := rfl
@[simp] theorem State.updQtz_emit (f : Quartz → Quartz) : (s.updQtz f).emit = s.emit := rfl
@[simp] theorem State.updQtz_sec (f : Quartz → Quartz) : (s.updQtz f).sec = s.sec := rfl
@[simp] theorem State.updQtz_perf (f : Quartz → Quartz) : (s.updQtz f).perf = s.perf := rfl
@[simp] theorem State.updQtz_seqs (f : Quartz → Quartz) : (s.updQtz f).seqs = s.seqs := rfl
@[simp] theorem State.updQtz_out (f : Quartz → Quartz) : (s.updQtz f).out = s.out := rfl

@[simp] theorem State.updProbe_pending (p : Nat) (f : ProbePort → ProbePort) : (s.updProbe p f).pending = s.pending := rfl
@[simp] theorem State.updProbe_freeCtr (p : Nat) (f : ProbePort → ProbePort) : (s.updProbe p f).freeCtr = s.freeCtr := rfl
@[simp] theorem State.updProbe_regs (p : Nat) (f : ProbePort → ProbePort) : (s.updProbe p f).regs = s.regs := rfl
@[simp] theorem State.updProbe_cyc (p : Nat) (f : ProbePort → ProbePort) : (s.updProbe p f).cyc = s.cyc := rfl
@[simp] theorem State.updProbe_bus (p : Nat) (f : ProbePort → ProbePort) : (s.updProbe p f).bus = s.bus := rfl
@[simp] theorem State.updProbe_own (p : Nat) (f : ProbePort → ProbePort) : (s.updProbe p f).own = s.own := rfl
@[simp] theorem State.updProbe_cmd (p : Nat) (f : ProbePort → ProbePort) : (s.updProbe p f).cmd = s.cmd := rfl
@[simp] theorem State.updProbe_ch (p : Nat) (f : ProbePort → ProbePort) : (s.updProbe p f).ch = s.ch := rfl
@[simp] theorem State.updProbe_gov (p : Nat) (f : ProbePort → ProbePort) : (s.updProbe p f).gov = s.gov := rfl
@[simp] theorem State.updProbe_calJobs (p : Nat) (f : ProbePort → ProbePort) : (s.updProbe p f).calJobs = s.calJobs := rfl
@[simp] theorem State.updProbe_charJobs (p : Nat) (f : ProbePort → ProbePort) : (s.updProbe p f).charJobs = s.charJobs := rfl
@[simp] theorem State.updProbe_hk (p : Nat) (f : ProbePort → ProbePort) : (s.updProbe p f).hk = s.hk := rfl
@[simp] theorem State.updProbe_ref (p : Nat) (f : ProbePort → ProbePort) : (s.updProbe p f).ref = s.ref := rfl
@[simp] theorem State.updProbe_fl (p : Nat) (f : ProbePort → ProbePort) : (s.updProbe p f).fl = s.fl := rfl
@[simp] theorem State.updProbe_isl (p : Nat) (f : ProbePort → ProbePort) : (s.updProbe p f).isl = s.isl := rfl
@[simp] theorem State.updProbe_eng (p : Nat) (f : ProbePort → ProbePort) : (s.updProbe p f).eng = s.eng := rfl
@[simp] theorem State.updProbe_ctx (p : Nat) (f : ProbePort → ProbePort) : (s.updProbe p f).ctx = s.ctx := rfl
@[simp] theorem State.updProbe_lag (p : Nat) (f : ProbePort → ProbePort) : (s.updProbe p f).lag = s.lag := rfl
@[simp] theorem State.updProbe_comp (p : Nat) (f : ProbePort → ProbePort) : (s.updProbe p f).comp = s.comp := rfl
@[simp] theorem State.updProbe_link (p : Nat) (f : ProbePort → ProbePort) : (s.updProbe p f).link = s.link := rfl
@[simp] theorem State.updProbe_host (p : Nat) (f : ProbePort → ProbePort) : (s.updProbe p f).host = s.host := rfl
@[simp] theorem State.updProbe_mem (p : Nat) (f : ProbePort → ProbePort) : (s.updProbe p f).mem = s.mem := rfl
@[simp] theorem State.updProbe_triad (p : Nat) (f : ProbePort → ProbePort) : (s.updProbe p f).triad = s.triad := rfl
@[simp] theorem State.updProbe_emit (p : Nat) (f : ProbePort → ProbePort) : (s.updProbe p f).emit = s.emit := rfl
@[simp] theorem State.updProbe_sec (p : Nat) (f : ProbePort → ProbePort) : (s.updProbe p f).sec = s.sec := rfl
@[simp] theorem State.updProbe_perf (p : Nat) (f : ProbePort → ProbePort) : (s.updProbe p f).perf = s.perf := rfl
@[simp] theorem State.updProbe_seqs (p : Nat) (f : ProbePort → ProbePort) : (s.updProbe p f).seqs = s.seqs := rfl
@[simp] theorem State.updProbe_out (p : Nat) (f : ProbePort → ProbePort) : (s.updProbe p f).out = s.out := rfl

@[simp] theorem State.updLag_pending (f : Lagoon → Lagoon) : (s.updLag f).pending = s.pending := rfl
@[simp] theorem State.updLag_freeCtr (f : Lagoon → Lagoon) : (s.updLag f).freeCtr = s.freeCtr := rfl
@[simp] theorem State.updLag_qtz (f : Lagoon → Lagoon) : (s.updLag f).qtz = s.qtz := rfl
@[simp] theorem State.updLag_regs (f : Lagoon → Lagoon) : (s.updLag f).regs = s.regs := rfl
@[simp] theorem State.updLag_cyc (f : Lagoon → Lagoon) : (s.updLag f).cyc = s.cyc := rfl
@[simp] theorem State.updLag_bus (f : Lagoon → Lagoon) : (s.updLag f).bus = s.bus := rfl
@[simp] theorem State.updLag_own (f : Lagoon → Lagoon) : (s.updLag f).own = s.own := rfl
@[simp] theorem State.updLag_cmd (f : Lagoon → Lagoon) : (s.updLag f).cmd = s.cmd := rfl
@[simp] theorem State.updLag_ch (f : Lagoon → Lagoon) : (s.updLag f).ch = s.ch := rfl
@[simp] theorem State.updLag_gov (f : Lagoon → Lagoon) : (s.updLag f).gov = s.gov := rfl
@[simp] theorem State.updLag_calJobs (f : Lagoon → Lagoon) : (s.updLag f).calJobs = s.calJobs := rfl
@[simp] theorem State.updLag_charJobs (f : Lagoon → Lagoon) : (s.updLag f).charJobs = s.charJobs := rfl
@[simp] theorem State.updLag_hk (f : Lagoon → Lagoon) : (s.updLag f).hk = s.hk := rfl
@[simp] theorem State.updLag_ref (f : Lagoon → Lagoon) : (s.updLag f).ref = s.ref := rfl
@[simp] theorem State.updLag_fl (f : Lagoon → Lagoon) : (s.updLag f).fl = s.fl := rfl
@[simp] theorem State.updLag_isl (f : Lagoon → Lagoon) : (s.updLag f).isl = s.isl := rfl
@[simp] theorem State.updLag_eng (f : Lagoon → Lagoon) : (s.updLag f).eng = s.eng := rfl
@[simp] theorem State.updLag_ctx (f : Lagoon → Lagoon) : (s.updLag f).ctx = s.ctx := rfl
@[simp] theorem State.updLag_comp (f : Lagoon → Lagoon) : (s.updLag f).comp = s.comp := rfl
@[simp] theorem State.updLag_link (f : Lagoon → Lagoon) : (s.updLag f).link = s.link := rfl
@[simp] theorem State.updLag_host (f : Lagoon → Lagoon) : (s.updLag f).host = s.host := rfl
@[simp] theorem State.updLag_mem (f : Lagoon → Lagoon) : (s.updLag f).mem = s.mem := rfl
@[simp] theorem State.updLag_triad (f : Lagoon → Lagoon) : (s.updLag f).triad = s.triad := rfl
@[simp] theorem State.updLag_emit (f : Lagoon → Lagoon) : (s.updLag f).emit = s.emit := rfl
@[simp] theorem State.updLag_sec (f : Lagoon → Lagoon) : (s.updLag f).sec = s.sec := rfl
@[simp] theorem State.updLag_perf (f : Lagoon → Lagoon) : (s.updLag f).perf = s.perf := rfl
@[simp] theorem State.updLag_seqs (f : Lagoon → Lagoon) : (s.updLag f).seqs = s.seqs := rfl
@[simp] theorem State.updLag_out (f : Lagoon → Lagoon) : (s.updLag f).out = s.out := rfl

@[simp] theorem State.updComp_pending (f : Comp → Comp) : (s.updComp f).pending = s.pending := rfl
@[simp] theorem State.updComp_freeCtr (f : Comp → Comp) : (s.updComp f).freeCtr = s.freeCtr := rfl
@[simp] theorem State.updComp_qtz (f : Comp → Comp) : (s.updComp f).qtz = s.qtz := rfl
@[simp] theorem State.updComp_regs (f : Comp → Comp) : (s.updComp f).regs = s.regs := rfl
@[simp] theorem State.updComp_cyc (f : Comp → Comp) : (s.updComp f).cyc = s.cyc := rfl
@[simp] theorem State.updComp_bus (f : Comp → Comp) : (s.updComp f).bus = s.bus := rfl
@[simp] theorem State.updComp_own (f : Comp → Comp) : (s.updComp f).own = s.own := rfl
@[simp] theorem State.updComp_cmd (f : Comp → Comp) : (s.updComp f).cmd = s.cmd := rfl
@[simp] theorem State.updComp_ch (f : Comp → Comp) : (s.updComp f).ch = s.ch := rfl
@[simp] theorem State.updComp_gov (f : Comp → Comp) : (s.updComp f).gov = s.gov := rfl
@[simp] theorem State.updComp_calJobs (f : Comp → Comp) : (s.updComp f).calJobs = s.calJobs := rfl
@[simp] theorem State.updComp_charJobs (f : Comp → Comp) : (s.updComp f).charJobs = s.charJobs := rfl
@[simp] theorem State.updComp_hk (f : Comp → Comp) : (s.updComp f).hk = s.hk := rfl
@[simp] theorem State.updComp_ref (f : Comp → Comp) : (s.updComp f).ref = s.ref := rfl
@[simp] theorem State.updComp_fl (f : Comp → Comp) : (s.updComp f).fl = s.fl := rfl
@[simp] theorem State.updComp_isl (f : Comp → Comp) : (s.updComp f).isl = s.isl := rfl
@[simp] theorem State.updComp_eng (f : Comp → Comp) : (s.updComp f).eng = s.eng := rfl
@[simp] theorem State.updComp_ctx (f : Comp → Comp) : (s.updComp f).ctx = s.ctx := rfl
@[simp] theorem State.updComp_lag (f : Comp → Comp) : (s.updComp f).lag = s.lag := rfl
@[simp] theorem State.updComp_link (f : Comp → Comp) : (s.updComp f).link = s.link := rfl
@[simp] theorem State.updComp_host (f : Comp → Comp) : (s.updComp f).host = s.host := rfl
@[simp] theorem State.updComp_mem (f : Comp → Comp) : (s.updComp f).mem = s.mem := rfl
@[simp] theorem State.updComp_triad (f : Comp → Comp) : (s.updComp f).triad = s.triad := rfl
@[simp] theorem State.updComp_emit (f : Comp → Comp) : (s.updComp f).emit = s.emit := rfl
@[simp] theorem State.updComp_sec (f : Comp → Comp) : (s.updComp f).sec = s.sec := rfl
@[simp] theorem State.updComp_perf (f : Comp → Comp) : (s.updComp f).perf = s.perf := rfl
@[simp] theorem State.updComp_seqs (f : Comp → Comp) : (s.updComp f).seqs = s.seqs := rfl
@[simp] theorem State.updComp_out (f : Comp → Comp) : (s.updComp f).out = s.out := rfl

@[simp] theorem State.updFl_pending (f : Flint → Flint) : (s.updFl f).pending = s.pending := rfl
@[simp] theorem State.updFl_freeCtr (f : Flint → Flint) : (s.updFl f).freeCtr = s.freeCtr := rfl
@[simp] theorem State.updFl_qtz (f : Flint → Flint) : (s.updFl f).qtz = s.qtz := rfl
@[simp] theorem State.updFl_regs (f : Flint → Flint) : (s.updFl f).regs = s.regs := rfl
@[simp] theorem State.updFl_cyc (f : Flint → Flint) : (s.updFl f).cyc = s.cyc := rfl
@[simp] theorem State.updFl_bus (f : Flint → Flint) : (s.updFl f).bus = s.bus := rfl
@[simp] theorem State.updFl_own (f : Flint → Flint) : (s.updFl f).own = s.own := rfl
@[simp] theorem State.updFl_cmd (f : Flint → Flint) : (s.updFl f).cmd = s.cmd := rfl
@[simp] theorem State.updFl_ch (f : Flint → Flint) : (s.updFl f).ch = s.ch := rfl
@[simp] theorem State.updFl_gov (f : Flint → Flint) : (s.updFl f).gov = s.gov := rfl
@[simp] theorem State.updFl_calJobs (f : Flint → Flint) : (s.updFl f).calJobs = s.calJobs := rfl
@[simp] theorem State.updFl_charJobs (f : Flint → Flint) : (s.updFl f).charJobs = s.charJobs := rfl
@[simp] theorem State.updFl_hk (f : Flint → Flint) : (s.updFl f).hk = s.hk := rfl
@[simp] theorem State.updFl_ref (f : Flint → Flint) : (s.updFl f).ref = s.ref := rfl
@[simp] theorem State.updFl_isl (f : Flint → Flint) : (s.updFl f).isl = s.isl := rfl
@[simp] theorem State.updFl_eng (f : Flint → Flint) : (s.updFl f).eng = s.eng := rfl
@[simp] theorem State.updFl_ctx (f : Flint → Flint) : (s.updFl f).ctx = s.ctx := rfl
@[simp] theorem State.updFl_lag (f : Flint → Flint) : (s.updFl f).lag = s.lag := rfl
@[simp] theorem State.updFl_comp (f : Flint → Flint) : (s.updFl f).comp = s.comp := rfl
@[simp] theorem State.updFl_link (f : Flint → Flint) : (s.updFl f).link = s.link := rfl
@[simp] theorem State.updFl_host (f : Flint → Flint) : (s.updFl f).host = s.host := rfl
@[simp] theorem State.updFl_mem (f : Flint → Flint) : (s.updFl f).mem = s.mem := rfl
@[simp] theorem State.updFl_triad (f : Flint → Flint) : (s.updFl f).triad = s.triad := rfl
@[simp] theorem State.updFl_emit (f : Flint → Flint) : (s.updFl f).emit = s.emit := rfl
@[simp] theorem State.updFl_sec (f : Flint → Flint) : (s.updFl f).sec = s.sec := rfl
@[simp] theorem State.updFl_perf (f : Flint → Flint) : (s.updFl f).perf = s.perf := rfl
@[simp] theorem State.updFl_seqs (f : Flint → Flint) : (s.updFl f).seqs = s.seqs := rfl
@[simp] theorem State.updFl_out (f : Flint → Flint) : (s.updFl f).out = s.out := rfl

@[simp] theorem State.updHk_pending (f : Hk → Hk) : (s.updHk f).pending = s.pending := rfl
@[simp] theorem State.updHk_freeCtr (f : Hk → Hk) : (s.updHk f).freeCtr = s.freeCtr := rfl
@[simp] theorem State.updHk_qtz (f : Hk → Hk) : (s.updHk f).qtz = s.qtz := rfl
@[simp] theorem State.updHk_regs (f : Hk → Hk) : (s.updHk f).regs = s.regs := rfl
@[simp] theorem State.updHk_cyc (f : Hk → Hk) : (s.updHk f).cyc = s.cyc := rfl
@[simp] theorem State.updHk_bus (f : Hk → Hk) : (s.updHk f).bus = s.bus := rfl
@[simp] theorem State.updHk_own (f : Hk → Hk) : (s.updHk f).own = s.own := rfl
@[simp] theorem State.updHk_cmd (f : Hk → Hk) : (s.updHk f).cmd = s.cmd := rfl
@[simp] theorem State.updHk_ch (f : Hk → Hk) : (s.updHk f).ch = s.ch := rfl
@[simp] theorem State.updHk_gov (f : Hk → Hk) : (s.updHk f).gov = s.gov := rfl
@[simp] theorem State.updHk_calJobs (f : Hk → Hk) : (s.updHk f).calJobs = s.calJobs := rfl
@[simp] theorem State.updHk_charJobs (f : Hk → Hk) : (s.updHk f).charJobs = s.charJobs := rfl
@[simp] theorem State.updHk_ref (f : Hk → Hk) : (s.updHk f).ref = s.ref := rfl
@[simp] theorem State.updHk_fl (f : Hk → Hk) : (s.updHk f).fl = s.fl := rfl
@[simp] theorem State.updHk_isl (f : Hk → Hk) : (s.updHk f).isl = s.isl := rfl
@[simp] theorem State.updHk_eng (f : Hk → Hk) : (s.updHk f).eng = s.eng := rfl
@[simp] theorem State.updHk_ctx (f : Hk → Hk) : (s.updHk f).ctx = s.ctx := rfl
@[simp] theorem State.updHk_lag (f : Hk → Hk) : (s.updHk f).lag = s.lag := rfl
@[simp] theorem State.updHk_comp (f : Hk → Hk) : (s.updHk f).comp = s.comp := rfl
@[simp] theorem State.updHk_link (f : Hk → Hk) : (s.updHk f).link = s.link := rfl
@[simp] theorem State.updHk_host (f : Hk → Hk) : (s.updHk f).host = s.host := rfl
@[simp] theorem State.updHk_mem (f : Hk → Hk) : (s.updHk f).mem = s.mem := rfl
@[simp] theorem State.updHk_triad (f : Hk → Hk) : (s.updHk f).triad = s.triad := rfl
@[simp] theorem State.updHk_emit (f : Hk → Hk) : (s.updHk f).emit = s.emit := rfl
@[simp] theorem State.updHk_sec (f : Hk → Hk) : (s.updHk f).sec = s.sec := rfl
@[simp] theorem State.updHk_perf (f : Hk → Hk) : (s.updHk f).perf = s.perf := rfl
@[simp] theorem State.updHk_seqs (f : Hk → Hk) : (s.updHk f).seqs = s.seqs := rfl
@[simp] theorem State.updHk_out (f : Hk → Hk) : (s.updHk f).out = s.out := rfl

@[simp] theorem State.updRef_pending (f : RefMon → RefMon) : (s.updRef f).pending = s.pending := rfl
@[simp] theorem State.updRef_freeCtr (f : RefMon → RefMon) : (s.updRef f).freeCtr = s.freeCtr := rfl
@[simp] theorem State.updRef_qtz (f : RefMon → RefMon) : (s.updRef f).qtz = s.qtz := rfl
@[simp] theorem State.updRef_regs (f : RefMon → RefMon) : (s.updRef f).regs = s.regs := rfl
@[simp] theorem State.updRef_cyc (f : RefMon → RefMon) : (s.updRef f).cyc = s.cyc := rfl
@[simp] theorem State.updRef_bus (f : RefMon → RefMon) : (s.updRef f).bus = s.bus := rfl
@[simp] theorem State.updRef_own (f : RefMon → RefMon) : (s.updRef f).own = s.own := rfl
@[simp] theorem State.updRef_cmd (f : RefMon → RefMon) : (s.updRef f).cmd = s.cmd := rfl
@[simp] theorem State.updRef_ch (f : RefMon → RefMon) : (s.updRef f).ch = s.ch := rfl
@[simp] theorem State.updRef_gov (f : RefMon → RefMon) : (s.updRef f).gov = s.gov := rfl
@[simp] theorem State.updRef_calJobs (f : RefMon → RefMon) : (s.updRef f).calJobs = s.calJobs := rfl
@[simp] theorem State.updRef_charJobs (f : RefMon → RefMon) : (s.updRef f).charJobs = s.charJobs := rfl
@[simp] theorem State.updRef_hk (f : RefMon → RefMon) : (s.updRef f).hk = s.hk := rfl
@[simp] theorem State.updRef_fl (f : RefMon → RefMon) : (s.updRef f).fl = s.fl := rfl
@[simp] theorem State.updRef_isl (f : RefMon → RefMon) : (s.updRef f).isl = s.isl := rfl
@[simp] theorem State.updRef_eng (f : RefMon → RefMon) : (s.updRef f).eng = s.eng := rfl
@[simp] theorem State.updRef_ctx (f : RefMon → RefMon) : (s.updRef f).ctx = s.ctx := rfl
@[simp] theorem State.updRef_lag (f : RefMon → RefMon) : (s.updRef f).lag = s.lag := rfl
@[simp] theorem State.updRef_comp (f : RefMon → RefMon) : (s.updRef f).comp = s.comp := rfl
@[simp] theorem State.updRef_link (f : RefMon → RefMon) : (s.updRef f).link = s.link := rfl
@[simp] theorem State.updRef_host (f : RefMon → RefMon) : (s.updRef f).host = s.host := rfl
@[simp] theorem State.updRef_mem (f : RefMon → RefMon) : (s.updRef f).mem = s.mem := rfl
@[simp] theorem State.updRef_triad (f : RefMon → RefMon) : (s.updRef f).triad = s.triad := rfl
@[simp] theorem State.updRef_emit (f : RefMon → RefMon) : (s.updRef f).emit = s.emit := rfl
@[simp] theorem State.updRef_sec (f : RefMon → RefMon) : (s.updRef f).sec = s.sec := rfl
@[simp] theorem State.updRef_perf (f : RefMon → RefMon) : (s.updRef f).perf = s.perf := rfl
@[simp] theorem State.updRef_seqs (f : RefMon → RefMon) : (s.updRef f).seqs = s.seqs := rfl
@[simp] theorem State.updRef_out (f : RefMon → RefMon) : (s.updRef f).out = s.out := rfl

@[simp] theorem State.updOwn_pending (f : Own → Own) : (s.updOwn f).pending = s.pending := rfl
@[simp] theorem State.updOwn_freeCtr (f : Own → Own) : (s.updOwn f).freeCtr = s.freeCtr := rfl
@[simp] theorem State.updOwn_qtz (f : Own → Own) : (s.updOwn f).qtz = s.qtz := rfl
@[simp] theorem State.updOwn_regs (f : Own → Own) : (s.updOwn f).regs = s.regs := rfl
@[simp] theorem State.updOwn_cyc (f : Own → Own) : (s.updOwn f).cyc = s.cyc := rfl
@[simp] theorem State.updOwn_bus (f : Own → Own) : (s.updOwn f).bus = s.bus := rfl
@[simp] theorem State.updOwn_cmd (f : Own → Own) : (s.updOwn f).cmd = s.cmd := rfl
@[simp] theorem State.updOwn_ch (f : Own → Own) : (s.updOwn f).ch = s.ch := rfl
@[simp] theorem State.updOwn_gov (f : Own → Own) : (s.updOwn f).gov = s.gov := rfl
@[simp] theorem State.updOwn_calJobs (f : Own → Own) : (s.updOwn f).calJobs = s.calJobs := rfl
@[simp] theorem State.updOwn_charJobs (f : Own → Own) : (s.updOwn f).charJobs = s.charJobs := rfl
@[simp] theorem State.updOwn_hk (f : Own → Own) : (s.updOwn f).hk = s.hk := rfl
@[simp] theorem State.updOwn_ref (f : Own → Own) : (s.updOwn f).ref = s.ref := rfl
@[simp] theorem State.updOwn_fl (f : Own → Own) : (s.updOwn f).fl = s.fl := rfl
@[simp] theorem State.updOwn_isl (f : Own → Own) : (s.updOwn f).isl = s.isl := rfl
@[simp] theorem State.updOwn_eng (f : Own → Own) : (s.updOwn f).eng = s.eng := rfl
@[simp] theorem State.updOwn_ctx (f : Own → Own) : (s.updOwn f).ctx = s.ctx := rfl
@[simp] theorem State.updOwn_lag (f : Own → Own) : (s.updOwn f).lag = s.lag := rfl
@[simp] theorem State.updOwn_comp (f : Own → Own) : (s.updOwn f).comp = s.comp := rfl
@[simp] theorem State.updOwn_link (f : Own → Own) : (s.updOwn f).link = s.link := rfl
@[simp] theorem State.updOwn_host (f : Own → Own) : (s.updOwn f).host = s.host := rfl
@[simp] theorem State.updOwn_mem (f : Own → Own) : (s.updOwn f).mem = s.mem := rfl
@[simp] theorem State.updOwn_triad (f : Own → Own) : (s.updOwn f).triad = s.triad := rfl
@[simp] theorem State.updOwn_emit (f : Own → Own) : (s.updOwn f).emit = s.emit := rfl
@[simp] theorem State.updOwn_sec (f : Own → Own) : (s.updOwn f).sec = s.sec := rfl
@[simp] theorem State.updOwn_perf (f : Own → Own) : (s.updOwn f).perf = s.perf := rfl
@[simp] theorem State.updOwn_seqs (f : Own → Own) : (s.updOwn f).seqs = s.seqs := rfl
@[simp] theorem State.updOwn_out (f : Own → Own) : (s.updOwn f).out = s.out := rfl

@[simp] theorem State.updCmd_pending (f : Cmd → Cmd) : (s.updCmd f).pending = s.pending := rfl
@[simp] theorem State.updCmd_freeCtr (f : Cmd → Cmd) : (s.updCmd f).freeCtr = s.freeCtr := rfl
@[simp] theorem State.updCmd_qtz (f : Cmd → Cmd) : (s.updCmd f).qtz = s.qtz := rfl
@[simp] theorem State.updCmd_regs (f : Cmd → Cmd) : (s.updCmd f).regs = s.regs := rfl
@[simp] theorem State.updCmd_cyc (f : Cmd → Cmd) : (s.updCmd f).cyc = s.cyc := rfl
@[simp] theorem State.updCmd_bus (f : Cmd → Cmd) : (s.updCmd f).bus = s.bus := rfl
@[simp] theorem State.updCmd_own (f : Cmd → Cmd) : (s.updCmd f).own = s.own := rfl
@[simp] theorem State.updCmd_ch (f : Cmd → Cmd) : (s.updCmd f).ch = s.ch := rfl
@[simp] theorem State.updCmd_gov (f : Cmd → Cmd) : (s.updCmd f).gov = s.gov := rfl
@[simp] theorem State.updCmd_calJobs (f : Cmd → Cmd) : (s.updCmd f).calJobs = s.calJobs := rfl
@[simp] theorem State.updCmd_charJobs (f : Cmd → Cmd) : (s.updCmd f).charJobs = s.charJobs := rfl
@[simp] theorem State.updCmd_hk (f : Cmd → Cmd) : (s.updCmd f).hk = s.hk := rfl
@[simp] theorem State.updCmd_ref (f : Cmd → Cmd) : (s.updCmd f).ref = s.ref := rfl
@[simp] theorem State.updCmd_fl (f : Cmd → Cmd) : (s.updCmd f).fl = s.fl := rfl
@[simp] theorem State.updCmd_isl (f : Cmd → Cmd) : (s.updCmd f).isl = s.isl := rfl
@[simp] theorem State.updCmd_eng (f : Cmd → Cmd) : (s.updCmd f).eng = s.eng := rfl
@[simp] theorem State.updCmd_ctx (f : Cmd → Cmd) : (s.updCmd f).ctx = s.ctx := rfl
@[simp] theorem State.updCmd_lag (f : Cmd → Cmd) : (s.updCmd f).lag = s.lag := rfl
@[simp] theorem State.updCmd_comp (f : Cmd → Cmd) : (s.updCmd f).comp = s.comp := rfl
@[simp] theorem State.updCmd_link (f : Cmd → Cmd) : (s.updCmd f).link = s.link := rfl
@[simp] theorem State.updCmd_host (f : Cmd → Cmd) : (s.updCmd f).host = s.host := rfl
@[simp] theorem State.updCmd_mem (f : Cmd → Cmd) : (s.updCmd f).mem = s.mem := rfl
@[simp] theorem State.updCmd_triad (f : Cmd → Cmd) : (s.updCmd f).triad = s.triad := rfl
@[simp] theorem State.updCmd_emit (f : Cmd → Cmd) : (s.updCmd f).emit = s.emit := rfl
@[simp] theorem State.updCmd_sec (f : Cmd → Cmd) : (s.updCmd f).sec = s.sec := rfl
@[simp] theorem State.updCmd_perf (f : Cmd → Cmd) : (s.updCmd f).perf = s.perf := rfl
@[simp] theorem State.updCmd_seqs (f : Cmd → Cmd) : (s.updCmd f).seqs = s.seqs := rfl
@[simp] theorem State.updCmd_out (f : Cmd → Cmd) : (s.updCmd f).out = s.out := rfl

@[simp] theorem State.updBus_pending (f : Bus → Bus) : (s.updBus f).pending = s.pending := rfl
@[simp] theorem State.updBus_freeCtr (f : Bus → Bus) : (s.updBus f).freeCtr = s.freeCtr := rfl
@[simp] theorem State.updBus_qtz (f : Bus → Bus) : (s.updBus f).qtz = s.qtz := rfl
@[simp] theorem State.updBus_regs (f : Bus → Bus) : (s.updBus f).regs = s.regs := rfl
@[simp] theorem State.updBus_cyc (f : Bus → Bus) : (s.updBus f).cyc = s.cyc := rfl
@[simp] theorem State.updBus_own (f : Bus → Bus) : (s.updBus f).own = s.own := rfl
@[simp] theorem State.updBus_cmd (f : Bus → Bus) : (s.updBus f).cmd = s.cmd := rfl
@[simp] theorem State.updBus_ch (f : Bus → Bus) : (s.updBus f).ch = s.ch := rfl
@[simp] theorem State.updBus_gov (f : Bus → Bus) : (s.updBus f).gov = s.gov := rfl
@[simp] theorem State.updBus_calJobs (f : Bus → Bus) : (s.updBus f).calJobs = s.calJobs := rfl
@[simp] theorem State.updBus_charJobs (f : Bus → Bus) : (s.updBus f).charJobs = s.charJobs := rfl
@[simp] theorem State.updBus_hk (f : Bus → Bus) : (s.updBus f).hk = s.hk := rfl
@[simp] theorem State.updBus_ref (f : Bus → Bus) : (s.updBus f).ref = s.ref := rfl
@[simp] theorem State.updBus_fl (f : Bus → Bus) : (s.updBus f).fl = s.fl := rfl
@[simp] theorem State.updBus_isl (f : Bus → Bus) : (s.updBus f).isl = s.isl := rfl
@[simp] theorem State.updBus_eng (f : Bus → Bus) : (s.updBus f).eng = s.eng := rfl
@[simp] theorem State.updBus_ctx (f : Bus → Bus) : (s.updBus f).ctx = s.ctx := rfl
@[simp] theorem State.updBus_lag (f : Bus → Bus) : (s.updBus f).lag = s.lag := rfl
@[simp] theorem State.updBus_comp (f : Bus → Bus) : (s.updBus f).comp = s.comp := rfl
@[simp] theorem State.updBus_link (f : Bus → Bus) : (s.updBus f).link = s.link := rfl
@[simp] theorem State.updBus_host (f : Bus → Bus) : (s.updBus f).host = s.host := rfl
@[simp] theorem State.updBus_mem (f : Bus → Bus) : (s.updBus f).mem = s.mem := rfl
@[simp] theorem State.updBus_triad (f : Bus → Bus) : (s.updBus f).triad = s.triad := rfl
@[simp] theorem State.updBus_emit (f : Bus → Bus) : (s.updBus f).emit = s.emit := rfl
@[simp] theorem State.updBus_sec (f : Bus → Bus) : (s.updBus f).sec = s.sec := rfl
@[simp] theorem State.updBus_perf (f : Bus → Bus) : (s.updBus f).perf = s.perf := rfl
@[simp] theorem State.updBus_seqs (f : Bus → Bus) : (s.updBus f).seqs = s.seqs := rfl
@[simp] theorem State.updBus_out (f : Bus → Bus) : (s.updBus f).out = s.out := rfl

@[simp] theorem State.updMem_pending (f : Mem → Mem) : (s.updMem f).pending = s.pending := rfl
@[simp] theorem State.updMem_freeCtr (f : Mem → Mem) : (s.updMem f).freeCtr = s.freeCtr := rfl
@[simp] theorem State.updMem_qtz (f : Mem → Mem) : (s.updMem f).qtz = s.qtz := rfl
@[simp] theorem State.updMem_regs (f : Mem → Mem) : (s.updMem f).regs = s.regs := rfl
@[simp] theorem State.updMem_cyc (f : Mem → Mem) : (s.updMem f).cyc = s.cyc := rfl
@[simp] theorem State.updMem_bus (f : Mem → Mem) : (s.updMem f).bus = s.bus := rfl
@[simp] theorem State.updMem_own (f : Mem → Mem) : (s.updMem f).own = s.own := rfl
@[simp] theorem State.updMem_cmd (f : Mem → Mem) : (s.updMem f).cmd = s.cmd := rfl
@[simp] theorem State.updMem_ch (f : Mem → Mem) : (s.updMem f).ch = s.ch := rfl
@[simp] theorem State.updMem_gov (f : Mem → Mem) : (s.updMem f).gov = s.gov := rfl
@[simp] theorem State.updMem_calJobs (f : Mem → Mem) : (s.updMem f).calJobs = s.calJobs := rfl
@[simp] theorem State.updMem_charJobs (f : Mem → Mem) : (s.updMem f).charJobs = s.charJobs := rfl
@[simp] theorem State.updMem_hk (f : Mem → Mem) : (s.updMem f).hk = s.hk := rfl
@[simp] theorem State.updMem_ref (f : Mem → Mem) : (s.updMem f).ref = s.ref := rfl
@[simp] theorem State.updMem_fl (f : Mem → Mem) : (s.updMem f).fl = s.fl := rfl
@[simp] theorem State.updMem_isl (f : Mem → Mem) : (s.updMem f).isl = s.isl := rfl
@[simp] theorem State.updMem_eng (f : Mem → Mem) : (s.updMem f).eng = s.eng := rfl
@[simp] theorem State.updMem_ctx (f : Mem → Mem) : (s.updMem f).ctx = s.ctx := rfl
@[simp] theorem State.updMem_lag (f : Mem → Mem) : (s.updMem f).lag = s.lag := rfl
@[simp] theorem State.updMem_comp (f : Mem → Mem) : (s.updMem f).comp = s.comp := rfl
@[simp] theorem State.updMem_link (f : Mem → Mem) : (s.updMem f).link = s.link := rfl
@[simp] theorem State.updMem_host (f : Mem → Mem) : (s.updMem f).host = s.host := rfl
@[simp] theorem State.updMem_triad (f : Mem → Mem) : (s.updMem f).triad = s.triad := rfl
@[simp] theorem State.updMem_emit (f : Mem → Mem) : (s.updMem f).emit = s.emit := rfl
@[simp] theorem State.updMem_sec (f : Mem → Mem) : (s.updMem f).sec = s.sec := rfl
@[simp] theorem State.updMem_perf (f : Mem → Mem) : (s.updMem f).perf = s.perf := rfl
@[simp] theorem State.updMem_seqs (f : Mem → Mem) : (s.updMem f).seqs = s.seqs := rfl
@[simp] theorem State.updMem_out (f : Mem → Mem) : (s.updMem f).out = s.out := rfl

@[simp] theorem State.updHost_pending (f : HostIf → HostIf) : (s.updHost f).pending = s.pending := rfl
@[simp] theorem State.updHost_freeCtr (f : HostIf → HostIf) : (s.updHost f).freeCtr = s.freeCtr := rfl
@[simp] theorem State.updHost_qtz (f : HostIf → HostIf) : (s.updHost f).qtz = s.qtz := rfl
@[simp] theorem State.updHost_regs (f : HostIf → HostIf) : (s.updHost f).regs = s.regs := rfl
@[simp] theorem State.updHost_cyc (f : HostIf → HostIf) : (s.updHost f).cyc = s.cyc := rfl
@[simp] theorem State.updHost_bus (f : HostIf → HostIf) : (s.updHost f).bus = s.bus := rfl
@[simp] theorem State.updHost_own (f : HostIf → HostIf) : (s.updHost f).own = s.own := rfl
@[simp] theorem State.updHost_cmd (f : HostIf → HostIf) : (s.updHost f).cmd = s.cmd := rfl
@[simp] theorem State.updHost_ch (f : HostIf → HostIf) : (s.updHost f).ch = s.ch := rfl
@[simp] theorem State.updHost_gov (f : HostIf → HostIf) : (s.updHost f).gov = s.gov := rfl
@[simp] theorem State.updHost_calJobs (f : HostIf → HostIf) : (s.updHost f).calJobs = s.calJobs := rfl
@[simp] theorem State.updHost_charJobs (f : HostIf → HostIf) : (s.updHost f).charJobs = s.charJobs := rfl
@[simp] theorem State.updHost_hk (f : HostIf → HostIf) : (s.updHost f).hk = s.hk := rfl
@[simp] theorem State.updHost_ref (f : HostIf → HostIf) : (s.updHost f).ref = s.ref := rfl
@[simp] theorem State.updHost_fl (f : HostIf → HostIf) : (s.updHost f).fl = s.fl := rfl
@[simp] theorem State.updHost_isl (f : HostIf → HostIf) : (s.updHost f).isl = s.isl := rfl
@[simp] theorem State.updHost_eng (f : HostIf → HostIf) : (s.updHost f).eng = s.eng := rfl
@[simp] theorem State.updHost_ctx (f : HostIf → HostIf) : (s.updHost f).ctx = s.ctx := rfl
@[simp] theorem State.updHost_lag (f : HostIf → HostIf) : (s.updHost f).lag = s.lag := rfl
@[simp] theorem State.updHost_comp (f : HostIf → HostIf) : (s.updHost f).comp = s.comp := rfl
@[simp] theorem State.updHost_link (f : HostIf → HostIf) : (s.updHost f).link = s.link := rfl
@[simp] theorem State.updHost_mem (f : HostIf → HostIf) : (s.updHost f).mem = s.mem := rfl
@[simp] theorem State.updHost_triad (f : HostIf → HostIf) : (s.updHost f).triad = s.triad := rfl
@[simp] theorem State.updHost_emit (f : HostIf → HostIf) : (s.updHost f).emit = s.emit := rfl
@[simp] theorem State.updHost_sec (f : HostIf → HostIf) : (s.updHost f).sec = s.sec := rfl
@[simp] theorem State.updHost_perf (f : HostIf → HostIf) : (s.updHost f).perf = s.perf := rfl
@[simp] theorem State.updHost_seqs (f : HostIf → HostIf) : (s.updHost f).seqs = s.seqs := rfl
@[simp] theorem State.updHost_out (f : HostIf → HostIf) : (s.updHost f).out = s.out := rfl

@[simp] theorem State.updTriad_pending (f : Triad → Triad) : (s.updTriad f).pending = s.pending := rfl
@[simp] theorem State.updTriad_freeCtr (f : Triad → Triad) : (s.updTriad f).freeCtr = s.freeCtr := rfl
@[simp] theorem State.updTriad_qtz (f : Triad → Triad) : (s.updTriad f).qtz = s.qtz := rfl
@[simp] theorem State.updTriad_regs (f : Triad → Triad) : (s.updTriad f).regs = s.regs := rfl
@[simp] theorem State.updTriad_cyc (f : Triad → Triad) : (s.updTriad f).cyc = s.cyc := rfl
@[simp] theorem State.updTriad_bus (f : Triad → Triad) : (s.updTriad f).bus = s.bus := rfl
@[simp] theorem State.updTriad_own (f : Triad → Triad) : (s.updTriad f).own = s.own := rfl
@[simp] theorem State.updTriad_cmd (f : Triad → Triad) : (s.updTriad f).cmd = s.cmd := rfl
@[simp] theorem State.updTriad_ch (f : Triad → Triad) : (s.updTriad f).ch = s.ch := rfl
@[simp] theorem State.updTriad_gov (f : Triad → Triad) : (s.updTriad f).gov = s.gov := rfl
@[simp] theorem State.updTriad_calJobs (f : Triad → Triad) : (s.updTriad f).calJobs = s.calJobs := rfl
@[simp] theorem State.updTriad_charJobs (f : Triad → Triad) : (s.updTriad f).charJobs = s.charJobs := rfl
@[simp] theorem State.updTriad_hk (f : Triad → Triad) : (s.updTriad f).hk = s.hk := rfl
@[simp] theorem State.updTriad_ref (f : Triad → Triad) : (s.updTriad f).ref = s.ref := rfl
@[simp] theorem State.updTriad_fl (f : Triad → Triad) : (s.updTriad f).fl = s.fl := rfl
@[simp] theorem State.updTriad_isl (f : Triad → Triad) : (s.updTriad f).isl = s.isl := rfl
@[simp] theorem State.updTriad_eng (f : Triad → Triad) : (s.updTriad f).eng = s.eng := rfl
@[simp] theorem State.updTriad_ctx (f : Triad → Triad) : (s.updTriad f).ctx = s.ctx := rfl
@[simp] theorem State.updTriad_lag (f : Triad → Triad) : (s.updTriad f).lag = s.lag := rfl
@[simp] theorem State.updTriad_comp (f : Triad → Triad) : (s.updTriad f).comp = s.comp := rfl
@[simp] theorem State.updTriad_link (f : Triad → Triad) : (s.updTriad f).link = s.link := rfl
@[simp] theorem State.updTriad_host (f : Triad → Triad) : (s.updTriad f).host = s.host := rfl
@[simp] theorem State.updTriad_mem (f : Triad → Triad) : (s.updTriad f).mem = s.mem := rfl
@[simp] theorem State.updTriad_emit (f : Triad → Triad) : (s.updTriad f).emit = s.emit := rfl
@[simp] theorem State.updTriad_sec (f : Triad → Triad) : (s.updTriad f).sec = s.sec := rfl
@[simp] theorem State.updTriad_perf (f : Triad → Triad) : (s.updTriad f).perf = s.perf := rfl
@[simp] theorem State.updTriad_seqs (f : Triad → Triad) : (s.updTriad f).seqs = s.seqs := rfl
@[simp] theorem State.updTriad_out (f : Triad → Triad) : (s.updTriad f).out = s.out := rfl

@[simp] theorem State.updEmit_pending (f : Emit → Emit) : (s.updEmit f).pending = s.pending := rfl
@[simp] theorem State.updEmit_freeCtr (f : Emit → Emit) : (s.updEmit f).freeCtr = s.freeCtr := rfl
@[simp] theorem State.updEmit_qtz (f : Emit → Emit) : (s.updEmit f).qtz = s.qtz := rfl
@[simp] theorem State.updEmit_regs (f : Emit → Emit) : (s.updEmit f).regs = s.regs := rfl
@[simp] theorem State.updEmit_cyc (f : Emit → Emit) : (s.updEmit f).cyc = s.cyc := rfl
@[simp] theorem State.updEmit_bus (f : Emit → Emit) : (s.updEmit f).bus = s.bus := rfl
@[simp] theorem State.updEmit_own (f : Emit → Emit) : (s.updEmit f).own = s.own := rfl
@[simp] theorem State.updEmit_cmd (f : Emit → Emit) : (s.updEmit f).cmd = s.cmd := rfl
@[simp] theorem State.updEmit_ch (f : Emit → Emit) : (s.updEmit f).ch = s.ch := rfl
@[simp] theorem State.updEmit_gov (f : Emit → Emit) : (s.updEmit f).gov = s.gov := rfl
@[simp] theorem State.updEmit_calJobs (f : Emit → Emit) : (s.updEmit f).calJobs = s.calJobs := rfl
@[simp] theorem State.updEmit_charJobs (f : Emit → Emit) : (s.updEmit f).charJobs = s.charJobs := rfl
@[simp] theorem State.updEmit_hk (f : Emit → Emit) : (s.updEmit f).hk = s.hk := rfl
@[simp] theorem State.updEmit_ref (f : Emit → Emit) : (s.updEmit f).ref = s.ref := rfl
@[simp] theorem State.updEmit_fl (f : Emit → Emit) : (s.updEmit f).fl = s.fl := rfl
@[simp] theorem State.updEmit_isl (f : Emit → Emit) : (s.updEmit f).isl = s.isl := rfl
@[simp] theorem State.updEmit_eng (f : Emit → Emit) : (s.updEmit f).eng = s.eng := rfl
@[simp] theorem State.updEmit_ctx (f : Emit → Emit) : (s.updEmit f).ctx = s.ctx := rfl
@[simp] theorem State.updEmit_lag (f : Emit → Emit) : (s.updEmit f).lag = s.lag := rfl
@[simp] theorem State.updEmit_comp (f : Emit → Emit) : (s.updEmit f).comp = s.comp := rfl
@[simp] theorem State.updEmit_link (f : Emit → Emit) : (s.updEmit f).link = s.link := rfl
@[simp] theorem State.updEmit_host (f : Emit → Emit) : (s.updEmit f).host = s.host := rfl
@[simp] theorem State.updEmit_mem (f : Emit → Emit) : (s.updEmit f).mem = s.mem := rfl
@[simp] theorem State.updEmit_triad (f : Emit → Emit) : (s.updEmit f).triad = s.triad := rfl
@[simp] theorem State.updEmit_sec (f : Emit → Emit) : (s.updEmit f).sec = s.sec := rfl
@[simp] theorem State.updEmit_perf (f : Emit → Emit) : (s.updEmit f).perf = s.perf := rfl
@[simp] theorem State.updEmit_seqs (f : Emit → Emit) : (s.updEmit f).seqs = s.seqs := rfl
@[simp] theorem State.updEmit_out (f : Emit → Emit) : (s.updEmit f).out = s.out := rfl

@[simp] theorem State.updSec_pending (f : Sec → Sec) : (s.updSec f).pending = s.pending := rfl
@[simp] theorem State.updSec_freeCtr (f : Sec → Sec) : (s.updSec f).freeCtr = s.freeCtr := rfl
@[simp] theorem State.updSec_qtz (f : Sec → Sec) : (s.updSec f).qtz = s.qtz := rfl
@[simp] theorem State.updSec_regs (f : Sec → Sec) : (s.updSec f).regs = s.regs := rfl
@[simp] theorem State.updSec_cyc (f : Sec → Sec) : (s.updSec f).cyc = s.cyc := rfl
@[simp] theorem State.updSec_bus (f : Sec → Sec) : (s.updSec f).bus = s.bus := rfl
@[simp] theorem State.updSec_own (f : Sec → Sec) : (s.updSec f).own = s.own := rfl
@[simp] theorem State.updSec_cmd (f : Sec → Sec) : (s.updSec f).cmd = s.cmd := rfl
@[simp] theorem State.updSec_ch (f : Sec → Sec) : (s.updSec f).ch = s.ch := rfl
@[simp] theorem State.updSec_gov (f : Sec → Sec) : (s.updSec f).gov = s.gov := rfl
@[simp] theorem State.updSec_calJobs (f : Sec → Sec) : (s.updSec f).calJobs = s.calJobs := rfl
@[simp] theorem State.updSec_charJobs (f : Sec → Sec) : (s.updSec f).charJobs = s.charJobs := rfl
@[simp] theorem State.updSec_hk (f : Sec → Sec) : (s.updSec f).hk = s.hk := rfl
@[simp] theorem State.updSec_ref (f : Sec → Sec) : (s.updSec f).ref = s.ref := rfl
@[simp] theorem State.updSec_fl (f : Sec → Sec) : (s.updSec f).fl = s.fl := rfl
@[simp] theorem State.updSec_isl (f : Sec → Sec) : (s.updSec f).isl = s.isl := rfl
@[simp] theorem State.updSec_eng (f : Sec → Sec) : (s.updSec f).eng = s.eng := rfl
@[simp] theorem State.updSec_ctx (f : Sec → Sec) : (s.updSec f).ctx = s.ctx := rfl
@[simp] theorem State.updSec_lag (f : Sec → Sec) : (s.updSec f).lag = s.lag := rfl
@[simp] theorem State.updSec_comp (f : Sec → Sec) : (s.updSec f).comp = s.comp := rfl
@[simp] theorem State.updSec_link (f : Sec → Sec) : (s.updSec f).link = s.link := rfl
@[simp] theorem State.updSec_host (f : Sec → Sec) : (s.updSec f).host = s.host := rfl
@[simp] theorem State.updSec_mem (f : Sec → Sec) : (s.updSec f).mem = s.mem := rfl
@[simp] theorem State.updSec_triad (f : Sec → Sec) : (s.updSec f).triad = s.triad := rfl
@[simp] theorem State.updSec_emit (f : Sec → Sec) : (s.updSec f).emit = s.emit := rfl
@[simp] theorem State.updSec_perf (f : Sec → Sec) : (s.updSec f).perf = s.perf := rfl
@[simp] theorem State.updSec_seqs (f : Sec → Sec) : (s.updSec f).seqs = s.seqs := rfl
@[simp] theorem State.updSec_out (f : Sec → Sec) : (s.updSec f).out = s.out := rfl

@[simp] theorem State.updStart_pending (f : Start → Start) : (s.updStart f).pending = s.pending := rfl
@[simp] theorem State.updStart_freeCtr (f : Start → Start) : (s.updStart f).freeCtr = s.freeCtr := rfl
@[simp] theorem State.updStart_qtz (f : Start → Start) : (s.updStart f).qtz = s.qtz := rfl
@[simp] theorem State.updStart_regs (f : Start → Start) : (s.updStart f).regs = s.regs := rfl
@[simp] theorem State.updStart_cyc (f : Start → Start) : (s.updStart f).cyc = s.cyc := rfl
@[simp] theorem State.updStart_bus (f : Start → Start) : (s.updStart f).bus = s.bus := rfl
@[simp] theorem State.updStart_own (f : Start → Start) : (s.updStart f).own = s.own := rfl
@[simp] theorem State.updStart_cmd (f : Start → Start) : (s.updStart f).cmd = s.cmd := rfl
@[simp] theorem State.updStart_ch (f : Start → Start) : (s.updStart f).ch = s.ch := rfl
@[simp] theorem State.updStart_gov (f : Start → Start) : (s.updStart f).gov = s.gov := rfl
@[simp] theorem State.updStart_calJobs (f : Start → Start) : (s.updStart f).calJobs = s.calJobs := rfl
@[simp] theorem State.updStart_charJobs (f : Start → Start) : (s.updStart f).charJobs = s.charJobs := rfl
@[simp] theorem State.updStart_hk (f : Start → Start) : (s.updStart f).hk = s.hk := rfl
@[simp] theorem State.updStart_ref (f : Start → Start) : (s.updStart f).ref = s.ref := rfl
@[simp] theorem State.updStart_fl (f : Start → Start) : (s.updStart f).fl = s.fl := rfl
@[simp] theorem State.updStart_isl (f : Start → Start) : (s.updStart f).isl = s.isl := rfl
@[simp] theorem State.updStart_eng (f : Start → Start) : (s.updStart f).eng = s.eng := rfl
@[simp] theorem State.updStart_ctx (f : Start → Start) : (s.updStart f).ctx = s.ctx := rfl
@[simp] theorem State.updStart_lag (f : Start → Start) : (s.updStart f).lag = s.lag := rfl
@[simp] theorem State.updStart_comp (f : Start → Start) : (s.updStart f).comp = s.comp := rfl
@[simp] theorem State.updStart_link (f : Start → Start) : (s.updStart f).link = s.link := rfl
@[simp] theorem State.updStart_host (f : Start → Start) : (s.updStart f).host = s.host := rfl
@[simp] theorem State.updStart_mem (f : Start → Start) : (s.updStart f).mem = s.mem := rfl
@[simp] theorem State.updStart_triad (f : Start → Start) : (s.updStart f).triad = s.triad := rfl
@[simp] theorem State.updStart_emit (f : Start → Start) : (s.updStart f).emit = s.emit := rfl
@[simp] theorem State.updStart_perf (f : Start → Start) : (s.updStart f).perf = s.perf := rfl
@[simp] theorem State.updStart_seqs (f : Start → Start) : (s.updStart f).seqs = s.seqs := rfl
@[simp] theorem State.updStart_out (f : Start → Start) : (s.updStart f).out = s.out := rfl

@[simp] theorem State.updPerf_pending (f : Perf → Perf) : (s.updPerf f).pending = s.pending := rfl
@[simp] theorem State.updPerf_freeCtr (f : Perf → Perf) : (s.updPerf f).freeCtr = s.freeCtr := rfl
@[simp] theorem State.updPerf_qtz (f : Perf → Perf) : (s.updPerf f).qtz = s.qtz := rfl
@[simp] theorem State.updPerf_regs (f : Perf → Perf) : (s.updPerf f).regs = s.regs := rfl
@[simp] theorem State.updPerf_cyc (f : Perf → Perf) : (s.updPerf f).cyc = s.cyc := rfl
@[simp] theorem State.updPerf_bus (f : Perf → Perf) : (s.updPerf f).bus = s.bus := rfl
@[simp] theorem State.updPerf_own (f : Perf → Perf) : (s.updPerf f).own = s.own := rfl
@[simp] theorem State.updPerf_cmd (f : Perf → Perf) : (s.updPerf f).cmd = s.cmd := rfl
@[simp] theorem State.updPerf_ch (f : Perf → Perf) : (s.updPerf f).ch = s.ch := rfl
@[simp] theorem State.updPerf_gov (f : Perf → Perf) : (s.updPerf f).gov = s.gov := rfl
@[simp] theorem State.updPerf_calJobs (f : Perf → Perf) : (s.updPerf f).calJobs = s.calJobs := rfl
@[simp] theorem State.updPerf_charJobs (f : Perf → Perf) : (s.updPerf f).charJobs = s.charJobs := rfl
@[simp] theorem State.updPerf_hk (f : Perf → Perf) : (s.updPerf f).hk = s.hk := rfl
@[simp] theorem State.updPerf_ref (f : Perf → Perf) : (s.updPerf f).ref = s.ref := rfl
@[simp] theorem State.updPerf_fl (f : Perf → Perf) : (s.updPerf f).fl = s.fl := rfl
@[simp] theorem State.updPerf_isl (f : Perf → Perf) : (s.updPerf f).isl = s.isl := rfl
@[simp] theorem State.updPerf_eng (f : Perf → Perf) : (s.updPerf f).eng = s.eng := rfl
@[simp] theorem State.updPerf_ctx (f : Perf → Perf) : (s.updPerf f).ctx = s.ctx := rfl
@[simp] theorem State.updPerf_lag (f : Perf → Perf) : (s.updPerf f).lag = s.lag := rfl
@[simp] theorem State.updPerf_comp (f : Perf → Perf) : (s.updPerf f).comp = s.comp := rfl
@[simp] theorem State.updPerf_link (f : Perf → Perf) : (s.updPerf f).link = s.link := rfl
@[simp] theorem State.updPerf_host (f : Perf → Perf) : (s.updPerf f).host = s.host := rfl
@[simp] theorem State.updPerf_mem (f : Perf → Perf) : (s.updPerf f).mem = s.mem := rfl
@[simp] theorem State.updPerf_triad (f : Perf → Perf) : (s.updPerf f).triad = s.triad := rfl
@[simp] theorem State.updPerf_emit (f : Perf → Perf) : (s.updPerf f).emit = s.emit := rfl
@[simp] theorem State.updPerf_sec (f : Perf → Perf) : (s.updPerf f).sec = s.sec := rfl
@[simp] theorem State.updPerf_seqs (f : Perf → Perf) : (s.updPerf f).seqs = s.seqs := rfl
@[simp] theorem State.updPerf_out (f : Perf → Perf) : (s.updPerf f).out = s.out := rfl

@[simp] theorem State.updCtxs_pending (f : CtxStore → CtxStore) : (s.updCtxs f).pending = s.pending := rfl
@[simp] theorem State.updCtxs_freeCtr (f : CtxStore → CtxStore) : (s.updCtxs f).freeCtr = s.freeCtr := rfl
@[simp] theorem State.updCtxs_qtz (f : CtxStore → CtxStore) : (s.updCtxs f).qtz = s.qtz := rfl
@[simp] theorem State.updCtxs_regs (f : CtxStore → CtxStore) : (s.updCtxs f).regs = s.regs := rfl
@[simp] theorem State.updCtxs_cyc (f : CtxStore → CtxStore) : (s.updCtxs f).cyc = s.cyc := rfl
@[simp] theorem State.updCtxs_bus (f : CtxStore → CtxStore) : (s.updCtxs f).bus = s.bus := rfl
@[simp] theorem State.updCtxs_own (f : CtxStore → CtxStore) : (s.updCtxs f).own = s.own := rfl
@[simp] theorem State.updCtxs_cmd (f : CtxStore → CtxStore) : (s.updCtxs f).cmd = s.cmd := rfl
@[simp] theorem State.updCtxs_ch (f : CtxStore → CtxStore) : (s.updCtxs f).ch = s.ch := rfl
@[simp] theorem State.updCtxs_gov (f : CtxStore → CtxStore) : (s.updCtxs f).gov = s.gov := rfl
@[simp] theorem State.updCtxs_calJobs (f : CtxStore → CtxStore) : (s.updCtxs f).calJobs = s.calJobs := rfl
@[simp] theorem State.updCtxs_charJobs (f : CtxStore → CtxStore) : (s.updCtxs f).charJobs = s.charJobs := rfl
@[simp] theorem State.updCtxs_hk (f : CtxStore → CtxStore) : (s.updCtxs f).hk = s.hk := rfl
@[simp] theorem State.updCtxs_ref (f : CtxStore → CtxStore) : (s.updCtxs f).ref = s.ref := rfl
@[simp] theorem State.updCtxs_fl (f : CtxStore → CtxStore) : (s.updCtxs f).fl = s.fl := rfl
@[simp] theorem State.updCtxs_isl (f : CtxStore → CtxStore) : (s.updCtxs f).isl = s.isl := rfl
@[simp] theorem State.updCtxs_eng (f : CtxStore → CtxStore) : (s.updCtxs f).eng = s.eng := rfl
@[simp] theorem State.updCtxs_lag (f : CtxStore → CtxStore) : (s.updCtxs f).lag = s.lag := rfl
@[simp] theorem State.updCtxs_comp (f : CtxStore → CtxStore) : (s.updCtxs f).comp = s.comp := rfl
@[simp] theorem State.updCtxs_link (f : CtxStore → CtxStore) : (s.updCtxs f).link = s.link := rfl
@[simp] theorem State.updCtxs_host (f : CtxStore → CtxStore) : (s.updCtxs f).host = s.host := rfl
@[simp] theorem State.updCtxs_mem (f : CtxStore → CtxStore) : (s.updCtxs f).mem = s.mem := rfl
@[simp] theorem State.updCtxs_triad (f : CtxStore → CtxStore) : (s.updCtxs f).triad = s.triad := rfl
@[simp] theorem State.updCtxs_emit (f : CtxStore → CtxStore) : (s.updCtxs f).emit = s.emit := rfl
@[simp] theorem State.updCtxs_sec (f : CtxStore → CtxStore) : (s.updCtxs f).sec = s.sec := rfl
@[simp] theorem State.updCtxs_perf (f : CtxStore → CtxStore) : (s.updCtxs f).perf = s.perf := rfl
@[simp] theorem State.updCtxs_seqs (f : CtxStore → CtxStore) : (s.updCtxs f).seqs = s.seqs := rfl
@[simp] theorem State.updCtxs_out (f : CtxStore → CtxStore) : (s.updCtxs f).out = s.out := rfl

@[simp] theorem State.updCyc_pending (a : Nat) (f : Cyc → Cyc) : (s.updCyc a f).pending = s.pending := rfl
@[simp] theorem State.updCyc_freeCtr (a : Nat) (f : Cyc → Cyc) : (s.updCyc a f).freeCtr = s.freeCtr := rfl
@[simp] theorem State.updCyc_qtz (a : Nat) (f : Cyc → Cyc) : (s.updCyc a f).qtz = s.qtz := rfl
@[simp] theorem State.updCyc_regs (a : Nat) (f : Cyc → Cyc) : (s.updCyc a f).regs = s.regs := rfl
@[simp] theorem State.updCyc_bus (a : Nat) (f : Cyc → Cyc) : (s.updCyc a f).bus = s.bus := rfl
@[simp] theorem State.updCyc_own (a : Nat) (f : Cyc → Cyc) : (s.updCyc a f).own = s.own := rfl
@[simp] theorem State.updCyc_cmd (a : Nat) (f : Cyc → Cyc) : (s.updCyc a f).cmd = s.cmd := rfl
@[simp] theorem State.updCyc_ch (a : Nat) (f : Cyc → Cyc) : (s.updCyc a f).ch = s.ch := rfl
@[simp] theorem State.updCyc_gov (a : Nat) (f : Cyc → Cyc) : (s.updCyc a f).gov = s.gov := rfl
@[simp] theorem State.updCyc_calJobs (a : Nat) (f : Cyc → Cyc) : (s.updCyc a f).calJobs = s.calJobs := rfl
@[simp] theorem State.updCyc_charJobs (a : Nat) (f : Cyc → Cyc) : (s.updCyc a f).charJobs = s.charJobs := rfl
@[simp] theorem State.updCyc_hk (a : Nat) (f : Cyc → Cyc) : (s.updCyc a f).hk = s.hk := rfl
@[simp] theorem State.updCyc_ref (a : Nat) (f : Cyc → Cyc) : (s.updCyc a f).ref = s.ref := rfl
@[simp] theorem State.updCyc_fl (a : Nat) (f : Cyc → Cyc) : (s.updCyc a f).fl = s.fl := rfl
@[simp] theorem State.updCyc_isl (a : Nat) (f : Cyc → Cyc) : (s.updCyc a f).isl = s.isl := rfl
@[simp] theorem State.updCyc_eng (a : Nat) (f : Cyc → Cyc) : (s.updCyc a f).eng = s.eng := rfl
@[simp] theorem State.updCyc_ctx (a : Nat) (f : Cyc → Cyc) : (s.updCyc a f).ctx = s.ctx := rfl
@[simp] theorem State.updCyc_lag (a : Nat) (f : Cyc → Cyc) : (s.updCyc a f).lag = s.lag := rfl
@[simp] theorem State.updCyc_comp (a : Nat) (f : Cyc → Cyc) : (s.updCyc a f).comp = s.comp := rfl
@[simp] theorem State.updCyc_link (a : Nat) (f : Cyc → Cyc) : (s.updCyc a f).link = s.link := rfl
@[simp] theorem State.updCyc_host (a : Nat) (f : Cyc → Cyc) : (s.updCyc a f).host = s.host := rfl
@[simp] theorem State.updCyc_mem (a : Nat) (f : Cyc → Cyc) : (s.updCyc a f).mem = s.mem := rfl
@[simp] theorem State.updCyc_triad (a : Nat) (f : Cyc → Cyc) : (s.updCyc a f).triad = s.triad := rfl
@[simp] theorem State.updCyc_emit (a : Nat) (f : Cyc → Cyc) : (s.updCyc a f).emit = s.emit := rfl
@[simp] theorem State.updCyc_sec (a : Nat) (f : Cyc → Cyc) : (s.updCyc a f).sec = s.sec := rfl
@[simp] theorem State.updCyc_perf (a : Nat) (f : Cyc → Cyc) : (s.updCyc a f).perf = s.perf := rfl
@[simp] theorem State.updCyc_seqs (a : Nat) (f : Cyc → Cyc) : (s.updCyc a f).seqs = s.seqs := rfl
@[simp] theorem State.updCyc_out (a : Nat) (f : Cyc → Cyc) : (s.updCyc a f).out = s.out := rfl

@[simp] theorem State.rset_pending (a : Nat) (w : Word) : (s.rset a w).pending = s.pending := rfl
@[simp] theorem State.rset_freeCtr (a : Nat) (w : Word) : (s.rset a w).freeCtr = s.freeCtr := rfl
@[simp] theorem State.rset_qtz (a : Nat) (w : Word) : (s.rset a w).qtz = s.qtz := rfl
@[simp] theorem State.rset_cyc (a : Nat) (w : Word) : (s.rset a w).cyc = s.cyc := rfl
@[simp] theorem State.rset_bus (a : Nat) (w : Word) : (s.rset a w).bus = s.bus := rfl
@[simp] theorem State.rset_own (a : Nat) (w : Word) : (s.rset a w).own = s.own := rfl
@[simp] theorem State.rset_cmd (a : Nat) (w : Word) : (s.rset a w).cmd = s.cmd := rfl
@[simp] theorem State.rset_ch (a : Nat) (w : Word) : (s.rset a w).ch = s.ch := rfl
@[simp] theorem State.rset_gov (a : Nat) (w : Word) : (s.rset a w).gov = s.gov := rfl
@[simp] theorem State.rset_calJobs (a : Nat) (w : Word) : (s.rset a w).calJobs = s.calJobs := rfl
@[simp] theorem State.rset_charJobs (a : Nat) (w : Word) : (s.rset a w).charJobs = s.charJobs := rfl
@[simp] theorem State.rset_hk (a : Nat) (w : Word) : (s.rset a w).hk = s.hk := rfl
@[simp] theorem State.rset_ref (a : Nat) (w : Word) : (s.rset a w).ref = s.ref := rfl
@[simp] theorem State.rset_fl (a : Nat) (w : Word) : (s.rset a w).fl = s.fl := rfl
@[simp] theorem State.rset_isl (a : Nat) (w : Word) : (s.rset a w).isl = s.isl := rfl
@[simp] theorem State.rset_eng (a : Nat) (w : Word) : (s.rset a w).eng = s.eng := rfl
@[simp] theorem State.rset_ctx (a : Nat) (w : Word) : (s.rset a w).ctx = s.ctx := rfl
@[simp] theorem State.rset_lag (a : Nat) (w : Word) : (s.rset a w).lag = s.lag := rfl
@[simp] theorem State.rset_comp (a : Nat) (w : Word) : (s.rset a w).comp = s.comp := rfl
@[simp] theorem State.rset_link (a : Nat) (w : Word) : (s.rset a w).link = s.link := rfl
@[simp] theorem State.rset_host (a : Nat) (w : Word) : (s.rset a w).host = s.host := rfl
@[simp] theorem State.rset_mem (a : Nat) (w : Word) : (s.rset a w).mem = s.mem := rfl
@[simp] theorem State.rset_triad (a : Nat) (w : Word) : (s.rset a w).triad = s.triad := rfl
@[simp] theorem State.rset_emit (a : Nat) (w : Word) : (s.rset a w).emit = s.emit := rfl
@[simp] theorem State.rset_sec (a : Nat) (w : Word) : (s.rset a w).sec = s.sec := rfl
@[simp] theorem State.rset_perf (a : Nat) (w : Word) : (s.rset a w).perf = s.perf := rfl
@[simp] theorem State.rset_seqs (a : Nat) (w : Word) : (s.rset a w).seqs = s.seqs := rfl
@[simp] theorem State.rset_out (a : Nat) (w : Word) : (s.rset a w).out = s.out := rfl

@[simp] theorem State.emitOut_pending (o : Out) : (s.emitOut o).pending = s.pending := rfl
@[simp] theorem State.emitOut_freeCtr (o : Out) : (s.emitOut o).freeCtr = s.freeCtr := rfl
@[simp] theorem State.emitOut_qtz (o : Out) : (s.emitOut o).qtz = s.qtz := rfl
@[simp] theorem State.emitOut_regs (o : Out) : (s.emitOut o).regs = s.regs := rfl
@[simp] theorem State.emitOut_cyc (o : Out) : (s.emitOut o).cyc = s.cyc := rfl
@[simp] theorem State.emitOut_bus (o : Out) : (s.emitOut o).bus = s.bus := rfl
@[simp] theorem State.emitOut_own (o : Out) : (s.emitOut o).own = s.own := rfl
@[simp] theorem State.emitOut_cmd (o : Out) : (s.emitOut o).cmd = s.cmd := rfl
@[simp] theorem State.emitOut_ch (o : Out) : (s.emitOut o).ch = s.ch := rfl
@[simp] theorem State.emitOut_gov (o : Out) : (s.emitOut o).gov = s.gov := rfl
@[simp] theorem State.emitOut_calJobs (o : Out) : (s.emitOut o).calJobs = s.calJobs := rfl
@[simp] theorem State.emitOut_charJobs (o : Out) : (s.emitOut o).charJobs = s.charJobs := rfl
@[simp] theorem State.emitOut_hk (o : Out) : (s.emitOut o).hk = s.hk := rfl
@[simp] theorem State.emitOut_ref (o : Out) : (s.emitOut o).ref = s.ref := rfl
@[simp] theorem State.emitOut_fl (o : Out) : (s.emitOut o).fl = s.fl := rfl
@[simp] theorem State.emitOut_isl (o : Out) : (s.emitOut o).isl = s.isl := rfl
@[simp] theorem State.emitOut_eng (o : Out) : (s.emitOut o).eng = s.eng := rfl
@[simp] theorem State.emitOut_ctx (o : Out) : (s.emitOut o).ctx = s.ctx := rfl
@[simp] theorem State.emitOut_lag (o : Out) : (s.emitOut o).lag = s.lag := rfl
@[simp] theorem State.emitOut_comp (o : Out) : (s.emitOut o).comp = s.comp := rfl
@[simp] theorem State.emitOut_link (o : Out) : (s.emitOut o).link = s.link := rfl
@[simp] theorem State.emitOut_host (o : Out) : (s.emitOut o).host = s.host := rfl
@[simp] theorem State.emitOut_mem (o : Out) : (s.emitOut o).mem = s.mem := rfl
@[simp] theorem State.emitOut_triad (o : Out) : (s.emitOut o).triad = s.triad := rfl
@[simp] theorem State.emitOut_emit (o : Out) : (s.emitOut o).emit = s.emit := rfl
@[simp] theorem State.emitOut_sec (o : Out) : (s.emitOut o).sec = s.sec := rfl
@[simp] theorem State.emitOut_perf (o : Out) : (s.emitOut o).perf = s.perf := rfl
@[simp] theorem State.emitOut_seqs (o : Out) : (s.emitOut o).seqs = s.seqs := rfl

end Sys2Proof.Machine
end

