-- ==== Sys2Proof/Laws/Frames.lean ====
section
/-! SUPPORT. Which part of the state each named update may change. -/

namespace Sys2Proof

open Machine

theorem updChan_only (s : State) (c : Nat) (f : Chan → Chan) : Only [.ch] s (s.updChan c f) :=
  ⟨rfl, fun p hp => by cases p <;> first | exact absurd (by decide) hp | rfl | exact ⟨rfl, rfl⟩⟩

theorem updIsland_only (s : State) (i : Nat) (f : Island → Island) : Only [.isl] s (s.updIsland i f) :=
  ⟨rfl, fun p hp => by cases p <;> first | exact absurd (by decide) hp | rfl | exact ⟨rfl, rfl⟩⟩

theorem updEngine_only (s : State) (e : Nat) (f : Machine.Eng → Machine.Eng) : Only [.eng] s (s.updEngine e f) :=
  ⟨rfl, fun p hp => by cases p <;> first | exact absurd (by decide) hp | rfl | exact ⟨rfl, rfl⟩⟩

theorem updLane_only (s : State) (l : Nat) (f : Lane → Lane) : Only [.link] s (s.updLane l f) :=
  ⟨rfl, fun p hp => by cases p <;> first | exact absurd (by decide) hp | rfl | exact ⟨rfl, rfl⟩⟩

theorem updPort_only (s : State) (p : Nat) (f : Port → Port) : Only [.link] s (s.updPort p f) :=
  ⟨rfl, fun p hp => by cases p <;> first | exact absurd (by decide) hp | rfl | exact ⟨rfl, rfl⟩⟩

theorem updDev_only (s : State) (f : LinkDev → LinkDev) : Only [.link] s (s.updDev f) :=
  ⟨rfl, fun p hp => by cases p <;> first | exact absurd (by decide) hp | rfl | exact ⟨rfl, rfl⟩⟩

theorem updCmdq_only (s : State) (m : Nat) (f : CmdQ → CmdQ) : Only [.cmd] s (s.updCmdq m f) :=
  ⟨rfl, fun p hp => by cases p <;> first | exact absurd (by decide) hp | rfl | exact ⟨rfl, rfl⟩⟩

theorem updQueue_only (s : State) (q : Nat) (f : LQueue → LQueue) : Only [.lag] s (s.updQueue q f) :=
  ⟨rfl, fun p hp => by cases p <;> first | exact absurd (by decide) hp | rfl | exact ⟨rfl, rfl⟩⟩

theorem updStream_only (s : State) (k : Nat) (f : LStream → LStream) : Only [.lag] s (s.updStream k f) :=
  ⟨rfl, fun p hp => by cases p <;> first | exact absurd (by decide) hp | rfl | exact ⟨rfl, rfl⟩⟩

theorem updPf_only (s : State) (m : Nat) (f : Pf → Pf) : Only [.host] s (s.updPf m f) :=
  ⟨rfl, fun p hp => by cases p <;> first | exact absurd (by decide) hp | rfl | exact ⟨rfl, rfl⟩⟩

theorem updRing_only (s : State) (r : Nat) (f : HRing → HRing) : Only [.host] s (s.updRing r f) :=
  ⟨rfl, fun p hp => by cases p <;> first | exact absurd (by decide) hp | rfl | exact ⟨rfl, rfl⟩⟩

theorem updBank_only (s : State) (n : Nat) (f : Bank → Bank) : Only [.mem] s (s.updBank n f) :=
  ⟨rfl, fun p hp => by cases p <;> first | exact absurd (by decide) hp | rfl | exact ⟨rfl, rfl⟩⟩

theorem updMember_only (s : State) (n : Nat) (f : Member → Member) : Only [.triad] s (s.updMember n f) :=
  ⟨rfl, fun p hp => by cases p <;> first | exact absurd (by decide) hp | rfl | exact ⟨rfl, rfl⟩⟩

theorem updEmitter_only (s : State) (n : Nat) (f : Emitter → Emitter) : Only [.emit] s (s.updEmitter n f) :=
  ⟨rfl, fun p hp => by cases p <;> first | exact absurd (by decide) hp | rfl | exact ⟨rfl, rfl⟩⟩

theorem updSeqr_only (s : State) (f : Nat) (g : Seqr → Seqr) : Only [.fl] s (s.updSeqr f g) :=
  ⟨rfl, fun p hp => by cases p <;> first | exact absurd (by decide) hp | rfl | exact ⟨rfl, rfl⟩⟩

theorem updCtx_only (s : State) (i : Nat) (f : Ctx → Ctx) : Only [.ctx] s (s.updCtx i f) :=
  ⟨rfl, fun p hp => by cases p <;> first | exact absurd (by decide) hp | rfl | exact ⟨rfl, rfl⟩⟩

theorem updQtz_only (s : State) (f : Quartz → Quartz) : Only [.qtz] s (s.updQtz f) :=
  ⟨rfl, fun p hp => by cases p <;> first | exact absurd (by decide) hp | rfl | exact ⟨rfl, rfl⟩⟩

theorem updProbe_only (s : State) (p : Nat) (f : ProbePort → ProbePort) : Only [.qtz] s (s.updProbe p f) :=
  ⟨rfl, fun p hp => by cases p <;> first | exact absurd (by decide) hp | rfl | exact ⟨rfl, rfl⟩⟩

theorem updLag_only (s : State) (f : Lagoon → Lagoon) : Only [.lag] s (s.updLag f) :=
  ⟨rfl, fun p hp => by cases p <;> first | exact absurd (by decide) hp | rfl | exact ⟨rfl, rfl⟩⟩

theorem updComp_only (s : State) (f : Comp → Comp) : Only [.comp] s (s.updComp f) :=
  ⟨rfl, fun p hp => by cases p <;> first | exact absurd (by decide) hp | rfl | exact ⟨rfl, rfl⟩⟩

theorem updFl_only (s : State) (f : Flint → Flint) : Only [.fl] s (s.updFl f) :=
  ⟨rfl, fun p hp => by cases p <;> first | exact absurd (by decide) hp | rfl | exact ⟨rfl, rfl⟩⟩

theorem updHk_only (s : State) (f : Hk → Hk) : Only [.hk] s (s.updHk f) :=
  ⟨rfl, fun p hp => by cases p <;> first | exact absurd (by decide) hp | rfl | exact ⟨rfl, rfl⟩⟩

theorem updRef_only (s : State) (f : RefMon → RefMon) : Only [.ref] s (s.updRef f) :=
  ⟨rfl, fun p hp => by cases p <;> first | exact absurd (by decide) hp | rfl | exact ⟨rfl, rfl⟩⟩

theorem updOwn_only (s : State) (f : Own → Own) : Only [.own] s (s.updOwn f) :=
  ⟨rfl, fun p hp => by cases p <;> first | exact absurd (by decide) hp | rfl | exact ⟨rfl, rfl⟩⟩

theorem updCmd_only (s : State) (f : Cmd → Cmd) : Only [.cmd] s (s.updCmd f) :=
  ⟨rfl, fun p hp => by cases p <;> first | exact absurd (by decide) hp | rfl | exact ⟨rfl, rfl⟩⟩

theorem updBus_only (s : State) (f : Bus → Bus) : Only [.bus] s (s.updBus f) :=
  ⟨rfl, fun p hp => by cases p <;> first | exact absurd (by decide) hp | rfl | exact ⟨rfl, rfl⟩⟩

theorem updMem_only (s : State) (f : Mem → Mem) : Only [.mem] s (s.updMem f) :=
  ⟨rfl, fun p hp => by cases p <;> first | exact absurd (by decide) hp | rfl | exact ⟨rfl, rfl⟩⟩

theorem updHost_only (s : State) (f : HostIf → HostIf) : Only [.host] s (s.updHost f) :=
  ⟨rfl, fun p hp => by cases p <;> first | exact absurd (by decide) hp | rfl | exact ⟨rfl, rfl⟩⟩

theorem updTriad_only (s : State) (f : Triad → Triad) : Only [.triad] s (s.updTriad f) :=
  ⟨rfl, fun p hp => by cases p <;> first | exact absurd (by decide) hp | rfl | exact ⟨rfl, rfl⟩⟩

theorem updEmit_only (s : State) (f : Emit → Emit) : Only [.emit] s (s.updEmit f) :=
  ⟨rfl, fun p hp => by cases p <;> first | exact absurd (by decide) hp | rfl | exact ⟨rfl, rfl⟩⟩

theorem updSec_only (s : State) (f : Sec → Sec) : Only [.sec] s (s.updSec f) :=
  ⟨rfl, fun p hp => by cases p <;> first | exact absurd (by decide) hp | rfl | exact ⟨rfl, rfl⟩⟩

theorem updStart_only (s : State) (f : Start → Start) : Only [.sec] s (s.updStart f) :=
  ⟨rfl, fun p hp => by cases p <;> first | exact absurd (by decide) hp | rfl | exact ⟨rfl, rfl⟩⟩

theorem updPerf_only (s : State) (f : Perf → Perf) : Only [.perf] s (s.updPerf f) :=
  ⟨rfl, fun p hp => by cases p <;> first | exact absurd (by decide) hp | rfl | exact ⟨rfl, rfl⟩⟩

theorem updCtxs_only (s : State) (f : CtxStore → CtxStore) : Only [.ctx] s (s.updCtxs f) :=
  ⟨rfl, fun p hp => by cases p <;> first | exact absurd (by decide) hp | rfl | exact ⟨rfl, rfl⟩⟩

theorem updCyc_only (s : State) (a : Nat) (f : Cyc → Cyc) : Only [.regs] s (s.updCyc a f) :=
  ⟨rfl, fun p hp => by cases p <;> first | exact absurd (by decide) hp | rfl | exact ⟨rfl, rfl⟩⟩

end Sys2Proof
end

