-- ==== Sys2Proof/Laws/Map.lean ====
section
/-! SUPPORT. Laws of sparse maps: a read after a write, and the canonical form that every write keeps. -/

namespace Sys2Proof.Machine

variable {α : Type}

@[simp] theorem mget_minsert_same (d : α) (m : SMap α) (k : Nat) (v : α) : mget d (minsert k v m) k = v := by
  induction m with
  | nil => simp [minsert, mget]
  | cons p m ih =>
    obtain ⟨k', v'⟩ := p
    unfold minsert
    split
    · simp [mget]
    · split
      · simp [mget]
      · rename_i h; simp [mget, h, ih]

theorem mget_minsert_other (d : α) (m : SMap α) {k j : Nat} (v : α) (h : j ≠ k) :
    mget d (minsert k v m) j = mget d m j := by
  induction m with
  | nil => simp [minsert, mget, h]
  | cons p m ih =>
    obtain ⟨k', v'⟩ := p
    unfold minsert
    split
    · simp [mget, h]
    · split
      · rename_i h'; subst h'; simp [mget, h]
      · simp [mget, ih]

@[simp] theorem mget_merase_same (d : α) (m : SMap α) (k : Nat) : mget d (merase k m) k = d := by
  induction m with
  | nil => rfl
  | cons p m ih =>
    obtain ⟨k', v'⟩ := p
    unfold merase at ih ⊢
    by_cases h : k' = k
    · simp [h, ih]
    · simp [h, mget, Ne.symm h, ih]

theorem mget_merase_other (d : α) (m : SMap α) {k j : Nat} (h : j ≠ k) : mget d (merase k m) j = mget d m j := by
  induction m with
  | nil => rfl
  | cons p m ih =>
    obtain ⟨k', v'⟩ := p
    unfold merase at ih ⊢
    by_cases h' : k' = k
    · subst h'; simp [mget, h, ih]
    · simp [h', mget, ih]

variable [DecidableEq α]

/-- A read of the key written gives the value written. -/
@[simp] theorem mget_mput_same (d : α) (m : SMap α) (k : Nat) (v : α) : mget d (mput d m k v) k = v := by
  unfold mput
  split
  · rename_i h; simp [h]
  · simp

/-- A write leaves every other key alone. -/
theorem mget_mput_other (d : α) (m : SMap α) {k j : Nat} (v : α) (h : j ≠ k) : mget d (mput d m k v) j = mget d m j := by
  unfold mput
  split
  · exact mget_merase_other d m h
  · exact mget_minsert_other d m v h

/-- A read of another key does not depend on which default the write uses. -/
theorem mget_mput_ne (d d' : α) (m : SMap α) {k j : Nat} (v : α) (h : j ≠ k) : mget d (mput d' m k v) j = mget d m j := by
  unfold mput
  split
  · exact mget_merase_other d m h
  · exact mget_minsert_other d m v h

@[simp] theorem mget_mupd_same (d : α) (m : SMap α) (k : Nat) (f : α → α) : mget d (mupd d m k f) k = f (mget d m k) := by
  simp [mupd]

theorem mget_mupd_other (d : α) (m : SMap α) {k j : Nat} (f : α → α) (h : j ≠ k) : mget d (mupd d m k f) j = mget d m j :=
  mget_mput_other d m _ h

/-! ## The canonical form -/

theorem mem_minsert {m : SMap α} {k : Nat} {v : α} {p : Nat × α} (h : p ∈ minsert k v m) : p = (k, v) ∨ p ∈ m := by
  induction m with
  | nil => simpa [minsert] using h
  | cons q m ih =>
    obtain ⟨k', v'⟩ := q
    unfold minsert at h
    split at h
    · simpa using h
    · split at h
      · rcases List.mem_cons.mp h with h | h
        · exact .inl h
        · exact .inr (List.mem_cons_of_mem _ h)
      · rcases List.mem_cons.mp h with h | h
        · exact .inr (h ▸ List.mem_cons_self)
        · rcases ih h with h | h
          · exact .inl h
          · exact .inr (List.mem_cons_of_mem _ h)

theorem minsert_sorted {m : SMap α} {k : Nat} {v : α} (h : m.Pairwise (fun p q => p.1 < q.1)) :
    (minsert k v m).Pairwise (fun p q => p.1 < q.1) := by
  induction m with
  | nil => simp [minsert]
  | cons q m ih =>
    obtain ⟨k', v'⟩ := q
    have hm := (List.pairwise_cons.mp h)
    unfold minsert
    split
    · rename_i hk
      refine List.pairwise_cons.mpr ⟨?_, h⟩
      intro p hp
      rcases List.mem_cons.mp hp with rfl | hp
      · exact hk
      · exact Nat.lt_trans hk (hm.1 p hp)
    · split
      · rename_i hk; subst hk; exact List.pairwise_cons.mpr ⟨hm.1, hm.2⟩
      · rename_i h1 h2
        refine List.pairwise_cons.mpr ⟨?_, ih hm.2⟩
        intro p hp
        rcases mem_minsert hp with rfl | hp
        · show k' < k
          omega
        · exact hm.1 p hp

/-- A write keeps the canonical form. -/
theorem mwf_mput {d : Nat → α} {m : SMap α} (h : mwf d m) (k : Nat) (v : α) : mwf d (mput (d k) m k v) := by
  unfold mput
  split
  · exact ⟨h.1.filter _, fun p hp => h.2 p ((List.mem_filter.mp hp).1)⟩
  · rename_i hv
    refine ⟨minsert_sorted h.1, fun p hp => ?_⟩
    rcases mem_minsert hp with rfl | hp
    · exact hv
    · exact h.2 p hp

theorem mwf_mupd {d : Nat → α} {m : SMap α} (h : mwf d m) (k : Nat) (f : α → α) : mwf d (mupd (d k) m k f) :=
  mwf_mput h k _

theorem mwf_filter {d : Nat → α} {m : SMap α} (h : mwf d m) (p : Nat × α → Bool) : mwf d (m.filter p) :=
  ⟨h.1.filter _, fun q hq => h.2 q ((List.mem_filter.mp hq).1)⟩

theorem mwf_nil (d : Nat → α) : mwf d ([] : SMap α) := ⟨List.Pairwise.nil, fun _ h => absurd h (by simp)⟩

/-- Writing bytes keeps the canonical form of a memory. -/
theorem mwf_putBytes {m : SMap (BitVec 8)} (h : mwf (fun _ => 0) m) (a : Nat) (l : List (BitVec 8)) :
    mwf (fun _ => 0) (putBytes m a l) := by
  induction l generalizing m a with
  | nil => exact h
  | cons b l ih => exact ih (mwf_mput h a b) (a + 1)

theorem mwf_zeroBytes {m : SMap (BitVec 8)} (h : mwf (fun _ => 0) m) (a n : Nat) : mwf (fun _ => 0) (zeroBytes m a n) :=
  mwf_filter h _

/-- Bytes outside those written read as before. -/
theorem mget_putBytes_other (m : SMap (BitVec 8)) (a : Nat) (l : List (BitVec 8)) {j : Nat} (h : j < a ∨ a + l.length ≤ j) :
    mget 0 (putBytes m a l) j = mget 0 m j := by
  induction l generalizing m a with
  | nil => rfl
  | cons b l ih =>
    have hl : (b :: l).length = l.length + 1 := rfl
    have hj : j ≠ a := by omega
    rw [putBytes, ih (mput 0 m a b) (a + 1) (by omega), mget_mput_other _ _ _ hj]

/-- The bytes written are read back. -/
theorem mget_putBytes_same (m : SMap (BitVec 8)) (a : Nat) (l : List (BitVec 8)) {i : Nat} (h : i < l.length) :
    mget 0 (putBytes m a l) (a + i) = l[i] := by
  induction l generalizing m a i with
  | nil => simp at h
  | cons b l ih =>
    cases i with
    | zero => rw [putBytes, Nat.add_zero, mget_putBytes_other _ _ _ (.inl (by omega))]; simp
    | succ i =>
      have := ih (mput 0 m a b) (a + 1) (i := i) (by simpa using h)
      rw [putBytes]
      simpa [Nat.add_assoc, Nat.add_comm 1 i] using this

end Sys2Proof.Machine
end

