-- ==== Sys2Proof/Laws/Units.lean ====
section
/-! SUPPORT. A unit or a register read after an update: the one updated, and every other. -/

namespace Sys2Proof.Machine

variable (s : State)


@[simp] theorem State.chan_updChan (k : Nat) (f : Chan → Chan) : (s.updChan k f).chan k = f (s.chan k) := by simp [State.chan, State.updChan]
theorem State.chan_updChan_other {k j : Nat} (f : Chan → Chan) (h : j ≠ k) : (s.updChan k f).chan j = s.chan j := by
  simp only [State.chan, State.updChan, mupd]; exact mget_mput_ne _ _ _ _ h
@[simp] theorem State.chan_updIsland (i : Nat) (f : Island → Island) (j : Nat) : (s.updIsland i f).chan j = s.chan j := rfl
@[simp] theorem State.chan_updEngine (e : Nat) (f : Eng → Eng) (j : Nat) : (s.updEngine e f).chan j = s.chan j := rfl
@[simp] theorem State.chan_updLane (l : Nat) (f : Lane → Lane) (j : Nat) : (s.updLane l f).chan j = s.chan j := rfl
@[simp] theorem State.chan_updPort (p : Nat) (f : Port → Port) (j : Nat) : (s.updPort p f).chan j = s.chan j := rfl
@[simp] theorem State.chan_updDev (f : LinkDev → LinkDev) (j : Nat) : (s.updDev f).chan j = s.chan j := rfl
@[simp] theorem State.chan_updCmdq (m : Nat) (f : CmdQ → CmdQ) (j : Nat) : (s.updCmdq m f).chan j = s.chan j := rfl
@[simp] theorem State.chan_updQueue (q : Nat) (f : LQueue → LQueue) (j : Nat) : (s.updQueue q f).chan j = s.chan j := rfl
@[simp] theorem State.chan_updStream (k : Nat) (f : LStream → LStream) (j : Nat) : (s.updStream k f).chan j = s.chan j := rfl
@[simp] theorem State.chan_updPf (m : Nat) (f : Pf → Pf) (j : Nat) : (s.updPf m f).chan j = s.chan j := rfl
@[simp] theorem State.chan_updRing (r : Nat) (f : HRing → HRing) (j : Nat) : (s.updRing r f).chan j = s.chan j := rfl
@[simp] theorem State.chan_updBank (n : Nat) (f : Bank → Bank) (j : Nat) : (s.updBank n f).chan j = s.chan j := rfl
@[simp] theorem State.chan_updMember (n : Nat) (f : Member → Member) (j : Nat) : (s.updMember n f).chan j = s.chan j := rfl
@[simp] theorem State.chan_updEmitter (n : Nat) (f : Emitter → Emitter) (j : Nat) : (s.updEmitter n f).chan j = s.chan j := rfl
@[simp] theorem State.chan_updSeqr (f : Nat) (g : Seqr → Seqr) (j : Nat) : (s.updSeqr f g).chan j = s.chan j := rfl
@[simp] theorem State.chan_updCtx (i : Nat) (f : Ctx → Ctx) (j : Nat) : (s.updCtx i f).chan j = s.chan j := rfl
@[simp] theorem State.chan_updQtz (f : Quartz → Quartz) (j : Nat) : (s.updQtz f).chan j = s.chan j := rfl
@[simp] theorem State.chan_updProbe (p : Nat) (f : ProbePort → ProbePort) (j : Nat) : (s.updProbe p f).chan j = s.chan j := rfl
@[simp] theorem State.chan_updLag (f : Lagoon → Lagoon) (j : Nat) : (s.updLag f).chan j = s.chan j := rfl
@[simp] theorem State.chan_updComp (f : Comp → Comp) (j : Nat) : (s.updComp f).chan j = s.chan j := rfl
@[simp] theorem State.chan_updFl (f : Flint → Flint) (j : Nat) : (s.updFl f).chan j = s.chan j := rfl
@[simp] theorem State.chan_updHk (f : Hk → Hk) (j : Nat) : (s.updHk f).chan j = s.chan j := rfl
@[simp] theorem State.chan_updRef (f : RefMon → RefMon) (j : Nat) : (s.updRef f).chan j = s.chan j := rfl
@[simp] theorem State.chan_updOwn (f : Own → Own) (j : Nat) : (s.updOwn f).chan j = s.chan j := rfl
@[simp] theorem State.chan_updCmd (f : Cmd → Cmd) (j : Nat) : (s.updCmd f).chan j = s.chan j := rfl
@[simp] theorem State.chan_updBus (f : Bus → Bus) (j : Nat) : (s.updBus f).chan j = s.chan j := rfl
@[simp] theorem State.chan_updMem (f : Mem → Mem) (j : Nat) : (s.updMem f).chan j = s.chan j := rfl
@[simp] theorem State.chan_updHost (f : HostIf → HostIf) (j : Nat) : (s.updHost f).chan j = s.chan j := rfl
@[simp] theorem State.chan_updTriad (f : Triad → Triad) (j : Nat) : (s.updTriad f).chan j = s.chan j := rfl
@[simp] theorem State.chan_updEmit (f : Emit → Emit) (j : Nat) : (s.updEmit f).chan j = s.chan j := rfl
@[simp] theorem State.chan_updSec (f : Sec → Sec) (j : Nat) : (s.updSec f).chan j = s.chan j := rfl
@[simp] theorem State.chan_updStart (f : Start → Start) (j : Nat) : (s.updStart f).chan j = s.chan j := rfl
@[simp] theorem State.chan_updPerf (f : Perf → Perf) (j : Nat) : (s.updPerf f).chan j = s.chan j := rfl
@[simp] theorem State.chan_updCtxs (f : CtxStore → CtxStore) (j : Nat) : (s.updCtxs f).chan j = s.chan j := rfl
@[simp] theorem State.chan_updCyc (a : Nat) (f : Cyc → Cyc) (j : Nat) : (s.updCyc a f).chan j = s.chan j := rfl
@[simp] theorem State.chan_rset (a : Nat) (w : Word) (j : Nat) : (s.rset a w).chan j = s.chan j := rfl
@[simp] theorem State.chan_emitOut (o : Out) (j : Nat) : (s.emitOut o).chan j = s.chan j := rfl

@[simp] theorem State.island_updIsland (k : Nat) (f : Island → Island) : (s.updIsland k f).island k = f (s.island k) := by simp [State.island, State.updIsland]
theorem State.island_updIsland_other {k j : Nat} (f : Island → Island) (h : j ≠ k) : (s.updIsland k f).island j = s.island j := by
  simp only [State.island, State.updIsland, mupd]; exact mget_mput_ne _ _ _ _ h
@[simp] theorem State.island_updChan (c : Nat) (f : Chan → Chan) (j : Nat) : (s.updChan c f).island j = s.island j := rfl
@[simp] theorem State.island_updEngine (e : Nat) (f : Eng → Eng) (j : Nat) : (s.updEngine e f).island j = s.island j := rfl
@[simp] theorem State.island_updLane (l : Nat) (f : Lane → Lane) (j : Nat) : (s.updLane l f).island j = s.island j := rfl
@[simp] theorem State.island_updPort (p : Nat) (f : Port → Port) (j : Nat) : (s.updPort p f).island j = s.island j := rfl
@[simp] theorem State.island_updDev (f : LinkDev → LinkDev) (j : Nat) : (s.updDev f).island j = s.island j := rfl
@[simp] theorem State.island_updCmdq (m : Nat) (f : CmdQ → CmdQ) (j : Nat) : (s.updCmdq m f).island j = s.island j := rfl
@[simp] theorem State.island_updQueue (q : Nat) (f : LQueue → LQueue) (j : Nat) : (s.updQueue q f).island j = s.island j := rfl
@[simp] theorem State.island_updStream (k : Nat) (f : LStream → LStream) (j : Nat) : (s.updStream k f).island j = s.island j := rfl
@[simp] theorem State.island_updPf (m : Nat) (f : Pf → Pf) (j : Nat) : (s.updPf m f).island j = s.island j := rfl
@[simp] theorem State.island_updRing (r : Nat) (f : HRing → HRing) (j : Nat) : (s.updRing r f).island j = s.island j := rfl
@[simp] theorem State.island_updBank (n : Nat) (f : Bank → Bank) (j : Nat) : (s.updBank n f).island j = s.island j := rfl
@[simp] theorem State.island_updMember (n : Nat) (f : Member → Member) (j : Nat) : (s.updMember n f).island j = s.island j := rfl
@[simp] theorem State.island_updEmitter (n : Nat) (f : Emitter → Emitter) (j : Nat) : (s.updEmitter n f).island j = s.island j := rfl
@[simp] theorem State.island_updSeqr (f : Nat) (g : Seqr → Seqr) (j : Nat) : (s.updSeqr f g).island j = s.island j := rfl
@[simp] theorem State.island_updCtx (i : Nat) (f : Ctx → Ctx) (j : Nat) : (s.updCtx i f).island j = s.island j := rfl
@[simp] theorem State.island_updQtz (f : Quartz → Quartz) (j : Nat) : (s.updQtz f).island j = s.island j := rfl
@[simp] theorem State.island_updProbe (p : Nat) (f : ProbePort → ProbePort) (j : Nat) : (s.updProbe p f).island j = s.island j := rfl
@[simp] theorem State.island_updLag (f : Lagoon → Lagoon) (j : Nat) : (s.updLag f).island j = s.island j := rfl
@[simp] theorem State.island_updComp (f : Comp → Comp) (j : Nat) : (s.updComp f).island j = s.island j := rfl
@[simp] theorem State.island_updFl (f : Flint → Flint) (j : Nat) : (s.updFl f).island j = s.island j := rfl
@[simp] theorem State.island_updHk (f : Hk → Hk) (j : Nat) : (s.updHk f).island j = s.island j := rfl
@[simp] theorem State.island_updRef (f : RefMon → RefMon) (j : Nat) : (s.updRef f).island j = s.island j := rfl
@[simp] theorem State.island_updOwn (f : Own → Own) (j : Nat) : (s.updOwn f).island j = s.island j := rfl
@[simp] theorem State.island_updCmd (f : Cmd → Cmd) (j : Nat) : (s.updCmd f).island j = s.island j := rfl
@[simp] theorem State.island_updBus (f : Bus → Bus) (j : Nat) : (s.updBus f).island j = s.island j := rfl
@[simp] theorem State.island_updMem (f : Mem → Mem) (j : Nat) : (s.updMem f).island j = s.island j := rfl
@[simp] theorem State.island_updHost (f : HostIf → HostIf) (j : Nat) : (s.updHost f).island j = s.island j := rfl
@[simp] theorem State.island_updTriad (f : Triad → Triad) (j : Nat) : (s.updTriad f).island j = s.island j := rfl
@[simp] theorem State.island_updEmit (f : Emit → Emit) (j : Nat) : (s.updEmit f).island j = s.island j := rfl
@[simp] theorem State.island_updSec (f : Sec → Sec) (j : Nat) : (s.updSec f).island j = s.island j := rfl
@[simp] theorem State.island_updStart (f : Start → Start) (j : Nat) : (s.updStart f).island j = s.island j := rfl
@[simp] theorem State.island_updPerf (f : Perf → Perf) (j : Nat) : (s.updPerf f).island j = s.island j := rfl
@[simp] theorem State.island_updCtxs (f : CtxStore → CtxStore) (j : Nat) : (s.updCtxs f).island j = s.island j := rfl
@[simp] theorem State.island_updCyc (a : Nat) (f : Cyc → Cyc) (j : Nat) : (s.updCyc a f).island j = s.island j := rfl
@[simp] theorem State.island_rset (a : Nat) (w : Word) (j : Nat) : (s.rset a w).island j = s.island j := rfl
@[simp] theorem State.island_emitOut (o : Out) (j : Nat) : (s.emitOut o).island j = s.island j := rfl

@[simp] theorem State.engine_updEngine (k : Nat) (f : Eng → Eng) : (s.updEngine k f).engine k = f (s.engine k) := by simp [State.engine, State.updEngine]
theorem State.engine_updEngine_other {k j : Nat} (f : Eng → Eng) (h : j ≠ k) : (s.updEngine k f).engine j = s.engine j := by
  simp only [State.engine, State.updEngine, mupd]; exact mget_mput_ne _ _ _ _ h
@[simp] theorem State.engine_updChan (c : Nat) (f : Chan → Chan) (j : Nat) : (s.updChan c f).engine j = s.engine j := rfl
@[simp] theorem State.engine_updIsland (i : Nat) (f : Island → Island) (j : Nat) : (s.updIsland i f).engine j = s.engine j := rfl
@[simp] theorem State.engine_updLane (l : Nat) (f : Lane → Lane) (j : Nat) : (s.updLane l f).engine j = s.engine j := rfl
@[simp] theorem State.engine_updPort (p : Nat) (f : Port → Port) (j : Nat) : (s.updPort p f).engine j = s.engine j := rfl
@[simp] theorem State.engine_updDev (f : LinkDev → LinkDev) (j : Nat) : (s.updDev f).engine j = s.engine j := rfl
@[simp] theorem State.engine_updCmdq (m : Nat) (f : CmdQ → CmdQ) (j : Nat) : (s.updCmdq m f).engine j = s.engine j := rfl
@[simp] theorem State.engine_updQueue (q : Nat) (f : LQueue → LQueue) (j : Nat) : (s.updQueue q f).engine j = s.engine j := rfl
@[simp] theorem State.engine_updStream (k : Nat) (f : LStream → LStream) (j : Nat) : (s.updStream k f).engine j = s.engine j := rfl
@[simp] theorem State.engine_updPf (m : Nat) (f : Pf → Pf) (j : Nat) : (s.updPf m f).engine j = s.engine j := rfl
@[simp] theorem State.engine_updRing (r : Nat) (f : HRing → HRing) (j : Nat) : (s.updRing r f).engine j = s.engine j := rfl
@[simp] theorem State.engine_updBank (n : Nat) (f : Bank → Bank) (j : Nat) : (s.updBank n f).engine j = s.engine j := rfl
@[simp] theorem State.engine_updMember (n : Nat) (f : Member → Member) (j : Nat) : (s.updMember n f).engine j = s.engine j := rfl
@[simp] theorem State.engine_updEmitter (n : Nat) (f : Emitter → Emitter) (j : Nat) : (s.updEmitter n f).engine j = s.engine j := rfl
@[simp] theorem State.engine_updSeqr (f : Nat) (g : Seqr → Seqr) (j : Nat) : (s.updSeqr f g).engine j = s.engine j := rfl
@[simp] theorem State.engine_updCtx (i : Nat) (f : Ctx → Ctx) (j : Nat) : (s.updCtx i f).engine j = s.engine j := rfl
@[simp] theorem State.engine_updQtz (f : Quartz → Quartz) (j : Nat) : (s.updQtz f).engine j = s.engine j := rfl
@[simp] theorem State.engine_updProbe (p : Nat) (f : ProbePort → ProbePort) (j : Nat) : (s.updProbe p f).engine j = s.engine j := rfl
@[simp] theorem State.engine_updLag (f : Lagoon → Lagoon) (j : Nat) : (s.updLag f).engine j = s.engine j := rfl
@[simp] theorem State.engine_updComp (f : Comp → Comp) (j : Nat) : (s.updComp f).engine j = s.engine j := rfl
@[simp] theorem State.engine_updFl (f : Flint → Flint) (j : Nat) : (s.updFl f).engine j = s.engine j := rfl
@[simp] theorem State.engine_updHk (f : Hk → Hk) (j : Nat) : (s.updHk f).engine j = s.engine j := rfl
@[simp] theorem State.engine_updRef (f : RefMon → RefMon) (j : Nat) : (s.updRef f).engine j = s.engine j := rfl
@[simp] theorem State.engine_updOwn (f : Own → Own) (j : Nat) : (s.updOwn f).engine j = s.engine j := rfl
@[simp] theorem State.engine_updCmd (f : Cmd → Cmd) (j : Nat) : (s.updCmd f).engine j = s.engine j := rfl
@[simp] theorem State.engine_updBus (f : Bus → Bus) (j : Nat) : (s.updBus f).engine j = s.engine j := rfl
@[simp] theorem State.engine_updMem (f : Mem → Mem) (j : Nat) : (s.updMem f).engine j = s.engine j := rfl
@[simp] theorem State.engine_updHost (f : HostIf → HostIf) (j : Nat) : (s.updHost f).engine j = s.engine j := rfl
@[simp] theorem State.engine_updTriad (f : Triad → Triad) (j : Nat) : (s.updTriad f).engine j = s.engine j := rfl
@[simp] theorem State.engine_updEmit (f : Emit → Emit) (j : Nat) : (s.updEmit f).engine j = s.engine j := rfl
@[simp] theorem State.engine_updSec (f : Sec → Sec) (j : Nat) : (s.updSec f).engine j = s.engine j := rfl
@[simp] theorem State.engine_updStart (f : Start → Start) (j : Nat) : (s.updStart f).engine j = s.engine j := rfl
@[simp] theorem State.engine_updPerf (f : Perf → Perf) (j : Nat) : (s.updPerf f).engine j = s.engine j := rfl
@[simp] theorem State.engine_updCtxs (f : CtxStore → CtxStore) (j : Nat) : (s.updCtxs f).engine j = s.engine j := rfl
@[simp] theorem State.engine_updCyc (a : Nat) (f : Cyc → Cyc) (j : Nat) : (s.updCyc a f).engine j = s.engine j := rfl
@[simp] theorem State.engine_rset (a : Nat) (w : Word) (j : Nat) : (s.rset a w).engine j = s.engine j := rfl
@[simp] theorem State.engine_emitOut (o : Out) (j : Nat) : (s.emitOut o).engine j = s.engine j := rfl

@[simp] theorem State.lane_updLane (k : Nat) (f : Lane → Lane) : (s.updLane k f).lane k = f (s.lane k) := by simp [State.lane, State.updLane]
theorem State.lane_updLane_other {k j : Nat} (f : Lane → Lane) (h : j ≠ k) : (s.updLane k f).lane j = s.lane j := by
  simp only [State.lane, State.updLane, mupd]; exact mget_mput_ne _ _ _ _ h
@[simp] theorem State.lane_updChan (c : Nat) (f : Chan → Chan) (j : Nat) : (s.updChan c f).lane j = s.lane j := rfl
@[simp] theorem State.lane_updIsland (i : Nat) (f : Island → Island) (j : Nat) : (s.updIsland i f).lane j = s.lane j := rfl
@[simp] theorem State.lane_updEngine (e : Nat) (f : Eng → Eng) (j : Nat) : (s.updEngine e f).lane j = s.lane j := rfl
@[simp] theorem State.lane_updPort (p : Nat) (f : Port → Port) (j : Nat) : (s.updPort p f).lane j = s.lane j := rfl
@[simp] theorem State.lane_updDev (f : LinkDev → LinkDev) (j : Nat) : (s.updDev f).lane j = s.lane j := rfl
@[simp] theorem State.lane_updCmdq (m : Nat) (f : CmdQ → CmdQ) (j : Nat) : (s.updCmdq m f).lane j = s.lane j := rfl
@[simp] theorem State.lane_updQueue (q : Nat) (f : LQueue → LQueue) (j : Nat) : (s.updQueue q f).lane j = s.lane j := rfl
@[simp] theorem State.lane_updStream (k : Nat) (f : LStream → LStream) (j : Nat) : (s.updStream k f).lane j = s.lane j := rfl
@[simp] theorem State.lane_updPf (m : Nat) (f : Pf → Pf) (j : Nat) : (s.updPf m f).lane j = s.lane j := rfl
@[simp] theorem State.lane_updRing (r : Nat) (f : HRing → HRing) (j : Nat) : (s.updRing r f).lane j = s.lane j := rfl
@[simp] theorem State.lane_updBank (n : Nat) (f : Bank → Bank) (j : Nat) : (s.updBank n f).lane j = s.lane j := rfl
@[simp] theorem State.lane_updMember (n : Nat) (f : Member → Member) (j : Nat) : (s.updMember n f).lane j = s.lane j := rfl
@[simp] theorem State.lane_updEmitter (n : Nat) (f : Emitter → Emitter) (j : Nat) : (s.updEmitter n f).lane j = s.lane j := rfl
@[simp] theorem State.lane_updSeqr (f : Nat) (g : Seqr → Seqr) (j : Nat) : (s.updSeqr f g).lane j = s.lane j := rfl
@[simp] theorem State.lane_updCtx (i : Nat) (f : Ctx → Ctx) (j : Nat) : (s.updCtx i f).lane j = s.lane j := rfl
@[simp] theorem State.lane_updQtz (f : Quartz → Quartz) (j : Nat) : (s.updQtz f).lane j = s.lane j := rfl
@[simp] theorem State.lane_updProbe (p : Nat) (f : ProbePort → ProbePort) (j : Nat) : (s.updProbe p f).lane j = s.lane j := rfl
@[simp] theorem State.lane_updLag (f : Lagoon → Lagoon) (j : Nat) : (s.updLag f).lane j = s.lane j := rfl
@[simp] theorem State.lane_updComp (f : Comp → Comp) (j : Nat) : (s.updComp f).lane j = s.lane j := rfl
@[simp] theorem State.lane_updFl (f : Flint → Flint) (j : Nat) : (s.updFl f).lane j = s.lane j := rfl
@[simp] theorem State.lane_updHk (f : Hk → Hk) (j : Nat) : (s.updHk f).lane j = s.lane j := rfl
@[simp] theorem State.lane_updRef (f : RefMon → RefMon) (j : Nat) : (s.updRef f).lane j = s.lane j := rfl
@[simp] theorem State.lane_updOwn (f : Own → Own) (j : Nat) : (s.updOwn f).lane j = s.lane j := rfl
@[simp] theorem State.lane_updCmd (f : Cmd → Cmd) (j : Nat) : (s.updCmd f).lane j = s.lane j := rfl
@[simp] theorem State.lane_updBus (f : Bus → Bus) (j : Nat) : (s.updBus f).lane j = s.lane j := rfl
@[simp] theorem State.lane_updMem (f : Mem → Mem) (j : Nat) : (s.updMem f).lane j = s.lane j := rfl
@[simp] theorem State.lane_updHost (f : HostIf → HostIf) (j : Nat) : (s.updHost f).lane j = s.lane j := rfl
@[simp] theorem State.lane_updTriad (f : Triad → Triad) (j : Nat) : (s.updTriad f).lane j = s.lane j := rfl
@[simp] theorem State.lane_updEmit (f : Emit → Emit) (j : Nat) : (s.updEmit f).lane j = s.lane j := rfl
@[simp] theorem State.lane_updSec (f : Sec → Sec) (j : Nat) : (s.updSec f).lane j = s.lane j := rfl
@[simp] theorem State.lane_updStart (f : Start → Start) (j : Nat) : (s.updStart f).lane j = s.lane j := rfl
@[simp] theorem State.lane_updPerf (f : Perf → Perf) (j : Nat) : (s.updPerf f).lane j = s.lane j := rfl
@[simp] theorem State.lane_updCtxs (f : CtxStore → CtxStore) (j : Nat) : (s.updCtxs f).lane j = s.lane j := rfl
@[simp] theorem State.lane_updCyc (a : Nat) (f : Cyc → Cyc) (j : Nat) : (s.updCyc a f).lane j = s.lane j := rfl
@[simp] theorem State.lane_rset (a : Nat) (w : Word) (j : Nat) : (s.rset a w).lane j = s.lane j := rfl
@[simp] theorem State.lane_emitOut (o : Out) (j : Nat) : (s.emitOut o).lane j = s.lane j := rfl

@[simp] theorem State.port_updPort (k : Nat) (f : Port → Port) : (s.updPort k f).port k = f (s.port k) := by simp [State.port, State.updPort]
theorem State.port_updPort_other {k j : Nat} (f : Port → Port) (h : j ≠ k) : (s.updPort k f).port j = s.port j := by
  simp only [State.port, State.updPort, mupd]; exact mget_mput_ne _ _ _ _ h
@[simp] theorem State.port_updChan (c : Nat) (f : Chan → Chan) (j : Nat) : (s.updChan c f).port j = s.port j := rfl
@[simp] theorem State.port_updIsland (i : Nat) (f : Island → Island) (j : Nat) : (s.updIsland i f).port j = s.port j := rfl
@[simp] theorem State.port_updEngine (e : Nat) (f : Eng → Eng) (j : Nat) : (s.updEngine e f).port j = s.port j := rfl
@[simp] theorem State.port_updLane (l : Nat) (f : Lane → Lane) (j : Nat) : (s.updLane l f).port j = s.port j := rfl
@[simp] theorem State.port_updDev (f : LinkDev → LinkDev) (j : Nat) : (s.updDev f).port j = s.port j := rfl
@[simp] theorem State.port_updCmdq (m : Nat) (f : CmdQ → CmdQ) (j : Nat) : (s.updCmdq m f).port j = s.port j := rfl
@[simp] theorem State.port_updQueue (q : Nat) (f : LQueue → LQueue) (j : Nat) : (s.updQueue q f).port j = s.port j := rfl
@[simp] theorem State.port_updStream (k : Nat) (f : LStream → LStream) (j : Nat) : (s.updStream k f).port j = s.port j := rfl
@[simp] theorem State.port_updPf (m : Nat) (f : Pf → Pf) (j : Nat) : (s.updPf m f).port j = s.port j := rfl
@[simp] theorem State.port_updRing (r : Nat) (f : HRing → HRing) (j : Nat) : (s.updRing r f).port j = s.port j := rfl
@[simp] theorem State.port_updBank (n : Nat) (f : Bank → Bank) (j : Nat) : (s.updBank n f).port j = s.port j := rfl
@[simp] theorem State.port_updMember (n : Nat) (f : Member → Member) (j : Nat) : (s.updMember n f).port j = s.port j := rfl
@[simp] theorem State.port_updEmitter (n : Nat) (f : Emitter → Emitter) (j : Nat) : (s.updEmitter n f).port j = s.port j := rfl
@[simp] theorem State.port_updSeqr (f : Nat) (g : Seqr → Seqr) (j : Nat) : (s.updSeqr f g).port j = s.port j := rfl
@[simp] theorem State.port_updCtx (i : Nat) (f : Ctx → Ctx) (j : Nat) : (s.updCtx i f).port j = s.port j := rfl
@[simp] theorem State.port_updQtz (f : Quartz → Quartz) (j : Nat) : (s.updQtz f).port j = s.port j := rfl
@[simp] theorem State.port_updProbe (p : Nat) (f : ProbePort → ProbePort) (j : Nat) : (s.updProbe p f).port j = s.port j := rfl
@[simp] theorem State.port_updLag (f : Lagoon → Lagoon) (j : Nat) : (s.updLag f).port j = s.port j := rfl
@[simp] theorem State.port_updComp (f : Comp → Comp) (j : Nat) : (s.updComp f).port j = s.port j := rfl
@[simp] theorem State.port_updFl (f : Flint → Flint) (j : Nat) : (s.updFl f).port j = s.port j := rfl
@[simp] theorem State.port_updHk (f : Hk → Hk) (j : Nat) : (s.updHk f).port j = s.port j := rfl
@[simp] theorem State.port_updRef (f : RefMon → RefMon) (j : Nat) : (s.updRef f).port j = s.port j := rfl
@[simp] theorem State.port_updOwn (f : Own → Own) (j : Nat) : (s.updOwn f).port j = s.port j := rfl
@[simp] theorem State.port_updCmd (f : Cmd → Cmd) (j : Nat) : (s.updCmd f).port j = s.port j := rfl
@[simp] theorem State.port_updBus (f : Bus → Bus) (j : Nat) : (s.updBus f).port j = s.port j := rfl
@[simp] theorem State.port_updMem (f : Mem → Mem) (j : Nat) : (s.updMem f).port j = s.port j := rfl
@[simp] theorem State.port_updHost (f : HostIf → HostIf) (j : Nat) : (s.updHost f).port j = s.port j := rfl
@[simp] theorem State.port_updTriad (f : Triad → Triad) (j : Nat) : (s.updTriad f).port j = s.port j := rfl
@[simp] theorem State.port_updEmit (f : Emit → Emit) (j : Nat) : (s.updEmit f).port j = s.port j := rfl
@[simp] theorem State.port_updSec (f : Sec → Sec) (j : Nat) : (s.updSec f).port j = s.port j := rfl
@[simp] theorem State.port_updStart (f : Start → Start) (j : Nat) : (s.updStart f).port j = s.port j := rfl
@[simp] theorem State.port_updPerf (f : Perf → Perf) (j : Nat) : (s.updPerf f).port j = s.port j := rfl
@[simp] theorem State.port_updCtxs (f : CtxStore → CtxStore) (j : Nat) : (s.updCtxs f).port j = s.port j := rfl
@[simp] theorem State.port_updCyc (a : Nat) (f : Cyc → Cyc) (j : Nat) : (s.updCyc a f).port j = s.port j := rfl
@[simp] theorem State.port_rset (a : Nat) (w : Word) (j : Nat) : (s.rset a w).port j = s.port j := rfl
@[simp] theorem State.port_emitOut (o : Out) (j : Nat) : (s.emitOut o).port j = s.port j := rfl

@[simp] theorem State.cmdq_updCmdq (k : Nat) (f : CmdQ → CmdQ) : (s.updCmdq k f).cmdq k = f (s.cmdq k) := by simp [State.cmdq, State.updCmdq]
theorem State.cmdq_updCmdq_other {k j : Nat} (f : CmdQ → CmdQ) (h : j ≠ k) : (s.updCmdq k f).cmdq j = s.cmdq j := by
  simp only [State.cmdq, State.updCmdq, mupd]; exact mget_mput_ne _ _ _ _ h
@[simp] theorem State.cmdq_updChan (c : Nat) (f : Chan → Chan) (j : Nat) : (s.updChan c f).cmdq j = s.cmdq j := rfl
@[simp] theorem State.cmdq_updIsland (i : Nat) (f : Island → Island) (j : Nat) : (s.updIsland i f).cmdq j = s.cmdq j := rfl
@[simp] theorem State.cmdq_updEngine (e : Nat) (f : Eng → Eng) (j : Nat) : (s.updEngine e f).cmdq j = s.cmdq j := rfl
@[simp] theorem State.cmdq_updLane (l : Nat) (f : Lane → Lane) (j : Nat) : (s.updLane l f).cmdq j = s.cmdq j := rfl
@[simp] theorem State.cmdq_updPort (p : Nat) (f : Port → Port) (j : Nat) : (s.updPort p f).cmdq j = s.cmdq j := rfl
@[simp] theorem State.cmdq_updDev (f : LinkDev → LinkDev) (j : Nat) : (s.updDev f).cmdq j = s.cmdq j := rfl
@[simp] theorem State.cmdq_updQueue (q : Nat) (f : LQueue → LQueue) (j : Nat) : (s.updQueue q f).cmdq j = s.cmdq j := rfl
@[simp] theorem State.cmdq_updStream (k : Nat) (f : LStream → LStream) (j : Nat) : (s.updStream k f).cmdq j = s.cmdq j := rfl
@[simp] theorem State.cmdq_updPf (m : Nat) (f : Pf → Pf) (j : Nat) : (s.updPf m f).cmdq j = s.cmdq j := rfl
@[simp] theorem State.cmdq_updRing (r : Nat) (f : HRing → HRing) (j : Nat) : (s.updRing r f).cmdq j = s.cmdq j := rfl
@[simp] theorem State.cmdq_updBank (n : Nat) (f : Bank → Bank) (j : Nat) : (s.updBank n f).cmdq j = s.cmdq j := rfl
@[simp] theorem State.cmdq_updMember (n : Nat) (f : Member → Member) (j : Nat) : (s.updMember n f).cmdq j = s.cmdq j := rfl
@[simp] theorem State.cmdq_updEmitter (n : Nat) (f : Emitter → Emitter) (j : Nat) : (s.updEmitter n f).cmdq j = s.cmdq j := rfl
@[simp] theorem State.cmdq_updSeqr (f : Nat) (g : Seqr → Seqr) (j : Nat) : (s.updSeqr f g).cmdq j = s.cmdq j := rfl
@[simp] theorem State.cmdq_updCtx (i : Nat) (f : Ctx → Ctx) (j : Nat) : (s.updCtx i f).cmdq j = s.cmdq j := rfl
@[simp] theorem State.cmdq_updQtz (f : Quartz → Quartz) (j : Nat) : (s.updQtz f).cmdq j = s.cmdq j := rfl
@[simp] theorem State.cmdq_updProbe (p : Nat) (f : ProbePort → ProbePort) (j : Nat) : (s.updProbe p f).cmdq j = s.cmdq j := rfl
@[simp] theorem State.cmdq_updLag (f : Lagoon → Lagoon) (j : Nat) : (s.updLag f).cmdq j = s.cmdq j := rfl
@[simp] theorem State.cmdq_updComp (f : Comp → Comp) (j : Nat) : (s.updComp f).cmdq j = s.cmdq j := rfl
@[simp] theorem State.cmdq_updFl (f : Flint → Flint) (j : Nat) : (s.updFl f).cmdq j = s.cmdq j := rfl
@[simp] theorem State.cmdq_updHk (f : Hk → Hk) (j : Nat) : (s.updHk f).cmdq j = s.cmdq j := rfl
@[simp] theorem State.cmdq_updRef (f : RefMon → RefMon) (j : Nat) : (s.updRef f).cmdq j = s.cmdq j := rfl
@[simp] theorem State.cmdq_updOwn (f : Own → Own) (j : Nat) : (s.updOwn f).cmdq j = s.cmdq j := rfl
@[simp] theorem State.cmdq_updBus (f : Bus → Bus) (j : Nat) : (s.updBus f).cmdq j = s.cmdq j := rfl
@[simp] theorem State.cmdq_updMem (f : Mem → Mem) (j : Nat) : (s.updMem f).cmdq j = s.cmdq j := rfl
@[simp] theorem State.cmdq_updHost (f : HostIf → HostIf) (j : Nat) : (s.updHost f).cmdq j = s.cmdq j := rfl
@[simp] theorem State.cmdq_updTriad (f : Triad → Triad) (j : Nat) : (s.updTriad f).cmdq j = s.cmdq j := rfl
@[simp] theorem State.cmdq_updEmit (f : Emit → Emit) (j : Nat) : (s.updEmit f).cmdq j = s.cmdq j := rfl
@[simp] theorem State.cmdq_updSec (f : Sec → Sec) (j : Nat) : (s.updSec f).cmdq j = s.cmdq j := rfl
@[simp] theorem State.cmdq_updStart (f : Start → Start) (j : Nat) : (s.updStart f).cmdq j = s.cmdq j := rfl
@[simp] theorem State.cmdq_updPerf (f : Perf → Perf) (j : Nat) : (s.updPerf f).cmdq j = s.cmdq j := rfl
@[simp] theorem State.cmdq_updCtxs (f : CtxStore → CtxStore) (j : Nat) : (s.updCtxs f).cmdq j = s.cmdq j := rfl
@[simp] theorem State.cmdq_updCyc (a : Nat) (f : Cyc → Cyc) (j : Nat) : (s.updCyc a f).cmdq j = s.cmdq j := rfl
@[simp] theorem State.cmdq_rset (a : Nat) (w : Word) (j : Nat) : (s.rset a w).cmdq j = s.cmdq j := rfl
@[simp] theorem State.cmdq_emitOut (o : Out) (j : Nat) : (s.emitOut o).cmdq j = s.cmdq j := rfl

@[simp] theorem State.queue_updQueue (k : Nat) (f : LQueue → LQueue) : (s.updQueue k f).queue k = f (s.queue k) := by simp [State.queue, State.updQueue]
theorem State.queue_updQueue_other {k j : Nat} (f : LQueue → LQueue) (h : j ≠ k) : (s.updQueue k f).queue j = s.queue j := by
  simp only [State.queue, State.updQueue, mupd]; exact mget_mput_ne _ _ _ _ h
@[simp] theorem State.queue_updChan (c : Nat) (f : Chan → Chan) (j : Nat) : (s.updChan c f).queue j = s.queue j := rfl
@[simp] theorem State.queue_updIsland (i : Nat) (f : Island → Island) (j : Nat) : (s.updIsland i f).queue j = s.queue j := rfl
@[simp] theorem State.queue_updEngine (e : Nat) (f : Eng → Eng) (j : Nat) : (s.updEngine e f).queue j = s.queue j := rfl
@[simp] theorem State.queue_updLane (l : Nat) (f : Lane → Lane) (j : Nat) : (s.updLane l f).queue j = s.queue j := rfl
@[simp] theorem State.queue_updPort (p : Nat) (f : Port → Port) (j : Nat) : (s.updPort p f).queue j = s.queue j := rfl
@[simp] theorem State.queue_updDev (f : LinkDev → LinkDev) (j : Nat) : (s.updDev f).queue j = s.queue j := rfl
@[simp] theorem State.queue_updCmdq (m : Nat) (f : CmdQ → CmdQ) (j : Nat) : (s.updCmdq m f).queue j = s.queue j := rfl
@[simp] theorem State.queue_updStream (k : Nat) (f : LStream → LStream) (j : Nat) : (s.updStream k f).queue j = s.queue j := rfl
@[simp] theorem State.queue_updPf (m : Nat) (f : Pf → Pf) (j : Nat) : (s.updPf m f).queue j = s.queue j := rfl
@[simp] theorem State.queue_updRing (r : Nat) (f : HRing → HRing) (j : Nat) : (s.updRing r f).queue j = s.queue j := rfl
@[simp] theorem State.queue_updBank (n : Nat) (f : Bank → Bank) (j : Nat) : (s.updBank n f).queue j = s.queue j := rfl
@[simp] theorem State.queue_updMember (n : Nat) (f : Member → Member) (j : Nat) : (s.updMember n f).queue j = s.queue j := rfl
@[simp] theorem State.queue_updEmitter (n : Nat) (f : Emitter → Emitter) (j : Nat) : (s.updEmitter n f).queue j = s.queue j := rfl
@[simp] theorem State.queue_updSeqr (f : Nat) (g : Seqr → Seqr) (j : Nat) : (s.updSeqr f g).queue j = s.queue j := rfl
@[simp] theorem State.queue_updCtx (i : Nat) (f : Ctx → Ctx) (j : Nat) : (s.updCtx i f).queue j = s.queue j := rfl
@[simp] theorem State.queue_updQtz (f : Quartz → Quartz) (j : Nat) : (s.updQtz f).queue j = s.queue j := rfl
@[simp] theorem State.queue_updProbe (p : Nat) (f : ProbePort → ProbePort) (j : Nat) : (s.updProbe p f).queue j = s.queue j := rfl
@[simp] theorem State.queue_updComp (f : Comp → Comp) (j : Nat) : (s.updComp f).queue j = s.queue j := rfl
@[simp] theorem State.queue_updFl (f : Flint → Flint) (j : Nat) : (s.updFl f).queue j = s.queue j := rfl
@[simp] theorem State.queue_updHk (f : Hk → Hk) (j : Nat) : (s.updHk f).queue j = s.queue j := rfl
@[simp] theorem State.queue_updRef (f : RefMon → RefMon) (j : Nat) : (s.updRef f).queue j = s.queue j := rfl
@[simp] theorem State.queue_updOwn (f : Own → Own) (j : Nat) : (s.updOwn f).queue j = s.queue j := rfl
@[simp] theorem State.queue_updCmd (f : Cmd → Cmd) (j : Nat) : (s.updCmd f).queue j = s.queue j := rfl
@[simp] theorem State.queue_updBus (f : Bus → Bus) (j : Nat) : (s.updBus f).queue j = s.queue j := rfl
@[simp] theorem State.queue_updMem (f : Mem → Mem) (j : Nat) : (s.updMem f).queue j = s.queue j := rfl
@[simp] theorem State.queue_updHost (f : HostIf → HostIf) (j : Nat) : (s.updHost f).queue j = s.queue j := rfl
@[simp] theorem State.queue_updTriad (f : Triad → Triad) (j : Nat) : (s.updTriad f).queue j = s.queue j := rfl
@[simp] theorem State.queue_updEmit (f : Emit → Emit) (j : Nat) : (s.updEmit f).queue j = s.queue j := rfl
@[simp] theorem State.queue_updSec (f : Sec → Sec) (j : Nat) : (s.updSec f).queue j = s.queue j := rfl
@[simp] theorem State.queue_updStart (f : Start → Start) (j : Nat) : (s.updStart f).queue j = s.queue j := rfl
@[simp] theorem State.queue_updPerf (f : Perf → Perf) (j : Nat) : (s.updPerf f).queue j = s.queue j := rfl
@[simp] theorem State.queue_updCtxs (f : CtxStore → CtxStore) (j : Nat) : (s.updCtxs f).queue j = s.queue j := rfl
@[simp] theorem State.queue_updCyc (a : Nat) (f : Cyc → Cyc) (j : Nat) : (s.updCyc a f).queue j = s.queue j := rfl
@[simp] theorem State.queue_rset (a : Nat) (w : Word) (j : Nat) : (s.rset a w).queue j = s.queue j := rfl
@[simp] theorem State.queue_emitOut (o : Out) (j : Nat) : (s.emitOut o).queue j = s.queue j := rfl

@[simp] theorem State.stream_updStream (k : Nat) (f : LStream → LStream) : (s.updStream k f).stream k = f (s.stream k) := by simp [State.stream, State.updStream]
theorem State.stream_updStream_other {k j : Nat} (f : LStream → LStream) (h : j ≠ k) : (s.updStream k f).stream j = s.stream j := by
  simp only [State.stream, State.updStream, mupd]; exact mget_mput_ne _ _ _ _ h
@[simp] theorem State.stream_updChan (c : Nat) (f : Chan → Chan) (j : Nat) : (s.updChan c f).stream j = s.stream j := rfl
@[simp] theorem State.stream_updIsland (i : Nat) (f : Island → Island) (j : Nat) : (s.updIsland i f).stream j = s.stream j := rfl
@[simp] theorem State.stream_updEngine (e : Nat) (f : Eng → Eng) (j : Nat) : (s.updEngine e f).stream j = s.stream j := rfl
@[simp] theorem State.stream_updLane (l : Nat) (f : Lane → Lane) (j : Nat) : (s.updLane l f).stream j = s.stream j := rfl
@[simp] theorem State.stream_updPort (p : Nat) (f : Port → Port) (j : Nat) : (s.updPort p f).stream j = s.stream j := rfl
@[simp] theorem State.stream_updDev (f : LinkDev → LinkDev) (j : Nat) : (s.updDev f).stream j = s.stream j := rfl
@[simp] theorem State.stream_updCmdq (m : Nat) (f : CmdQ → CmdQ) (j : Nat) : (s.updCmdq m f).stream j = s.stream j := rfl
@[simp] theorem State.stream_updQueue (q : Nat) (f : LQueue → LQueue) (j : Nat) : (s.updQueue q f).stream j = s.stream j := rfl
@[simp] theorem State.stream_updPf (m : Nat) (f : Pf → Pf) (j : Nat) : (s.updPf m f).stream j = s.stream j := rfl
@[simp] theorem State.stream_updRing (r : Nat) (f : HRing → HRing) (j : Nat) : (s.updRing r f).stream j = s.stream j := rfl
@[simp] theorem State.stream_updBank (n : Nat) (f : Bank → Bank) (j : Nat) : (s.updBank n f).stream j = s.stream j := rfl
@[simp] theorem State.stream_updMember (n : Nat) (f : Member → Member) (j : Nat) : (s.updMember n f).stream j = s.stream j := rfl
@[simp] theorem State.stream_updEmitter (n : Nat) (f : Emitter → Emitter) (j : Nat) : (s.updEmitter n f).stream j = s.stream j := rfl
@[simp] theorem State.stream_updSeqr (f : Nat) (g : Seqr → Seqr) (j : Nat) : (s.updSeqr f g).stream j = s.stream j := rfl
@[simp] theorem State.stream_updCtx (i : Nat) (f : Ctx → Ctx) (j : Nat) : (s.updCtx i f).stream j = s.stream j := rfl
@[simp] theorem State.stream_updQtz (f : Quartz → Quartz) (j : Nat) : (s.updQtz f).stream j = s.stream j := rfl
@[simp] theorem State.stream_updProbe (p : Nat) (f : ProbePort → ProbePort) (j : Nat) : (s.updProbe p f).stream j = s.stream j := rfl
@[simp] theorem State.stream_updComp (f : Comp → Comp) (j : Nat) : (s.updComp f).stream j = s.stream j := rfl
@[simp] theorem State.stream_updFl (f : Flint → Flint) (j : Nat) : (s.updFl f).stream j = s.stream j := rfl
@[simp] theorem State.stream_updHk (f : Hk → Hk) (j : Nat) : (s.updHk f).stream j = s.stream j := rfl
@[simp] theorem State.stream_updRef (f : RefMon → RefMon) (j : Nat) : (s.updRef f).stream j = s.stream j := rfl
@[simp] theorem State.stream_updOwn (f : Own → Own) (j : Nat) : (s.updOwn f).stream j = s.stream j := rfl
@[simp] theorem State.stream_updCmd (f : Cmd → Cmd) (j : Nat) : (s.updCmd f).stream j = s.stream j := rfl
@[simp] theorem State.stream_updBus (f : Bus → Bus) (j : Nat) : (s.updBus f).stream j = s.stream j := rfl
@[simp] theorem State.stream_updMem (f : Mem → Mem) (j : Nat) : (s.updMem f).stream j = s.stream j := rfl
@[simp] theorem State.stream_updHost (f : HostIf → HostIf) (j : Nat) : (s.updHost f).stream j = s.stream j := rfl
@[simp] theorem State.stream_updTriad (f : Triad → Triad) (j : Nat) : (s.updTriad f).stream j = s.stream j := rfl
@[simp] theorem State.stream_updEmit (f : Emit → Emit) (j : Nat) : (s.updEmit f).stream j = s.stream j := rfl
@[simp] theorem State.stream_updSec (f : Sec → Sec) (j : Nat) : (s.updSec f).stream j = s.stream j := rfl
@[simp] theorem State.stream_updStart (f : Start → Start) (j : Nat) : (s.updStart f).stream j = s.stream j := rfl
@[simp] theorem State.stream_updPerf (f : Perf → Perf) (j : Nat) : (s.updPerf f).stream j = s.stream j := rfl
@[simp] theorem State.stream_updCtxs (f : CtxStore → CtxStore) (j : Nat) : (s.updCtxs f).stream j = s.stream j := rfl
@[simp] theorem State.stream_updCyc (a : Nat) (f : Cyc → Cyc) (j : Nat) : (s.updCyc a f).stream j = s.stream j := rfl
@[simp] theorem State.stream_rset (a : Nat) (w : Word) (j : Nat) : (s.rset a w).stream j = s.stream j := rfl
@[simp] theorem State.stream_emitOut (o : Out) (j : Nat) : (s.emitOut o).stream j = s.stream j := rfl

@[simp] theorem State.pf_updPf (k : Nat) (f : Pf → Pf) : (s.updPf k f).pf k = f (s.pf k) := by simp [State.pf, State.updPf]
theorem State.pf_updPf_other {k j : Nat} (f : Pf → Pf) (h : j ≠ k) : (s.updPf k f).pf j = s.pf j := by
  simp only [State.pf, State.updPf, mupd]; exact mget_mput_ne _ _ _ _ h
@[simp] theorem State.pf_updChan (c : Nat) (f : Chan → Chan) (j : Nat) : (s.updChan c f).pf j = s.pf j := rfl
@[simp] theorem State.pf_updIsland (i : Nat) (f : Island → Island) (j : Nat) : (s.updIsland i f).pf j = s.pf j := rfl
@[simp] theorem State.pf_updEngine (e : Nat) (f : Eng → Eng) (j : Nat) : (s.updEngine e f).pf j = s.pf j := rfl
@[simp] theorem State.pf_updLane (l : Nat) (f : Lane → Lane) (j : Nat) : (s.updLane l f).pf j = s.pf j := rfl
@[simp] theorem State.pf_updPort (p : Nat) (f : Port → Port) (j : Nat) : (s.updPort p f).pf j = s.pf j := rfl
@[simp] theorem State.pf_updDev (f : LinkDev → LinkDev) (j : Nat) : (s.updDev f).pf j = s.pf j := rfl
@[simp] theorem State.pf_updCmdq (m : Nat) (f : CmdQ → CmdQ) (j : Nat) : (s.updCmdq m f).pf j = s.pf j := rfl
@[simp] theorem State.pf_updQueue (q : Nat) (f : LQueue → LQueue) (j : Nat) : (s.updQueue q f).pf j = s.pf j := rfl
@[simp] theorem State.pf_updStream (k : Nat) (f : LStream → LStream) (j : Nat) : (s.updStream k f).pf j = s.pf j := rfl
@[simp] theorem State.pf_updRing (r : Nat) (f : HRing → HRing) (j : Nat) : (s.updRing r f).pf j = s.pf j := rfl
@[simp] theorem State.pf_updBank (n : Nat) (f : Bank → Bank) (j : Nat) : (s.updBank n f).pf j = s.pf j := rfl
@[simp] theorem State.pf_updMember (n : Nat) (f : Member → Member) (j : Nat) : (s.updMember n f).pf j = s.pf j := rfl
@[simp] theorem State.pf_updEmitter (n : Nat) (f : Emitter → Emitter) (j : Nat) : (s.updEmitter n f).pf j = s.pf j := rfl
@[simp] theorem State.pf_updSeqr (f : Nat) (g : Seqr → Seqr) (j : Nat) : (s.updSeqr f g).pf j = s.pf j := rfl
@[simp] theorem State.pf_updCtx (i : Nat) (f : Ctx → Ctx) (j : Nat) : (s.updCtx i f).pf j = s.pf j := rfl
@[simp] theorem State.pf_updQtz (f : Quartz → Quartz) (j : Nat) : (s.updQtz f).pf j = s.pf j := rfl
@[simp] theorem State.pf_updProbe (p : Nat) (f : ProbePort → ProbePort) (j : Nat) : (s.updProbe p f).pf j = s.pf j := rfl
@[simp] theorem State.pf_updLag (f : Lagoon → Lagoon) (j : Nat) : (s.updLag f).pf j = s.pf j := rfl
@[simp] theorem State.pf_updComp (f : Comp → Comp) (j : Nat) : (s.updComp f).pf j = s.pf j := rfl
@[simp] theorem State.pf_updFl (f : Flint → Flint) (j : Nat) : (s.updFl f).pf j = s.pf j := rfl
@[simp] theorem State.pf_updHk (f : Hk → Hk) (j : Nat) : (s.updHk f).pf j = s.pf j := rfl
@[simp] theorem State.pf_updRef (f : RefMon → RefMon) (j : Nat) : (s.updRef f).pf j = s.pf j := rfl
@[simp] theorem State.pf_updOwn (f : Own → Own) (j : Nat) : (s.updOwn f).pf j = s.pf j := rfl
@[simp] theorem State.pf_updCmd (f : Cmd → Cmd) (j : Nat) : (s.updCmd f).pf j = s.pf j := rfl
@[simp] theorem State.pf_updBus (f : Bus → Bus) (j : Nat) : (s.updBus f).pf j = s.pf j := rfl
@[simp] theorem State.pf_updMem (f : Mem → Mem) (j : Nat) : (s.updMem f).pf j = s.pf j := rfl
@[simp] theorem State.pf_updTriad (f : Triad → Triad) (j : Nat) : (s.updTriad f).pf j = s.pf j := rfl
@[simp] theorem State.pf_updEmit (f : Emit → Emit) (j : Nat) : (s.updEmit f).pf j = s.pf j := rfl
@[simp] theorem State.pf_updSec (f : Sec → Sec) (j : Nat) : (s.updSec f).pf j = s.pf j := rfl
@[simp] theorem State.pf_updStart (f : Start → Start) (j : Nat) : (s.updStart f).pf j = s.pf j := rfl
@[simp] theorem State.pf_updPerf (f : Perf → Perf) (j : Nat) : (s.updPerf f).pf j = s.pf j := rfl
@[simp] theorem State.pf_updCtxs (f : CtxStore → CtxStore) (j : Nat) : (s.updCtxs f).pf j = s.pf j := rfl
@[simp] theorem State.pf_updCyc (a : Nat) (f : Cyc → Cyc) (j : Nat) : (s.updCyc a f).pf j = s.pf j := rfl
@[simp] theorem State.pf_rset (a : Nat) (w : Word) (j : Nat) : (s.rset a w).pf j = s.pf j := rfl
@[simp] theorem State.pf_emitOut (o : Out) (j : Nat) : (s.emitOut o).pf j = s.pf j := rfl

@[simp] theorem State.ring_updRing (k : Nat) (f : HRing → HRing) : (s.updRing k f).ring k = f (s.ring k) := by simp [State.ring, State.updRing]
theorem State.ring_updRing_other {k j : Nat} (f : HRing → HRing) (h : j ≠ k) : (s.updRing k f).ring j = s.ring j := by
  simp only [State.ring, State.updRing, mupd]; exact mget_mput_ne _ _ _ _ h
@[simp] theorem State.ring_updChan (c : Nat) (f : Chan → Chan) (j : Nat) : (s.updChan c f).ring j = s.ring j := rfl
@[simp] theorem State.ring_updIsland (i : Nat) (f : Island → Island) (j : Nat) : (s.updIsland i f).ring j = s.ring j := rfl
@[simp] theorem State.ring_updEngine (e : Nat) (f : Eng → Eng) (j : Nat) : (s.updEngine e f).ring j = s.ring j := rfl
@[simp] theorem State.ring_updLane (l : Nat) (f : Lane → Lane) (j : Nat) : (s.updLane l f).ring j = s.ring j := rfl
@[simp] theorem State.ring_updPort (p : Nat) (f : Port → Port) (j : Nat) : (s.updPort p f).ring j = s.ring j := rfl
@[simp] theorem State.ring_updDev (f : LinkDev → LinkDev) (j : Nat) : (s.updDev f).ring j = s.ring j := rfl
@[simp] theorem State.ring_updCmdq (m : Nat) (f : CmdQ → CmdQ) (j : Nat) : (s.updCmdq m f).ring j = s.ring j := rfl
@[simp] theorem State.ring_updQueue (q : Nat) (f : LQueue → LQueue) (j : Nat) : (s.updQueue q f).ring j = s.ring j := rfl
@[simp] theorem State.ring_updStream (k : Nat) (f : LStream → LStream) (j : Nat) : (s.updStream k f).ring j = s.ring j := rfl
@[simp] theorem State.ring_updPf (m : Nat) (f : Pf → Pf) (j : Nat) : (s.updPf m f).ring j = s.ring j := rfl
@[simp] theorem State.ring_updBank (n : Nat) (f : Bank → Bank) (j : Nat) : (s.updBank n f).ring j = s.ring j := rfl
@[simp] theorem State.ring_updMember (n : Nat) (f : Member → Member) (j : Nat) : (s.updMember n f).ring j = s.ring j := rfl
@[simp] theorem State.ring_updEmitter (n : Nat) (f : Emitter → Emitter) (j : Nat) : (s.updEmitter n f).ring j = s.ring j := rfl
@[simp] theorem State.ring_updSeqr (f : Nat) (g : Seqr → Seqr) (j : Nat) : (s.updSeqr f g).ring j = s.ring j := rfl
@[simp] theorem State.ring_updCtx (i : Nat) (f : Ctx → Ctx) (j : Nat) : (s.updCtx i f).ring j = s.ring j := rfl
@[simp] theorem State.ring_updQtz (f : Quartz → Quartz) (j : Nat) : (s.updQtz f).ring j = s.ring j := rfl
@[simp] theorem State.ring_updProbe (p : Nat) (f : ProbePort → ProbePort) (j : Nat) : (s.updProbe p f).ring j = s.ring j := rfl
@[simp] theorem State.ring_updLag (f : Lagoon → Lagoon) (j : Nat) : (s.updLag f).ring j = s.ring j := rfl
@[simp] theorem State.ring_updComp (f : Comp → Comp) (j : Nat) : (s.updComp f).ring j = s.ring j := rfl
@[simp] theorem State.ring_updFl (f : Flint → Flint) (j : Nat) : (s.updFl f).ring j = s.ring j := rfl
@[simp] theorem State.ring_updHk (f : Hk → Hk) (j : Nat) : (s.updHk f).ring j = s.ring j := rfl
@[simp] theorem State.ring_updRef (f : RefMon → RefMon) (j : Nat) : (s.updRef f).ring j = s.ring j := rfl
@[simp] theorem State.ring_updOwn (f : Own → Own) (j : Nat) : (s.updOwn f).ring j = s.ring j := rfl
@[simp] theorem State.ring_updCmd (f : Cmd → Cmd) (j : Nat) : (s.updCmd f).ring j = s.ring j := rfl
@[simp] theorem State.ring_updBus (f : Bus → Bus) (j : Nat) : (s.updBus f).ring j = s.ring j := rfl
@[simp] theorem State.ring_updMem (f : Mem → Mem) (j : Nat) : (s.updMem f).ring j = s.ring j := rfl
@[simp] theorem State.ring_updTriad (f : Triad → Triad) (j : Nat) : (s.updTriad f).ring j = s.ring j := rfl
@[simp] theorem State.ring_updEmit (f : Emit → Emit) (j : Nat) : (s.updEmit f).ring j = s.ring j := rfl
@[simp] theorem State.ring_updSec (f : Sec → Sec) (j : Nat) : (s.updSec f).ring j = s.ring j := rfl
@[simp] theorem State.ring_updStart (f : Start → Start) (j : Nat) : (s.updStart f).ring j = s.ring j := rfl
@[simp] theorem State.ring_updPerf (f : Perf → Perf) (j : Nat) : (s.updPerf f).ring j = s.ring j := rfl
@[simp] theorem State.ring_updCtxs (f : CtxStore → CtxStore) (j : Nat) : (s.updCtxs f).ring j = s.ring j := rfl
@[simp] theorem State.ring_updCyc (a : Nat) (f : Cyc → Cyc) (j : Nat) : (s.updCyc a f).ring j = s.ring j := rfl
@[simp] theorem State.ring_rset (a : Nat) (w : Word) (j : Nat) : (s.rset a w).ring j = s.ring j := rfl
@[simp] theorem State.ring_emitOut (o : Out) (j : Nat) : (s.emitOut o).ring j = s.ring j := rfl

@[simp] theorem State.bank_updBank (k : Nat) (f : Bank → Bank) : (s.updBank k f).bank k = f (s.bank k) := by simp [State.bank, State.updBank]
theorem State.bank_updBank_other {k j : Nat} (f : Bank → Bank) (h : j ≠ k) : (s.updBank k f).bank j = s.bank j := by
  simp only [State.bank, State.updBank, mupd]; exact mget_mput_ne _ _ _ _ h
@[simp] theorem State.bank_updChan (c : Nat) (f : Chan → Chan) (j : Nat) : (s.updChan c f).bank j = s.bank j := rfl
@[simp] theorem State.bank_updIsland (i : Nat) (f : Island → Island) (j : Nat) : (s.updIsland i f).bank j = s.bank j := rfl
@[simp] theorem State.bank_updEngine (e : Nat) (f : Eng → Eng) (j : Nat) : (s.updEngine e f).bank j = s.bank j := rfl
@[simp] theorem State.bank_updLane (l : Nat) (f : Lane → Lane) (j : Nat) : (s.updLane l f).bank j = s.bank j := rfl
@[simp] theorem State.bank_updPort (p : Nat) (f : Port → Port) (j : Nat) : (s.updPort p f).bank j = s.bank j := rfl
@[simp] theorem State.bank_updDev (f : LinkDev → LinkDev) (j : Nat) : (s.updDev f).bank j = s.bank j := rfl
@[simp] theorem State.bank_updCmdq (m : Nat) (f : CmdQ → CmdQ) (j : Nat) : (s.updCmdq m f).bank j = s.bank j := rfl
@[simp] theorem State.bank_updQueue (q : Nat) (f : LQueue → LQueue) (j : Nat) : (s.updQueue q f).bank j = s.bank j := rfl
@[simp] theorem State.bank_updStream (k : Nat) (f : LStream → LStream) (j : Nat) : (s.updStream k f).bank j = s.bank j := rfl
@[simp] theorem State.bank_updPf (m : Nat) (f : Pf → Pf) (j : Nat) : (s.updPf m f).bank j = s.bank j := rfl
@[simp] theorem State.bank_updRing (r : Nat) (f : HRing → HRing) (j : Nat) : (s.updRing r f).bank j = s.bank j := rfl
@[simp] theorem State.bank_updMember (n : Nat) (f : Member → Member) (j : Nat) : (s.updMember n f).bank j = s.bank j := rfl
@[simp] theorem State.bank_updEmitter (n : Nat) (f : Emitter → Emitter) (j : Nat) : (s.updEmitter n f).bank j = s.bank j := rfl
@[simp] theorem State.bank_updSeqr (f : Nat) (g : Seqr → Seqr) (j : Nat) : (s.updSeqr f g).bank j = s.bank j := rfl
@[simp] theorem State.bank_updCtx (i : Nat) (f : Ctx → Ctx) (j : Nat) : (s.updCtx i f).bank j = s.bank j := rfl
@[simp] theorem State.bank_updQtz (f : Quartz → Quartz) (j : Nat) : (s.updQtz f).bank j = s.bank j := rfl
@[simp] theorem State.bank_updProbe (p : Nat) (f : ProbePort → ProbePort) (j : Nat) : (s.updProbe p f).bank j = s.bank j := rfl
@[simp] theorem State.bank_updLag (f : Lagoon → Lagoon) (j : Nat) : (s.updLag f).bank j = s.bank j := rfl
@[simp] theorem State.bank_updComp (f : Comp → Comp) (j : Nat) : (s.updComp f).bank j = s.bank j := rfl
@[simp] theorem State.bank_updFl (f : Flint → Flint) (j : Nat) : (s.updFl f).bank j = s.bank j := rfl
@[simp] theorem State.bank_updHk (f : Hk → Hk) (j : Nat) : (s.updHk f).bank j = s.bank j := rfl
@[simp] theorem State.bank_updRef (f : RefMon → RefMon) (j : Nat) : (s.updRef f).bank j = s.bank j := rfl
@[simp] theorem State.bank_updOwn (f : Own → Own) (j : Nat) : (s.updOwn f).bank j = s.bank j := rfl
@[simp] theorem State.bank_updCmd (f : Cmd → Cmd) (j : Nat) : (s.updCmd f).bank j = s.bank j := rfl
@[simp] theorem State.bank_updBus (f : Bus → Bus) (j : Nat) : (s.updBus f).bank j = s.bank j := rfl
@[simp] theorem State.bank_updHost (f : HostIf → HostIf) (j : Nat) : (s.updHost f).bank j = s.bank j := rfl
@[simp] theorem State.bank_updTriad (f : Triad → Triad) (j : Nat) : (s.updTriad f).bank j = s.bank j := rfl
@[simp] theorem State.bank_updEmit (f : Emit → Emit) (j : Nat) : (s.updEmit f).bank j = s.bank j := rfl
@[simp] theorem State.bank_updSec (f : Sec → Sec) (j : Nat) : (s.updSec f).bank j = s.bank j := rfl
@[simp] theorem State.bank_updStart (f : Start → Start) (j : Nat) : (s.updStart f).bank j = s.bank j := rfl
@[simp] theorem State.bank_updPerf (f : Perf → Perf) (j : Nat) : (s.updPerf f).bank j = s.bank j := rfl
@[simp] theorem State.bank_updCtxs (f : CtxStore → CtxStore) (j : Nat) : (s.updCtxs f).bank j = s.bank j := rfl
@[simp] theorem State.bank_updCyc (a : Nat) (f : Cyc → Cyc) (j : Nat) : (s.updCyc a f).bank j = s.bank j := rfl
@[simp] theorem State.bank_rset (a : Nat) (w : Word) (j : Nat) : (s.rset a w).bank j = s.bank j := rfl
@[simp] theorem State.bank_emitOut (o : Out) (j : Nat) : (s.emitOut o).bank j = s.bank j := rfl

@[simp] theorem State.member_updMember (k : Nat) (f : Member → Member) : (s.updMember k f).member k = f (s.member k) := by simp [State.member, State.updMember]
theorem State.member_updMember_other {k j : Nat} (f : Member → Member) (h : j ≠ k) : (s.updMember k f).member j = s.member j := by
  simp only [State.member, State.updMember, mupd]; exact mget_mput_ne _ _ _ _ h
@[simp] theorem State.member_updChan (c : Nat) (f : Chan → Chan) (j : Nat) : (s.updChan c f).member j = s.member j := rfl
@[simp] theorem State.member_updIsland (i : Nat) (f : Island → Island) (j : Nat) : (s.updIsland i f).member j = s.member j := rfl
@[simp] theorem State.member_updEngine (e : Nat) (f : Eng → Eng) (j : Nat) : (s.updEngine e f).member j = s.member j := rfl
@[simp] theorem State.member_updLane (l : Nat) (f : Lane → Lane) (j : Nat) : (s.updLane l f).member j = s.member j := rfl
@[simp] theorem State.member_updPort (p : Nat) (f : Port → Port) (j : Nat) : (s.updPort p f).member j = s.member j := rfl
@[simp] theorem State.member_updDev (f : LinkDev → LinkDev) (j : Nat) : (s.updDev f).member j = s.member j := rfl
@[simp] theorem State.member_updCmdq (m : Nat) (f : CmdQ → CmdQ) (j : Nat) : (s.updCmdq m f).member j = s.member j := rfl
@[simp] theorem State.member_updQueue (q : Nat) (f : LQueue → LQueue) (j : Nat) : (s.updQueue q f).member j = s.member j := rfl
@[simp] theorem State.member_updStream (k : Nat) (f : LStream → LStream) (j : Nat) : (s.updStream k f).member j = s.member j := rfl
@[simp] theorem State.member_updPf (m : Nat) (f : Pf → Pf) (j : Nat) : (s.updPf m f).member j = s.member j := rfl
@[simp] theorem State.member_updRing (r : Nat) (f : HRing → HRing) (j : Nat) : (s.updRing r f).member j = s.member j := rfl
@[simp] theorem State.member_updBank (n : Nat) (f : Bank → Bank) (j : Nat) : (s.updBank n f).member j = s.member j := rfl
@[simp] theorem State.member_updEmitter (n : Nat) (f : Emitter → Emitter) (j : Nat) : (s.updEmitter n f).member j = s.member j := rfl
@[simp] theorem State.member_updSeqr (f : Nat) (g : Seqr → Seqr) (j : Nat) : (s.updSeqr f g).member j = s.member j := rfl
@[simp] theorem State.member_updCtx (i : Nat) (f : Ctx → Ctx) (j : Nat) : (s.updCtx i f).member j = s.member j := rfl
@[simp] theorem State.member_updQtz (f : Quartz → Quartz) (j : Nat) : (s.updQtz f).member j = s.member j := rfl
@[simp] theorem State.member_updProbe (p : Nat) (f : ProbePort → ProbePort) (j : Nat) : (s.updProbe p f).member j = s.member j := rfl
@[simp] theorem State.member_updLag (f : Lagoon → Lagoon) (j : Nat) : (s.updLag f).member j = s.member j := rfl
@[simp] theorem State.member_updComp (f : Comp → Comp) (j : Nat) : (s.updComp f).member j = s.member j := rfl
@[simp] theorem State.member_updFl (f : Flint → Flint) (j : Nat) : (s.updFl f).member j = s.member j := rfl
@[simp] theorem State.member_updHk (f : Hk → Hk) (j : Nat) : (s.updHk f).member j = s.member j := rfl
@[simp] theorem State.member_updRef (f : RefMon → RefMon) (j : Nat) : (s.updRef f).member j = s.member j := rfl
@[simp] theorem State.member_updOwn (f : Own → Own) (j : Nat) : (s.updOwn f).member j = s.member j := rfl
@[simp] theorem State.member_updCmd (f : Cmd → Cmd) (j : Nat) : (s.updCmd f).member j = s.member j := rfl
@[simp] theorem State.member_updBus (f : Bus → Bus) (j : Nat) : (s.updBus f).member j = s.member j := rfl
@[simp] theorem State.member_updMem (f : Mem → Mem) (j : Nat) : (s.updMem f).member j = s.member j := rfl
@[simp] theorem State.member_updHost (f : HostIf → HostIf) (j : Nat) : (s.updHost f).member j = s.member j := rfl
@[simp] theorem State.member_updEmit (f : Emit → Emit) (j : Nat) : (s.updEmit f).member j = s.member j := rfl
@[simp] theorem State.member_updSec (f : Sec → Sec) (j : Nat) : (s.updSec f).member j = s.member j := rfl
@[simp] theorem State.member_updStart (f : Start → Start) (j : Nat) : (s.updStart f).member j = s.member j := rfl
@[simp] theorem State.member_updPerf (f : Perf → Perf) (j : Nat) : (s.updPerf f).member j = s.member j := rfl
@[simp] theorem State.member_updCtxs (f : CtxStore → CtxStore) (j : Nat) : (s.updCtxs f).member j = s.member j := rfl
@[simp] theorem State.member_updCyc (a : Nat) (f : Cyc → Cyc) (j : Nat) : (s.updCyc a f).member j = s.member j := rfl
@[simp] theorem State.member_rset (a : Nat) (w : Word) (j : Nat) : (s.rset a w).member j = s.member j := rfl
@[simp] theorem State.member_emitOut (o : Out) (j : Nat) : (s.emitOut o).member j = s.member j := rfl

@[simp] theorem State.emitter_updEmitter (k : Nat) (f : Emitter → Emitter) : (s.updEmitter k f).emitter k = f (s.emitter k) := by simp [State.emitter, State.updEmitter]
theorem State.emitter_updEmitter_other {k j : Nat} (f : Emitter → Emitter) (h : j ≠ k) : (s.updEmitter k f).emitter j = s.emitter j := by
  simp only [State.emitter, State.updEmitter, mupd]; exact mget_mput_ne _ _ _ _ h
@[simp] theorem State.emitter_updChan (c : Nat) (f : Chan → Chan) (j : Nat) : (s.updChan c f).emitter j = s.emitter j := rfl
@[simp] theorem State.emitter_updIsland (i : Nat) (f : Island → Island) (j : Nat) : (s.updIsland i f).emitter j = s.emitter j := rfl
@[simp] theorem State.emitter_updEngine (e : Nat) (f : Eng → Eng) (j : Nat) : (s.updEngine e f).emitter j = s.emitter j := rfl
@[simp] theorem State.emitter_updLane (l : Nat) (f : Lane → Lane) (j : Nat) : (s.updLane l f).emitter j = s.emitter j := rfl
@[simp] theorem State.emitter_updPort (p : Nat) (f : Port → Port) (j : Nat) : (s.updPort p f).emitter j = s.emitter j := rfl
@[simp] theorem State.emitter_updDev (f : LinkDev → LinkDev) (j : Nat) : (s.updDev f).emitter j = s.emitter j := rfl
@[simp] theorem State.emitter_updCmdq (m : Nat) (f : CmdQ → CmdQ) (j : Nat) : (s.updCmdq m f).emitter j = s.emitter j := rfl
@[simp] theorem State.emitter_updQueue (q : Nat) (f : LQueue → LQueue) (j : Nat) : (s.updQueue q f).emitter j = s.emitter j := rfl
@[simp] theorem State.emitter_updStream (k : Nat) (f : LStream → LStream) (j : Nat) : (s.updStream k f).emitter j = s.emitter j := rfl
@[simp] theorem State.emitter_updPf (m : Nat) (f : Pf → Pf) (j : Nat) : (s.updPf m f).emitter j = s.emitter j := rfl
@[simp] theorem State.emitter_updRing (r : Nat) (f : HRing → HRing) (j : Nat) : (s.updRing r f).emitter j = s.emitter j := rfl
@[simp] theorem State.emitter_updBank (n : Nat) (f : Bank → Bank) (j : Nat) : (s.updBank n f).emitter j = s.emitter j := rfl
@[simp] theorem State.emitter_updMember (n : Nat) (f : Member → Member) (j : Nat) : (s.updMember n f).emitter j = s.emitter j := rfl
@[simp] theorem State.emitter_updSeqr (f : Nat) (g : Seqr → Seqr) (j : Nat) : (s.updSeqr f g).emitter j = s.emitter j := rfl
@[simp] theorem State.emitter_updCtx (i : Nat) (f : Ctx → Ctx) (j : Nat) : (s.updCtx i f).emitter j = s.emitter j := rfl
@[simp] theorem State.emitter_updQtz (f : Quartz → Quartz) (j : Nat) : (s.updQtz f).emitter j = s.emitter j := rfl
@[simp] theorem State.emitter_updProbe (p : Nat) (f : ProbePort → ProbePort) (j : Nat) : (s.updProbe p f).emitter j = s.emitter j := rfl
@[simp] theorem State.emitter_updLag (f : Lagoon → Lagoon) (j : Nat) : (s.updLag f).emitter j = s.emitter j := rfl
@[simp] theorem State.emitter_updComp (f : Comp → Comp) (j : Nat) : (s.updComp f).emitter j = s.emitter j := rfl
@[simp] theorem State.emitter_updFl (f : Flint → Flint) (j : Nat) : (s.updFl f).emitter j = s.emitter j := rfl
@[simp] theorem State.emitter_updHk (f : Hk → Hk) (j : Nat) : (s.updHk f).emitter j = s.emitter j := rfl
@[simp] theorem State.emitter_updRef (f : RefMon → RefMon) (j : Nat) : (s.updRef f).emitter j = s.emitter j := rfl
@[simp] theorem State.emitter_updOwn (f : Own → Own) (j : Nat) : (s.updOwn f).emitter j = s.emitter j := rfl
@[simp] theorem State.emitter_updCmd (f : Cmd → Cmd) (j : Nat) : (s.updCmd f).emitter j = s.emitter j := rfl
@[simp] theorem State.emitter_updBus (f : Bus → Bus) (j : Nat) : (s.updBus f).emitter j = s.emitter j := rfl
@[simp] theorem State.emitter_updMem (f : Mem → Mem) (j : Nat) : (s.updMem f).emitter j = s.emitter j := rfl
@[simp] theorem State.emitter_updHost (f : HostIf → HostIf) (j : Nat) : (s.updHost f).emitter j = s.emitter j := rfl
@[simp] theorem State.emitter_updTriad (f : Triad → Triad) (j : Nat) : (s.updTriad f).emitter j = s.emitter j := rfl
@[simp] theorem State.emitter_updSec (f : Sec → Sec) (j : Nat) : (s.updSec f).emitter j = s.emitter j := rfl
@[simp] theorem State.emitter_updStart (f : Start → Start) (j : Nat) : (s.updStart f).emitter j = s.emitter j := rfl
@[simp] theorem State.emitter_updPerf (f : Perf → Perf) (j : Nat) : (s.updPerf f).emitter j = s.emitter j := rfl
@[simp] theorem State.emitter_updCtxs (f : CtxStore → CtxStore) (j : Nat) : (s.updCtxs f).emitter j = s.emitter j := rfl
@[simp] theorem State.emitter_updCyc (a : Nat) (f : Cyc → Cyc) (j : Nat) : (s.updCyc a f).emitter j = s.emitter j := rfl
@[simp] theorem State.emitter_rset (a : Nat) (w : Word) (j : Nat) : (s.rset a w).emitter j = s.emitter j := rfl
@[simp] theorem State.emitter_emitOut (o : Out) (j : Nat) : (s.emitOut o).emitter j = s.emitter j := rfl

@[simp] theorem State.seqr_updSeqr (k : Nat) (f : Seqr → Seqr) : (s.updSeqr k f).seqr k = f (s.seqr k) := by simp [State.seqr, State.updSeqr]
theorem State.seqr_updSeqr_other {k j : Nat} (f : Seqr → Seqr) (h : j ≠ k) : (s.updSeqr k f).seqr j = s.seqr j := by
  simp only [State.seqr, State.updSeqr, mupd]; exact mget_mput_ne _ _ _ _ h
@[simp] theorem State.seqr_updChan (c : Nat) (f : Chan → Chan) (j : Nat) : (s.updChan c f).seqr j = s.seqr j := rfl
@[simp] theorem State.seqr_updIsland (i : Nat) (f : Island → Island) (j : Nat) : (s.updIsland i f).seqr j = s.seqr j := rfl
@[simp] theorem State.seqr_updEngine (e : Nat) (f : Eng → Eng) (j : Nat) : (s.updEngine e f).seqr j = s.seqr j := rfl
@[simp] theorem State.seqr_updLane (l : Nat) (f : Lane → Lane) (j : Nat) : (s.updLane l f).seqr j = s.seqr j := rfl
@[simp] theorem State.seqr_updPort (p : Nat) (f : Port → Port) (j : Nat) : (s.updPort p f).seqr j = s.seqr j := rfl
@[simp] theorem State.seqr_updDev (f : LinkDev → LinkDev) (j : Nat) : (s.updDev f).seqr j = s.seqr j := rfl
@[simp] theorem State.seqr_updCmdq (m : Nat) (f : CmdQ → CmdQ) (j : Nat) : (s.updCmdq m f).seqr j = s.seqr j := rfl
@[simp] theorem State.seqr_updQueue (q : Nat) (f : LQueue → LQueue) (j : Nat) : (s.updQueue q f).seqr j = s.seqr j := rfl
@[simp] theorem State.seqr_updStream (k : Nat) (f : LStream → LStream) (j : Nat) : (s.updStream k f).seqr j = s.seqr j := rfl
@[simp] theorem State.seqr_updPf (m : Nat) (f : Pf → Pf) (j : Nat) : (s.updPf m f).seqr j = s.seqr j := rfl
@[simp] theorem State.seqr_updRing (r : Nat) (f : HRing → HRing) (j : Nat) : (s.updRing r f).seqr j = s.seqr j := rfl
@[simp] theorem State.seqr_updBank (n : Nat) (f : Bank → Bank) (j : Nat) : (s.updBank n f).seqr j = s.seqr j := rfl
@[simp] theorem State.seqr_updMember (n : Nat) (f : Member → Member) (j : Nat) : (s.updMember n f).seqr j = s.seqr j := rfl
@[simp] theorem State.seqr_updEmitter (n : Nat) (f : Emitter → Emitter) (j : Nat) : (s.updEmitter n f).seqr j = s.seqr j := rfl
@[simp] theorem State.seqr_updCtx (i : Nat) (f : Ctx → Ctx) (j : Nat) : (s.updCtx i f).seqr j = s.seqr j := rfl
@[simp] theorem State.seqr_updQtz (f : Quartz → Quartz) (j : Nat) : (s.updQtz f).seqr j = s.seqr j := rfl
@[simp] theorem State.seqr_updProbe (p : Nat) (f : ProbePort → ProbePort) (j : Nat) : (s.updProbe p f).seqr j = s.seqr j := rfl
@[simp] theorem State.seqr_updLag (f : Lagoon → Lagoon) (j : Nat) : (s.updLag f).seqr j = s.seqr j := rfl
@[simp] theorem State.seqr_updComp (f : Comp → Comp) (j : Nat) : (s.updComp f).seqr j = s.seqr j := rfl
@[simp] theorem State.seqr_updHk (f : Hk → Hk) (j : Nat) : (s.updHk f).seqr j = s.seqr j := rfl
@[simp] theorem State.seqr_updRef (f : RefMon → RefMon) (j : Nat) : (s.updRef f).seqr j = s.seqr j := rfl
@[simp] theorem State.seqr_updOwn (f : Own → Own) (j : Nat) : (s.updOwn f).seqr j = s.seqr j := rfl
@[simp] theorem State.seqr_updCmd (f : Cmd → Cmd) (j : Nat) : (s.updCmd f).seqr j = s.seqr j := rfl
@[simp] theorem State.seqr_updBus (f : Bus → Bus) (j : Nat) : (s.updBus f).seqr j = s.seqr j := rfl
@[simp] theorem State.seqr_updMem (f : Mem → Mem) (j : Nat) : (s.updMem f).seqr j = s.seqr j := rfl
@[simp] theorem State.seqr_updHost (f : HostIf → HostIf) (j : Nat) : (s.updHost f).seqr j = s.seqr j := rfl
@[simp] theorem State.seqr_updTriad (f : Triad → Triad) (j : Nat) : (s.updTriad f).seqr j = s.seqr j := rfl
@[simp] theorem State.seqr_updEmit (f : Emit → Emit) (j : Nat) : (s.updEmit f).seqr j = s.seqr j := rfl
@[simp] theorem State.seqr_updSec (f : Sec → Sec) (j : Nat) : (s.updSec f).seqr j = s.seqr j := rfl
@[simp] theorem State.seqr_updStart (f : Start → Start) (j : Nat) : (s.updStart f).seqr j = s.seqr j := rfl
@[simp] theorem State.seqr_updPerf (f : Perf → Perf) (j : Nat) : (s.updPerf f).seqr j = s.seqr j := rfl
@[simp] theorem State.seqr_updCtxs (f : CtxStore → CtxStore) (j : Nat) : (s.updCtxs f).seqr j = s.seqr j := rfl
@[simp] theorem State.seqr_updCyc (a : Nat) (f : Cyc → Cyc) (j : Nat) : (s.updCyc a f).seqr j = s.seqr j := rfl
@[simp] theorem State.seqr_rset (a : Nat) (w : Word) (j : Nat) : (s.rset a w).seqr j = s.seqr j := rfl
@[simp] theorem State.seqr_emitOut (o : Out) (j : Nat) : (s.emitOut o).seqr j = s.seqr j := rfl

@[simp] theorem State.ctxOf_updCtx (k : Nat) (f : Ctx → Ctx) : (s.updCtx k f).ctxOf k = f (s.ctxOf k) := by simp [State.ctxOf, State.updCtx]
theorem State.ctxOf_updCtx_other {k j : Nat} (f : Ctx → Ctx) (h : j ≠ k) : (s.updCtx k f).ctxOf j = s.ctxOf j := by
  simp only [State.ctxOf, State.updCtx, mupd]; exact mget_mput_ne _ _ _ _ h
@[simp] theorem State.ctxOf_updChan (c : Nat) (f : Chan → Chan) (j : Nat) : (s.updChan c f).ctxOf j = s.ctxOf j := rfl
@[simp] theorem State.ctxOf_updIsland (i : Nat) (f : Island → Island) (j : Nat) : (s.updIsland i f).ctxOf j = s.ctxOf j := rfl
@[simp] theorem State.ctxOf_updEngine (e : Nat) (f : Eng → Eng) (j : Nat) : (s.updEngine e f).ctxOf j = s.ctxOf j := rfl
@[simp] theorem State.ctxOf_updLane (l : Nat) (f : Lane → Lane) (j : Nat) : (s.updLane l f).ctxOf j = s.ctxOf j := rfl
@[simp] theorem State.ctxOf_updPort (p : Nat) (f : Port → Port) (j : Nat) : (s.updPort p f).ctxOf j = s.ctxOf j := rfl
@[simp] theorem State.ctxOf_updDev (f : LinkDev → LinkDev) (j : Nat) : (s.updDev f).ctxOf j = s.ctxOf j := rfl
@[simp] theorem State.ctxOf_updCmdq (m : Nat) (f : CmdQ → CmdQ) (j : Nat) : (s.updCmdq m f).ctxOf j = s.ctxOf j := rfl
@[simp] theorem State.ctxOf_updQueue (q : Nat) (f : LQueue → LQueue) (j : Nat) : (s.updQueue q f).ctxOf j = s.ctxOf j := rfl
@[simp] theorem State.ctxOf_updStream (k : Nat) (f : LStream → LStream) (j : Nat) : (s.updStream k f).ctxOf j = s.ctxOf j := rfl
@[simp] theorem State.ctxOf_updPf (m : Nat) (f : Pf → Pf) (j : Nat) : (s.updPf m f).ctxOf j = s.ctxOf j := rfl
@[simp] theorem State.ctxOf_updRing (r : Nat) (f : HRing → HRing) (j : Nat) : (s.updRing r f).ctxOf j = s.ctxOf j := rfl
@[simp] theorem State.ctxOf_updBank (n : Nat) (f : Bank → Bank) (j : Nat) : (s.updBank n f).ctxOf j = s.ctxOf j := rfl
@[simp] theorem State.ctxOf_updMember (n : Nat) (f : Member → Member) (j : Nat) : (s.updMember n f).ctxOf j = s.ctxOf j := rfl
@[simp] theorem State.ctxOf_updEmitter (n : Nat) (f : Emitter → Emitter) (j : Nat) : (s.updEmitter n f).ctxOf j = s.ctxOf j := rfl
@[simp] theorem State.ctxOf_updSeqr (f : Nat) (g : Seqr → Seqr) (j : Nat) : (s.updSeqr f g).ctxOf j = s.ctxOf j := rfl
@[simp] theorem State.ctxOf_updQtz (f : Quartz → Quartz) (j : Nat) : (s.updQtz f).ctxOf j = s.ctxOf j := rfl
@[simp] theorem State.ctxOf_updProbe (p : Nat) (f : ProbePort → ProbePort) (j : Nat) : (s.updProbe p f).ctxOf j = s.ctxOf j := rfl
@[simp] theorem State.ctxOf_updLag (f : Lagoon → Lagoon) (j : Nat) : (s.updLag f).ctxOf j = s.ctxOf j := rfl
@[simp] theorem State.ctxOf_updComp (f : Comp → Comp) (j : Nat) : (s.updComp f).ctxOf j = s.ctxOf j := rfl
@[simp] theorem State.ctxOf_updFl (f : Flint → Flint) (j : Nat) : (s.updFl f).ctxOf j = s.ctxOf j := rfl
@[simp] theorem State.ctxOf_updHk (f : Hk → Hk) (j : Nat) : (s.updHk f).ctxOf j = s.ctxOf j := rfl
@[simp] theorem State.ctxOf_updRef (f : RefMon → RefMon) (j : Nat) : (s.updRef f).ctxOf j = s.ctxOf j := rfl
@[simp] theorem State.ctxOf_updOwn (f : Own → Own) (j : Nat) : (s.updOwn f).ctxOf j = s.ctxOf j := rfl
@[simp] theorem State.ctxOf_updCmd (f : Cmd → Cmd) (j : Nat) : (s.updCmd f).ctxOf j = s.ctxOf j := rfl
@[simp] theorem State.ctxOf_updBus (f : Bus → Bus) (j : Nat) : (s.updBus f).ctxOf j = s.ctxOf j := rfl
@[simp] theorem State.ctxOf_updMem (f : Mem → Mem) (j : Nat) : (s.updMem f).ctxOf j = s.ctxOf j := rfl
@[simp] theorem State.ctxOf_updHost (f : HostIf → HostIf) (j : Nat) : (s.updHost f).ctxOf j = s.ctxOf j := rfl
@[simp] theorem State.ctxOf_updTriad (f : Triad → Triad) (j : Nat) : (s.updTriad f).ctxOf j = s.ctxOf j := rfl
@[simp] theorem State.ctxOf_updEmit (f : Emit → Emit) (j : Nat) : (s.updEmit f).ctxOf j = s.ctxOf j := rfl
@[simp] theorem State.ctxOf_updSec (f : Sec → Sec) (j : Nat) : (s.updSec f).ctxOf j = s.ctxOf j := rfl
@[simp] theorem State.ctxOf_updStart (f : Start → Start) (j : Nat) : (s.updStart f).ctxOf j = s.ctxOf j := rfl
@[simp] theorem State.ctxOf_updPerf (f : Perf → Perf) (j : Nat) : (s.updPerf f).ctxOf j = s.ctxOf j := rfl
@[simp] theorem State.ctxOf_updCyc (a : Nat) (f : Cyc → Cyc) (j : Nat) : (s.updCyc a f).ctxOf j = s.ctxOf j := rfl
@[simp] theorem State.ctxOf_rset (a : Nat) (w : Word) (j : Nat) : (s.rset a w).ctxOf j = s.ctxOf j := rfl
@[simp] theorem State.ctxOf_emitOut (o : Out) (j : Nat) : (s.emitOut o).ctxOf j = s.ctxOf j := rfl

@[simp] theorem State.probe_updProbe (k : Nat) (f : ProbePort → ProbePort) : (s.updProbe k f).probe k = f (s.probe k) := by simp [State.probe, State.updProbe, State.updQtz]
theorem State.probe_updProbe_other {k j : Nat} (f : ProbePort → ProbePort) (h : j ≠ k) : (s.updProbe k f).probe j = s.probe j := by
  simp only [State.probe, State.updProbe, State.updQtz, mupd]; exact mget_mput_ne _ _ _ _ h
@[simp] theorem State.probe_updChan (c : Nat) (f : Chan → Chan) (j : Nat) : (s.updChan c f).probe j = s.probe j := rfl
@[simp] theorem State.probe_updIsland (i : Nat) (f : Island → Island) (j : Nat) : (s.updIsland i f).probe j = s.probe j := rfl
@[simp] theorem State.probe_updEngine (e : Nat) (f : Eng → Eng) (j : Nat) : (s.updEngine e f).probe j = s.probe j := rfl
@[simp] theorem State.probe_updLane (l : Nat) (f : Lane → Lane) (j : Nat) : (s.updLane l f).probe j = s.probe j := rfl
@[simp] theorem State.probe_updPort (p : Nat) (f : Port → Port) (j : Nat) : (s.updPort p f).probe j = s.probe j := rfl
@[simp] theorem State.probe_updDev (f : LinkDev → LinkDev) (j : Nat) : (s.updDev f).probe j = s.probe j := rfl
@[simp] theorem State.probe_updCmdq (m : Nat) (f : CmdQ → CmdQ) (j : Nat) : (s.updCmdq m f).probe j = s.probe j := rfl
@[simp] theorem State.probe_updQueue (q : Nat) (f : LQueue → LQueue) (j : Nat) : (s.updQueue q f).probe j = s.probe j := rfl
@[simp] theorem State.probe_updStream (k : Nat) (f : LStream → LStream) (j : Nat) : (s.updStream k f).probe j = s.probe j := rfl
@[simp] theorem State.probe_updPf (m : Nat) (f : Pf → Pf) (j : Nat) : (s.updPf m f).probe j = s.probe j := rfl
@[simp] theorem State.probe_updRing (r : Nat) (f : HRing → HRing) (j : Nat) : (s.updRing r f).probe j = s.probe j := rfl
@[simp] theorem State.probe_updBank (n : Nat) (f : Bank → Bank) (j : Nat) : (s.updBank n f).probe j = s.probe j := rfl
@[simp] theorem State.probe_updMember (n : Nat) (f : Member → Member) (j : Nat) : (s.updMember n f).probe j = s.probe j := rfl
@[simp] theorem State.probe_updEmitter (n : Nat) (f : Emitter → Emitter) (j : Nat) : (s.updEmitter n f).probe j = s.probe j := rfl
@[simp] theorem State.probe_updSeqr (f : Nat) (g : Seqr → Seqr) (j : Nat) : (s.updSeqr f g).probe j = s.probe j := rfl
@[simp] theorem State.probe_updCtx (i : Nat) (f : Ctx → Ctx) (j : Nat) : (s.updCtx i f).probe j = s.probe j := rfl
@[simp] theorem State.probe_updLag (f : Lagoon → Lagoon) (j : Nat) : (s.updLag f).probe j = s.probe j := rfl
@[simp] theorem State.probe_updComp (f : Comp → Comp) (j : Nat) : (s.updComp f).probe j = s.probe j := rfl
@[simp] theorem State.probe_updFl (f : Flint → Flint) (j : Nat) : (s.updFl f).probe j = s.probe j := rfl
@[simp] theorem State.probe_updHk (f : Hk → Hk) (j : Nat) : (s.updHk f).probe j = s.probe j := rfl
@[simp] theorem State.probe_updRef (f : RefMon → RefMon) (j : Nat) : (s.updRef f).probe j = s.probe j := rfl
@[simp] theorem State.probe_updOwn (f : Own → Own) (j : Nat) : (s.updOwn f).probe j = s.probe j := rfl
@[simp] theorem State.probe_updCmd (f : Cmd → Cmd) (j : Nat) : (s.updCmd f).probe j = s.probe j := rfl
@[simp] theorem State.probe_updBus (f : Bus → Bus) (j : Nat) : (s.updBus f).probe j = s.probe j := rfl
@[simp] theorem State.probe_updMem (f : Mem → Mem) (j : Nat) : (s.updMem f).probe j = s.probe j := rfl
@[simp] theorem State.probe_updHost (f : HostIf → HostIf) (j : Nat) : (s.updHost f).probe j = s.probe j := rfl
@[simp] theorem State.probe_updTriad (f : Triad → Triad) (j : Nat) : (s.updTriad f).probe j = s.probe j := rfl
@[simp] theorem State.probe_updEmit (f : Emit → Emit) (j : Nat) : (s.updEmit f).probe j = s.probe j := rfl
@[simp] theorem State.probe_updSec (f : Sec → Sec) (j : Nat) : (s.updSec f).probe j = s.probe j := rfl
@[simp] theorem State.probe_updStart (f : Start → Start) (j : Nat) : (s.updStart f).probe j = s.probe j := rfl
@[simp] theorem State.probe_updPerf (f : Perf → Perf) (j : Nat) : (s.updPerf f).probe j = s.probe j := rfl
@[simp] theorem State.probe_updCtxs (f : CtxStore → CtxStore) (j : Nat) : (s.updCtxs f).probe j = s.probe j := rfl
@[simp] theorem State.probe_updCyc (a : Nat) (f : Cyc → Cyc) (j : Nat) : (s.updCyc a f).probe j = s.probe j := rfl
@[simp] theorem State.probe_rset (a : Nat) (w : Word) (j : Nat) : (s.rset a w).probe j = s.probe j := rfl
@[simp] theorem State.probe_emitOut (o : Out) (j : Nat) : (s.emitOut o).probe j = s.probe j := rfl

@[simp] theorem State.rget_rset (a : Nat) (w : Word) : (s.rset a w).rget a = w := by simp [State.rget, State.rset]
theorem State.rget_rset_other {a b : Nat} (w : Word) (h : b ≠ a) : (s.rset a w).rget b = s.rget b := by
  simp only [State.rget, State.rset]; exact mget_mput_ne _ _ _ _ h
@[simp] theorem State.rget_updChan (c : Nat) (f : Chan → Chan) (j : Nat) : (s.updChan c f).rget j = s.rget j := rfl
@[simp] theorem State.rget_updIsland (i : Nat) (f : Island → Island) (j : Nat) : (s.updIsland i f).rget j = s.rget j := rfl
@[simp] theorem State.rget_updEngine (e : Nat) (f : Eng → Eng) (j : Nat) : (s.updEngine e f).rget j = s.rget j := rfl
@[simp] theorem State.rget_updLane (l : Nat) (f : Lane → Lane) (j : Nat) : (s.updLane l f).rget j = s.rget j := rfl
@[simp] theorem State.rget_updPort (p : Nat) (f : Port → Port) (j : Nat) : (s.updPort p f).rget j = s.rget j := rfl
@[simp] theorem State.rget_updDev (f : LinkDev → LinkDev) (j : Nat) : (s.updDev f).rget j = s.rget j := rfl
@[simp] theorem State.rget_updCmdq (m : Nat) (f : CmdQ → CmdQ) (j : Nat) : (s.updCmdq m f).rget j = s.rget j := rfl
@[simp] theorem State.rget_updQueue (q : Nat) (f : LQueue → LQueue) (j : Nat) : (s.updQueue q f).rget j = s.rget j := rfl
@[simp] theorem State.rget_updStream (k : Nat) (f : LStream → LStream) (j : Nat) : (s.updStream k f).rget j = s.rget j := rfl
@[simp] theorem State.rget_updPf (m : Nat) (f : Pf → Pf) (j : Nat) : (s.updPf m f).rget j = s.rget j := rfl
@[simp] theorem State.rget_updRing (r : Nat) (f : HRing → HRing) (j : Nat) : (s.updRing r f).rget j = s.rget j := rfl
@[simp] theorem State.rget_updBank (n : Nat) (f : Bank → Bank) (j : Nat) : (s.updBank n f).rget j = s.rget j := rfl
@[simp] theorem State.rget_updMember (n : Nat) (f : Member → Member) (j : Nat) : (s.updMember n f).rget j = s.rget j := rfl
@[simp] theorem State.rget_updEmitter (n : Nat) (f : Emitter → Emitter) (j : Nat) : (s.updEmitter n f).rget j = s.rget j := rfl
@[simp] theorem State.rget_updSeqr (f : Nat) (g : Seqr → Seqr) (j : Nat) : (s.updSeqr f g).rget j = s.rget j := rfl
@[simp] theorem State.rget_updCtx (i : Nat) (f : Ctx → Ctx) (j : Nat) : (s.updCtx i f).rget j = s.rget j := rfl
@[simp] theorem State.rget_updQtz (f : Quartz → Quartz) (j : Nat) : (s.updQtz f).rget j = s.rget j := rfl
@[simp] theorem State.rget_updProbe (p : Nat) (f : ProbePort → ProbePort) (j : Nat) : (s.updProbe p f).rget j = s.rget j := rfl
@[simp] theorem State.rget_updLag (f : Lagoon → Lagoon) (j : Nat) : (s.updLag f).rget j = s.rget j := rfl
@[simp] theorem State.rget_updComp (f : Comp → Comp) (j : Nat) : (s.updComp f).rget j = s.rget j := rfl
@[simp] theorem State.rget_updFl (f : Flint → Flint) (j : Nat) : (s.updFl f).rget j = s.rget j := rfl
@[simp] theorem State.rget_updHk (f : Hk → Hk) (j : Nat) : (s.updHk f).rget j = s.rget j := rfl
@[simp] theorem State.rget_updRef (f : RefMon → RefMon) (j : Nat) : (s.updRef f).rget j = s.rget j := rfl
@[simp] theorem State.rget_updOwn (f : Own → Own) (j : Nat) : (s.updOwn f).rget j = s.rget j := rfl
@[simp] theorem State.rget_updCmd (f : Cmd → Cmd) (j : Nat) : (s.updCmd f).rget j = s.rget j := rfl
@[simp] theorem State.rget_updBus (f : Bus → Bus) (j : Nat) : (s.updBus f).rget j = s.rget j := rfl
@[simp] theorem State.rget_updMem (f : Mem → Mem) (j : Nat) : (s.updMem f).rget j = s.rget j := rfl
@[simp] theorem State.rget_updHost (f : HostIf → HostIf) (j : Nat) : (s.updHost f).rget j = s.rget j := rfl
@[simp] theorem State.rget_updTriad (f : Triad → Triad) (j : Nat) : (s.updTriad f).rget j = s.rget j := rfl
@[simp] theorem State.rget_updEmit (f : Emit → Emit) (j : Nat) : (s.updEmit f).rget j = s.rget j := rfl
@[simp] theorem State.rget_updSec (f : Sec → Sec) (j : Nat) : (s.updSec f).rget j = s.rget j := rfl
@[simp] theorem State.rget_updStart (f : Start → Start) (j : Nat) : (s.updStart f).rget j = s.rget j := rfl
@[simp] theorem State.rget_updPerf (f : Perf → Perf) (j : Nat) : (s.updPerf f).rget j = s.rget j := rfl
@[simp] theorem State.rget_updCtxs (f : CtxStore → CtxStore) (j : Nat) : (s.updCtxs f).rget j = s.rget j := rfl
@[simp] theorem State.rget_updCyc (a : Nat) (f : Cyc → Cyc) (j : Nat) : (s.updCyc a f).rget j = s.rget j := rfl
@[simp] theorem State.rget_emitOut (o : Out) (j : Nat) : (s.emitOut o).rget j = s.rget j := rfl

end Sys2Proof.Machine
end

