-- ==== Sys2Proof/Laws/Ops.lean ====
section
/-! SUPPORT. What the shared operations do: counts, events, interrupts, records on their way, alarms, the host's traffic. Each lemma
says the whole of an operation's effect on the part it names; the `_only` lemmas say which parts it may change. -/

namespace Sys2Proof

open Machine

/-! ## Frames -/

theorem Only.refl (l : List Part) (s : State) : Only l s s := ⟨rfl, fun p _ => by cases p <;> first | rfl | exact ⟨rfl, rfl⟩⟩

theorem Part.Same.trans {p : Part} {s t u : State} (h : p.Same s t) (h' : p.Same t u) : p.Same s u := by
  cases p <;> first | exact Eq.trans h' h | exact ⟨Eq.trans h'.1 h.1, Eq.trans h'.2 h.2⟩

theorem Only.trans {l : List Part} {s t u : State} (h : Only l s t) (h' : Only l t u) : Only l s u :=
  ⟨h'.1.trans h.1, fun p hp => (h.2 p hp).trans (h'.2 p hp)⟩

theorem Only.mono {l k : List Part} {s t : State} (h : Only l s t) (hk : ∀ p ∈ l, p ∈ k) : Only k s t :=
  ⟨h.1, fun p hp => h.2 p (fun hp' => hp (hk p hp'))⟩

theorem Only.ite {l : List Part} {s t u : State} (c : Prop) [Decidable c] (ht : Only l s t) (hu : Only l s u) :
    Only l s (if c then t else u) := by split <;> assumption

/-- A property that the function keeps is kept by the loop. -/
theorem forEach_keeps {α : Type} {P : State → Prop} (l : List α) (f : State → α → State) {s : State} (hs : P s)
    (hf : ∀ (t : State) (a : α), a ∈ l → P t → P (f t a)) : P (forEach l f s) := by
  induction l generalizing s with
  | nil => exact hs
  | cons a l ih => exact ih (hf s a List.mem_cons_self hs) (fun t b hb => hf t b (List.mem_cons_of_mem _ hb))

@[simp] theorem forEach_nil {α : Type} (f : State → α → State) (s : State) : forEach [] f s = s := rfl
@[simp] theorem forEach_cons {α : Type} (a : α) (l : List α) (f : State → α → State) (s : State) :
    forEach (a :: l) f s = forEach l f (f s a) := rfl

theorem forEach_only {α : Type} {p : List Part} (l : List α) (f : State → α → State) (s : State)
    (hf : ∀ (t : State) (a : α), Only p t (f t a)) : Only p s (forEach l f s) :=
  forEach_keeps (P := fun t => Only p s t) l f (Only.refl p s) (fun t a _ h => h.trans (hf t a))

/-! ## Registers, counts, events -/

theorem rset_only (s : State) (a : Nat) (w : Word) : Only [.regs] s (s.rset a w) :=
  ⟨rfl, fun p hp => by cases p <;> first | exact absurd (by decide) hp | rfl | exact ⟨rfl, rfl⟩⟩

@[simp] theorem updCyc_rget (s : State) (a b : Nat) (f : Cyc → Cyc) : (s.updCyc a f).rget b = s.rget b := rfl

theorem cnt_counts (s : State) (a : Nat) : Counts s (s.cnt a) a := by simp [Counts, State.cnt, State.cntN]

theorem cnt_rget_other (s : State) {a b : Nat} (h : b ≠ a) : (s.cnt a).rget b = s.rget b := State.rget_rset_other s _ h

theorem cnt_only (s : State) (a : Nat) : Only [.regs] s (s.cnt a) := (rset_only s a _).trans (updCyc_only _ a _)

theorem emitOut_only (s : State) (o : Out) : Only [.out] s (s.emitOut o) :=
  ⟨rfl, fun p hp => by cases p <;> first | exact absurd (by decide) hp | rfl | exact ⟨rfl, rfl⟩⟩

theorem msix_only (s : State) (m v : Nat) : Only [.host, .out] s (s.msix m v) := by
  unfold State.msix
  dsimp only
  split
  · exact (emitOut_only s _).mono (by decide)
  · split
    · exact (updPf_only s m _).mono (by decide)
    · exact Only.refl _ s

/-- A vector that nothing masks sends its message. -/
theorem msix_sends {s : State} {m v : Nat} (h1 : (s.pf m).msixEn = true) (h2 : (s.pf m).msixMask = false)
    (h3 : (mget MsixEnt.reset (s.pf m).msix v).masked = false) (h4 : s.pfLive m = true) :
    s.msix m v = s.emitOut (.msix m v) := by simp [State.msix, h1, h2, h3, h4]

@[simp] theorem msix_regs (s : State) (m v : Nat) : (s.msix m v).regs = s.regs := ((msix_only s m v).2 .regs (by decide)).1

theorem msixAll_only (s : State) (v : Nat) : Only [.host, .out] s (s.msixAll v) := forEach_only _ _ s (fun t m => msix_only t m v)

@[simp] theorem msixAll_regs (s : State) (v : Nat) : (s.msixAll v).regs = s.regs := ((msixAll_only s v).2 .regs (by decide)).1

/-- The register cells after an event: the flags are in, the sequence number has gone on. -/
theorem evt_regs (s : State) (a flags : Nat) (h : flags ≠ 0) : (s.evt a flags).regs = (s.rset a (evtW (s.rget a) flags ((s.cycOf a).flags != 0))).regs := by
  unfold State.evt
  rw [if_neg h]
  dsimp only
  split
  · simp
  · split <;> simp

theorem evt_rget (s : State) (a flags : Nat) (h : flags ≠ 0) : (s.evt a flags).rget a = evtW (s.rget a) flags ((s.cycOf a).flags != 0) := by
  have := evt_regs s a flags h
  simp only [State.rget, this]
  exact State.rget_rset s a _

theorem evt_rget_other (s : State) {a b : Nat} (flags : Nat) (h : b ≠ a) : (s.evt a flags).rget b = s.rget b := by
  by_cases hf : flags = 0
  · subst hf; rfl
  · have := evt_regs s a flags hf
    simp only [State.rget, this]
    exact State.rget_rset_other s _ h

theorem evt_only (s : State) (a flags : Nat) : Only [.regs, .host, .out] s (s.evt a flags) := by
  unfold State.evt
  split
  · exact Only.refl _ s
  · dsimp only
    have h := ((rset_only s a (evtW (s.rget a) flags ((s.cycOf a).flags != 0))).trans
      (updCyc_only _ a (Cyc.event flags))).mono (k := [.regs, .host, .out]) (by decide)
    split
    · exact h.trans ((msixAll_only _ 67).mono (by decide))
    · split
      · exact h.trans ((msixAll_only _ 69).mono (by decide))
      · exact h

/-- An event of another register than OWN_EVT and HOSTIF_EVT changes its register alone. -/
theorem evt_regs_only (s : State) {a : Nat} (flags : Nat) (h1 : a ≠ Reg.OWN_EVT) (h2 : a ≠ Reg.HOSTIF_EVT) :
    Only [.regs] s (s.evt a flags) := by
  unfold State.evt
  split
  · exact Only.refl _ s
  · simp only [h1, h2, if_false]; exact (rset_only s a _).trans (updCyc_only _ a _)

/-- A flag of `evtW` is set when it was, or when it is among the new ones. -/
theorem evtW_bit (w : Word) (flags i : Nat) (more : Bool) (hi : i < 24) :
    bit (evtW w flags more) i = (bit w i || flags.testBit i) := by
  have h1 : (fld w 0 24 ||| flags % 2 ^ 24) < 2 ^ 24 :=
    Nat.or_lt_two_pow (by simp only [fld]; exact Nat.mod_lt _ (by decide)) (Nat.mod_lt _ (by decide))
  have h2 : (fld w 24 8 + b2n (!more)) % 256 * 2 ^ 24 + (fld w 0 24 ||| flags % 2 ^ 24) =
      2 ^ 24 * ((fld w 24 8 + b2n (!more)) % 256) + (fld w 0 24 ||| flags % 2 ^ 24) := by rw [Nat.mul_comm]
  simp only [bit, evtW, word, BitVec.getLsbD_ofNat, h2, Nat.testBit_two_pow_mul_add _ h1, hi, if_true]
  have h3 : i < 32 := by omega
  have h4 : ∀ n : Nat, (n % 16777216).testBit i = n.testBit i := fun n => by
    rw [show 16777216 = 2 ^ 24 from rfl, Nat.testBit_mod_two_pow]; simp [hi]
  simp [fld, h3, h4, BitVec.getLsbD]

/-- An event sets its flags. -/
theorem evt_sets (s : State) (a flags i : Nat) (hi : i < 24) (h : flags.testBit i = true) : EventSet (s.evt a flags) a i := by
  have hf : flags ≠ 0 := by intro h0; subst h0; simp at h
  simp [EventSet, evt_rget s a flags hf, evtW_bit _ _ _ _ hi, h]

/-! ## Records on their way -/

theorem arrive_port (s : State) (p : Nat) (a : Arrival) : a ∈ mget [] (s.arrive p a).lag.ports p := by
  simp [State.arrive, mupd]

/-- A record that the device builds arrives numbered: what it says is unchanged. -/
theorem toPort_at (s : State) (p : Nat) (r : Rec) (P : Rec → Prop)
    (h : ∀ dev seq, P { r with dev := dev, seq := seq }) : AtPort (s.toPort p r) p P :=
  ⟨_, arrive_port _ p _, h _ _⟩

theorem toPort_only (s : State) (p : Nat) (r : Rec) : Only [.lag, .seqs] s (s.toPort p r) :=
  ⟨rfl, fun q hq => by cases q <;> first | exact absurd (by decide) hq | rfl | exact ⟨rfl, rfl⟩⟩

theorem toMark_on (s : State) (r : Rec) (P : Rec → Prop) (h : ∀ dev seq, P { r with dev := dev, seq := seq }) :
    OnIsland0 (s.toMark r) P := by
  refine ⟨⟨markCh, 0, 1, r.ts, s.now, [(s.number r).1], [], 0, none⟩, ?_, (s.number r).1, by simp, h _ _⟩
  simp [State.toMark, State.markItem, State.number, State.now]

theorem toMark_only (s : State) (r : Rec) : Only [.isl, .seqs] s (s.toMark r) :=
  ⟨rfl, fun q hq => by cases q <;> first | exact absurd (by decide) hq | rfl | exact ⟨rfl, rfl⟩⟩

theorem timeEvent_only (s : State) (kind : Nat) (ts : TS48) (v w : Int) : Only [.isl, .seqs] s (s.timeEvent kind ts v w) :=
  toMark_only s _

/-- What raising an alarm may change. -/
theorem alarm_only (s : State) (code sev d0 d1 : Nat) : Only [.triad, .lag, .seqs, .host, .out] s (s.alarm code sev d0 d1) := by
  unfold State.alarm
  dsimp only
  refine Only.trans (t := (if s.triad.reached && decide (s.rf Reg.TRIAD_ALARM 0 2 ≤ sev) then
    { s with triad := { s.triad with alarm := true } } else s)) ?_ ?_
  · split
    · exact ⟨rfl, fun q hq => by cases q <;> first | exact absurd (by decide) hq | rfl | exact ⟨rfl, rfl⟩⟩
    · exact Only.refl _ s
  · exact ((toPort_only _ 12 _).mono (by decide)).trans ((msixAll_only _ 66).mono (by decide))

/-! ## Traffic with the host -/

theorem perfAdd_only (s : State) (k n : Nat) : Only [.regs] s (s.perfAdd k n) := by
  unfold State.perfAdd
  dsimp only
  refine Only.ite _ (Only.trans ?_ (evt_regs_only _ 1 (by decide) (by decide))) ?_ <;>
    exact ((rset_only s _ _).trans (rset_only _ _ _)).trans (updCyc_only _ _ _)

theorem perf_only (s : State) (cls ev idx n : Nat) : Only [.regs] s (s.perf_ cls ev idx n) := by
  unfold State.perf_
  split
  · exact Only.refl _ s
  · exact forEach_only _ _ s (fun t k => perfAdd_only t k n)

theorem perfM_only (s : State) (cls ev : Nat) (idx : Option Nat) (m : Nat) (addr : Option Nat) (n : Nat) :
    Only [.regs] s (s.perfM cls ev idx m addr n) := forEach_only _ _ s (fun t k => perfAdd_only t k n)

theorem meter_only (s : State) (m n : Nat) : Only [.perf] s (s.meter m n) :=
  ⟨rfl, fun q hq => by cases q <;> first | exact absurd (by decide) hq | rfl | exact ⟨rfl, rfl⟩⟩

theorem hostWrite_only (s : State) (m addr : Nat) (l : List Byte) : Only [.out, .regs, .perf] s (s.hostWrite m addr l) := by
  unfold State.hostWrite
  exact (((((emitOut_only s _).mono (by decide)).trans ((perf_only _ 4 0 m _).mono (by decide))).trans
    ((perf_only _ 4 2 m 1).mono (by decide)))).trans ((meter_only _ m _).mono (by decide))

theorem complete_only (s : State) (m : Nat) (l : List Byte) (abort ep : Bool) :
    Only [.out, .regs, .perf] s (s.complete m l abort ep) := by
  unfold State.complete
  exact (((((emitOut_only s _).mono (by decide)).trans ((perf_only _ 4 0 m _).mono (by decide))).trans
    ((perf_only _ 4 2 m 1).mono (by decide)))).trans ((meter_only _ m _).mono (by decide))

theorem hostIn_only (s : State) (m n : Nat) : Only [.regs, .perf] s (s.hostIn m n) := by
  unfold State.hostIn
  exact ((perf_only s 4 1 m n).mono (by decide)).trans ((meter_only _ _ n).mono (by decide))

/-- The bytes written to the host's memory are among the outputs. -/
theorem hostWrite_out (s : State) (m addr : Nat) (l : List Byte) : Out.hostWrite m addr l ∈ (s.hostWrite m addr l).out := by
  have h1 : ∀ t : State, ((t.perf_ 4 2 m 1).meter m l.length).out = t.out := fun t =>
    ((meter_only _ m l.length).2 .out (by decide)).trans ((perf_only t 4 2 m 1).2 .out (by decide))
  have h2 : ∀ t : State, (t.perf_ 4 0 m l.length).out = t.out := fun t => (perf_only t 4 0 m l.length).2 .out (by decide)
  simp [State.hostWrite, h1, h2, State.emitOut]

/-- After a change a level line has the value given (08 R270). -/
theorem Level.change_now (b : Bool) (t : Nat) (v : Level) : (Level.change b t v).now = b := by
  unfold Level.change
  dsimp only
  split
  · assumption
  · rfl

end Sys2Proof
end

