-- ==== Sys2Proof/Laws/Commands.lean ====
section
/-! SUPPORT. Commands of the opcode index: what the order of checks leaves of an admitted command (03 R90), and what a step does with the
front of the queue. -/

namespace Sys2Proof

open Machine

/-- The state in which a command's own checks begin: only the queue of commands, the lease and the completion log differ (03 R83, R99). -/
theorem taken_eq (s : State) (m : Nat) : taken s m =
    (if (s.takeCmd m).ownerToken m (entryOf s m).token = true then (s.takeCmd m).renewLease else s.takeCmd m).selfChecked := rfl

theorem selfChecked_only (s : State) : Only [.freeCtr] s s.selfChecked :=
  Only.ite _ ⟨rfl, fun p hp => by cases p <;> first | exact absurd (by decide) hp | rfl | exact ⟨rfl, rfl⟩⟩ (Only.refl _ s)

theorem takeCmd_only (s : State) (m : Nat) : Only [.cmd, .triad] s (s.takeCmd m) :=
  (((updCmdq_only s m _).mono (by decide)).trans ((updCmd_only _ _).mono (by decide))).trans ((updTriad_only _ _).mono (by decide))

theorem renewLease_only (s : State) : Only [.own] s s.renewLease := updOwn_only s _

/-- The token check reads the ownership and the time alone. -/
theorem ownerToken_congr {s t : State} (ho : t.own = s.own) (hq : t.qtz = s.qtz) (m : Nat) (k : Token) :
    t.ownerToken m k = s.ownerToken m k := by
  cases s; cases t; simp only at ho hq; subst ho; subst hq; rfl

/-- Taking a command changes the queue of commands, the owner's lease and the triad's completion log alone. -/
theorem taken_only (s : State) (m : Nat) : Only [.cmd, .own, .triad, .freeCtr] s (taken s m) := by
  rw [taken_eq]
  have h : Only [.cmd, .own, .triad, .freeCtr] s (s.takeCmd m) := (takeCmd_only s m).mono (by decide)
  exact (Only.ite _ (h.trans ((renewLease_only _).mono (by decide))) h).trans ((selfChecked_only _).mono (by decide))

/-- Taking a command, the lease and the parameters leave the self-check as it is. -/
theorem checkFails_congr {s t : State} (ht : t.triad.mode = s.triad.mode) (hf : t.freeCtr = s.freeCtr) : t.checkFails = s.checkFails := by
  simp [State.checkFails, ht, hf]

theorem taken_lifecycle (s : State) (m : Nat) : (taken s m).lifecycle = s.lifecycle :=
  congrArg (fun x => x.fuses.state) ((taken_only s m).2 .sec (by decide))

/-- Steps 5 to 8 on the device itself, for a command that is admitted and whose parameters are in range. -/
theorem execCmd_admitted {s : State} {m : Nat} {c : CmdSpec} (hlc : s.lifecycle ≠ 3) (hc : s.checkFails = false)
    (ho : observerOps.contains c.op = false → s.ownerToken m (entryOf s m).token = true)
    (hp : c.paramOk (taken s m) (entryOf s m) = true) (tk : Ticket) :
    (s.takeCmd m).execCmd c m tk (entryOf s m) = c.run (taken s m) tk (entryOf s m) := by
  have hown : (s.takeCmd m).ownerToken m (entryOf s m).token = s.ownerToken m (entryOf s m).token :=
    ownerToken_congr ((takeCmd_only s m).2 .own (by decide)) ((takeCmd_only s m).2 .qtz (by decide)) m _
  have h1 : (!(observerOps.contains c.op) && !(s.takeCmd m).ownerToken m (entryOf s m).token) = false := by
    rw [hown]
    cases hb : observerOps.contains c.op with
    | true => rfl
    | false => rw [ho hb]; rfl
  have h2 : ¬((taken s m).lifecycle = 3 ∧ (!(retiredOps.contains c.op)) = true ∧ c.op ≠ 0x0D01) := fun hx => hlc (taken_lifecycle s m ▸ hx.1)
  have h3 : (s.takeCmd m).checkFails = false := (checkFails_congr rfl rfl).trans hc
  unfold State.execCmd
  rw [h1, h3, ← taken_eq]
  dsimp only
  rw [if_neg (by decide), hp, if_neg (by decide), if_neg h2, if_neg (by decide)]

/-- An admitted command with a right length and right parameters does what it defines, on the state in which it has been taken. -/
theorem runCmd_admitted {s : State} {m : Nat} {c : CmdSpec} (h : Admitted s m c.op) (hl : c.lenOk (entryOf s m) = true)
    (hp : c.paramOk (taken s m) (entryOf s m) = true) :
    s.runCmd c m = (c.run (taken s m) (ticketOf s m) (entryOf s m)).keepTurn (ticketOf s m) := by
  obtain ⟨ht, h0, hlc, hc, ho⟩ := h
  have e : (s.takeCmd m).judgeCmd c m (s.ticket m (s.headEntry m)) (s.headEntry m) (s.entryBytes m (s.headEntry m)) =
      (s.takeCmd m).execCmd c m (ticketOf s m) (entryOf s m) := by
    unfold State.judgeCmd
    rw [show c.lenOk (s.headEntry m) = true from hl, if_neg (by decide), if_pos (Or.inl (show (s.headEntry m).target = 0 from h0))]
    rfl
  unfold State.runCmd
  rw [if_pos ht, e, execCmd_admitted hlc hc ho hp]; rfl

/-- Without such a command in turn nothing happens (03 R111). -/
theorem runCmd_idle {s : State} {m : Nat} {c : CmdSpec} (h : s.hasTurn m c.op = false) : s.runCmd c m = s := by
  simp [State.runCmd, h]

@[simp] theorem taken_regs (s : State) (m : Nat) : (taken s m).regs = s.regs := ((taken_only s m).2 .regs (by decide)).1
@[simp] theorem taken_sec (s : State) (m : Nat) : (taken s m).sec = s.sec := (taken_only s m).2 .sec (by decide)
@[simp] theorem taken_qtz (s : State) (m : Nat) : (taken s m).qtz = s.qtz := (taken_only s m).2 .qtz (by decide)
@[simp] theorem taken_isl (s : State) (m : Nat) : (taken s m).isl = s.isl := (taken_only s m).2 .isl (by decide)
@[simp] theorem taken_eng (s : State) (m : Nat) : (taken s m).eng = s.eng := (taken_only s m).2 .eng (by decide)
@[simp] theorem taken_lag (s : State) (m : Nat) : (taken s m).lag = s.lag := (taken_only s m).2 .lag (by decide)
@[simp] theorem taken_mem (s : State) (m : Nat) : (taken s m).mem = s.mem := (taken_only s m).2 .mem (by decide)
@[simp] theorem taken_ch (s : State) (m : Nat) : (taken s m).ch = s.ch := (taken_only s m).2 .ch (by decide)
@[simp] theorem taken_link (s : State) (m : Nat) : (taken s m).link = s.link := (taken_only s m).2 .link (by decide)
@[simp] theorem taken_fl (s : State) (m : Nat) : (taken s m).fl = s.fl := (taken_only s m).2 .fl (by decide)
@[simp] theorem taken_emit (s : State) (m : Nat) : (taken s m).emit = s.emit := (taken_only s m).2 .emit (by decide)
@[simp] theorem taken_perf (s : State) (m : Nat) : (taken s m).perf = s.perf := (taken_only s m).2 .perf (by decide)

/-! ## Replies -/

/-- What sending a message may change: the port, what its departure stamps, its counters and the outputs (15 R493 to R502). -/
def sendParts : List Part := [.link, .qtz, .regs, .out, .perf]

theorem stampOut_only (s : State) (p : Nat) (f : Frame) : Only sendParts s (s.stampOut p f) :=
  Only.ite _ ((updProbe_only s _ _).mono (by decide))
    (Only.ite _ (Only.ite _ ((updQtz_only s _).mono (by decide)) ((evt_regs_only s _ (by decide) (by decide)).mono (by decide)))
      (Only.refl _ s))

theorem laneTick_only (u : State) (p : Nat) : Only sendParts u
    (match u.timingLane p with
      | some l => u.updLane l (fun x => { x with frameTick := u.now })
      | none => u) := by
  split
  · exact (updLane_only u _ _).mono (by decide)
  · exact Only.refl _ u

theorem depart_only (v : State) (p : Nat) (g : Frame) (b : List Byte) : Only sendParts v
    ((((((v.stampOut p g).emitOut (.frame p b)).cnt (Reg.LINK_FRAMES_TX p)).perf_ 5 0 (4 * p + g.vc) b.length).meter (8 + p) b.length)) :=
  (((((stampOut_only v p g).trans ((emitOut_only _ _).mono (by decide))).trans ((cnt_only _ _).mono (by decide))).trans
    ((perf_only _ 5 0 _ _).mono (by decide)))).trans ((meter_only _ _ _).mono (by decide))

theorem transmit_only (s : State) (p : Nat) (f : Frame) : Only sendParts s (s.transmit p f) := by
  unfold State.transmit
  exact (((updPort_only s p _).mono (by decide)).trans (laneTick_only _ p)).trans (depart_only _ p _ _)

theorem pumpN_only (n : Nat) (s : State) (p : Nat) : Only sendParts s (State.pumpN n s p) := by
  induction n generalizing s with
  | zero => exact Only.refl _ s
  | succ n ih =>
    unfold State.pumpN
    split
    · exact Only.refl _ s
    · exact (transmit_only s p _).trans (ih _)

theorem sendMsg_only (s : State) (p vc kind : Nat) (l : List Byte) : Only sendParts s (s.sendMsg p vc kind l) :=
  ((updPort_only s p _).mono (by decide)).trans (Only.ite _ (pumpN_only _ _ p) (Only.refl _ _))

/-- What writing a reply may change. -/
def replyParts : List Part := [.cmd, .regs, .out, .perf, .host, .link, .qtz]

theorem rpNext_only (s : State) (m : Nat) : Only replyParts s (s.rpNext m) := (updCmdq_only s m _).mono (by decide)

theorem rpAdvance_only (s : State) (m : Nat) : Only replyParts s (s.rpAdvance m) :=
  ((rpNext_only s m).trans ((updCmdq_only _ m _).mono (by decide))).trans ((evt_only _ _ _).mono (by decide))

theorem ringReply_only (u : State) (m a wb : Nat) (b l : List Byte) :
    Only replyParts u (((u.hostWrite m a b).rpAdvance m).hostWrite m wb l) :=
  (((hostWrite_only u m a b).mono (by decide)).trans (rpAdvance_only _ m)).trans ((hostWrite_only _ m wb l).mono (by decide))

theorem putReply_only (s : State) (r : Reply) : Only replyParts s (s.putReply r) := by
  unfold State.putReply
  refine Only.trans (t := s.perfM 3 (if r.status = stOK then 1 else 2) none r.tk.m none 1) ((perfM_only s 3 _ none _ none 1).mono (by decide)) ?_
  generalize hu : s.perfM 3 (if r.status = stOK then 1 else 2) none r.tk.m none 1 = u
  dsimp only
  rw [hu]
  refine Only.ite _ ?_ (Only.ite _ ?_ (Only.ite _ ?_ ?_))
  · exact Only.ite _ ((ringReply_only u _ _ _ _ _).trans ((msix_only _ _ _).mono (by decide))) (ringReply_only u _ _ _ _ _)
  · exact ((updCmd_only u (fun c => { c with
        rp := putBytes c.rp (0x8000 * r.tk.m + 0x800 * ((s.cmdq r.tk.m).rpTail % 16)) ((r.at_ s.beacon).bytes (s.cmdq r.tk.m).rpSeq) })).mono
      (k := replyParts) (by decide)).trans (rpAdvance_only _ _)
  · split
    · exact (rpNext_only _ _).trans ((sendMsg_only _ _ _ _ _).mono (by decide))
    · exact rpNext_only _ _
  · exact (rpNext_only _ _).trans ((updCmd_only _ _).mono (by decide))

theorem writeReply_only (s : State) (r : Reply) : Only replyParts s (s.writeReply r) :=
  Only.ite _ (putReply_only s r) ((updCmdq_only s _ _).mono (by decide))

theorem replyAt_only (s : State) (tk : Ticket) (st : Nat) (res : List Byte) (ts : TS48) : Only replyParts s (s.replyAt tk st res ts) :=
  Only.ite _ (Only.refl _ s) (writeReply_only s _)

theorem reply_only (s : State) (tk : Ticket) (st : Nat) (res : List Byte) : Only replyParts s (s.reply tk st res) :=
  Only.ite _ (Only.refl _ s) (writeReply_only s _)

theorem replyEffect_only (s : State) (tk : Ticket) (st : Nat) (res : List Byte) : Only replyParts s (s.replyEffect tk st res) :=
  Only.ite _ (Only.refl _ s) ((updCmd_only s _).mono (by decide))

theorem finish_only (s : State) (tk : Ticket) (st : Nat) (res : List Byte) : Only replyParts s (s.finish tk st res) :=
  Only.ite _ (replyEffect_only s tk st res) (reply_only s tk st res)

theorem keepTurn_only (t : State) (tk : Ticket) : Only [.cmd] t (t.keepTurn tk) := updCmd_only t _

/-- A step runs the command in front. -/
theorem step_front (c : Instr) (rest : List Instr) (s : State) (h : s.pending = c :: rest) :
    step s = exec c { s with pending := rest } := by simp [step, h]

end Sys2Proof
end

