-- ==== Sys2Proof/Laws/Engine.lean ====
section
/-! SUPPORT. What an engine instruction in issue does, once for each shape of instruction (09 R314, R321). -/

namespace Sys2Proof

open Machine

/-- An instruction in issue runs its meaning on the engine with its issue state moved on. -/
theorem engStep_issues {s : State} {e : Nat} {op : EOp} {w : Word} (h : Issues s e op w) (f : State → Word → State) :
    s.engStep e op f = f (s.updEngine e (fun x => x.issue op w (s.engCyc (e / 16)))) w := by
  obtain ⟨h1, h2, h3, h4⟩ := h
  simp [State.engStep, h1, h2, h3, h4]

/-- An instruction that changes the registers alone completes with them. -/
theorem engRegs_result {c : Instr} {s : State} {e : Nat} {op : EOp} {w : Word} (h : Issues s e op w) (f : EngRegs → Word → EngRegs)
    (r : EngRegs) (hc : exec c s = .next (s.engRegs e op f)) (hr : f (pastIssue s e) w = r) : EngineResult c s e op w r := by
  have hs : s.engRegs e op f = (s.updEngine e (fun x => x.issue op w (s.engCyc (e / 16)))).updRegs e (fun y => f y w) := by
    rw [State.engRegs, engStep_issues h]
  refine ⟨_, hc, ?_⟩
  rw [hs]
  refine ⟨⟨rfl, fun k hk => ?_⟩, ?_⟩
  · rw [State.updRegs, State.engine_updEngine_other _ _ hk, State.engine_updEngine_other _ _ hk]
  · rw [State.updRegs, State.engine_updEngine, State.engine_updEngine, ← hr]; rfl

/-- The registers past the instruction in issue read as before it. -/
@[simp] theorem pastIssue_sreg (s : State) (e r : Nat) : (pastIssue s e).sreg r = sOf s e r := rfl
@[simp] theorem pastIssue_vreg (s : State) (e r : Nat) : (pastIssue s e).vreg r = vOf s e r := rfl
@[simp] theorem pastIssue_preg (s : State) (e r : Nat) : (pastIssue s e).preg r = pOf s e r := rfl

/-- A register-register integer instruction. -/
theorem int_result {c : Instr} {s : State} {e : Nat} {op : EOp} {w : Word} (h : Issues s e op w) (f : Word → Word → Word × Nat)
    (v : Word) (b : Nat) (hc : exec c s = .next (s.intR e op f)) (hr : f (sOf s e (wRa w)) (sOf s e (wRb w)) = (v, b)) :
    ScalarResult c s e op w v b := by
  refine engRegs_result h _ _ hc ?_
  simp only [pastIssue_sreg, hr]

/-- Saturation to a word and its STICKY bit are the clamp and whether it acted. -/
theorem satWord_clamp (v : Int) : satWord v = (BitVec.ofInt 32 (clamp 32 v), if clamped 32 v then 1 else 0) := by
  simp only [satWord, satSigned, clamped, clamp, skSAT]
  have h31 : (2 : Int) ^ (32 - 1) = 2147483648 := by decide
  simp only [h31]
  split
  · rename_i h
    have h1 : max (-2147483648) (min 2147483647 v) = -2147483648 := by omega
    simp [h1]; omega
  · split
    · rename_i h h'
      have h1 : max (-2147483648) (min 2147483647 v) = 2147483647 := by omega
      simp [h1]; omega
    · have h1 : max (-2147483648) (min 2147483647 v) = v := by omega
      simp [h1]

/-- Register s0 reads 0, and what is written to it is discarded; every other register reads what was written (09 R305). -/
theorem sreg_zero (r : EngRegs) : r.sreg 0 = 0 := rfl
theorem setS_zero (r : EngRegs) (v : Word) : r.setS 0 v = r := rfl

end Sys2Proof
end

