-- ==== Sys2Proof/Tests/Slice0.lean ====
section
/-! SUPPORT. Small tests of one command each, and for every obligation concrete states that meet its hypotheses. -/

namespace Sys2Proof.Tests

open Machine

set_option Elab.async false

/-! ## Helpers -/

/-- The command answers a next state for which `p` holds. -/
def run (c : Instr) (s : State) (p : State → Bool) : Bool :=
  match exec c s with
  | .next t => p t
  | _ => false

theorem completes_of_run {c : Instr} {s : State} {p : State → Bool} (h : run c s p = true) : Completes c s (fun t => p t = true) := by
  unfold run at h
  split at h
  · exact ⟨_, by assumption, h⟩
  · exact absurd h (by simp)

/-- `Admitted`, as a check. -/
def adm (s : State) (m op : Nat) : Bool :=
  s.hasTurn m op && (entryOf s m).target == 0 && s.lifecycle != 3 && s.triad.mode != 3 &&
    (observerOps.contains op || s.ownerToken m (entryOf s m).token)

theorem admitted_of_adm {s : State} {m op : Nat} (h : adm s m op = true) : Admitted s m op := by
  simp only [adm, Bool.and_eq_true, Bool.or_eq_true, beq_iff_eq, bne_iff_ne] at h
  obtain ⟨⟨⟨⟨h1, h2⟩, h3⟩, h5⟩, h4⟩ := h
  exact ⟨h1, h2, h3, by simp [State.checkFails, h5], fun hf => h4.resolve_left (by rw [hf]; exact Bool.false_ne_true)⟩

/-- `Issues`, as a check. -/
def iss (s : State) (e : Nat) (op : EOp) (w : Word) : Bool :=
  s.engFetch e == some w && s.imemBad e == none && engDecode w == some op && (s.engine e).ready op w (s.engCyc (e / 16))

theorem issues_of_iss {s : State} {e : Nat} {op : EOp} {w : Word} (h : iss s e op w = true) : Issues s e op w := by
  simpa [iss, Issues, and_assoc] using h

/-- `MayWrite`, as a check. -/
def may (s : State) (m : Nat) : Bool := s.reaches m && (m == 7 || s.own.owner == some m) && s.bus.guard == none

theorem mayWrite_of_may {s : State} {m : Nat} (h : may s m = true) : MayWrite s m := by
  simpa [may, MayWrite, and_assoc] using h

/-- A device that runs, at tick 3,000,000, with lifecycle DEVELOP. -/
def on : State :=
  { State.reset with
    qtz := { Quartz.reset with now := 3000000 }
    sec := { Sec.reset with
      start := { Start.reset with step := 0 }, fuses := { Fuses.reset with lifecycle := 1, state := 1 }, straps := ⟨0, true, true, 0⟩ } }

/-- M4 owns it. -/
def owned : State := on.updOwn (fun o => { o with owner := some 4, prio := 3, token := 77, leaseMs := 2000, leaseEnd := 3003000000, issued := [77] })

/-- The bytes of a row of fields, each with its length. -/
def pk (l : List (Nat × Nat)) : List Byte := l.flatMap (fun x => leBytes x.1 x.2)

/-- M4 has submitted a command with the owner's token and these parameter bytes. -/
def cmdOn (s : State) (op : Nat) (params : List Byte) : State :=
  let entry := pk [(2, op), (1, 1), (1, params.length / 8), (2, 9), (1, 0), (1, 0), (8, 77)] ++ params
  (s.updCmd (fun c => { c with sram := putBytes c.sram (slotAddr 4 0) entry })).updCmdq 4 (fun q => { q with tail := 1 })

def cmd (op : Nat) (params : List Byte) : State := cmdOn owned op params

/-- The length, in words, and a parameter field of M4's next command. -/
def len (s : State) : Nat := (entryOf s 4).len
def par (s : State) (o n : Nat) : Nat := (entryOf s 4).p o n

/-! ## Well-formed terms: each check refuses a term -/

theorem test_wf_group : Instr.wf (.groupOutput 0 []) = false := by decide
theorem test_wf_frame : Instr.wf (.frame 0 [1, 2, 3] 0) = false := by decide
theorem test_wf_bar2_write : Instr.wf (.bar2Write 0 4095 [1, 2]) = false := by decide
theorem test_wf_bar2_read : Instr.wf (.bar2Read 0 0 0) = false := by decide
theorem test_wf_descriptor : Instr.wf (.descriptorReadDone 0 [1]) = false := by decide
theorem test_wf_scrub : Instr.wf (.scrubLine 0 0 0 0 [(3, false), (3, true)]) = false := by decide
theorem test_wf_march : Instr.wf (.marchTestLine 0 0 0 0 [(3, false), (3, true)] false 0) = false := by decide
theorem test_wf_copy : Instr.wf (.quartzVoteMismatch ⟨0, 1000000000, 0, 0⟩ ⟨0, 0, 0, 0⟩ ⟨0, 0, 0, 0⟩) = false := by decide

/-- Witness of `IllFormedCommands`. -/
theorem witness_ill_formed : wfFrame [1, 2, 3] = false ∧ wfBar2Write 4095 [1, 2] = false ∧ wfBar2Read 0 0 = false ∧
    wfDescriptor [1] = false ∧ wfErrs [(3, false), (3, true)] = false ∧ wfCopy ⟨0, 1000000000, 0, 0⟩ = false := by decide

/-- Witness of `StepRunsFrontCommand`. -/
theorem test_step_runs_front : (match step { on with pending := [.snapInEdge, .ppsLost] } with
    | .next t => decide (t.pending = [.ppsLost])
    | _ => false) = true := by decide

/-! ## Engines: words spelled by the tables of 09 R319 to R333 -/

theorem test_engine_words : ([
    (wordR 0 1 2 3 0, .add), (wordR 0 1 2 3 1, .sub), (wordR 0 1 2 3 7, .sra), (wordR 0 1 2 3 14, .adds), (wordR 0 1 2 0 17, .clz),
    (wordR 1 1 2 3 4, .div), (wordR 2 1 2 3 0, .cmp), (wordI 8 1 2 0xFFFF, .addi), (wordI 0xC 1 2 0x45, .srai), (wordI 0xD 1 0 5, .lui),
    (wordI 0xE 1 2 7, .cmpi), (wordM 0x14 1 2 5 4, .ldw), (wordM 0x17 1 2 0 4, .stw), (wordR 0x1A 1 2 3 0, .aadd),
    (wordV 1 2 3 0 0 0 0 6, .vmac), (wordVs 1 2 3 0 2, .vext), (wordI 0x28 0 0 0, .pop), (wordI 0x30 0 0 5, .br),
    (wordI 0x33 0 2 0, .jr), (wordI 0x36 0 0 0, .eop)
    ] : List (Word × EOp)).all (fun x => engDecode x.1 == some x.2) = true := by decide

/-- Words that spell nothing: a field that the instruction does not use is not 0 (09 R320). -/
theorem test_engine_illegal : [wordR 0 1 2 3 18, wordR 0 1 2 3 0x20, wordM 0x14 1 2 6 0, wordVs 1 31 0 0 5, wordI 0x36 0 0 1].all
    (fun w => engDecode w == none) = true := by decide

/-- Engine 0 runs and has the word in issue. s2 is 5, s3 is −3, s4 is 0x40; OUT holds a FEATURE of one unit. -/
def eng (w : Word) (f : Machine.Eng → Machine.Eng := fun x => x) : State :=
  (owned.updIsland 0 (fun i => { i with phase := .run, marked := some ⟨true, false, 2999000, 1000⟩ })).updEngine 0 (fun x => f { x with
    st := .run, loaded := true, imem := [(0, w)], img := { Image.none with codeWords := 16, scratchBase := 0x100, scratchLen := 0x100 }
    r := { x.r with s := [(2, 5), (3, 0xFFFFFFFD), (4, 0x140)] } })

def engRuns (w : Word) (c : Instr) (p : State → Bool) : Bool := run c (eng w) p

/-- Witnesses of `EngineInteger`: each is in issue, and what some of them give. -/
theorem witness_engine_integer : (List.range 18).all (fun n => ([(if n < 16 then wordR 0 1 2 3 n else wordR 0 1 2 0 n)] : List Word).all (fun w =>
      intOps[n]?.any (fun op => iss (eng w) 0 op w))) = true ∧
    (List.range 8).all (fun n => mulOps[n]?.any (fun op => iss (eng (wordR 1 1 2 3 n)) 0 op (wordR 1 1 2 3 n))) = true ∧
    ([(.addi, wordI 8 1 2 0xFFFF), (.andi, wordI 9 1 2 4), (.ori, wordI 10 1 2 8), (.xori, wordI 11 1 2 1), (.slli, wordI 12 1 2 3),
      (.srli, wordI 12 1 2 0x21), (.srai, wordI 12 1 3 0x41), (.lui, wordI 13 1 0 5)] : List (EOp × Word)).all
      (fun x => iss (eng x.2) 0 x.1 x.2) = true := by decide

theorem test_add : engRuns (wordR 0 1 2 3 0) (.add 0) (fun t => sOf t 0 1 == 2 && sOf t 0 2 == 5) = true := by decide
theorem test_sra : engRuns (wordR 0 1 3 2 7) (.sra 0) (fun t => sOf t 0 1 == 0xFFFFFFFF) = true := by decide
theorem test_sltu : engRuns (wordR 0 1 2 3 9) (.sltu 0) (fun t => sOf t 0 1 == 1) = true := by decide
theorem test_slt : engRuns (wordR 0 1 2 3 8) (.slt 0) (fun t => sOf t 0 1 == 0) = true := by decide
theorem test_clz : engRuns (wordR 0 1 2 0 17) (.clz 0) (fun t => sOf t 0 1 == 29) = true := by decide
theorem test_addi_sign : engRuns (wordI 8 1 2 0xFFFF) (.addi 0) (fun t => sOf t 0 1 == 4) = true := by decide
theorem test_write_s0 : engRuns (wordR 0 0 2 3 0) (.add 0) (fun t => sOf t 0 0 == 0) = true := by decide
theorem test_mulh : engRuns (wordR 1 1 3 2 1) (.mulh 0) (fun t => sOf t 0 1 == 0xFFFFFFFF) = true := by decide
theorem test_div_toward_zero : engRuns (wordR 1 1 3 4 4) (.div 0) (fun t => sOf t 0 1 == 0) = true := by decide
theorem test_div_by_zero : engRuns (wordR 1 1 2 0 4) (.div 0) (fun t => sOf t 0 1 == 0xFFFFFFFF && (t.engine 0).r.sticky == 2) = true := by
  decide
theorem test_rem_by_zero : engRuns (wordR 1 1 2 0 6) (.rem 0) (fun t => sOf t 0 1 == 5) = true := by decide

/-- Witnesses of `EngineCompareAndPredicate`: CMP LT of s3 and s2, CMPI GEU, the predicate logic, GETSR of each register, SETSR. -/
theorem witness_engine_compare : ([(.cmp, wordR 2 1 3 2 2), (.cmpi, BitVec.ofNat 32 (0xE * 2 ^ 26 + 5 * 2 ^ 23 + 2 ^ 21 + 2 * 2 ^ 16 + 7)),
      (.setsr, wordR 3 2 0 7 1)] : List (EOp × Word)).all (fun x => iss (eng x.2) 0 x.1 x.2) = true ∧
    (List.range 4).all (fun n => predOps[n]?.any (fun op =>
      let w := BitVec.ofNat 32 (4 * 2 ^ 26 + 2 ^ 24 + 2 * 2 ^ 22 + 3 * 2 ^ 20 + n)
      iss (eng w) 0 op w)) = true ∧
    (List.range 9).all (fun n => iss (eng (wordR 3 1 0 n 0)) 0 .getsr (wordR 3 1 0 n 0)) = true := by decide

theorem test_cmp_lt : engRuns (wordR 2 1 3 2 2) (.cmp 0) (fun t => pOf t 0 1 == 0xFF) = true := by decide
theorem test_cmp_ltu : engRuns (wordR 2 1 3 2 4) (.cmp 0) (fun t => pOf t 0 1 == 0) = true := by decide

/-- Witnesses of `EngineLoadStore`: every load and store of LOC, OUT, a context buffer and, without a record, IN; a store into scratch. -/
theorem witness_engine_load : ([(.ldb, 0x10, 1), (.ldbu, 0x11, 1), (.ldh, 0x12, 2), (.ldhu, 0x13, 2), (.ldw, 0x14, 4), (.ldv, 0x18, 16)] :
      List (EOp × Nat × Nat)).all (fun x => [0, 1, 2, 3, 4].all (fun sp =>
        let w := wordM x.2.1 1 0 sp 2
        iss (eng w) 0 x.1 w && decide (effAddr (eng w) 0 w x.2.2 % x.2.2 = 0 ∧ effAddr (eng w) 0 w x.2.2 + x.2.2 ≤ 128))) = true ∧
    ((eng 0).engine 0).r.c0.bytes.length = 128 ∧ ((eng 0).engine 0).r.cur = none ∧ (eng 0).firstPoison 1 0 8 4 = none := by
  decide +kernel

theorem witness_engine_store : ([(.stb, 0x15, 1), (.sth, 0x16, 2), (.stw, 0x17, 4), (.stv, 0x19, 16)] :
      List (EOp × Nat × Nat)).all (fun x => [0, 2, 3, 4].all (fun sp =>
        let w := wordM x.2.1 1 (if sp = 0 then 4 else 0) sp (16 / x.2.2)
        let a := effAddr (eng w) 0 w x.2.2
        iss (eng w) 0 x.1 w && decide (a % x.2.2 = 0 ∧ (if sp = 0 then 0x100 ≤ a ∧ a + x.2.2 ≤ 0x200 else a = 16)))) = true := by decide

theorem test_store_load_scratch : engRuns (wordM 0x17 3 4 0 1) (.stw 0) (fun t =>
    (List.range 4).map (fun k => spaceByte t 0 0 (0x144 + k)) == [0xFD, 0xFF, 0xFF, 0xFF] && spaceByte t 0 0 0x148 == 0) = true := by decide

/-- Witnesses of `EngineSharedMemory`: an access to a bank of the Island is in issue, and one waits at its bank. -/
theorem witness_engine_shared : ([(.ldb, 0x10, 1), (.ldw, 0x14, 4), (.ldv, 0x18, 16), (.stb, 0x15, 1), (.stw, 0x17, 4), (.stv, 0x19, 16)] :
      List (EOp × Nat × Nat)).all (fun x =>
        let w := wordM x.2.1 1 0 5 2
        iss (eng w) 0 x.1 w && wSp w == 5 && (eng w).mayBank 0 (effAddr (eng w) 0 w x.2.2)) = true ∧
    ([(.aadd, 0x1A), (.aswp, 0x1B)] : List (EOp × Nat)).all (fun x =>
      let w := wordR x.2 1 4 3 0
      iss (eng w) 0 x.1 w && (eng w).mayBank 0 0x140) = true ∧
    ([ShOp.load 1 4 false, .store (leBytes 4 7), .aadd 1 7, .aswp 1 7]).all (fun op =>
      let s := eng 0 (fun x => { x with sh := [(op, 0x40)] })
      (s.bank 0).st == 0 && s.bankNext 0 0 == some 0 && s.firstPoison 2 0 0x40 4 == none) = true := by decide +kernel

theorem test_aadd_served : run (.shAccessServed 0 0) (eng 0 (fun x => { x with sh := [(.aadd 1 7, 0x40)] })) (fun t =>
    shWord t 0 0x40 == 7 && sOf t 0 1 == 0 && (t.engine 0).sh.isEmpty) = true := by decide

/-- Witnesses of `EngineFaultCauses`, one for each cause. -/
theorem witness_engine_faults :
    (let w := wordM 0x14 1 2 0 0; iss (eng w) 0 .ldw w && decide (effAddr (eng w) 0 w 4 % 4 ≠ 0)) = true ∧
    (let w := wordM 0x14 1 0 3 32; iss (eng w) 0 .ldw w && decide (128 < effAddr (eng w) 0 w 4 + 4)) = true ∧
    (let w := wordM 0x17 1 0 3 0; iss (eng w) 0 .stw w && decide (effAddr (eng w) 0 w 4 < 16)) = true ∧
    (let w := wordM 0x17 1 0 0 0; iss (eng w) 0 .stw w && decide (effAddr (eng w) 0 w 4 < 0x100)) = true ∧
    (let w := wordM 0x17 1 0 1 0; iss (eng w) 0 .stw w && wSp w == 1) = true ∧
    (let w := wordM 0x14 1 0 5 0; let s := (eng w).updBank 0 (fun b => { b with owner := 4 })
     iss s 0 .ldw w && !s.mayBank 0 0) = true ∧
    (let w := wordI 0x28 0 0 2; iss (eng w) 0 .push w && decide (spaceByte (eng w) 0 2 0 = 0)) = true ∧
    ([(.br, wordI 0x30 0 0 20), (.bp, wordB 0x31 22 1 20), (.jal, wordB 0x32 21 1 20), (.jr, wordI 0x33 0 4 0),
      (.loop, wordB 0x34 21 2 20)] : List (EOp × Word)).all (fun x => iss (eng x.2) 0 x.1 x.2) = true ∧
    (({ eng 0 with mem := { (eng 0).mem with poison := [(memKey 0 0 0, true)] } } : State).imemBad 0).isSome = true ∧
    ((eng 0xFFFFFFFF).engFetch 0 = some 0xFFFFFFFF ∧ engDecode 0xFFFFFFFF = none) := by decide

theorem test_branch_fault : engRuns (wordI 0x30 0 0 20) (.br 0) (fun t => (t.engine 0).cause == 7 && (t.engine 0).st == .done &&
    (t.engine 0).consec == 1) = true := by decide

/-- Witnesses of `EngineVector`: every instruction in issue, with 16-bit and, but for VMAC, 32-bit lanes. -/
theorem witness_engine_vector : (List.range 18).all (fun n => [0, 1].all (fun x => vecOps[n]?.any (fun op =>
      let w := wordV (if op == .vcmp then 0 else 1) 2 (if op.isVShift || op == .vabs then 0 else 3) (if op == .vmac then 0 else x) (if op == .vsel || op == .vcmp then 0 else 1) 1 0 n
      iss (eng w) 0 op w))) = true ∧
    (List.range 7).all (fun n => [0, 1].all (fun x => vsOps[n]?.any (fun op => iss (eng (wordVs 1 2 0 x n)) 0 op (wordVs 1 2 0 x n)))) = true := by
  decide

theorem test_vsplat : engRuns (wordVs 1 3 0 0 0) (.vsplat 0) (fun t => (List.range 8).all (fun i => vlane false (vOf t 0 1) i == 0xFFFD)) = true := by
  decide


/-! ## Streams, contexts and control of the engines -/

/-- A record of class `cls` from index `idx`. -/
def rcd (typ cls idx : Nat) (body : List Byte) : Rec := ⟨typ, 0, 1, cls, idx, 0, 0, body⟩
/-- An item with one record. -/
def itm (r : Rec) : Item := ⟨r.idx, 0, r.units, r.ts, 0, [r], [], 0, none⟩
/-- A ticket of M4. -/
def tkt (op : Nat) : Ticket := ⟨4, op, 9, true, 0, 0⟩

def hit : Rec := rcd tHIT 0 3 []
/-- A record in the inbound FIFO of engine 0. -/
def fed (w : Word) (f : Machine.Eng → Machine.Eng := fun x => x) : State :=
  eng w (fun x => f { x with input := { x.input with ents := [.item (itm hit)] } })

theorem witness_engine_records :
    (iss (fed (wordI 0x28 0 0 0)) 0 .pop (wordI 0x28 0 0 0) && (fed 0).engHead 0 == some hit && ((eng 0).engine 0).input.ents.isEmpty) = true ∧
    (let s := eng (wordI 0x28 0 0 1) (fun x => { x with r := { x.r with cur := some hit } })
     iss s 0 .fwd (wordI 0x28 0 0 1) && (s.engine 0).r.cur == some hit && !(s.engine 0).outResv && (s.engine 0).output.pend == none &&
       decide ((s.engine 0).outUsed s.now + 1 ≤ engSlots)) = true ∧
    (let s := eng (wordI 0x28 0 0 2) (fun x => { x with r := { x.r with out := putBytes [] 0 (pk [(1, tFEATURE), (1, 0), (2, 1)]) } })
     iss s 0 .push (wordI 0x28 0 0 2) && decide (spaceByte s 0 2 0 = BitVec.ofNat 8 tFEATURE ∧ spaceByte s 0 2 2 = 1)) = true ∧
    ((fed 0 (fun x => { x with st := .wait })).engHead 0 == some hit && (fed 0 (fun x => { x with st := .done })).engHead 0 == some hit &&
      (owned.island 0).phase == .run) = true := by decide +kernel

theorem test_pop : run (.pop 0) (fed (wordI 0x28 0 0 0)) (fun t => (t.engine 0).r.cur == some hit && pOf t 0 0 == 0xFF &&
    (t.engine 0).input.ents.isEmpty) = true := by decide +kernel
theorem test_pop_empty : run (.pop 0) (eng (wordI 0x28 0 0 0)) (fun t => pOf t 0 0 == 0) = true := by decide +kernel
theorem test_item_entry : run (.itemEntry 0) (fed 0 (fun x => { x with st := .wait, img := { x.img with entryItem := 3 } })) (fun t =>
    (t.engine 0).st == .run && (t.engine 0).r.pc == 3 && (t.engine 0).r.cur == some hit) = true := by decide +kernel
theorem test_done_discard : run (.doneItemDiscard 0) (fed 0 (fun x => { x with st := .done })) (fun t =>
    (t.rget (Reg.ISL_ENG_EOPDROP 0 0)).toNat == 1) = true := by decide +kernel

def ctxEng (w : Word) (b : CtxBuf) (isl : Nat) : State :=
  (eng w (fun x => { x with r := { x.r with c0 := b } })).updCtx 5 (fun c => { c with island := isl })

theorem witness_engine_contexts :
    (iss (eng (wordI 0x28 0 2 3)) 0 .ctxld (wordI 0x28 0 2 3)) = true ∧
    (let s := ctxEng 0 ⟨none, List.replicate 128 0, some ⟨5, 1, 3000000⟩⟩ 0
     (s.bank (ctxBank 5)).st == 0 && s.firstPoison 3 (ctxBank 5) (ctxOff 5) 128 == none && (s.ctxOf 5).island == 0 && !(s.ctxOf 5).unrel &&
       (s.ctxOf 5).kind == 0 && (s.engine 0).img.ctxKind == 0) = true ∧
    (let s := ctxEng 0 ⟨none, List.replicate 128 0, some ⟨5, 1, 3000000⟩⟩ 4
     (s.ctxOf 5).island != 0) = true ∧
    (let s := ctxEng (wordI 0x28 0 0 4) ⟨some 5, List.replicate 128 1, none⟩ 0
     iss s 0 .ctxst (wordI 0x28 0 0 4) && wB (wordI 0x28 0 0 4) == 0 && (s.island 0).staged.isEmpty) = true ∧
    (iss (ctxEng (wordI 0x28 0 0 4) CtxBuf.reset 0) 0 .ctxst (wordI 0x28 0 0 4)) = true := by decide +kernel

theorem test_ctxld_done : run (.ctxldDone 0) (ctxEng 0 ⟨none, List.replicate 128 7, some ⟨5, 1, 3000000⟩⟩ 0) (fun t =>
    pOf t 0 1 == 0xFF && (t.engine 0).r.c0.id == some 5 && (t.engine 0).r.c0.bytes.length == 128) = true := by decide +kernel
theorem test_ctxld_other_island : run (.ctxldDone 0) (ctxEng 0 ⟨none, List.replicate 128 7, some ⟨5, 1, 3000000⟩⟩ 4) (fun t =>
    pOf t 0 1 == 0 && (t.engine 0).r.c0.bytes.head? == some 7) = true := by decide +kernel

theorem witness_engine_control :
    ([(.br, wordI 0x30 0 0 5), (.bp, wordI 0x31 2 0 5), (.bp, wordI 0x31 0 0 5), (.jal, wordI 0x32 1 0 5), (.jr, wordI 0x33 0 2 0),
      (.loop, wordI 0x34 0 0 5), (.loop, wordI 0x34 2 0 5), (.yield, wordI 0x35 0 0 0), (.eop, wordI 0x36 0 0 0), (.evt, wordI 0x28 0 2 0x35)] :
      List (EOp × Word)).all (fun x => iss (eng x.2) 0 x.1 x.2) = true ∧ (eng 0).fl.events = [] := by decide +kernel

theorem test_br : engRuns (wordI 0x30 0 0 5) (.br 0) (fun t => (t.engine 0).r.pc == 5) = true := by decide +kernel
theorem test_jal : engRuns (wordI 0x32 1 0 5) (.jal 0) (fun t => (t.engine 0).r.pc == 5 && sOf t 0 1 == 1) = true := by decide +kernel
theorem test_loop : engRuns (wordI 0x34 2 0 5) (.loop 0) (fun t => (t.engine 0).r.pc == 5 && sOf t 0 2 == 4) = true := by decide +kernel
theorem test_eop : engRuns (wordI 0x36 0 0 0) (.eop 0) (fun t => (t.engine 0).st == .done) = true := by decide +kernel
theorem test_evt : engRuns (wordI 0x28 0 2 0x35) (.evt 0) (fun t => t.fl.events.map (fun v => v.c.line) == [87]) = true := by decide +kernel

/-! ## Trigger sequencers -/

/-- Sequencer 1 is armed in state 0; slot A holds always and its action is `a`. -/
def flint (table : Nat) (a : Word) (g : Seqr → Seqr := fun q => q) : State :=
  (owned.updFl (fun x => { x with image := putWords [] (136 + 8) [0, 0, BitVec.ofNat 32 table, a] })).updSeqr 1 (fun q =>
    g { q with armed := true, loaded := true, moved := 2999999 })

/-- A message waits at port `p`. -/
def msgAt (s : State) (p vc kind : Nat) (l : List Byte) : State :=
  s.updPort p (fun x => { x with rx := { x.rx with inbox := [⟨vc, kind, l, 0, 1, false, 0⟩] } })

def rcMsg : RcMsg := ⟨3, 1, 2, 9, 0, 1⟩
def rcPort (n : Nat) : State :=
  (((msgAt owned 1 1 0 rcMsg.bytes).updPort 1 (fun x => { x with st := 2, role := 3 })).rset (Reg.FLINT_RC 2) 0).updFl (fun x => { x with
    rcq := mput [] x.rcq 2 ((List.range n).map (fun k => ⟨4, k, 2, 100 + k, 0, 1⟩)) })

theorem witness_flint_events :
    (let s := flint 0xFFFF 0x18000003
     (s.seqr 1).armed && s.slotHolds (s.slot 1 0 0)) = true ∧
    (let s := flint 0 0
     !s.slotHolds (s.slot 1 0 0)) = true ∧
    (let s := flint 0 0 (fun q => { q with t0run := true, t0end := 3000000, holdEnd := some 3000000 })
     ((s.seqr 1).tmr 0).run && ((s.seqr 1).tmr 0).fin == 3000000) = true ∧
    (let s := (flint 0 0).rset (Reg.FLINT_AUTO_LO 1) 100
     s.autoTicks 1 == 100 && !s.holding 1 && (s.seqr 1).armed) = true ∧
    (let s := (flint 0 0 (fun q => { q with holdEnd := some 3000100 })).rset (Reg.FLINT_AUTO_LO 1) 100
     s.holding 1) = true ∧
    (rcPort 7).headMsg 1 1 0 ≠ none ∧ (rcPort 7).trigPorts.contains 1 = true ∧ (rcPort 7).rcDup rcMsg = false ∧
    (rcPort 7).rb (Reg.FLINT_RC 2) 31 = false ∧ (mget [] (rcPort 7).fl.rcq 2).length = 7 ∧ (mget [] (rcPort 8).fl.rcq 2).length = 8 ∧
    (mget [] (rcPort 8).fl.rcq 2).all (fun y => y.num != 9) = true := by decide +kernel

theorem test_flint_transition : run (.flintTransition 1) (flint 0xFFFF 0x38000003) (fun t =>
    (t.seqr 1).state == 3 && (t.seqr 1).num == 1 && !(t.seqr 1).armed) = true := by decide +kernel
theorem test_flint_timer : run (.flintTimerZero 1 0) (flint 0 0 (fun q => { q with t0run := true, t0end := 3000000 })) (fun t =>
    !(t.seqr 1).t0run && (t.level 154).now) = true := by decide +kernel
theorem test_flint_auto : run (.flintAutoTrigger 1) ((flint 0 0).rset (Reg.FLINT_AUTO_LO 1) 100) (fun t =>
    (t.seqr 1).num == 1 && (t.rget (Reg.FLINT_FORCED_CNT 1)).toNat == 1) = true := by decide +kernel
theorem test_trigger_queued : run (.trigger 1) (rcPort 7) (fun t => (mget [] t.fl.rcq 2).length == 8) = true := by decide +kernel
theorem test_trigger_overflow : run (.trigger 1) (rcPort 8) (fun t => (t.rget Reg.FLINT_RC_OVF).toNat == 1) = true := by decide +kernel
theorem test_trig_in : run (.trigInChange 2 true) owned (fun t => (t.level 66).now) = true := by decide +kernel
theorem test_tout_end : run (.trigOutPulseEnd 0) (owned.updTout 0 (fun _ => ⟨true, some 5, some 1, some 2⟩)) (fun t =>
    !(t.tout 0).level && (t.tout 0).until_ == none) = true := by decide +kernel

/-- Witnesses of `FlintCommands`: arm, force, and load of a program whose slots name line 0xFF. -/
theorem witness_flint_commands :
    (let s := cmdOn (flint 0 0) 0x0502 (pk [(1, 2), (1, 4), (6, 0)])
     adm s 4 0x0502 && len s == 1 && par s 0 1 == 2) = true ∧
    (let s := cmd 0x0503 (pk [(1, 2), (1, 15), (6, 0)])
     adm s 4 0x0503 && len s == 1 && par s 0 1 == 2) = true ∧
    (let s := cmd 0x0501 (pk [(1, 0), (1, 3), (542, 0)])
     adm s 4 0x0501 && len s == 68 && programOk (entryOf s 4) && !(s.seqr 3).armed) = true := by decide +kernel

theorem test_flint_arm : run (.flintArm 4) (cmdOn (flint 0 0) 0x0502 (pk [(1, 2), (1, 4), (6, 0)])) (fun t => (t.seqr 1).armed) = true := by
  decide +kernel

/-! ## Time -/

def qtz (f : Quartz → Quartz) : State := owned.updQtz f
def secAt (n : Nat) : QCopyS := ⟨⟨4, BitVec.ofNat 30 n, 0xFFFFFFFF⟩, incNominal⟩

theorem witness_quartz :
    QuartzCalm (qtz (fun q => { q with a := secAt 999999999, b := secAt 999999999, c := secAt 999999999 })) ∧
    (qtz (fun q => { q with secDue := true, reasons := 1 })).chgNow = false ∧
    (let s := qtz (fun q => { q with chg := some ⟨.step 5, 3000000, none⟩ })
     !s.overLimit (s.jump (.step 5)) && decide (0 ≤ s.qtz.time.full + s.jump (.step 5))) = true ∧
    (let s := qtz (fun q => { q with chg := some ⟨.step (-5), 3000000, none⟩ })
     decide (s.qtz.time.full + s.jump (.step (-5)) < 0)) = true ∧
    wfCopy ⟨1, 999999999, 0, incNominal⟩ = true ∧ (⟨1, 999999999, 0, incNominal⟩ : QCopy) ≠ ⟨1, 0, 0, incNominal⟩ := by
  unfold QuartzCalm
  decide +kernel

theorem test_tick_carry : (match step (qtz (fun q => { q with a := secAt 999999999, b := secAt 999999999, c := secAt 999999999 })) with
    | .next t => t.qtz.time.sec == 5 && t.qtz.time.ns == 0 && t.qtz.secDue && t.qtz.now == 3000001
    | _ => false) = true := by decide +kernel
theorem test_beacon : run .timeBeacon (qtz (fun q => { q with beaconDue := some ⟨1, 2, 3⟩ })) (fun t =>
    t.qtz.beacon == ⟨1, 2, 3⟩ && t.qtz.beaconDue == none) = true := by decide +kernel
theorem test_vote : run (.quartzVoteMismatch ⟨1, 2, 0, incNominal⟩ ⟨1, 3, 0, incNominal⟩ ⟨1, 2, 0, incNominal⟩) owned (fun t =>
    t.qtz.time.ns == 2 && t.qtz.voteBad == 2 && bit (t.rget Reg.QTZ_EVT) 7) = true := by decide +kernel
theorem test_step_applies : run .changeApply (qtz (fun q => { q with a := secAt 0, b := secAt 0, c := secAt 0, chg := some ⟨.step (-5), 3000000, none⟩ }))
    (fun t => t.qtz.chg == none && t.qtz.changes == 1) = true := by decide +kernel

def probeOut : State := (msgAt owned 1 1 2 (pk [(2, 7), (6, 0), (6, 1000), (2, 0), (6, 2000), (2, 0)])).updProbe 1 (fun x => { x with
  out := some (7, 0, 2700000, 0) })

theorem witness_time_transfer :
    (let s := cmdOn (owned) 0x0A01 (pk [(6, 5), (2, 0), (4, 999999999), (4, 0), (6, 0), (2, 0)])
     adm s 4 0x0A01 && len s == 3 && s.qtz.chg == none && decide ((tsDiff (BitVec.ofNat 48 (par s 16 6)) s.tsNow).natAbs ≤ 2000000000 * 65536)) = true ∧
    (let s := cmdOn (qtz (fun q => { q with chg := some ⟨.step 5, 3000064, none⟩ })) 0x0A01 (pk [(6, 5), (2, 0), (4, 0), (4, 0), (6, 0), (2, 0)])
     adm s 4 0x0A01 && s.qtz.chg != none) = true ∧
    (let s := cmd 0x0A02 (pk [(8, 5)]); adm s 4 0x0A02 && len s == 1 && !s.servoEn) = true ∧
    (let s := cmdOn (owned.rset Reg.QTZ_CTRL 0x40000000) 0x0A02 (pk [(8, 5)]); adm s 4 0x0A02 && s.servoEn) = true ∧
    (let s := cmd 0x0A03 (pk [(8, 0x0AAAAAAAC)]); adm s 4 0x0A03 && len s == 1 && !s.servoEn) = true ∧
    (let s := ((owned.updPort 1 (fun x => { x with st := 2, role := 1 })).updDev (fun d => { d with up := some 1 })).rset Reg.QTZ_CTRL 0x20000000
     s.rb Reg.QTZ_CTRL 29 && s.probes 1 && (s.probe 1).out == none) = true ∧
    (probeOut.headMsg 1 1 2 ≠ none ∧ probeOut.qtz.changes = 0) ∧
    (let s := ((owned.updPort 1 (fun x => { x with st := 2, role := 1 })).updDev (fun d => { d with up := some 1 })).rset Reg.QTZ_CTRL 0x40000000
     s.followPort == some 1 && s.servoEn) = true := by decide +kernel

theorem test_echo : run (.echo 1) probeOut (fun t => (t.probe 1).delays.length == 1 && (t.probe 1).out == none) = true := by decide +kernel
theorem test_probe_timeout : run (.probeTimeout 1) probeOut (fun t => (t.rget (banked Reg.QTZ_PROBE_FAIL 1)).toNat == 1) = true := by
  decide +kernel

def ptm (f : Ptm → Ptm) : State :=
  ((owned.rset Reg.HOSTIF_PTM_CTRL 0x8000000A).updPf 0 (fun p => { p with ptmEn := true })).updQtz (fun q => { q with ptm := f q.ptm })
theorem witness_ptm : (let s := ptm id
     s.rb Reg.HOSTIF_PTM_CTRL 31 && s.rf Reg.HOSTIF_PTM_CTRL 0 16 == 10 && s.qtz.ptm.out == none && decide (s.qtz.ptm.nextTick ≤ s.now)) = true ∧
    (ptm (fun p => { p with out := some (0, 1500000) })).qtz.ptm.out = some (0, 1500000) := by decide +kernel
theorem test_ptm_start : run .ptmDialogStart (ptm id) (fun t => t.out == [.ptmRequest]) = true := by decide +kernel
theorem test_ptm_timeout : run .ptmTimeout (ptm (fun p => { p with out := some (0, 1500000) })) (fun t =>
    (t.rget Reg.HOSTIF_PTM_FAIL).toNat == 1) = true := by decide +kernel

/-! ## Ownership and forwarded commands -/

/-- M4 asks for `op` on a device that no one owns. -/
def free (op : Nat) (params : List Byte) : State := cmdOn on op params

theorem witness_ownership_commands :
    (let s := free 0x0201 (pk [(1, 15), (1, 0), (2, 0), (4, 600000)])
     adm s 4 0x0201 && len s == 1 && par s 0 1 == 15 && s.own.owner == none) = true ∧
    (let s := cmd 0x0201 (pk [(1, 4), (1, 0), (2, 0), (4, 50)])
     adm s 4 0x0201 && s.ownerToken 4 77) = true ∧
    (let s := (cmd 0x0201 (pk [(1, 4), (1, 1), (2, 5), (4, 0)])).updOwn (fun o => { o with owner := some 0 })
     adm s 4 0x0201 && s.own.owner == some 0 && !s.ownerToken 4 77) = true ∧
    (let s := owned.updOwn (fun o => { o with waiting := [⟨2, 1, 100, 3000000, tkt 0x0201⟩] })
     s.own.waiting.any (fun c => c.m == 2 && decide (c.deadline ≤ s.now))) = true ∧
    (adm (cmd 0x0202 []) 4 0x0202 && adm (cmd 0x0203 []) 4 0x0203 && adm (cmd 0x0205 []) 4 0x0205 && adm (cmd 0x0101 []) 4 0x0101) = true ∧
    (let s := cmd 0x0204 (pk [(1, 6), (1, 255), (2, 0), (4, 0)])
     adm s 4 0x0204 && len s == 1 && s.lifecycle == 1) = true ∧
    (let s := cmd 0x7777 []
     s.mayTake 4 && !opcodes.contains (entryOf s 4).opcode) = true := by decide +kernel

theorem test_claim_refused : run (.ownClaim 4) ((cmd 0x0201 (pk [(1, 4), (1, 0), (2, 0), (4, 0)])).updOwn (fun o => { o with owner := some 0 }))
    (fun t => t.own.owner == some 0 && fieldAt (bytesAt t.cmd.rp 0x20000 32) 0 2 == 0x0201) = true := by decide +kernel
theorem test_claim_waits : run (.ownClaim 4) ((cmd 0x0201 (pk [(1, 4), (1, 1), (2, 5), (4, 0)])).updOwn (fun o => { o with owner := some 0 }))
    (fun t => t.own.waiting.map (fun c => (c.m, c.prio, c.leaseMs)) == [(4, 4, 2000)]) = true := by decide +kernel
theorem test_renew : run (.ownRenew 4) (cmd 0x0202 []) (fun t => t.own.leaseEnd == 3003000000 && t.cmd.atBeacon.length == 1) = true := by
  decide +kernel
theorem test_release : run (.ownRelease 4) (cmd 0x0203 []) (fun t => t.own.owner == none && (t.rget Reg.OWN_CHANGES).toNat == 1) = true := by
  decide +kernel

theorem witness_boundaries : owned.atBoundary = true ∧
    (owned.updOwn (fun o => { o with leaseEnd := 3000000 })).own.leaseEnd ≤ owned.now ∧
    (let s := owned.updOwn (fun o => { o with handover := some ⟨4, 2, 100, false⟩ })
     s.own.handover == some ⟨4, 2, 100, false⟩ && s.cmd.atBeacon.isEmpty) = true ∧
    (owned.updOwn (fun o => { o with handover := some ⟨5, 2, 100, false⟩ })).upPort = none ∧
    (let s := on.updOwn (fun o => { o with waiting := [⟨2, 1, 100, 9, tkt 0x0201⟩, ⟨3, 5, 100, 9, tkt 0x0201⟩, ⟨4, 5, 100, 9, tkt 0x0201⟩] })
     s.own.owner == none && s.own.waiting.map Claim.prio == [1, 5, 5]) = true := by decide +kernel
theorem test_lease_ends : run .leaseExpiry (owned.updOwn (fun o => { o with leaseEnd := 3000000 })) (fun t =>
    t.own.owner == none && bit (t.rget Reg.OWN_EVT) 2) = true := by decide +kernel
theorem test_lease_lasts : run .leaseExpiry owned (fun t => t.own.owner == some 4) = true := by decide +kernel

/-- Port 1 is the active UP of device 3, port 2 a DOWN port with the route to device 9. -/
def domain : State :=
  ((owned.updPort 1 (fun x => { x with st := 2, role := 1 })).updPort 2 (fun x => { x with st := 2, role := 3 })).updDev (fun d => { d with
    id := 3, up := some 1, rooted := true, hops := 1, enumNum := 6, routes := [(9, some 2)] })

def fwdJob : Fwd := ⟨tkt 0x0101, [9], 3000000, false⟩
def fwdEntry (target : Nat) : List Byte := pk [(1, 7), (1, 4), (6, 0), (2, 0x0101), (1, 1), (1, 0), (2, 5), (1, target), (1, 0), (8, 0)]
def replyMsg (dev : Nat) : List Byte := pk [(1, dev), (7, 0), (2, 0x0101), (1, 0), (1, 0), (2, 9), (1, 9), (1, 0), (6, 0), (2, 0)]

theorem witness_forwarded :
    (let s := msgAt domain 1 0 0 (fwdEntry 3)
     decide (s.headMsg 1 0 0 ≠ none) && s.ldev.up == some 1) = true ∧
    (let s := msgAt domain 1 0 0 (fwdEntry 9)
     s.routePort 9 == some 2) = true ∧
    ((msgAt domain 2 0 1 (replyMsg 5)).routePort 5 = some 1) ∧
    (let s := (msgAt domain 2 0 1 (replyMsg 3)).updCmd (fun c => { c with fwd := [fwdJob] })
     s.cmd.fwd == [fwdJob]) = true := by decide +kernel
theorem test_command_arrives : run (.command 1) (msgAt domain 1 0 0 (fwdEntry 3)) (fun t => (t.cmdq 5).tail == 1 &&
    mget (0, 0) (t.cmdq 5).orig 0 == (7, 4) && fieldAt (bytesAt t.cmd.sram (slotAddr 5 0) 16) 7 1 == 5) = true := by decide +kernel
theorem test_command_passes : run (.command 1) (msgAt domain 1 0 0 (fwdEntry 9)) (fun t => (t.port 2).tx.unacked.length + (t.port 2).tx.waiting.length == 1
    && (t.cmdq 5).tail == 0) = true := by decide +kernel
theorem test_reply_ends : run (.reply 2) ((msgAt domain 2 0 1 (replyMsg 3)).updCmd (fun c => { c with fwd := [fwdJob] })) (fun t =>
    t.cmd.fwd.isEmpty) = true := by decide +kernel
theorem test_reply_late : run (.reply 2) ((msgAt domain 2 0 1 (replyMsg 3)).updCmd (fun c => { c with lateFwd := [(0x0101, 9, 9)] })) (fun t => (t.rget Reg.CMD_FWD_LATE).toNat == 1) = true := by decide +kernel

/-! ## Register access -/

theorem witness_register_checks :
    (on.reaches 4 = true ∧ on.bus.guard = none ∧ may owned 4 = true ∧ target 0x3 = none) ∧
    ((target Reg.OWN_LEASE_DEFAULT).any (fun t => t.desc.kind == .rwl) = true) ∧
    ((target Reg.DEV_STATUS).any (fun t => t.desc.kind == .ro) = true) ∧
    ((target Reg.DEV_WDOG).any (fun t => holdingPages.contains t.loc.page && t.desc.side == .none && t.alias_ == 0) = true) := by decide +kernel

theorem test_write_not_owner : run (.registerWrite 4 (BitVec.ofNat 26 Reg.QTZ_PPS_OUT) 5 15) on (fun t =>
    mget .none t.bus.resp 4 == .notOwner && t.rget Reg.QTZ_PPS_OUT == on.rget Reg.QTZ_PPS_OUT) = true := by decide +kernel
theorem test_write_unimplemented : run (.registerWrite 4 0x3FFFFFC 5 15) owned (fun t =>
    mget .none t.bus.resp 4 == .busError && (t.rget Reg.REGCTL_LOG_CNT).toNat == 1) = true := by decide +kernel
/-- 02 R54, 16 R542. -/
theorem test_posted_drop : (owned.postedDrop 2).out = owned.out ++ [.aerNonFatal 2] ∧
    (owned.postedDrop 2).rget Reg.HOSTIF_POSTED_DROP = 1 := by decide +kernel

def staged (k : Nat) : State := owned.updBus (fun b => { b with staged := mput none b.staged (latchKey 0xB0000 4) (some ⟨Reg.HOSTIF_SR_BASE_LO k, 64⟩) })

/-- The HI of stream 3's base is 7, and M4's latch of the page was taken for this pair or for that of stream 4 (02 R57). -/
def latched (k : Nat) : State := (owned.rset (Reg.HOSTIF_SR_BASE_HI 3) 7).updBus (fun b => { b with
  latch := mput none b.latch (latchKey 0xB0000 4) (some ⟨Reg.HOSTIF_SR_BASE_LO k, 99⟩) })
theorem test_hi_latch : run (.pairLoRead 4 ⟨BitVec.ofNat 26 (Reg.HOSTIF_SR_BASE_HI 3), 15⟩) (latched 3) (fun t =>
    mget .none t.bus.resp 4 == .data 99) = true := by decide +kernel
theorem test_hi_live : run (.pairLoRead 4 ⟨BitVec.ofNat 26 (Reg.HOSTIF_SR_BASE_HI 3), 15⟩) (latched 4) (fun t =>
    mget .none t.bus.resp 4 == .data 7) = true := by decide +kernel

theorem witness_pairs :
    (target (Reg.CH_CAP_LAST_TS_LO 0)).any (fun t => t.desc.side == .lo) = true ∧
    (target (Reg.CH_CAP_LAST_TS_LO 0 + 4)).any (fun t => t.desc.side == .hi) = true ∧
    (owned.stream 3).st = 0 ∧ mget none (staged 3).bus.staged (latchKey 0xB0000 4) = some ⟨Reg.HOSTIF_SR_BASE_LO 3, 64⟩ ∧
    (target Reg.QTZ_EVT).any (fun t => t.desc.kind == .seq) = true ∧
    (target Reg.FLINT_RC_OVF).any (fun t => t.desc.kind == .cnt && t.alias_ == 0) = true ∧ selOk 0 = true := by decide +kernel

theorem test_event_clear : run (.eventClear 4 (BitVec.ofNat 26 Reg.QTZ_EVT) 0x01000000) (owned.rset Reg.QTZ_EVT 0x01000005) (fun t =>
    t.rget Reg.QTZ_EVT == 0x01000000) = true := by decide +kernel
theorem test_event_clear_stale : run (.eventClear 4 (BitVec.ofNat 26 Reg.QTZ_EVT) 0x02000000) (owned.rset Reg.QTZ_EVT 0x01000005) (fun t =>
    t.rget Reg.QTZ_EVT == 0x01000005 && (t.rget Reg.REGCTL_LOG_CNT).toNat == 1) = true := by decide +kernel
theorem test_counter_write : run (.counterWrite 4 (BitVec.ofNat 26 Reg.FLINT_RC_OVF) 0x80000007) owned (fun t =>
    (t.rget Reg.FLINT_RC_OVF).toNat == 7) = true := by decide +kernel

def guarded (a : Nat) (v : Word) : State := owned.updBus (fun b => { b with guard := some ⟨4, a, v, 2900000⟩ })

theorem witness_posted_guarded :
    (mget none owned.bus.posted 0x30000 = none ∧ Reg.FLINT_HOLDOFF 2 / 0x4000 = 0x0C) ∧
    ((guarded Reg.QTZ_JUMP_LIMIT 5).bus.guard = some ⟨4, Reg.QTZ_JUMP_LIMIT, 5, 2900000⟩ ∧ owned.now ≤ 2900000 + 150000) ∧
    fld (0xA503 : Word) 8 8 = 0xA5 ∧ Reg.DEV_LOCK ∉ owned.bus.wo1 := by decide +kernel
theorem test_posted : run (.registerWrite 4 (BitVec.ofNat 26 (Reg.FLINT_HOLDOFF 2)) 9 15) owned (fun t =>
    (mget none t.bus.posted 0x30000).any (fun p => p.value == 9) && t.rget (Reg.FLINT_HOLDOFF 2) == owned.rget (Reg.FLINT_HOLDOFF 2)) = true := by
  decide +kernel
theorem test_guard_pair : run (.guardSecondWrite 4 (BitVec.ofNat 26 (Reg.QTZ_JUMP_LIMIT + 4)) 0xFFFFFFFA) (guarded Reg.QTZ_JUMP_LIMIT 5) (fun t =>
    (t.rget Reg.QTZ_JUMP_LIMIT).toNat == 5 && t.bus.guard == none) = true := by decide +kernel
theorem test_guard_wrong : run (.guardSecondWrite 4 (BitVec.ofNat 26 (Reg.QTZ_JUMP_LIMIT + 4)) 0xFFFFFFFB) (guarded Reg.QTZ_JUMP_LIMIT 5) (fun t =>
    (t.rget Reg.QTZ_JUMP_LIMIT).toNat == 1000 && t.bus.guard == none) = true := by decide +kernel
theorem test_guard_timeout : run .guardTimeout (owned.updBus (fun b => { b with guard := some ⟨4, Reg.QTZ_STEP, 5, 2850000⟩ })) (fun t =>
    t.bus.guard == none) = true := by decide +kernel
theorem test_lock_once : run (.lockWrite 4 (BitVec.ofNat 26 Reg.DEV_LOCK) 1) (owned.updBus (fun b => { b with wo1 := [Reg.DEV_LOCK] })) (fun t =>
    (t.rget Reg.DEV_LOCK).toNat == 0) = true := by decide +kernel

/-- A REG_ACCESS for this device (15 R499): target, origin, flags, tag, address, data. -/
def accessMsg (target : Nat) : List Byte := pk [(1, target), (1, 9), (1, 0), (1, 6), (4, Reg.DEV_WDOG), (4, 0), (4, 0)]
theorem witness_spi_remote :
    (fieldAt (pk [(1, 3), (4, Reg.DEV_WDOG), (5, 0)]) 0 1 = 3 ∧ (msgAt domain 1 0 2 (accessMsg 3)).headMsg 1 0 2 ≠ none ∧
      domain.routePort 9 = some 2 ∧ owned.ldev.racc = none ∧ owned.reaches 4 = true) := by decide +kernel
theorem test_spi_read : run (.mgmtSpiFrame (pk [(1, 3), (4, Reg.DEV_WDOG), (5, 0)])) owned (fun t => t.bus.miso == pk [(1, 0x80), (4, 1000)]) = true := by
  decide +kernel
theorem test_reg_access : run (.regAccess 1) (msgAt domain 1 0 2 (accessMsg 3)) (fun t =>
    ((t.port 2).tx.unacked ++ (t.port 2).tx.waiting).map (fun f => (f.kind, fieldAt f.payload 8 4)) == [(3, 1000)]) = true := by decide +kernel

/-- A posted write of `v` to `a` waits in its page. -/
def posts (s : State) (a : Nat) (v : Word) : State :=
  s.updBus (fun b => { b with posted := mput none b.posted (a / 0x4000 * 0x4000) (some ⟨4, a, v, 3000000, none⟩) })

theorem witness_register_effects :
    ([(Reg.CH_EXC_CTRL 2, 0x108000), (Reg.CH_BGCAL_CTRL 2, 0x108000), (Reg.CH_CAP_CTRL 2, 0x108000), (Reg.FLINT_CTRL 1, 0x30000),
      (Reg.MEMCTL_BANK_OWNER, 0x80000), (Reg.EM_CTRL 1, 0x50000)] : List (Nat × Nat)).all (fun x =>
        mget none (posts owned x.1 1).bus.posted x.2 == some ⟨4, x.1, 1, 3000000, none⟩) = true ∧
    (owned.fe 2).exc = .off ∧ owned.retired = false ∧ (flint 0 0).bus.posted = [] ∧ ((flint 0 0).seqr 1).loaded = true ∧
    ownerOk 3 4 0 = true ∧ ownerOk 3 2 11 = false ∧ (owned.emitter 1).st = 0 ∧
    (owned.cmdq 4).woff < 512 ∧ (owned.cmdq 4).held = [] ∧ owned.perf.slate = none ∧
    (owned.rset Reg.HK_CTRL 3).rf Reg.HK_CTRL 0 2 = 3 ∧ owned.ref.sel = 3 ∧
    (let s := (owned.updLane 2 (fun l => { l with st := 2 })).rset (Reg.LANE_CTRL 2) 0x80000000
     s.rb (Reg.LANE_CTRL 2) 31 && (s.lane 2).st == 2 && (s.port (s.lanePort 2)).st == 0) = true ∧
    (domain.port 1).st = 2 ∧ owned.mem.dma.busy = false ∧ owned.rb Reg.TRIAD_LOCK 0 = false := by decide +kernel

theorem test_exc_enable : run (.excEnable 2) (posts owned (Reg.CH_EXC_CTRL 2) 1) (fun t => (t.fe 2).exc == .idle &&
    (t.fe 2).nextPulse == some 3150000) = true := by decide +kernel
theorem test_flint_ctrl_disarm : run (.flintCtrlDisarm 1) (posts (flint 0 0) (Reg.FLINT_CTRL 1) 2) (fun t => !(t.seqr 1).armed) = true := by decide +kernel
theorem test_bank_owner : run .bankOwnerHandover (posts owned Reg.MEMCTL_BANK_OWNER 0x03040000) (fun t => (t.bank 3).owner == 4 &&
    (t.bank 2).owner == 2) = true := by decide +kernel
theorem test_em_enable : run (.emEnable 1) (posts owned (Reg.EM_CTRL 1) 0x80000000) (fun t => (t.emitter 1).st == 1 && (t.emitter 1).due == 3030000) = true := by
  decide +kernel
theorem test_sq_write : run (.sqPortWrite 4 4 0x11223344) owned (fun t => (t.cmdq 4).woff == 1 &&
    bytesAt t.cmd.sram (slotAddr 4 0) 4 == [0x44, 0x33, 0x22, 0x11]) = true := by decide +kernel
theorem test_doorbell : run (.doorbell 4 4 64) owned (fun t => (t.cmdq 4).tail == 64) = true := by decide +kernel
theorem test_doorbell_over : run (.doorbell 4 4 65) owned (fun t => (t.cmdq 4).tail == 0 && bit (t.rget (Reg.CMD_EVT 4)) 2) = true := by decide +kernel
theorem test_alarm_ack : run (.alarmAck 4 0x40000000) owned (fun t => !t.triad.alarm) = true := by decide +kernel

theorem witness_time_security_registers :
    ((owned.updQtz (fun q => { q with msgFifo := [⟨true, 1, 5, 9⟩] })).qtz.msgFifo = [⟨true, 1, 5, 9⟩] ∧ owned.qtz.incPend = none ∧
      mget none owned.bus.staged (latchKey 0x20000 4) = none) ∧
    (let s := guarded Reg.QTZ_STEP 5; s.reaches 4 && s.own.owner == some 4 && s.qtz.chg == none) = true ∧
    fld (0x5C000001 : Word) 24 8 = 0x5C ∧ owned.lifecycle = 1 ∧ owned.sec.fuses.programmed.getLsbD 1 = false ∧
    fld (0xC3000002 : Word) 0 2 = owned.sec.fuses.lifecycle + 1 := by decide +kernel
theorem test_qtz_step : run (.qtzStepCommit 4 0xFFFFFFFA) (guarded Reg.QTZ_STEP 5) (fun t => t.qtz.chg == some ⟨.step 5, 3000128, none⟩) = true := by
  decide +kernel
theorem test_lifecycle : run (.lifecycleAdvance 4 0x3CFFFFFD) (guarded Reg.SEC_LC_ADVANCE 0xC3000002) (fun t => t.sec.fuses.lifecycle == 2 &&
    t.sec.fuses.state == 1) = true := by decide +kernel
theorem test_lifecycle_skip : run (.lifecycleAdvance 4 0x3CFFFFFC) (guarded Reg.SEC_LC_ADVANCE 0xC3000003) (fun t => t.sec.fuses.lifecycle == 1 &&
    bit (t.rget Reg.SEC_EVT) 3) = true := by decide +kernel
theorem test_msg_info : run (.qtzMsgInfoRead 4) (owned.updQtz (fun q => { q with msgFifo := [⟨true, 1, 5, 9⟩] })) (fun t =>
    t.qtz.msgFifo.isEmpty && mget 0 t.qtz.msgLatch 4 == 9) = true := by decide +kernel

/-! ## Channels -/

def fe (f : Front → Front) : State := owned.updFe 1 f
def cv (f : Conv → Conv) : State := owned.updCv 1 f
def td (f : Tdc → Tdc) : State := owned.updTd 1 f
def now : Nat := 3000000

theorem witness_excitation :
    (owned.now = now) ∧
    (let s := fe (fun x => { x with nextPulse := some now, exc := .idle }); (s.fe 1).exc = .idle ∧ (s.fe 1).nextPulse = some now) ∧
    (let s := td (fun t => { t with freq := { t.freq with on := true, vw := true, gateEnd := now } }); s.gateOver 1 true = true ∧ s.charOn 1 = false) := by
  decide +kernel
theorem test_pulse_start : run (.excPulseStart 1) (fe (fun x => { x with nextPulse := some now, exc := .idle })) (fun t =>
    (t.fe 1).exc == .pulse && (t.fe 1).pulseStart == now && (t.fe 1).level == pulseLevel owned 1) = true := by decide +kernel
theorem test_pulse_end : run (.excPulseEnd 1 2500 7) (fe (fun x => { x with exc := .pulse, pulseEnd := some now })) (fun t =>
    (t.fe 1).exc == .discharge && (t.rget (Reg.CH_EXC_MEAS 1)).toNat == 7 * 65536 + 2500) = true := by decide +kernel
theorem test_sixteenth_short : run (.excPulseEnd 1 0 0) (fe (fun x => { x with exc := .pulse, pulseEnd := some now, shortAt := some 5, shortRun := 15 }))
    (fun t => (t.fe 1).exc == .fault && bit (t.rget (Reg.CH_EVT 1)) 7) = true := by decide +kernel
theorem test_discharge_pending : run (.excDischargeDone 1) (fe (fun x => { x with exc := .enablePending })) (fun t =>
    (t.fe 1).exc == .idle && (t.fe 1).nextPulse == some 3150000) = true := by decide +kernel
theorem test_conv_run : run (.convRunStart 1) (fe (fun x => { x with convDue := [now] })) (fun t => (t.fe 1).runs.any (fun r => r.start == now)) = true := by
  decide +kernel
theorem test_vw_sweep : run (.vwSweepEnd 1 1 2) (fe (fun x => { x with exc := .vwDrive, sweepEnd := some now })) (fun t => (t.fe 1).exc == .vwListen) = true := by
  decide +kernel

theorem witness_front_end :
    ((owned.rset (Reg.CH_OPEN_TEST 1) 0x20000).rb (Reg.CH_OPEN_TEST 1) 17 = true ∧ owned.rf (Reg.CH_OPEN_TEST 1) 0 16 = 0) ∧
    (let s := fe (fun x => { x with exc := .pulse, pulseStart := now - 3000, revDone := false, level := 256, neg := true })
     (s.fe 1).level ≤ 8 * (32 : BitVec 17).toInt.natAbs ∧ (s.fe 1).pulseStart + 3000 ≤ s.now) ∧
    (let s := fe (fun x => { x with testNext := some now }); (s.chan 1).held = false ∧ s.rf (Reg.CH_EXC_CTRL 1) 4 2 = 0) ∧
    (on.updFe 1 (fun x => { x with clampBalls := 4 })).gov.next = 15000000 := by decide +kernel
theorem test_clamp : run (.clampDetect 1 2 150) owned (fun t => (t.fe 1).clampBalls == 4 && (t.fe 1).clamps == [⟨now - 150, none⟩]) = true := by
  decide +kernel
theorem test_reversed : run (.reversedCheck 1 32) (fe (fun x => { x with exc := .pulse, pulseStart := now - 3000, revDone := false, level := 256, neg := true }))
    (fun t => (t.fe 1).reversed && bit (t.rget (Reg.CH_EVT 1)) 3) = true := by decide +kernel
theorem test_open_test : run (.openTestReturn 1 false) (fe (fun x => { x with testEnd := some now, testN := 1, testSum := 29491 })) (fun t => !(t.fe 1).openWire) = true := by
  decide +kernel
theorem test_open_test_open : run (.openTestReturn 1 false) (fe (fun x => { x with testEnd := some now, testN := 1, testSum := -29492 })) (fun t => (t.fe 1).openWire) = true := by
  decide +kernel
theorem test_governor : run .excGovernor { owned with gov := ⟨now, 5, 512⟩ } (fun t => t.gov.next == 18000000 && t.gov.stretch == 256) = true := by
  decide +kernel

def conv : State := cv (fun v => { v with nextG := now - 20 })
theorem witness_conversion :
    (let v := conv.cv 1
     v.groupDue now 0 1 = true ∧ v.corrs = [] ∧ v.fresh = false ∧ v.marks = [] ∧ v.set.decEn = false ∧ v.inside = false) ∧
    (conv.fe 1).inWindow (now - 20) = false ∧ conv.retired = false ∧
    ((cv (fun v => { v with bgQuiet := 7 })).cv 1).bgDone < 3000000 / 1048576 ∧ owned.rb (Reg.CH_BGCAL_CTRL 1) 0 = false ∧
    ((cv (fun v => { v with slow := some ⟨9, 6000000, 0, now, now, false, true⟩ })).cv 1).slow.isSome := by decide +kernel
theorem test_group : run (.groupOutput 1 [0x900]) conv (fun t => (t.cv 1).last.v == 0x100 && (t.cv 1).nextG == now - 19) = true := by decide +kernel
theorem test_group_limited : run (.groupOutput 1 [0xFFF]) (conv.rset (Reg.CH_CORR 1 0) 0x7FFF0000) (fun t =>
    (t.cv 1).last.v == 2047 && (t.rget (Reg.CH_SAT_CNT 1)).toNat == 1) = true := by decide +kernel
theorem test_restart : run (.dividerRestart 1) (cv (fun v => { v with restart := some (⟨5, false, 4⟩, now) })) (fun t => (t.cv 1).set.div == 5) = true := by
  decide +kernel
theorem test_bgcal : run (.bgcalUpdate 1 5 [0xFFFF]) (cv (fun v => { v with bgQuiet := 7, weights := 300 :: v.weights.tail })) (fun t =>
    (t.cv 1).converged && (t.cv 1).weights.take 2 == [305, -1] && (t.cv 1).drift == 255 && (t.cv 1).updates == 1) = true := by decide +kernel
theorem test_slow_discard : run (.slowOutput 1) (cv (fun v => { v with slow := some ⟨9, 6000000, 0, now, now, false, true⟩ })) (fun t =>
    (t.rget (Reg.CH_DEC_DISC 1)).toNat == 1) = true := by decide +kernel

/-- A mask of channel 1, 24 bytes. -/
def mask1 : List (Nat × Nat) := [(24, 2)]
theorem witness_channel_commands :
    (let s := cmd 0x0301 (pk (mask1 ++ [(4, 1), (60, 0)])); adm s 4 0x0301 && len s == 11 && (taken s 4).configureOk (entryOf s 4) &&
      !(taken s 4).levelHigh (entryOf s 4) 1) = true ∧
    (let s := cmdOn (cv (fun v => { v with cal := some ⟨0, 4, [0], 0, 0, 0, 0, 0, 0, 9⟩ })) 0x0301 (pk (mask1 ++ [(4, 1), (60, 0)]))
     adm s 4 0x0301 && (s.cv 1).cal.isSome) = true ∧
    (let s := cmd 0x0303 (pk [(2, 191), (6, 0)]); adm s 4 0x0303 && len s == 1 && par s 0 2 == 191) = true ∧
    (let s := cmd 0x0302 (pk (mask1 ++ [(1, 1), (1, 0), (1, 16), (5, 0)])); adm s 4 0x0302 && len s == 4 && (taken s 4).calibrateOk (entryOf s 4) &&
      !(s.chan 1).held) = true ∧
    ({ owned with calJobs := [⟨tkt 0x0302, [1], []⟩] } : State).calJobs = [⟨tkt 0x0302, [1], []⟩] := by decide +kernel

def calib (sum : Int) : State := cv (fun v => { v with cal := some ⟨1, 4, [0], 0, 0, 0, 0, 16, sum, now⟩ })
theorem test_cal_offset : run (.calMeasureDone 1 0) (calib 4096) (fun t => signedOf 16 (fld (t.rget (Reg.CH_CORR 1 0)) 0 16) == -4096) = true := by
  decide +kernel
theorem test_cal_offset_over : run (.calMeasureDone 1 0) (calib 4097) (fun t => t.rget (Reg.CH_CORR 1 0) == owned.rget (Reg.CH_CORR 1 0) &&
    bit (t.rget (Reg.CH_EVT 1)) 14) = true := by decide +kernel

/-! ### Time measurement -/

def edge0 : Edge := ⟨7, 0, true, 7, now - 20, some 2, true, false, 0, none, false, false, true, false, 0, false⟩
def hit0 : RecWait := ⟨0, 7, false, now - 20, 0, some 0, false, none, 0, 0, some 1000, 1100, 2, none, none, 0, 0⟩

def disc : State := ((owned.rset (Reg.CH_DISC 1 0) 0x90000000).updTd 1 (fun t => t.updMica 0 (fun m => { m with st := .armed })))
def measuring : State := td (fun t => { (t.updMica 2 (fun m => { m with st := .measure, due := now, v1 := 100, v2 := 300, edge := some 7 })) with
  edges := [edge0], recs := [hit0] })

theorem witness_edges :
    (disc.discEn 1 0 = true ∧ ((disc.td 1).disc 0).s = false ∧ disc.recMode 1 0 = 1 ∧ (disc.td 1).freeMica = some 0) ∧
    ((td (fun t => { t with edges := [{ edge0 with decided := false, dropped := true }] })).td 1).undecided 0 ≠ none ∧
    (((measuring.td 1).mica 2).st = .measure ∧ ((measuring.td 1).mica 2).v1 < ((measuring.td 1).mica 2).v2) ∧
    (let s := td (fun t => t.updMica 1 (fun m => { m with st := .calibrate, due := now, fails := 3 })); ((s.td 1).mica 1).fails = 3 ∧
      s.rf (Reg.CH_MICA_LIMIT 1) 0 10 = 400 ∧ s.rf (Reg.CH_MICA_LIMIT 1) 16 10 = 900) ∧
    (let s := td (fun t => (t.updMica 1 (fun m => { m with st := .armed })).updMica 0 (fun m => { m with st := .armed }))
     ((s.td 1).mica 1).v2Tick + 256 ≤ s.now) := by decide +kernel
theorem test_disc_edge : run (.discEdge 1 0 true 0) disc (fun t => ((t.td 1).mica 0).st == .measure && ((t.td 1).disc 0).s &&
    (t.td 1).edges.map (fun e => (e.lead, e.mica)) == [(true, some 0)]) = true := by decide +kernel
theorem test_disc_coarse : run (.discEdge 1 0 true 0) (owned.rset (Reg.CH_DISC 1 0) 0x90000000) (fun t =>
    (t.rget (Reg.CH_MICA_MISS 1)).toNat == 1) = true := by decide +kernel
theorem test_mica_measure : run (.micaMeasureDone 1 2 200) measuring (fun t => ((t.td 1).mica 2).st == .calibrate &&
    (t.td 1).recs.map RecWait.fine == [1536]) = true := by decide +kernel
theorem test_mica_limit : run (.micaRearmDone 1 1 100 500) (td (fun t => t.updMica 1 (fun m => { m with st := .calibrate, due := now, fails := 3 })))
    (fun t => ((t.td 1).mica 1).st == .armed) = true := by decide +kernel
theorem test_mica_fault : run (.micaRearmDone 1 1 100 499) (td (fun t => t.updMica 1 (fun m => { m with st := .calibrate, due := now, fails := 3 })))
    (fun t => ((t.td 1).mica 1).st == .fault && bit (t.rget (Reg.CH_EVT 1)) 16) = true := by decide +kernel

def gate (vw : Bool) (edges : List FEdge) : State :=
  (owned.rset (Reg.CH_FREQ_CTRL 1) 0x80000064).updTd 1 (fun t => { t with freq := ⟨true, vw, 0, now - 150000, now, none, edges⟩ })
theorem witness_measurement :
    ((td (fun t => { t with recs := [{ hit0 with amp := some 3 }] })).td 1).heads.find? (fun y => y.pulse == false) ≠ none ∧
    (gate false []).gateOver 1 false = true ∧ (gate false []).charOn 1 = false ∧
    ((gate false [⟨1, now - 100, 1000, false, 0⟩, ⟨2, now - 50, 66536, false, 0⟩]).td 1).freq.gate.e ≠ 0 ∧
    (let s := td (fun t => { t with ivl := { t.ivl with starts := [⟨1, now - 1514, 5, false, 0⟩], stops := [⟨2, now - 1514, 6, false, 0⟩] } })
     s.decideAt 1 ⟨1, now - 1514, 5, false, 0⟩ = now) ∧
    ((fe (fun x => { x with src := 7 })).td 1).char = none := by decide +kernel
theorem test_gate_empty : run (.freqGateClose 1) (gate false []) (fun t => (t.rget (Reg.CH_FREQ_PERIOD 1)).toNat == 0 &&
    (t.td 1).freq.gateStart == now && (t.td 1).freq.gateEnd == now + 150000) = true := by decide +kernel
theorem test_interval_nostop : run (.intervalDecide 1) (td (fun t => { t with ivl := { t.ivl with starts := [⟨1, now - 1514, 5, false, 0⟩] } })) (fun t =>
    (t.rget (Reg.CH_IVL_NOSTOP 1)).toNat == 1) = true := by decide +kernel
theorem test_overflow : run (.intervalOverflow 1) ((td (fun t => { t with ivl := { t.ivl with armed := some ⟨1, 0, 5, false, 0⟩ } })).updQtz (fun q =>
    { q with now := 3221225473 })) (fun t => (t.td 1).ivl.overflow && bit (t.rget (Reg.CH_EVT 1)) 19) = true := by decide +kernel

theorem witness_time_commands :
    (let s := cmd 0x0401 (pk (mask1 ++ [(4, 1), (28, 0)])); adm s 4 0x0401 && len s == 7 && rangesOk (tdcWrites (entryOf s 4))) = true ∧
    (let s := cmd 0x0402 (pk (mask1 ++ [(1, 20), (1, 0), (6, 0)])); adm s 4 0x0402 && len s == 4 && !(s.chan 1).held && !(s.fe 1).vwOn) = true ∧
    (let s := cmd 0x0403 (pk (mask1 ++ [(4, 0x80000064), (4, 0)])); adm s 4 0x0403 && len s == 4 &&
      chInRange 0x240 (BitVec.ofNat 32 (par s 24 4)) && s.posted 1 == none) = true ∧
    (let s := cmd 0x0404 (pk (mask1 ++ [(4, 0), (4, 65536)])); adm s 4 0x0404 && chInRange 0x260 0 && chInRange 0x264 65536) = true := by decide +kernel
theorem test_freq_configure : run (.freqConfigure 4) (cmd 0x0403 (pk (mask1 ++ [(4, 0x80000064), (4, 0)]))) (fun t =>
    (t.td 1).freq.on && (t.td 1).freq.gateEnd == now + 150000) = true := by decide +kernel

/-! ### Capture -/

def cap (f : Cap → Cap) : State := owned.updCap 1 f
def capRun : CapRun := ⟨5, 0, 10, false, false, 0, false, 99, 2, none, 4, false, false, [], none, 0, none, 1, none, now, true⟩
theorem witness_capture :
    (let s := owned.updPack 1 (some ⟨3, now - 64, 1, 0, false, []⟩); (s.chan 1).pack ≠ none) ∧
    (let s := cmd 0x0504 (pk (mask1 ++ [(4, 2), (4, 0), (32, 0)])); adm s 4 0x0504 && len s == 8 && (taken s 4).captureOk (entryOf s 4)) = true ∧
    (let s := (cap (fun x => { x with st := .readout })).updFl (fun x => { x with freezes := [⟨1, 2, 99, false, now⟩] })
     s.fl.freezes.length = 1 ∧ (s.rset (Reg.CH_CAP_CTRL 1) 0x40000).rb (Reg.CH_CAP_CTRL 1) 18 = true) ∧
    ((cap (fun x => { x with st := .readout, run := some capRun })).capc 1).run = some capRun := by decide +kernel
theorem test_item_close : run (.sampleItemClose 1) (owned.updPack 1 (some ⟨3, now - 64, 9, 0, false, []⟩)) (fun t =>
    (t.chan 1).pack == none && (t.island 0).smq.map (fun y => (y.ch, y.words)) == [(1, 3)]) = true := by decide +kernel
theorem test_freeze_missed : run (.captureFreeze 1) (((cap (fun x => { x with st := .readout })).updFl (fun x => { x with
    freezes := [⟨1, 2, 99, false, now⟩] })).rset (Reg.CH_CAP_CTRL 1) 0x40000) (fun t => (t.rget (Reg.CH_CAP_MISSED 1)).toNat == 1) = true := by
  decide +kernel
theorem test_readout_done : run (.readoutDone 1) (cap (fun x => { x with st := .readout, run := some capRun })) (fun t =>
    (t.capc 1).st == .off && (t.rget (Reg.CH_CAP_COUNT 1)).toNat == 1) = true := by decide +kernel
theorem test_holdoff_end : run (.captureHoldoffEnd 1) (cap (fun x => { x with st := .holdoff, holdEnd := now })) (fun t =>
    (t.capc 1).st == .filling || (t.capc 1).st == .armed) = true := by decide +kernel

/-! ## Lanes and links -/

def lane (f : Lane → Lane) : State := owned.updLane 4 f
def port (f : Port → Port) : State := owned.updPort 1 f
/-- Port 1 is ACTIVE and frames 5 and 6 await their acknowledgement. -/
def fr (n : Nat) : Frame := ⟨n, 0, 4, [1, 2, 3], 0, false, none⟩
def sent2 (eps : Nat) : State := port (fun x => { x with st := 2, tx := { x.tx with next := 7, unacked := [fr 5, fr 6], episodes := eps } })
def heard : State := port (fun x => { x with st := 2, rx := { x.rx with expected := 5 } })

theorem witness_lanes :
    ((lane (fun l => { l with st := 1 })).lane 4).st = 1 ∧ owned.lanePort 4 = 1 ∧ (owned.port 1).st = 0 ∧
    (let s := (owned.updPort 1 (fun x => { x with st := 3 })).rset (Reg.LINK_CTRL 1) 0x80000000
     (s.port 1).st = 3 ∧ s.rb (Reg.LINK_CTRL 1) 31 = true) ∧
    ((lane (fun l => { l with st := 2, meritN := 999 })).lane 4).locked = true ∧
    blockGood (trainBlock true) = true ∧ blockType (trainBlock true) = cbTRAIN ∧
    (let s := (owned.updPort 1 (fun x => { x with st := 1 })).rset (Reg.LINK_CTRL 1) 0x80000000
     ((s.portLanes 1).foldl (fun s l => s.updLane l (fun y => { y with st := 6, lockTick := 5, ready := true, farReady := true })) s).trainDone 1 = true) ∧
    (let s := port (fun x => { x with st := 2, lostTick := 0 }); s.lockedLanes 1 = [] ∧ s.rf (Reg.LINK_CTRL 1) 0 16 ≤ 1000) ∧
    (msgAt (port (fun x => { x with st := 1, hello := true })) 1 0 4 (pk [(8, 99), (1, 7), (1, 2)])).headMsg 1 0 4 ≠ none := by decide +kernel
theorem test_lane_lock : run (.laneLock 4 9) (lane (fun l => { l with st := 1 })) (fun t => (t.lane 4).st == 2 && (t.lane 4).gearbox == 9 &&
    (t.rget (Reg.LANE_LOCK_CNT 4)).toNat == 1) = true := by decide +kernel
theorem test_lane_lost : run (.laneLockLost 4) (lane (fun l => { l with st := 2 })) (fun t => (t.lane 4).st == 1 && t.freeCtr == 1) = true := by
  decide +kernel
theorem test_hello_active : run (.hello 1) (msgAt (port (fun x => { x with st := 1, hello := true })) 1 0 4 (pk [(8, 99), (1, 7), (1, 2), (4, 0)])) (fun t =>
    (t.port 1).st == 2 && (t.port 1).neighId == 7 && (t.port 1).neighPort == 2) = true := by decide +kernel
theorem test_hello_other : run (.hello 1) (msgAt (port (fun x => { x with st := 2, neighKnown := true, neighSerial := 5 })) 1 0 4
    (pk [(8, 99), (1, 7), (1, 2), (4, 0)])) (fun t => (t.port 1).st == 3) = true := by decide +kernel

theorem witness_frames :
    (sent2 0).takesBlock 1 (ackBlock 5) cbACK = true ∧ (sent2 0).takesBlock 1 (nakBlock 5) cbNAK = true ∧
    framesFrom ((sent2 7).port 1).tx.unacked 5 = [fr 5, fr 6] ∧ (sent2 0).takesBlock 1 (creditBlock 2 9) cbCREDIT = true ∧
    blockGood (ackBlock 5 ^^^ 0x0100) = false ∧ wfFrame ((fr 5).bytes false) = true ∧ Frame.ofBytes ((fr 5).bytes false) ≠ none ∧
    Frame.ofBytes (((fr 5).bytes false).set 9 0xFF) = none ∧
    (msgAt heard 1 1 3 (pk [(2, 4), (1, 1), (1, 8), (4, 0), (8, 3)])).headMsg 1 1 3 ≠ none ∧
    (let b := (rcd tFEATURE 1 0 []).bytes; 16 ≤ b.length ∧ b.length = 16 * fieldAt b 2 2) ∧
    (domain.updDev (fun d => { d with racc := some ⟨6, 9, false, 5⟩ })).ldev.racc ≠ none := by decide +kernel
theorem test_ack : run (.ack 1 (ackBlock 5)) (sent2 3) (fun t => (t.port 1).tx.unacked == [fr 6] && (t.port 1).tx.episodes == 0) = true := by
  decide +kernel
theorem test_nak : run (.nak 1 (nakBlock 6)) (sent2 7) (fun t => t.out == [.frame 1 ((fr 6).bytes true)] && (t.port 1).tx.episodes == 8) = true := by
  decide +kernel
theorem test_nak_ninth : run (.nak 1 (nakBlock 6)) (sent2 8) (fun t => (t.port 1).st == 3) = true := by decide +kernel
theorem test_frame : run (.frame 1 ((fr 5).bytes false) 10) heard (fun t => (t.port 1).rx.expected == 6 &&
    (t.port 1).rx.inbox.map Msg.kind == [4]) = true := by decide +kernel
theorem test_frame_bad : run (.frame 1 (((fr 5).bytes false).set 9 0xFF) 10) heard (fun t => t.out == [.block 1 (nakBlock 5)] &&
    (t.rget (Reg.LINK_CRC_ERR 1)).toNat == 1) = true := by decide +kernel
theorem test_frame_early : run (.frame 1 ((fr 6).bytes false) 10) heard (fun t => (t.port 1).rx.reorder.length == 1 &&
    (t.port 1).rx.inbox.isEmpty) = true := by decide +kernel
theorem test_ack_timer : run (.ackTimer 1) (port (fun x => { x with st := 2, rx := { x.rx with ackDue := some now } })) (fun t =>
    t.out == [.block 1 (ackBlock 4095)]) = true := by decide +kernel
theorem test_time_msg : run (.timeMsg 1) (msgAt heard 1 1 3 (pk [(2, 4), (1, 1), (1, 8), (4, 0), (8, 3)])) (fun t =>
    (t.port 1).rx.tmsg.map TMsg.len == [8] && t.qtz.msgFifo.length == 1) = true := by decide +kernel
theorem test_stream : run (.stream 1) (msgAt heard 1 2 0 (pk [(1, 3), (1, 1), (6, 0)] ++ (rcd tFEATURE 1 0 []).bytes)) (fun t =>
    (mget [] t.lag.ports 14).map (fun a => (a.r.typ, a.origin)) == [(tFEATURE, some 3)]) = true := by decide +kernel

theorem witness_topology :
    (msgAt domain 2 0 5 (pk [(2, 7), (1, 4), (5, 0)])).headMsg 2 0 5 ≠ none ∧ domain.ldev.enumNum ≠ 7 ∧
    fieldAt (pk [(2, 6), (1, 2), (5, 0)]) 0 2 = domain.ldev.enumNum ∧ domain.upPort = some 1 ∧ domain.ldev.root = false ∧
    (let d := (domain.updDev (fun d => { d with root := true, id := 1, assignAt := some now, reports := [⟨8, false, 1, [2]⟩] })).ldev
     d.root = true ∧ d.assignAt = some now) ∧
    (domain.updDev (fun d => { d with enumActive := true, endAt := some now })).ldev.endAt = some now ∧
    (domain.updDev (fun d => { d with failDue := some (0, now) })).ldev.failDue = some (0, now) ∧
    (List.range 4).find? (fun q => (domain.port q).st == 2 && (domain.port q).role == 2) = none ∧
    (List.range 4).find? (fun q => ((domain.updPort 3 (fun x => { x with st := 2, role := 2 })).port q).role == 2) = some 3 := by decide +kernel
theorem test_enum : run (.enum 2) (msgAt domain 2 0 5 (pk [(2, 7), (1, 4), (5, 0)])) (fun t => t.ldev.up == some 2 && t.ldev.hops == 4 && t.ldev.id == 0 &&
    (t.port 1).role == 0 && (t.port 2).role == 1) = true := by decide +kernel
theorem test_claim_msg : run (.claim 2) (msgAt domain 2 0 6 (pk [(2, 6), (1, 2), (5, 0)])) (fun t => t.ldev.standbys == 1) = true := by decide +kernel
theorem test_announce : run (.announce 2) (msgAt domain 2 1 6 (pk [(1, 2), (7, 0), (1, 40), (1, 41)])) (fun t =>
    mget none t.ldev.routes 40 == some 2 && mget none t.ldev.routes 41 == some 2) = true := by decide +kernel
theorem test_failover_standby : run .failover ((domain.updPort 3 (fun x => { x with st := 2, role := 2 })).updDev (fun d => { d with failDue := some (0, now) }))
    (fun t => t.ldev.up == some 3 && (t.port 1).role == 0 && (t.port 3).role == 1) = true := by decide +kernel
theorem test_failover_head : run .failover (domain.updDev (fun d => { d with failDue := some (0, now) })) (fun t => t.ldev.root && t.ldev.up == none) = true := by
  decide +kernel
theorem test_enum_report : run .enumReportTimeout (domain.updDev (fun d => { d with root := true, id := 1, assignAt := some now, reports := [⟨8, false, 1, [2]⟩] }))
    (fun t => mget none t.ldev.routes 2 == some 2 && t.ldev.given == 2) = true := by decide +kernel

theorem witness_link_commands :
    (let s := cmd 0x0901 (pk [(1, 2), (1, 0), (2, 0), (4, 0)]); adm s 4 0x0901 && len s == 1 && !s.ldev.enumActive) = true ∧
    (let s := cmdOn domain 0x0901 (pk [(1, 2), (1, 2), (2, 0), (4, 0)]); adm s 4 0x0901 && s.ldev.up == some 1) = true ∧
    (let s := cmd 0x0902 (pk [(1, 254), (7, 0)]); adm s 4 0x0902 && s.sec.straps.domainHead) = true ∧
    (let s := cmd 0x0903 (pk [(1, 3), (7, 0)]); adm s 4 0x0903 && len s == 1) = true ∧
    (let s := cmd 0x0903 (pk [(1, 255), (7, 0)]); adm s 4 0x0903 && par s 0 1 == 255) = true := by decide +kernel
theorem test_enumerate : run (.linkEnumerate 4) (cmd 0x0902 (pk [(1, 254), (7, 0)])) (fun t => t.ldev.id == 254 && t.ldev.root && t.ldev.enumActive) = true := by
  decide +kernel

/-! ## Straits, kernels, periods, contexts -/

def isl (f : Island → Island) : State := owned.updIsland 0 f
def old (r : Rec) : Item := { itm r with tick := now - 4 }

theorem witness_straits :
    (let x := (isl (fun i => { i with evq := [old hit] })).island 0; x.evq = [old hit] ∧ x.strait.ents = []) ∧
    (let x := (isl (fun i => { i with evq := [old hit], strait := { i.strait with ents := [.item { itm hit with words := 4096 }] } })).island 0
     4096 < (x.strait.ents.map SEnt.words).sum + 16) ∧
    (let s := (isl (fun i => { i with strait := { i.strait with ents := [.item (itm hit)] } })).updEngine 0 (fun x => { x with st := .run, bind := 8, img :=
      { x.img with inTypes := 2 ^ tHIT } })
     s.boundTo 0 3 = some 0 ∧ s.engTakes 0 hit = true) ∧
    owned.boundTo 0 3 = some 3 ∧ owned.engTakes 3 hit = false ∧ (straitOf owned (.inbound 0)).flushing = false := by decide +kernel
/-- The hypotheses of `Straits` on an item that has crossed its link: room for it, no room for a read-out; and a spilled item. -/
theorem witness_strait_turns :
    (let x := (isl (fun i => { i with evq := [old hit] })).island 0
     (old hit).tick + 4 ≤ now ∧ x.linkAt < 7 * (now + 1) ∧ x.strait.flush = none ∧ x.strait.freed = [] ∧ x.strait.ents = []) ∧
    (let x := (isl (fun i => { i with roq := [old hit], strait := { i.strait with ents := [.item { itm hit with words := 96 }] } })).island 0
     x.evq = [] ∧ x.smq = [] ∧ 96 < (x.strait.ents.map SEnt.words).sum + 16) ∧
    ({ itm hit with spillQ := some 9 } : Item).spillQ = some 9 ∧
    (let s := owned.updEngine 3 (fun x => { x with input := { x.input with ents := [.gap (rcd tGAP 4 3 (pk [(4, 7)])), .item (itm hit)] } })
     (s.engine 3).input.flush = none ∧ fieldAt (rcd tGAP 4 3 (pk [(4, 0), (4, 7)])).body 4 4 ≠ 0) := by decide +kernel
theorem test_strait_push : run (.straitPush 0) (isl (fun i => { i with evq := [old hit] })) (fun t => (t.island 0).strait.ents.map SEnt.words == [1] &&
    (t.island 0).evq.isEmpty) = true := by
  decide +kernel
theorem test_strait_full : run (.straitPush 0) (isl (fun i => { i with evq := [old hit], strait := { i.strait with ents :=
    [.item { itm hit with words := 4096 }] } })) (fun t => ((t.island 0).strait.pend.map (fun d => d.count)) == some 1) = true := by decide +kernel
theorem test_strait_pop : run (.straitPop (.inbound 0)) (isl (fun i => { i with strait := { i.strait with ents := [.item (itm hit)] } })) (fun t =>
    (mget [] t.lag.ports 0).map (fun a => a.r.typ) == [tHIT] && (t.island 0).strait.ents.isEmpty) = true := by decide +kernel
theorem test_strait_flush : run (.straitFlush (.inbound 0) 3) (isl (fun i => { i with strait := { i.strait with ents := [.item (itm hit)] } })) (fun t =>
    (t.island 0).strait.ents.isEmpty && ((t.island 0).strait.flush.map (fun f => (f.cause, f.whole))) == some (3, 1)) = true := by decide +kernel
theorem test_strait_token : run (.straitFlushToken (.inbound 0)) (isl (fun i => { i with strait := { i.strait with flush := some ⟨3, 1, 0, []⟩ } })) (fun t =>
    (t.island 0).strait.flush == none && (t.island 0).strait.ents.map SEnt.isToken == [true]) = true := by decide +kernel

def held5 (s : State) : State := s.updBank 1 (fun b => { b with owner := 5 })
/-- Island 0 runs periods of 1500 ticks. -/
def per (f : Island → Island) : State := isl (fun i => f { i with cfg := some ⟨1500, 64, false, false, 0⟩ })
def engAt (s : State) (st : EngState) : State := s.updEngine 0 (fun x => { x with st := st, loaded := true })

theorem witness_kernels :
    (let s := held5 (cmd 0x0601 (pk [(1, 0), (1, 1), (2, 0), (4, 0), (4, 262144), (2, 1), (2, 0)])); adm s 4 0x0601 && len s == 2 && (s.bank 1).owner == 5) = true ∧
    ((cmd 0x0601 (pk [(1, 0), (1, 1), (2, 0), (4, 0), (4, 256), (2, 1), (2, 0)])).bank 1).owner = 2 ∧
    (let s := cmdOn (engAt (per id) .stopped) 0x0602 (pk [(1, 0), (1, 0), (2, 1), (4, 3), (32, 1)])
     adm s 4 0x0602 && len s == 5 && (taken s 4).startParamOk (entryOf s 4) && (s.engine 0).loaded) = true ∧
    (let s := cmdOn (engAt (per id) .run) 0x0603 (pk [(1, 0), (1, 1), (2, 1), (4, 0)]); adm s 4 0x0603 && len s == 1 && (s.engine 0).st == .run) = true ∧
    adm (cmd 0x0603 (pk [(1, 0), (1, 0), (2, 1), (4, 0)])) 4 0x0603 = true := by decide +kernel

/-- The hypotheses of `Kernels`, `Periods` and `Contexts` on work in the background, on a bank that waits for power and on a change of
the configuration. -/
theorem witness_waits :
    (let s := (held5 (cmd 0x0601 (pk [(1, 0), (1, 1), (2, 0), (4, 0), (4, 262144), (2, 1), (2, 0)])))
     let t : State := { s with ctx := { s.ctx with loads := [⟨tkt 0x0601, 0, 2, 0, 256, 1⟩] } }
     adm t 4 0x0601 && t.ctx.loads.any (fun j => j.island == 0 && j.mask.testBit 0)) = true ∧
    (((owned.updBank 96 (fun b => { b with st := 1 })).bank 96).waits = true ∧ (owned.bank 96).waits = false ∧ (owned.bank 96).st = 0) ∧
    (let x := (per (fun i => { i with phase := .commit now, late := [⟨none, 5, [], false, false⟩] })).island 0
     x.phase = .commit now ∧ x.late.map Upd.id = [5]) ∧
    (let s := per (fun i => { i with nextB := now + 9, pend := [⟨3000, 64, false, false, 0⟩] })
     s.anchorDue 0 = some ⟨3000, 64, false, false, 0⟩ ∧ s.now < (s.island 0).nextB ∧ s.firstTick 0 ≤ (s.island 0).nextB) ∧
    (let x := (per (fun i => { i with marks := [⟨true, false, now, 9⟩, ⟨false, true, 2999000, 8⟩], marked := some ⟨true, false, 2999000, 7⟩ })).island 0
     x.phase = .run ∧ x.marked.map Mark.b = some 2999000) := by decide +kernel

theorem witness_periods :
    (let s := per (fun i => { i with nextB := now }); (s.island 0).nextB ≤ s.now ∧ s.anchorDue 0 = none) ∧
    ((per (fun i => { i with deadlines := [(now, 2999000)] })).island 0).deadlines = [(now, 2999000)] ∧
    (let x := (per (fun i => { i with marks := [⟨true, false, 2999000, 7⟩] })).island 0; x.marked = none ∧ x.phase = .run) ∧
    (per (fun i => { i with phase := .start })).dueChange 0 = none ∧
    (per (fun i => { i with phase := .start, plan := some (1440, 800) })).dueChange 0 = some (1440, 800) ∧
    (isl (fun i => { i with pend := [⟨1500, 64, false, false, 0⟩] })).anchorDue 0 ≠ none ∧
    (let s := cmd 0x0604 (pk [(2, 4095), (1, 64), (1, 1), (4, 0), (8, 1500), (8, 0)]); adm s 4 0x0604 && len s == 3 && (taken s 4).perParamOk (entryOf s 4) &&
      decide (s.freqAt 11 1500 ≤ (s.island 11).fmax)) = true := by decide +kernel
theorem test_boundary_tick : run (.periodBoundaryTick 0) (per (fun i => { i with nextB := now })) (fun t => (t.island 0).nextB == now + 1500 &&
    (t.island 0).deadlines == [(now + 375, now)] && (t.island 0).marks.length == 1) = true := by decide +kernel
theorem test_boundary_mark : run (.boundaryMark 0) (per (fun i => { i with marks := [⟨true, false, 2999000, 7⟩] })) (fun t => (t.island 0).phase == .ready &&
    (t.island 0).marked == some ⟨true, false, 2999000, 7⟩) = true := by decide +kernel
theorem test_commit : run (.periodCommit 0) (per (fun i => { i with phase := .ready, marked := some ⟨true, false, 2999000, 7⟩, staged := [⟨some 0, 5, List.replicate 112 9, false, false⟩] }))
    (fun t => (t.island 0).phase == .commit (now + 99) && (t.ctxOf 5).commits == 1 && (t.ctxOf 5).ts == 7) = true := by decide +kernel
theorem test_commit_aborts : run (.periodCommit 0) (engAt (per (fun i => { i with phase := .ready, marked := some ⟨true, false, 2999000, 7⟩ })) .run) (fun t =>
    bit (t.rget (Reg.ISL_PER_EVT 0)) 2) = true := by decide +kernel
theorem test_period_start : run (.periodStart 0) (engAt (per (fun i => { i with phase := .start, marked := some ⟨true, false, 2999000, 7⟩ })) .done) (fun t =>
    (t.engine 0).st == .run && (t.island 0).startTs == 7 && (t.island 0).num == 1) = true := by decide +kernel
theorem test_anchor : run (.periodAnchor 0) (isl (fun i => { i with pend := [⟨1500, 64, false, false, 0⟩] })) (fun t =>
    (t.island 0).nextB == now + 1500 && (t.island 0).phase == .start) = true := by decide +kernel

theorem witness_contexts :
    (let s := cmd 0x0701 (pk [(1, 1), (1, 0), (6, 0), (2, 5), (6, 0), (112, 3)]); adm s 4 0x0701 && len s == 16 && cwParamOk (entryOf s 4) &&
      !(s.ctxOf 5).unrel && (s.ctxOf 5).island == 255) = true ∧
    (let s := cmdOn ((per id).updCtx 5 (fun c => { c with island := 0 })) 0x0701 (pk [(1, 1), (1, 0), (6, 0), (2, 5), (6, 0), (112, 3)])
     adm s 4 0x0701 && (s.island (s.ctxOf 5).island).cfg.isSome) = true ∧
    (let s := cmd 0x0702 (pk [(2, 65521), (1, 15), (5, 0)]); adm s 4 0x0702 && len s == 1 && par s 0 2 == 65521) = true ∧
    (let s := cmd 0x0703 (pk [(2, 65535), (2, 1), (1, 11), (1, 4), (1, 1), (1, 0)]); adm s 4 0x0703 && len s == 1) = true := by decide +kernel
theorem test_ctx_write : run (.ctxWrite 4) (cmd 0x0701 (pk [(1, 1), (1, 0), (6, 0), (2, 5), (6, 0), (112, 3)])) (fun t =>
    (t.ctxOf 5).host && (t.ctxOf 5).state.take 2 == [3, 0] && t.cmd.atBeacon.length == 1) = true := by decide +kernel
theorem test_ctx_assign : run (.ctxAssign 4) (cmd 0x0703 (pk [(2, 65535), (2, 1), (1, 11), (1, 4), (1, 1), (1, 0)])) (fun t =>
    (t.ctxOf 65535).island == 11 && (t.ctxOf 65535).kind == 4) = true := by decide +kernel

/-! ## Lagoon and compression -/

/-- Queue 7 is enabled at port 0 with a quota and routes HIT records of channels; port 0 holds `l`. -/
def lag (f : LQueue → LQueue) (l : List Rec) : State :=
  (owned.updQueue 7 (fun q => f { q with st := 1, quota := 16, guar := 16 })).updLag (fun x => { x with
    ports := mput [] x.ports 0 (l.map (fun r => ⟨r, none, none⟩)), routes := [⟨7, 0, false, 255, 0, 65535, 0xFFFFFFFF⟩] })

theorem witness_lagoon :
    lagoonDest (lag id [hit]) 0 ⟨hit, none, none⟩ = some 7 ∧ hit.units + 3 ≤ (lag id [hit]).qRoom 7 ∧
    (lag (fun q => { q with quota := 0, guar := 0 }) [hit]).qRoom 7 < hit.units + 3 ∧ lagoonDest owned 0 ⟨hit, none, none⟩ = none ∧
    (lag (fun q => { q with hbUs := 0, wmLast := 0 }) []).qProgress 7 ≠ none ∧
    (let s := cmd 0x0804 (pk [(2, 4095), (2, 1), (1, 1), (3, 0)]); adm s 4 0x0804 && len s == 1) = true ∧
    (let s := cmd 0x0803 (pk [(2, 7), (1, 1), (1, 16), (1, 3), (1, 0), (2, 10), (4, 16), (4, 16), (4, 0), (2, 0), (2, 0)])
     adm s 4 0x0803 && len s == 3 && (taken s 4).queueParamOk (entryOf s 4)) = true := by decide +kernel
theorem test_ingress : run (.lagoonIngress 0) (lag id [hit]) (fun t => (t.queue 7).ents.map (fun e => e.r) == [hit] && (t.queue 7).tail == 1) = true := by
  decide +kernel
theorem test_ingress_full : run (.lagoonIngress 0) (lag (fun q => { q with quota := 0, guar := 0 }) [hit]) (fun t =>
    ((t.queue 7).pend.map (fun d => d.count)) == some 1 && bit (t.rget Reg.LAG_EVT) 4) = true := by decide +kernel
theorem test_ingress_gap : run (.lagoonIngress 0) (lag (fun q => { q with pend := some ⟨3, 0, 0, none⟩ }) [hit]) (fun t =>
    (t.queue 7).ents.map (fun e => e.r.typ) == [tGAP, tHIT]) = true := by decide +kernel
theorem test_unrouted : run (.lagoonIngress 0) ((lag id [hit]).updLag (fun x => { x with routes := [] })) (fun t => (t.rget Reg.LAG_UNROUTED).toNat == 1) = true := by
  decide +kernel
theorem test_flush_done : run (.queueFlushDone 7) (lag (fun q => { q with st := 2, flush := some ⟨1, 4, 0, 0, true, false⟩ }) []) (fun t =>
    (t.queue 7).st == 0 && (t.queue 7).ents.map (fun e => e.r.typ) == [tFLUSH]) = true := by decide +kernel

/-- Stream 2 merges queue 7, which holds `l`. -/
def strm (f : LStream → LStream) (l : List Rec) : State :=
  (lag (fun q => { q with stream := some 2, ents := l.map (fun r => ⟨r, 0, 0, true, false⟩) }) []).updStream 2 (fun x => f { x with
    st := 1, sortMax := 8, inputs := [⟨7, 0, now, false⟩], timeoutMs := 1, wmOutUs := 1 })
def at_ (r : Rec) (ts : TS48) : Rec := { r with ts := ts }

theorem witness_streams :
    ((strm id [hit]).nextInput 2).map (fun x => (x.1, x.2.1)) = some (0, 7) ∧ tsLt (at_ hit 5).ts 9 = true ∧
    (strm (fun x => { x with out := [⟨hit, 0, 0, 0, 0⟩], up := true }) []).streamReady 2 ≠ none ∧
    ((domain.updStream 2 (fun x => { x with st := 1, up := true, inputs := [⟨7, 0, 0, false⟩], out := [⟨hit, 0, 0, 0, 0⟩] })).arbitrate true).isSome ∧
    (let s := cmdOn ((domain.updQueue 7 (fun q => { q with st := 1 }))) 0x0801
        (pk [(1, 2), (1, 2), (1, 0), (1, 1), (2, 8), (2, 1), (4, 0), (2, 1), (1, 0), (1, 0), (2, 7), (6, 0)])
     adm s 4 0x0801 && len s == 3 && streamParamOk (entryOf s 4) && !s.streamWrong (entryOf s 4) && !s.streamShort (entryOf s 4)) = true ∧
    (let s := cmdOn (strm id []) 0x0802 (pk [(1, 2), (1, 1), (6, 0)]); adm s 4 0x0802 && (s.stream 2).st == 1) = true := by decide +kernel
theorem test_merge_watermark : run (.mergeRead 2) (strm (fun x => { x with store := [⟨at_ hit 5, 0, 0, 0, 0⟩] }) [at_ (rcd tWATERMARK 4 7 []) 9]) (fun t =>
    (t.stream 2).rel == 9 && (t.stream 2).store.isEmpty && ((t.stream 2).out.map (fun e => e.r.typ)).take 1 == [tHIT] && (t.queue 7).ents.isEmpty) = true := by
  decide +kernel
theorem test_merge_late : run (.mergeRead 2) (strm (fun x => { x with rel := 9 }) [at_ hit 5]) (fun t => (t.rget Reg.LAG_LATE).toNat == 1) = true := by
  decide +kernel
theorem test_stream_open : run (.streamOpen 4) (cmdOn ((domain.updQueue 7 (fun q => { q with st := 1 }))) 0x0801
    (pk [(1, 2), (1, 2), (1, 0), (1, 1), (2, 8), (2, 1), (4, 0), (2, 1), (1, 0), (1, 0), (2, 7), (6, 0)])) (fun t => (t.stream 2).st == 1 &&
    (t.stream 2).up && (t.queue 7).stream == some 2) = true := by decide +kernel
theorem test_stream_close : run (.streamClose 4) (cmdOn (strm id [hit]) 0x0802 (pk [(1, 2), (1, 1), (6, 0)])) (fun t => (t.stream 2).st == 2 &&
    (t.queue 7).st == 0 && (t.queue 7).ents.length == 1) = true := by decide +kernel

def cstr : CStream := ⟨0, true, 0, some 0, (rcd tHIT 0 3 []).bytes, 7, 0, false, [], true, 0, none, ⟨1000, false, 0⟩⟩
def comp (f : Comp → Comp) : State := owned.updComp f
/-- A UBLOCK with the bytes `l`, which says that it codes `n` bytes (11 R382). -/
def ublock (l : List Byte) (n : Nat) : Rec := rcd tUBLOCK 4 0x2003 (pk [(4, 0), (4, n), (4, 0), (4, l.length)] ++ l)
def dictBytes : List Byte := pk [(4, 0x31434944), (2, 1), (2, 1), (4, 5), (52, 0), (4, 65)]
theorem witness_compression :
    (let s := comp (fun c => { c with streams := mput none c.streams 2 (some cstr) }); s.blockDue 2 cstr = true ∧ cstr.block.length = 16) ∧
    (let x := { cstr with closed := some ⟨List.replicate 64 5, 7⟩, block := [] }
     (owned.encodeBlock x true (List.replicate 64 5)).1.length < 64 ∧ owned.dictFault x = none) ∧
    wholeRecs hit.bytes = true ∧ wholeRecs [1, 2] = false ∧
    (let s := cmd 0x0805 (pk [(1, 0), (1, 2), (2, 0), (12, 0)]); adm s 4 0x0805 && len s == 2 && dictParamOk (entryOf s 4) && !s.comp.dictInUse 0) = true ∧
    dictImage (dictBytes.set 0 0) = none := by decide +kernel
theorem test_block_close : run (.compressBlockClose 2) (comp (fun c => { c with streams := mput none c.streams 2 (some cstr) })) (fun t =>
    ((t.cstream 2).map (fun x => (x.block.length, x.closed.isSome))) == some (0, true)) = true := by decide +kernel
theorem test_decompress_plain : run (.decompressBlock 1) (comp (fun c => { c with blocks := [⟨1, 3, ublock hit.bytes 16⟩] })) (fun t =>
    (mget [] t.lag.ports 14).map (fun a => a.r.typ) == [tHIT] && t.comp.blocks.isEmpty) = true := by decide +kernel
theorem test_decompress_bad : run (.decompressBlock 1) (comp (fun c => { c with blocks := [⟨1, 3, ublock hit.bytes 17⟩] })) (fun t =>
    (mget [] t.lag.ports 14).map (fun a => a.r.typ) == [tGAP] && (t.rget Reg.COMP_DEC_DISC).toNat == 1) = true := by decide +kernel
theorem test_dict_short : (dictImage (dictBytes.take 60)).isNone = true := by decide +kernel

/-! ## Memory -/

def bnk (n : Nat) (f : Bank → Bank) : State := owned.updBank n f
def bulk (target typ : Nat) (data : List Byte) : List Byte :=
  pk [(1, target), (1, 9), (1, typ), (1, 0), (2, 4), (1, 2), (1, 1), (4, 64), (2, data.length), (2, 0)] ++ data

theorem witness_banks :
    BanksQuiet (bnk 5 (fun b => { b with st := 1, entering := true, due := now })) ∧
    (let s := msgAt (domain.updBank 2 (fun b => { b with owner := 3 })) 1 3 0 (bulk 3 0 [1, 2, 3, 4]); s.headMsg 1 3 0 ≠ none ∧ (s.bank 2).owner = 3 ∧
      s.mem.dma.refused = [] ∧ s.routePort 9 = some 2) ∧
    (let s := cmd 0x0B01 (pk [(1, 88), (1, 8), (1, 4), (1, 0), (2, 0), (2, 0)]); adm s 4 0x0B01 && len s == 1 && (taken s 4).assignOk (entryOf s 4)) = true ∧
    (let s := cmd 0x0B02 (pk [(2, 0), (2, 96), (1, 2), (1, 1), (2, 0)]); adm s 4 0x0B02 && len s == 1 && !s.offRefused 0) = true := by
  unfold BanksQuiet
  decide +kernel
theorem test_retention : run (.bankRetentionEntered 5) (bnk 5 (fun b => { b with st := 1, entering := true, due := now })) (fun t => !(t.bank 5).entering) = true := by
  decide +kernel
theorem test_retain_off_pending : run (.memRetain 4) (cmdOn (bnk 5 (fun b => { b with st := 6, due := now + 9 })) 0x0B02
    (pk [(2, 5), (2, 1), (1, 2), (1, 1), (2, 0)])) (fun t => (t.bank 5).st == 5 && (t.bank 5).due == now + 9 && (t.bank 5).keep) = true := by
  decide +kernel
theorem test_retain_on_shutdown : run (.memRetain 4) (cmdOn (bnk 5 (fun b => { b with st := 5, due := now + 9 })) 0x0B02
    (pk [(2, 5), (2, 1), (1, 0), (1, 2), (2, 0)])) (fun t => (t.bank 5).st == 6 && (t.bank 5).due == now + 9 && bit (t.rget Reg.MEMCTL_EVT) 7) = true := by
  decide +kernel
theorem test_shutdown : run (.bankShutdownDone 5) (bnk 5 (fun b => { b with st := 6, due := now })) (fun t => (t.bank 5).st == 4 && (t.bank 5).due == now + 15000) = true := by
  decide +kernel
theorem test_bulk_write : run (.bulkWrite 1) (msgAt (domain.updBank 2 (fun b => { b with owner := 3 })) 1 3 0 (bulk 3 0 [1, 2, 3, 4])) (fun t =>
    t.bankBytes 0 2 64 4 == [1, 2, 3, 4] && (t.port 2).tx.unacked.length + (t.port 2).tx.waiting.length == 1) = true := by decide +kernel
theorem test_mem_assign : run (.memAssign 4) (cmd 0x0B01 (pk [(1, 88), (1, 8), (1, 4), (1, 0), (2, 0), (2, 0)])) (fun t => (t.bank 95).owner == 4 &&
    (t.bank 87).owner == 2) = true := by decide +kernel

theorem witness_scrub :
    wfErrs [(3, false), (4, true)] = true ∧ owned.agentLine 14 6 0 16383 = true ∧ owned.agentLine 14 6 0 16384 = false ∧ owned.agentLines 14 = 212992 ∧
    (owned.scrub 14).next = [] ∧ 0 + 1 < owned.agentLines 14 ∧
    (let s := cmd 0x0B03 (pk [(1, 1), (1, 1), (2, 0), (4, 0)]); adm s 4 0x0B03 && len s == 1) = true ∧
    (let s := cmd 0x0B03 (pk [(1, 2), (1, 0), (2, 0), (4, 0)]); adm s 4 0x0B03 && s.mem.pass == none) = true := by decide +kernel
theorem test_scrub_single : run (.scrubLine 14 6 0 9 [(3, false)]) owned (fun t => (t.rget Reg.MEMCTL_CE).toNat == 1 && t.mem.poison.isEmpty) = true := by
  decide +kernel
theorem test_scrub_double : run (.scrubLine 14 6 0 9 [(3, true)]) owned (fun t => (t.rget Reg.MEMCTL_UE).toNat == 1 &&
    (t.rget Reg.MEMCTL_UE_OFF).toNat == 579 && (t.rget Reg.MEMCTL_UE_LOC).toNat == 0x86000000) = true := by decide +kernel
theorem test_march_ninth : run (.marchTestLine 14 6 0 9 [] true 0) ((owned.rset Reg.MEMCTL_MT_CTRL 0x80000000).updMem (fun x => { x with
    spares := mput 0 x.spares (memArray 6 0 9) 8 })) (fun t => bit (t.rget Reg.MEMCTL_EVT) 5 && (t.rget Reg.MEMCTL_MT_FAIL).toNat == 1 &&
    (t.rget Reg.MEMCTL_MT_REPAIR).toNat == 0) = true := by decide +kernel

/-! ## Triad and Touchstone -/

def tri (f : Triad → Triad) : State := owned.updTriad f
theorem witness_triad :
    (owned.sec.start.step = 0 ∧ owned.triad.mode = 0 ∧ (owned.member 1).st = 0 ∧ owned.triad.nextSlice ≤ owned.now) ∧
    (let s := (tri (fun x => { x with mode := 1 })).updMember 2 (fun m => { m with st := 2, due := now }); (s.member 2).st = 2 ∧ s.triad.mode = 1 ∧
      (s.member 1).st ≠ 2) ∧
    (let s := (tri (fun x => { x with mode := 2, due := now, donor := 0 })).updMember 2 (fun m => { m with st := 3 })
     s.voting.filter (fun j => j != s.triad.donor) = [1]) ∧
    (let s := (tri (fun x => { x with mode := 4, due := now })).updMember 2 (fun m => { m with st := 2 }); s.voting = [0, 1]) ∧
    (tri (fun x => { x with nextCkpt := now })).triad.nextCkpt = now := by decide +kernel
theorem test_disagree : run (.triadDisagreement 1 2) owned (fun t => t.triad.mode == 1 && (t.member 1).st == 2 && (t.member 1).cause == 2 &&
    (t.rget Reg.TRIAD_VOTE_DIS).toNat == 1) = true := by decide +kernel
theorem test_disagree_duplex : run (.triadDisagreement 1 2) ((tri (fun x => { x with mode := 1 })).updMember 2 (fun m => { m with st := 1 })) (fun t =>
    t.triad.mode == 4 && t.triad.due == now + 1500000) = true := by decide +kernel
theorem test_slice_simplex : run (.selftestSlice 1 none) ((tri (fun x => { x with mode := 3 })).updMember 1 (fun m => { m with st := 4 }) |>.updMember 2
    (fun m => { m with st := 4 })) (fun t => t.triad.mode == 6) = true := by decide +kernel
theorem test_two_tests : run (.twoMemberTestDone 1) ((tri (fun x => { x with mode := 4, due := now })).updMember 2 (fun m => { m with st := 2 })) (fun t =>
    t.triad.mode == 3) = true := by decide +kernel
/-- 03 R118, 18 R582: the reply of the running command waits through the pause, and is DEGRADED after a restart. -/
def paused : State := (tri (fun x => { x with mode := 5, due := now })).updCmd (fun c => { c with
  running := some ⟨6, 0x0202, 9, true, 0, 0⟩, atBeacon := [⟨⟨6, 0x0202, 9, true, 0, 0⟩, 0, [], 0, false, 0⟩] })
theorem test_pause_holds : run .timeBeacon (paused.updQtz (fun q => { q with beaconDue := some QTime.zero })) (fun t =>
    t.cmd.atBeacon.length == 1 && t.cmd.rp.isEmpty) = true := by decide +kernel
theorem test_restart_degraded : run .restartDone paused (fun t => t.triad.mode == 1 && t.cmd.atBeacon.isEmpty && t.cmd.running.isNone &&
    bytesAt t.cmd.rp 0x30002 1 == [0x19] && t.own.owner == paused.own.owner) = true := by decide +kernel
theorem test_copy_done : run .copyDone ((tri (fun x => { x with mode := 2, due := now })).updMember 2 (fun m => { m with st := 3 })) (fun t =>
    t.triad.mode == 0 && (t.member 2).st == 0) = true := by decide +kernel
theorem test_eighth_failure : run (.fencedSelftestDone 2 false) ((tri (fun x => { x with mode := 1 })).updMember 2 (fun m => { m with st := 2, due := now, fails := 7 }))
    (fun t => (t.member 2).st == 4 && (t.member 2).fails == 8) = true := by decide +kernel

theorem witness_touchstone :
    (owned.triad.job = none ∧ (tri (fun x => { x with nextReport := now })).rb Reg.TRIAD_TS_CTRL 31 = true) ∧
    (let s := cmd 0x0C01 (pk [(1, 63), (1, 1), (6, 0)]); adm s 4 0x0C01 && len s == 1) = true ∧
    (let s := cmd 0x0C02 (pk [(1, 2), (1, 0), (2, 100), (4, 0), (4, 5), (4, 0)]); adm s 4 0x0C02 && len s == 2) = true ∧
    (let s := tri (fun x => { x with svcStep := mput none x.svcStep 12 (some ⟨752, now⟩) }); mget none s.triad.svcStep 12 = some ⟨752, now⟩) := by decide +kernel
theorem test_volt_step : run (.serviceVoltStep 0) (tri (fun x => { x with svcStep := mput none x.svcStep 12 (some ⟨752, now⟩) })) (fun t =>
    mget 750 t.triad.svcVdd 12 == 752 && mget none t.triad.svcStep 12 == none) = true := by decide +kernel
theorem test_margin : run (.marginPolicy 4) (cmd 0x0C02 (pk [(1, 2), (1, 0), (2, 100), (4, 0), (4, 5), (4, 0)])) (fun t => t.triad.policy == 2 &&
    t.triad.guard == 100) = true := by decide +kernel

/-! ## Host interface -/

/-- The functions serve; PF0 is a bus master with MSI-X. -/
def host : State :=
  (owned.updHost (fun h => { h with up := true, cfgReady := true, speed := 3, width := 4 })).updPf 0 (fun p => { p with busMaster := true, msixEn := true })
def ring (f : HRing → HRing) : State := host.updRing 3 (fun r => f { r with st := 1 })
def desc (addr : Nat) (ready : Bool) : List Byte := pk [(8, addr), (7, 0), (1, if ready then 0x80 else 0)]

theorem witness_rings :
    (let s := ring (fun r => { r with reading := some (0, now, false), recs := [hit] })
     (s.ring 3).reading = some (0, now, false) ∧ s.pfLive (s.ringPf 3) = true ∧ 16 * hit.units ≤ s.ringSize 3 ∧ (desc 0x1000 true).length = 16) ∧
    (let s := ring (fun r => { r with st := 2, pollAt := now }); (s.ring 3).st = 2 ∧ (s.ring 3).reading = none) ∧
    (let s := ring (fun r => { r with buf := some ⟨0x1000, 16, some 0⟩ }); 0 + s.ringClose 3 ≤ s.now) ∧
    (let s := ring (fun r => { r with modEnd := some now, modPend := true }); (s.ring 3).modEnd = some now) ∧
    VectorOpen (host.updPf 0 (fun p => { p with msix := mput MsixEnt.reset p.msix 3 ⟨0, 0, false, false⟩ })) 0 3 := by
  unfold VectorOpen
  decide +kernel
theorem test_descriptor : run (.descriptorReadDone 3 (desc 0x1000 true)) (ring (fun r => { r with reading := some (0, now, false), recs := [hit] })) (fun t =>
    t.out.contains (.hostWrite 0 0x1000 hit.bytes) && ((t.ring 3).buf.map (fun b => b.used)) == some 16) = true := by decide +kernel
theorem test_descriptor_stall : run (.descriptorReadDone 3 (desc 0x1000 false)) (ring (fun r => { r with reading := some (0, now, true), recs := [hit] }))
    (fun t => (t.ring 3).st == 2 && (t.rget (Reg.HOSTIF_SR_STALL 3)).toNat == 1) = true := by decide +kernel
theorem test_ring_error : run (.ringError 3) (ring (fun r => { r with reading := some (0, now, false) })) (fun t => (t.ring 3).st == 3) = true := by
  decide +kernel

theorem witness_host :
    (owned.sec.straps.pcieEn = true ∧ host.hostServed = true ∧ owned.hostServed = false ∧ owned.host.perst = false) ∧
    wfBar2Write 0x20000 [1, 2] = true ∧ wfBar2Write (0x1000000 - 1) [1] = true ∧ wfBar2Read 0x27FFFFF 1 = true ∧
    (let s := (host.updOwn (fun o => { o with owner := some 0 })).updBank 95 (fun b => { b with owner := 4 }); (s.bank 95).owner = 4 ∧ (0x27FFFFF - 0x1000000) / 0x40000 = 95) ∧
    (host.updStart (fun x => { x with step := 17 })).sec.start.step = 17 := by decide +kernel
theorem test_config_off : run (.configWrite 0 4 4) owned (fun t => !(t.pf 0).busMaster) = true := by decide +kernel
theorem test_config_on : run (.configWrite 0 4 4) host (fun t => (t.pf 0).busMaster) = true := by decide +kernel
theorem test_hot_reset : run .hotReset host (fun t => t.pf 0 == Pf.reset && bit (t.rget Reg.HOSTIF_EVT) 1) = true := by decide +kernel
theorem test_bar2_own_queue : run (.bar2Write 1 0x20000 [5, 6]) host (fun t => bytesAt t.cmd.sram 0x20000 2 == [5, 6]) = true := by decide +kernel
theorem test_bar2_other_queue : run (.bar2Write 0 0x20000 [5, 6]) host (fun t => bytesAt t.cmd.sram 0x20000 2 == [0, 0] &&
    (t.rget Reg.REGCTL_LOG_CNT).toNat == 1) = true := by decide +kernel
theorem test_bar2_bank : run (.bar2Write 0 0x27FFFFF [9]) ((host.updOwn (fun o => { o with owner := some 0 })).updBank 95 (fun b => { b with owner := 4 }))
    (fun t => t.bankBytes 11 7 0x3FFFF 1 == [9]) = true := by decide +kernel
theorem test_bar2_hole : run (.bar2Read 0 0x2800000 4) host (fun t => t.out == [.completion 0 [] true false]) = true := by decide +kernel
theorem test_msix_unmask : run (.msixTableWrite 0 3 3 0) (host.updPf 0 (fun p => { p with msix := mput MsixEnt.reset p.msix 3 ⟨0, 0, true, true⟩ })) (fun t =>
    t.out == [.msix 0 3]) = true := by decide +kernel

/-! ## Emitters -/

def emi (f : Emitter → Emitter) : State := owned.updEmitter 2 f
theorem witness_emitters :
    ((emi (fun x => { x with st := 1, due := now })).emitter 2).st = 1 ∧ now / (65536 * 16) * (65536 * 16) = 2097152 ∧
    (let s := emi (fun x => { x with st := 2 }); (s.emitter 2).scheds = [] ∧ EmSched.reset.coarse < EmSched.reset.period ∧ (s.emitter 2).due ≤ now) ∧
    (let s := emi (fun x => { x with st := 2, scheds := [(0, ⟨75000, 5, 0, 3072, some 1⟩)], bounds := [(1, now - 5)] }); (s.emitter 2).bounds = [(1, now - 5)]) ∧
    (let s := cmd 0x0E01 (pk [(1, 4), (2, 3), (1, 0), (4, 0), (4, 0x80000000), (4, 1023), (32, 0)])
     adm s 4 0x0E01 && len s == 6 && s.emitOk (entryOf s 4) && decide (par s 12 4 ≤ s.rf (Reg.EM_IMAX 2) 0 10)) = true ∧
    (let s := (cmd 0x0E01 (pk [(1, 4), (2, 2), (1, 0), (4, 0), (4, 0), (4, 500), (32, 0)])).rset (Reg.EM_IMAX 2) 499
     decide (s.rf (Reg.EM_IMAX 2) 0 10 < par s 12 4)) = true := by decide +kernel
theorem test_em_enable_pend : run (.emEnable 2) (posts (emi (fun x => { x with st := 3, due := now + 9 })) (Reg.EM_CTRL 2) 0x80000000) (fun t =>
    (t.emitter 2).st == 4 && (t.emitter 2).due == now + 9 && bit (t.rget (Reg.EM_EVT 2)) 7) = true := by decide +kernel
theorem test_em_test_fault : run (.emTestDone 2 (some 8)) (emi (fun x => { x with st := 1, due := now })) (fun t => (t.emitter 2).st == 5 &&
    (t.emitter 2).shortGnd && bit (t.rget (Reg.EM_EVT 2)) 2) = true := by decide +kernel
theorem test_em_pulse : run (.emPulse 2) (emi (fun x => { x with st := 2 })) (fun t => (t.emitter 2).lastPulse == some 3000000 &&
    (t.rget (Reg.EM_PULSES 2)).toNat == 1) = true := by decide +kernel
theorem test_spread : run (.spreadBoundary 2) (emi (fun x => { x with levelPend := some 900, pendTick := 2097151 })) (fun t => (t.emitter 2).code == 900 &&
    (t.emitter 2).bound == 2097152) = true := by decide +kernel
theorem test_em_governor : run (.emGovernor []) (owned.updEmit (fun x => { x with govNext := now })) (fun t => t.emit.g == 256 &&
    t.emit.govNext == 18000000) = true := by decide +kernel

/-! ## Start-up, house-keeping, reference -/

theorem witness_resets :
    (let s := cmd 0x0102 (pk [(1, 1), (1, 3), (6, 0)]); adm s 4 0x0102 && len s == 1) = true ∧
    (owned.updStart (fun x => { x with resetPend := some ⟨now, false, true, true⟩ })).sec.start.resetPend = some ⟨now, false, true, true⟩ ∧
    (let s := tri (fun x => { x with mode := 6, due := now }); s.triad.mode = 6 ∧ s.rb Reg.TRIAD_CTRL 0 = true) ∧
    owned.sec.straps.pcieEn = true := by decide +kernel
theorem test_power_on : run (.powerOn ⟨2, true, false, 1⟩) owned (fun t => t.own.owner == none && t.sec.start.step == 1 && t.sec.straps.bootSrc == 2 &&
    t.sec.fuses.lifecycle == 1 && t.qtz.now == 0) = true := by decide +kernel
theorem test_warm : run .devResetStart (owned.updStart (fun x => { x with resetPend := some ⟨now, false, true, true⟩ })) (fun t => t.sec.start.warm &&
    t.sec.start.step == 1 && t.sec.start.cause == 4 && t.qtz.now == now && t.own.owner == none && (t.rget Reg.DEV_WARM_CNT).toNat == 1) = true := by
  decide +kernel
theorem test_watchdog_halted : run .watchdogExpiry (tri (fun x => { x with mode := 6 })) (fun t => t.triad.mode == 6 && t.sec.start.step == 0) = true := by
  decide +kernel

def boot (f : Start → Start) : State := on.updStart f
theorem witness_start :
    ((boot (fun x => { x with step := 3, bist := true })).sec.start.bist = true ∧ on.rb Reg.DEV_CTRL 0 = false) ∧
    ((boot (fun x => { x with step := 5 })).bootSrc = 0 ∧ (boot (fun x => { x with step := 5 })).slotOrder = []) ∧
    (on.updSec (fun x => { x with straps := ⟨1, true, true, 0⟩ })).bootSrc = 1 ∧
    (boot (fun x => { x with step := 9, warm := true, charTick := some 0 })).charKept = true ∧ (boot (fun x => { x with step := 9 })).charKept = false := by
  decide +kernel
theorem test_step1_warm : run (.startStepDone 0) (boot (fun x => { x with step := 1, warm := true })) (fun t => t.sec.start.step == 3) = true := by decide +kernel
theorem test_pll : run (.pllLock 900) (boot (fun x => { x with step := 16, acc := 100 })) (fun t => t.sec.start.step == 4 && t.sec.start.acc == 1000 &&
    t.qtz.time == QTime.zero && t.qtz.now == now && t.qtz.pll == now) = true := by decide +kernel
/-- 05 R160: with the lock at tick 100 and D = 8, groups begin at ticks that lie multiples of 8 after it. -/
theorem test_tick_count : (let q := { Quartz.reset with pll := 100 }
    q.alignUp 8 3000 = 3004 ∧ q.alignUp 8 3004 = 3004 ∧ q.alignDown 8 3003 = 2996 ∧ q.alignUp 64 50 = 100) := by decide +kernel
theorem test_no_slot : run (.startStepDone 0) (boot (fun x => { x with step := 5 })) (fun t => t.sec.start.step == 18) = true := by decide +kernel
theorem test_triad_two_pass : run (.startStepDone 5) (boot (fun x => { x with step := 8 })) (fun t => t.sec.start.step == 9 && t.triad.mode == 1 &&
    (t.member 1).st == 2) = true := by decide +kernel
theorem test_triad_none_pass : run (.startStepDone 0) (boot (fun x => { x with step := 8 })) (fun t => t.triad.mode == 6) = true := by decide +kernel
theorem test_complete : run .startComplete (boot (fun x => { x with step := 10, since := now - 1500000, skipped := 2 })) (fun t => t.sec.start.step == 0 &&
    (t.rget Reg.DEV_START).toNat == 65538) = true := by decide +kernel

def hk (f : Hk → Hk) : State := owned.updHk f
def scan0 : Scan := ⟨now, [0, 5], [], 0, false, true⟩
theorem witness_housekeeping :
    ((hk (fun h => { h with timerNext := some now })).hk.timerNext = some now ∧ (hk (fun h => { h with trigs := [⟨now, some (2, false)⟩] })).hk.scan = none) ∧
    ((owned.rset Reg.HK_CTRL 0x80002).rf Reg.HK_CTRL 0 2 = 2 ∧ (owned.rset Reg.HK_CTRL 0x80002).rf Reg.HK_CTRL 18 3 = 2 ∧
      (owned.rset Reg.HK_CTRL 0x80002).rb Reg.HK_CTRL 17 = false) ∧
    (let h := (hk (fun h => { h with scan := some { scan0 with running := false } })).hk; max scan0.start h.free ≤ now ∧ h.sysNext = none) ∧
    (let sc := { scan0 with left := [], done := [(0, 5, 7), (5, 6, 4095)] }; (sc.done.map Prod.fst).Nodup ∧ ∀ x ∈ sc.done, x.1 < 32 ∧ x.2.2 < 4096) ∧
    (let h := (hk (fun h => { h with sysNext := some (now - 1500), sysInput := 2 })).hk; max (now - 1500) h.free + 1500 ≤ now ∧ h.sysInput < 4) := by
  decide +kernel
/-- 05 R195, R201: an edge that HK_CTRL does not select as it comes is no trigger. -/
theorem test_hk_edge_unselected : run .hkTrigger (hk (fun h => { h with trigs := [⟨now, some (2, true)⟩] })) (fun t =>
    t.hk.trigs.isEmpty && t.hk.scan.isNone) = true := by decide +kernel
theorem test_hk_edge_selected : run .hkTrigger ((hk (fun h => { h with trigs := [⟨now, some (2, false)⟩] })).rset Reg.HK_CTRL 0x80002) (fun t =>
    t.hk.trigs.isEmpty && t.hk.scan.isSome) = true := by decide +kernel
theorem test_hk_conversion : run (.hkConversion 77) (hk (fun h => { h with scan := some scan0, conv := some now })) (fun t =>
    (t.hk.scan.map (fun s => (s.left, s.done))) == some ([5], [(0, now - 1125, 77)]) && t.hk.conv == some (now + 1500)) = true := by decide +kernel
theorem test_hk_end : run .hkScanEnd (hk (fun h => { h with scan := some { scan0 with left := [], done := [(5, 6, 4095)] }, scanNum := 3 })) (fun t =>
    (t.rget (Reg.HK_DATA 5)).toNat == 3 * 2 ^ 24 + 2 ^ 15 + 4095 && t.hk.scan == none) = true := by decide +kernel
/-- 120.00 °C is 39,315 hundredths of a kelvin, so the code is at least 3,932 (22 R683). -/
theorem test_hk_trip : run (.hkSystemConversion 3932) (hk (fun h => { h with sysNext := some (now - 1500), sysInput := 2, hot := mput 0 h.hot 2 2 })) (fun t =>
    t.hk.tripped && t.alarmN) = true := by decide +kernel
theorem test_hk_no_trip : run (.hkSystemConversion 3931) (hk (fun h => { h with sysNext := some (now - 1500), sysInput := 2, hot := mput 0 h.hot 2 2 })) (fun t =>
    !t.hk.tripped) = true := by decide +kernel

def ref (f : RefMon → RefMon) : State := owned.updRef (fun r => f { r with st := 0, sel := 0, nextWin := now })
theorem witness_reference :
    ((ref (fun r => { r with miss := 3 })).ref.nextWin ≤ now ∧ (ref (fun r => { r with st := 1, good := 63 })).ref.st = 1) ∧
    (owned.updRef (fun r => { r with ppsOk := true, ppsLast := some 5 })).ref.ppsLast = some 5 ∧
    ((ref (fun r => { r with ppsLast := some 0 })).updQtz (fun q => { q with now := 1500150000 })).now - 0 ≤ 1500000000 + 150000 := by decide +kernel
theorem test_holdover : run (.trefWindowClose false) (ref (fun r => { r with miss := 3 })) (fun t => t.ref.st == 1 && bit (t.rget Reg.QTZ_REF_EVT) 0) = true := by
  decide +kernel
theorem test_relock : run (.trefWindowClose true) (ref (fun r => { r with st := 1, good := 63 })) (fun t => t.ref.st == 2) = true := by decide +kernel
theorem test_pps_edge : run .ppsInEdge ((ref (fun r => { r with ppsLast := some 0 })).updQtz (fun q => { q with now := 1500150000 })) (fun t =>
    t.ref.ppsOk && (t.island 0).evq.length == 1) = true := by decide +kernel
theorem test_pps_bad : run .ppsInEdge ((ref (fun r => { r with ppsLast := some 0 })).updQtz (fun q => { q with now := 1500150001 })) (fun t =>
    !t.ref.ppsOk && t.ref.ppsBad == 1) = true := by decide +kernel

/-! ## Counters, firmware, fuses -/

theorem witness_counters :
    (let s := cmd 0x0103 []; adm s 4 0x0103 && len s == 0 && s.perf.slate == none && !s.rb Reg.PERF_SNAP_CTRL 31) = true ∧
    (owned.updPerf (fun p => { p with slate := some ⟨now, now - 400, 1, [], none⟩ })).pausedIslands = [] ∧
    (owned.updPerf (fun p => { p with winStart := some 0 })).rf Reg.PERF_BW_WIN 0 20 * 1500 ≤ now ∧
    (let s := (owned.updPerf (fun p => { p with dumpNext := mput none p.dumpNext 3 (some now) })).rset (Reg.PERF_DUMP_CFG 3) 0xA0000000
     bit (s.rget (Reg.PERF_DUMP_CFG 3)) 31 = true ∧ mget none s.perf.dumpNext 3 = some now) := by decide +kernel
theorem test_snap : run (.snapTake 4) (cmd 0x0103 []) (fun t => (t.perf.slate.map (fun p => p.tick)) == some 3000384) = true := by decide +kernel
theorem test_snap_edge : run .snapInEdge (owned.rset Reg.PERF_SNAP_CTRL 1) (fun t => (t.perf.slate.map (fun p => (p.tick, p.src))) == some (3000384, 2)) = true := by
  decide +kernel
theorem test_bw : run .bwWindowEnd (((owned.rset Reg.PERF_BW_WIN 1000).updPerf (fun p => { p with winStart := some 0, bytes := mput 0 p.bytes 2 5999 }))) (fun t =>
    (t.rget (Reg.PERF_BW 2)).toNat == 5 && t.perf.winStart == some 1500000) = true := by decide +kernel

def fused (p r : BitVec 4) (s : State) : State := s.updSec (fun x => { x with fuses := { x.fuses with programmed := p, revoked := r } })
theorem witness_firmware :
    (let s := cmd 0x0D01 (pk [(2, 0), (1, 1), (1, 8), (8, 0), (4, 0)]); adm s 4 0x0D01 && len s == 2 && s.fwUpdateOk (entryOf s 4)) = true ∧
    (owned.updSec (fun x => { x with fwJob := some ⟨tkt 0x0D01, 1, 0, none⟩ })).sec.fwJob ≠ none ∧
    (let s := cmd 0x0D02 (pk [(32, 5)]); adm s 4 0x0D02 && len s == 4 && s.sec.attest == none) = true ∧
    (let s := fused 15 0 (cmd 0x0D03 (pk [(1, 3), (1, 252), (6, 0), (8, 0)]))
     adm s 4 0x0D03 && len s == 2 && s.revokeOk (entryOf s 4) && decide (s.sec.start.fw.keySlot ≠ 3)) = true ∧
    (let s := cmd 0x0D03 (pk [(1, 3), (1, 251), (6, 0), (8, 0)]); adm s 4 0x0D03 && len s == 2 && decide (par s 1 1 + par s 0 1 ≠ 255)) = true ∧
    (fused 15 4 owned).sec.fuses.revoked.getLsbD 2 = true ∧
    (owned.updSec (fun x => { x with burns := [⟨.revoke 2, now, some (tkt 0x0D03)⟩] })).sec.burns.length = 1 := by decide +kernel
theorem test_revoke : run (.keyRevoke 4) (fused 15 0 (cmd 0x0D03 (pk [(1, 3), (1, 252), (6, 0), (8, 0)]))) (fun t =>
    t.sec.burns.map (fun b => (b.what, b.due)) == [(.revoke 3, 33000000)]) = true := by decide +kernel
theorem test_revoke_param : run (.keyRevoke 4) (fused 15 0 (cmd 0x0D03 (pk [(1, 3), (1, 251), (6, 0), (8, 0)]))) (fun t =>
    t.sec.burns.isEmpty) = true := by decide +kernel
theorem test_burn : run .fuseBurnDone (owned.updSec (fun x => { x with burns := [⟨.revoke 2, now, some (tkt 0x0D03)⟩] })) (fun t =>
    t.sec.fuses.revoked == 4 && t.sec.burns.isEmpty && bit (t.rget Reg.SEC_EVT) 4) = true := by decide +kernel
theorem test_fw_no_image : run (.fwUpdateDone true) (owned.updSec (fun x => { x with fwJob := some ⟨tkt 0x0D01, 1, 0, none⟩ })) (fun t =>
    t.sec.fwJob == none && t.sec.flash.isEmpty) = true := by decide +kernel

/-- Witnesses of `FusesOnlyAdvance` and `MemoryStaysCanonical`: the state after reset, and a step from it. -/
theorem witness_fuses : FusesOk State.reset ∧ FusesOk owned := by
  unfold FusesOk
  decide +kernel
theorem witness_memory : State.reset.memoryOk := by
  have h : Memory.wf [] := by decide
  have h' : ∀ d : Nat → BitVec 32, mwf d [] := fun _ => ⟨List.Pairwise.nil, by simp⟩
  exact ⟨h' _, h, h, h, ⟨List.Pairwise.nil, by simp [State.reset, Sec.reset]⟩, fun _ => h, fun _ => h, fun _ => h⟩
theorem witness_step : goesOn (step State.reset) = true := by decide +kernel

/-- No row of the table has bits: no word spells a command (spec/opcode_table.json). -/
theorem test_decode_none : decodeTableWord 32 0x12345678 = none := by decide
end Sys2Proof.Tests
end

section
/-! PROOF. Register access: 64-bit pairs, event registers and counters (02 R57 to R73). -/

namespace Sys2Proof

open Machine

/-! ## A pair whose LO latches in its unit: QTZ_PTM_T1 (14 R472) -/

/-- QTZ_PTM_T1_LO as its address decodes. -/
def ptmT1Lo : Target := ⟨⟨"QTZ_PTM_T1_LO", 0x068, 0, 1, .ro, 0, 0, [], .lo⟩, 0x20068, 0, 0x20000, ⟨.qtz, 0, 0x068⟩⟩

/-- QTZ_PTM_T1_HI as its address decodes. -/
def ptmT1Hi : Target := ⟨⟨"QTZ_PTM_T1_HI", 0x06C, 0, 1, .ro, 0, 0, [], .hi⟩, 0x2006C, 0, 0x20000, ⟨.qtz, 0, 0x06C⟩⟩

theorem target_ptmT1Lo : target 0x20068 = some ptmT1Lo := by decide +kernel

theorem target_ptmT1Hi : target 0x2006C = some ptmT1Hi := by decide +kernel

/-- The state after PTM dialog number `n`. -/
def ptmDialog (n : Nat) (s : State) : State := s.updQtz (fun q => { q with ptm := { q.ptm with dialog := n } })

/-- M4 has read QTZ_PTM_T1_LO after dialog 1, and dialog 2 has completed since: what 14 R472 latched for M4 is out of date. -/
def ptmStale : State := ptmDialog 2 ((ptmDialog 1 State.reset).busRead 4 0x20068)

/-- The state after M4 has read QTZ_PTM_T1_LO once more. -/
def ptmReread : State := ptmStale.busRead 4 0x20068

/-- Before its second read of LO, M4 sees in HI the number of dialog 1, which its first read latched. -/
theorem ptmStale_seen_hi : (readServed ptmStale 4 0x20068).seen 4 ptmT1Hi = 0x00010000 := by decide +kernel

/-- After its second read of LO, which latches HI anew (14 R472), M4 reads in HI the number of dialog 2. -/
theorem ptmReread_hi_read : (ptmReread.busRead 4 0x2006C).respOf 4 = .data 0x00020000 := by decide +kernel

/-- Refutes O20: the first clause takes the HI that the master sees before its read of LO. A read of QTZ_PTM_T1_LO itself latches
T1_HI for the master (14 R472), and the pair's latch keeps that one. For a master that has read the pair after an earlier dialog the
two differ. -/
theorem not_pairsEventsCounters : ¬ Obligations.PairsEventsCounters := by
  unfold Obligations.PairsEventsCounters
  intro h
  obtain ⟨hpair, -⟩ := h 4 0x20068 0x2006C 0 ptmStale
  have hreach : ptmStale.reaches 4 = true ∧ ptmReread.reaches 4 = true := by decide +kernel
  obtain ⟨x, hx, -, hhi⟩ := hpair ptmT1Lo ptmT1Hi hreach.1 target_ptmT1Lo rfl rfl target_ptmT1Hi rfl rfl rfl rfl
  have hxr : ptmReread = x := Host.Outcome.next.inj hx
  subst hxr
  obtain ⟨y, hy, hval, -⟩ := hhi ptmReread rfl hreach.2
  have hyr : ptmReread.busRead 4 0x2006C = y := Host.Outcome.next.inj hy
  subst hyr
  have hsame : Resp.data 0x00020000 = .data 0x00010000 :=
    ptmReread_hi_read.symm.trans (hval.trans (congrArg Resp.data ptmStale_seen_hi))
  exact absurd hsame (by decide)

end Sys2Proof
end

section
/-! PROOF. OWN_CLAIM and the commands of the owner (03 R93 to R104). -/

namespace Sys2Proof

open Machine

/-! ## A claim by the owner under a lease of 0 ms (03 R96, R99) -/

/-- M4's OWN_CLAIM with its current token, 77: priority 5, without WAIT, for a lease of 50 ms. -/
def ownerClaimEntry : List Byte :=
  leBytes 2 0x0201 ++ leBytes 1 1 ++ leBytes 1 1 ++ leBytes 2 9 ++ leBytes 2 0 ++ leBytes 8 77 ++
    (leBytes 1 5 ++ leBytes 3 0 ++ leBytes 4 50)

/-- The ownership of M4 at priority 3, with a lease of 0 ms that ends at tick 10. -/
def zeroLeaseOwn : Own := { Own.reset with owner := some 4, prio := 3, token := 77, leaseEnd := 10, issued := [77] }

/-- M4 owns the running device under such a lease, at tick 0, and its claim is in turn. -/
def zeroLeaseClaim : State :=
  { (State.reset.updStart (fun x => { x with step := 0 })).updOwn (fun _ => zeroLeaseOwn) with
    cmd := { Cmd.reset with
      q := mput CmdQ.reset [] 4 { CmdQ.reset with tail := 1 }
      sram := putBytes [] (slotAddr 4 0) ownerClaimEntry } }

theorem zeroLeaseClaim_admitted : Admitted zeroLeaseClaim 4 0x0201 := by
  unfold Admitted
  decide +kernel

/-- The claim comes from the owner, with its current token and before the lease ends. -/
theorem zeroLeaseClaim_ownerToken : zeroLeaseClaim.ownerToken 4 (entryOf zeroLeaseClaim 4).token = true := by decide +kernel

/-- The length and the parameters of the claim, in the ranges of 03 R96. -/
theorem zeroLeaseClaim_params :
    let e := entryOf zeroLeaseClaim 4
    e.len = 1 ∧ e.p 0 1 = 5 ∧ e.p 1 1 = 0 ∧ LeaseOk (e.p 4 4) := by
  unfold LeaseOk
  decide +kernel

/-- The claim restarts the lease of 0 ms, which ends it before the claim is resolved: the claim is refused and the priority
stays 3. -/
theorem zeroLeaseClaim_keeps_prio : (zeroLeaseClaim.runCmd cOwnClaim 4).own.prio = 3 := by decide +kernel

/-- Neither an OK reply that waits for the beacon nor the end of a turn touches the ownership. -/
theorem replyEffect_keepTurn_own (u : State) (tk : Ticket) (st : Nat) (res : List Byte) :
    ((u.replyEffect tk st res).keepTurn tk).own = u.own :=
  ((keepTurn_only _ tk).2 .own (by decide)).trans ((replyEffect_only u tk st res).2 .own (by decide))

/-- Refutes O16: the clause on the owner's own claim ranges over every state, so also over one whose lease is 0 ms long and has not
ended. Step 5 restarts such a lease, with which it has ended (03 R99), and the claim that follows finds no current token: it is
refused, and priority and lease stay. No lease that the device grants is that short (03 R96); the statement does not exclude it. -/
theorem not_ownershipCommands : ¬ Obligations.OwnershipCommands := by
  unfold Obligations.OwnershipCommands ClaimOwnershipClaim
  rintro ⟨hclaim, -⟩
  obtain ⟨hlen, hprio, hwait, hlease⟩ := zeroLeaseClaim_params
  obtain ⟨hvalid, -⟩ := hclaim 4 zeroLeaseClaim (by decide)
  obtain ⟨-, howner, -⟩ := hvalid zeroLeaseClaim_admitted hlen (Nat.le_trans (Nat.le_of_eq hprio) (by decide))
    (Nat.le_trans (Nat.le_of_eq hwait) (by decide)) hlease (fun hw => absurd (hwait.symm.trans hw) (by decide)) (by decide)
  obtain ⟨t, ht, u, res, htu, huown, -⟩ := howner zeroLeaseClaim_ownerToken
  have hrun : zeroLeaseClaim.runCmd cOwnClaim 4 = t := Host.Outcome.next.inj ht
  have hnew : t.own.prio = 5 := by rw [htu, replyEffect_keepTurn_own, huown]; exact hprio
  have hsame : 3 = 5 := zeroLeaseClaim_keeps_prio.symm.trans ((congrArg (·.own.prio) hrun).trans hnew)
  exact absurd hsame (by decide)

end Sys2Proof
end

section
/-! PROOF. Words of engine instructions: fields of a word written by its format, and the tables that its codes select from (09 R319,
R320). -/

namespace Sys2Proof

open Machine

/-! ## Fields and the decoder -/

/-- A field of a word given as a number. -/
theorem fld_ofNat (n : Nat) {lo len : Nat} (h : lo + len ≤ 32) : fld (BitVec.ofNat 32 n) lo len = n / 2 ^ lo % 2 ^ len := by
  obtain ⟨k, hk⟩ := Nat.exists_eq_add_of_le h
  have h32 : (2 : Nat) ^ 32 = 2 ^ lo * (2 ^ len * 2 ^ k) := by rw [← Nat.pow_add, ← Nat.pow_add, hk, Nat.add_assoc]
  rw [fld, BitVec.toNat_ofNat, Nat.shiftRight_eq_div_pow, h32, Nat.mod_mul_right_div_self, Nat.mod_mul_right_mod]

/-- The lowest field of a word is its number modulo a power of two. -/
theorem fld_zero (w : Word) (len : Nat) : fld w 0 len = w.toNat % 2 ^ len := by rw [fld, Nat.shiftRight_zero]

/-- A bit of a word given as a number. -/
theorem bit_ofNat (n : Nat) {i : Nat} (h : i < 32) : bit (BitVec.ofNat 32 n) i = decide (n / 2 ^ i % 2 = 1) := by
  rw [bit, BitVec.getLsbD_ofNat, Nat.testBit_eq_decide_div_mod_eq, decide_eq_true h, Bool.true_and]

/-- A word whose opcode names `op` and whose fields are legal spells `op`. -/
theorem engDecode_of {op : EOp} {w : Word} (ho : opOf w = some op) (hl : legal op w = true) : engDecode w = some op := by
  simp [engDecode, ho, hl]

/-- A word whose fields are not legal for what its opcode names spells nothing. -/
theorem engDecode_none_of {op : EOp} {w : Word} (ho : opOf w = some op) (hl : legal op w = false) : engDecode w = none := by
  simp [engDecode, ho, hl]

/-- The words at the codes from `k` on spell the operations `l`, when the decoder's table `t` has `l` from code `j` on and the
fields are legal for each operation of `l`. -/
theorem spells_table {t l : List EOp} {j k : Nat} {w : Nat → Word} (hsub : ∀ n, n < l.length → t[j + n]? = l[n]?)
    (hop : ∀ n, n < l.length → opOf (w (k + n)) = t[j + n]?) (hl : ∀ n, n < l.length → ∀ op ∈ l, legal op (w (k + n)) = true) :
    Spells l k w := by
  intro n op hn
  have hlen : n < l.length := (List.getElem?_eq_some_iff.mp hn).1
  exact engDecode_of ((hop n hlen).trans ((hsub n hlen).trans hn)) (hl n hlen op (List.mem_of_getElem? hn))

/-! ## The table that a major opcode selects -/

section Major
variable {w : Word}

theorem opOf_int (h : wMajor w = 0x00) : opOf w = intOps[wFn w]? := by simp [opOf, h]
theorem opOf_mul (h : wMajor w = 0x01) : opOf w = mulOps[wFn w]? := by simp [opOf, h]
theorem opOf_cmp (h : wMajor w = 0x02) : opOf w = some .cmp := by simp [opOf, h]
theorem opOf_special (h : wMajor w = 0x03) : opOf w = some (if bit w 0 then .setsr else .getsr) := by simp [opOf, h]
theorem opOf_pred (h : wMajor w = 0x04) : opOf w = predOps[fld w 0 2]? := by simp [opOf, h]
theorem opOf_imm {n : Nat} (hn : n < 4) (h : wMajor w = 0x08 + n) : opOf w = immOps[n]? := by
  unfold opOf
  simp only [h]
  rw [if_neg (by omega), if_neg (by omega), if_neg (by omega), if_neg (by omega), if_neg (by omega), if_pos (by omega),
    Nat.add_sub_cancel_left]
theorem opOf_shift (h : wMajor w = 0x0C) : opOf w = shiftOps[fld w 5 2]? := by simp [opOf, h]
theorem opOf_lui (h : wMajor w = 0x0D) : opOf w = some .lui := by simp [opOf, h]
theorem opOf_cmpi (h : wMajor w = 0x0E) : opOf w = some .cmpi := by simp [opOf, h]
theorem opOf_vec (h : wMajor w = 0x20) : opOf w = vecOps[wFn w]? := by simp [opOf, h]
theorem opOf_vs (h : wMajor w = 0x21) : opOf w = vsOps[fld w 0 3]? := by simp [opOf, h]

end Major

/-! ## Fields by format (09 R319)

Every bound is that of a field in its format: a number below it keeps out of the other fields. -/

section Formats
variable {m rd ra rb fn imm : Nat}

theorem wMajor_wordR (hm : m < 64) (hd : rd < 32) (ha : ra < 32) (hb : rb < 32) (hf : fn < 64) : wMajor (wordR m rd ra rb fn) = m := by
  rw [wMajor, wordR, fld_ofNat _ (by decide)]; omega
theorem wRb_wordR (hb : rb < 32) (hf : fn < 64) : wRb (wordR m rd ra rb fn) = rb := by rw [wRb, wordR, fld_ofNat _ (by decide)]; omega
theorem wFn_wordR (hf : fn < 64) : wFn (wordR m rd ra rb fn) = fn := by rw [wFn, wordR, fld_ofNat _ (by decide)]; omega
theorem restR_wordR (hf : fn < 64) : fld (wordR m rd ra rb fn) 6 5 = 0 := by rw [wordR, fld_ofNat _ (by decide)]; omega

theorem wMajor_wordI (hm : m < 64) (hd : rd < 32) (ha : ra < 32) (hi : imm < 2 ^ 16) : wMajor (wordI m rd ra imm) = m := by
  rw [wMajor, wordI, fld_ofNat _ (by decide)]; omega
theorem wRa_wordI (ha : ra < 32) (hi : imm < 2 ^ 16) : wRa (wordI m rd ra imm) = ra := by rw [wRa, wordI, fld_ofNat _ (by decide)]; omega

end Formats

/-! ## Integer, multiply and divide (09 R322, R323) -/

theorem legal_intR {w : Word} (h : fld w 6 5 = 0) :
    ∀ op ∈ [EOp.add, .sub, .and, .or, .xor, .sll, .srl, .sra, .slt, .sltu, .min, .max, .minu, .maxu, .adds, .subs],
      legal op w = true := by
  simp [legal, h]

theorem legal_int1 {w : Word} (h : fld w 6 5 = 0) (hb : wRb w = 0) : ∀ op ∈ [EOp.abs, .clz], legal op w = true := by
  simp [legal, h, hb]

theorem legal_imm (w : Word) : ∀ op ∈ immOps, legal op w = true := by simp [immOps, legal]

theorem legal_shift {w : Word} (h : fld w 7 9 = 0) : ∀ op ∈ shiftOps, legal op w = true := by simp [shiftOps, legal, h]

theorem legal_mul {w : Word} (h : fld w 6 5 = 0) : ∀ op ∈ mulOps, legal op w = true := by simp [mulOps, legal, h]

/-- The codes of format R select from the table of the integer instructions. -/
theorem opOf_wordR_int {rd ra rb fn : Nat} (hd : rd < 32) (ha : ra < 32) (hb : rb < 32) (hf : fn < 64) :
    opOf (wordR 0x00 rd ra rb fn) = intOps[fn]? := by
  rw [opOf_int (wMajor_wordR (by decide) hd ha hb hf), wFn_wordR hf]

theorem opOf_wordR_mul {rd ra rb fn : Nat} (hd : rd < 32) (ha : ra < 32) (hb : rb < 32) (hf : fn < 64) :
    opOf (wordR 0x01 rd ra rb fn) = mulOps[fn]? := by
  rw [opOf_mul (wMajor_wordR (by decide) hd ha hb hf), wFn_wordR hf]

/-- A shift by an immediate: the amount in imm[4:0], the kind of shift in imm[6:5]. -/
theorem shift_wordI {rd ra sel amt : Nat} (hd : rd < 32) (ha : ra < 32) (hs : sel < 4) (hamt : amt < 32) :
    opOf (wordI 0x0C rd ra (sel * 2 ^ 5 + amt)) = shiftOps[sel]? ∧ fld (wordI 0x0C rd ra (sel * 2 ^ 5 + amt)) 7 9 = 0 := by
  have hsel : fld (wordI 0x0C rd ra (sel * 2 ^ 5 + amt)) 5 2 = sel := by rw [wordI, fld_ofNat _ (by decide)]; omega
  refine ⟨?_, ?_⟩
  · rw [opOf_shift (wMajor_wordI (by decide) hd ha (by omega)), hsel]
  · rw [wordI, fld_ofNat _ (by decide)]; omega

theorem engineIntegerWords : ClaimEngineIntegerWords := by
  unfold ClaimEngineIntegerWords
  intro rd ra rb imm amt hrd hra hrb himm hamt
  have hlui : ∀ {ra}, ra < 32 → opOf (wordI 0x0D rd ra imm) = some .lui := fun h =>
    opOf_lui (wMajor_wordI (by decide) hrd h himm)
  refine ⟨?_, ?_, ?_, ?_, ?_, fun hne => ?_, ?_⟩
  · refine spells_table (t := intOps) (j := 0) (by decide) (fun n (hn : n < 16) => ?_) (fun n (hn : n < 16) => ?_)
    · rw [opOf_wordR_int hrd hra hrb (by omega)]
    · exact legal_intR (restR_wordR (by omega))
  · refine spells_table (t := intOps) (j := 0x10) (by decide) (fun n (hn : n < 2) => ?_) (fun n (hn : n < 2) => ?_)
    · rw [opOf_wordR_int hrd hra (by decide) (by omega)]
    · exact legal_int1 (restR_wordR (by omega)) (wRb_wordR (by decide) (by omega))
  · refine spells_table (t := immOps) (j := 0) (by decide) (fun n (hn : n < 4) => ?_) (fun n _ => legal_imm _)
    rw [opOf_imm hn (wMajor_wordI (by omega) hrd hra himm), Nat.zero_add]
  · refine spells_table (t := shiftOps) (j := 0) (by decide) (fun n (hn : n < 3) => ?_) (fun n (hn : n < 3) => ?_)
    · exact (shift_wordI hrd hra (by omega) hamt).1
    · exact legal_shift (shift_wordI hrd hra (by omega) hamt).2
  · exact engDecode_of (hlui (by decide)) (by simp [legal, wRa_wordI (ra := 0) (by decide) himm])
  · exact engDecode_none_of (hlui hra) (by simp [legal, wRa_wordI hra himm, hne])
  · refine spells_table (t := mulOps) (j := 0) (by decide) (fun n (hn : n < 8) => ?_) (fun n (hn : n < 8) => ?_)
    · rw [opOf_wordR_mul hrd hra hrb (by omega)]
    · exact legal_mul (restR_wordR (by omega))

/-! ## Compares, predicate logic, GETSR and SETSR (09 R324) -/

/-- A compare: a predicate number in rd, a condition in the code. -/
theorem cmp_wordR {pd ra rb c : Nat} (hp : pd < 4) (ha : ra < 32) (hb : rb < 32) (hc : c < 8) :
    engDecode (wordR 0x02 pd ra rb c) = some .cmp := by
  have hpd : fld (wordR 0x02 pd ra rb c) 23 3 = 0 := by rw [wordR, fld_ofNat _ (by decide)]; omega
  have hrest : fld (wordR 0x02 pd ra rb c) 3 8 = 0 := by rw [wordR, fld_ofNat _ (by decide)]; omega
  exact engDecode_of (opOf_cmp (wMajor_wordR (by decide) (by omega) ha hb (by omega))) (by simp [legal, hpd, hrest])

/-- GETSR and SETSR of index `n`: bit 0 tells them apart. -/
theorem opOf_wordI_special {rd n b : Nat} (hd : rd < 32) (hn : n < 32) (hb : b < 2) :
    opOf (wordI 0x03 rd 0 (n * 2 ^ 11 + b)) = some (if b = 1 then .setsr else .getsr) := by
  have hbit : bit (wordI 0x03 rd 0 (n * 2 ^ 11 + b)) 0 = decide (b = 1) := by
    rw [wordI, bit_ofNat _ (by decide), decide_eq_decide]; omega
  rw [opOf_special (wMajor_wordI (by decide) hd (by decide) (by omega)), hbit]
  simp only [decide_eq_true_eq]

theorem legal_getsr {w : Word} (ha : wRa w = 0) (hz : fld w 1 10 = 0) : legal .getsr w = true := by simp [legal, ha, hz]

theorem legal_setsr {w : Word} (ha : wRa w = 0) (hz : fld w 1 10 = 0) : legal .setsr w = (wRb w == 7) := by simp [legal, ha, hz]

/-- The register fields of GETSR and SETSR. -/
theorem special_fields {rd n b : Nat} (hn : n < 32) (hb : b < 2) :
    wRa (wordI 0x03 rd 0 (n * 2 ^ 11 + b)) = 0 ∧ fld (wordI 0x03 rd 0 (n * 2 ^ 11 + b)) 1 10 = 0 ∧
      wRb (wordI 0x03 rd 0 (n * 2 ^ 11 + b)) = n := by
  refine ⟨wRa_wordI (by decide) (by omega), ?_, ?_⟩
  · rw [wordI, fld_ofNat _ (by decide)]; omega
  · rw [wRb, wordI, fld_ofNat _ (by decide)]; omega

theorem legal_pred {w : Word} (h : fld w 2 18 = 0) : ∀ op ∈ predOps, legal op w = true := by simp [predOps, legal, h]

/-- Predicate logic: the kind in bits [1:0], and nothing between it and the predicates. -/
theorem pred_wordP {pd pa pb n : Nat} (hd : pd < 4) (ha : pa < 4) (hb : pb < 4) (hn : n < 4) :
    opOf (wordP pd pa pb n) = predOps[n]? ∧ fld (wordP pd pa pb n) 2 18 = 0 := by
  have hmaj : wMajor (wordP pd pa pb n) = 4 := by rw [wMajor, wordP, fld_ofNat _ (by decide)]; omega
  have hfn : fld (wordP pd pa pb n) 0 2 = n := by rw [wordP, fld_ofNat _ (by decide)]; omega
  refine ⟨by rw [opOf_pred hmaj, hfn], ?_⟩
  rw [wordP, fld_ofNat _ (by decide)]; omega

theorem engineCompareWords : ClaimEngineCompareWords := by
  unfold ClaimEngineCompareWords
  intro rd ra rb imm c pd pa pb n hrd hra hrb himm hc hpd hpa hpb hn
  refine ⟨cmp_wordR hpd hra hrb hc, ?_, ?_, ?_, ?_⟩
  · have hmaj : wMajor (wordI 0x0E (c * 2 ^ 2 + pd) ra imm) = 0x0E := wMajor_wordI (by decide) (by omega) hra himm
    exact engDecode_of (opOf_cmpi hmaj) (by simp only [legal])
  · obtain ⟨ha, hz, -⟩ := special_fields (rd := rd) (b := 0) hn (by decide)
    have hget : engDecode (wordI 0x03 rd 0 (n * 2 ^ 11 + 0)) = some .getsr :=
      engDecode_of (opOf_wordI_special hrd hn (by decide)) (legal_getsr ha hz)
    rwa [Nat.add_zero] at hget
  · have hop := opOf_wordI_special (b := 1) hrd hn (by decide)
    obtain ⟨ha, hz, hb⟩ := special_fields (rd := rd) (b := 1) hn (by decide)
    have hl := legal_setsr ha hz
    rw [hb] at hl
    split <;> rename_i h7
    · exact engDecode_of hop (hl.trans (beq_iff_eq.mpr h7))
    · exact engDecode_none_of hop (by rw [if_pos rfl, hl]; exact beq_false_of_ne h7)
  · exact spells_table (t := predOps) (j := 0) (by decide) (fun n (hn : n < 4) => (pred_wordP hpd hpa hpb (by omega)).1)
      (fun n (hn : n < 4) => legal_pred (pred_wordP hpd hpa hpb (by omega)).2)

/-! ## Formats V and VS -/

section FormatV
variable {vd va vb w m p amt fn : Nat} (hvd : vd < 8) (hva : va < 8) (hvb : vb < 8) (hw : w < 2) (hm : m < 2) (hp : p < 4) (hamt : amt < 32)
  (hf : fn < 64)
include hvd hva hvb hw hm hp hamt hf

theorem opOf_wordV : opOf (wordV vd va vb w m p amt fn) = vecOps[fn]? := by
  have hmaj : wMajor (wordV vd va vb w m p amt fn) = 0x20 := by rw [wMajor, wordV, fld_ofNat _ (by decide)]; omega
  have hfn : wFn (wordV vd va vb w m p amt fn) = fn := by rw [wFn, wordV, fld_ofNat _ (by decide)]; omega
  rw [opOf_vec hmaj, hfn]

/-- The fields of format V that decide whether a word is legal. -/
theorem fields_wordV : wVd (wordV vd va vb w m p amt fn) = vd ∧ wVb (wordV vd va vb w m p amt fn) = vb ∧
    wW (wordV vd va vb w m p amt fn) = decide (w = 1) ∧ wM (wordV vd va vb w m p amt fn) = decide (m = 1) ∧
    wP (wordV vd va vb w m p amt fn) = p ∧ wAmt (wordV vd va vb w m p amt fn) = amt ∧
    fld (wordV vd va vb w m p amt fn) 11 2 = amt / 8 ∧ fld (wordV vd va vb w m p amt fn) 6 2 = 0 := by
  simp only [wVd, wVb, wW, wM, wP, wAmt, wordV, fld_ofNat, bit_ofNat, Nat.reduceLeDiff, Nat.reduceAdd, Nat.reduceLT, decide_eq_decide]
  omega

end FormatV

section FormatVs
variable {vd rs lane w fn : Nat} (hrs : rs < 32) (hl : lane < 8) (hw : w < 2) (hf : fn < 8)
include hrs hl hw hf

theorem opOf_wordVs (hvd : vd < 8) : opOf (wordVs vd rs lane w fn) = vsOps[fn]? := by
  have hmaj : wMajor (wordVs vd rs lane w fn) = 0x21 := by rw [wMajor, wordVs, fld_ofNat _ (by decide)]; omega
  have hfn : fld (wordVs vd rs lane w fn) 0 3 = fn := by rw [wordVs, fld_ofNat _ (by decide)]; omega
  rw [opOf_vs hmaj, hfn]

/-- The fields of format VS that decide whether a word is legal. -/
theorem fields_wordVs : wRs (wordVs vd rs lane w fn) = rs ∧ wLane (wordVs vd rs lane w fn) = lane ∧
    wVsW (wordVs vd rs lane w fn) = decide (w = 1) ∧ fld (wordVs vd rs lane w fn) 3 11 = 0 := by
  simp only [wRs, wLane, wVsW, wordVs, fld_ofNat, bit_ofNat, Nat.reduceLeDiff, Nat.reduceAdd, Nat.reduceLT, decide_eq_decide]
  omega

end FormatVs

section LegalV
variable {w : Word} (hz : fld w 6 2 = 0)
include hz

/-- The lane-wise instructions on va and vb: without a mask, no predicate is named. -/
theorem legal_lanes (hm : wM w = true ∨ wP w = 0) (ha : wAmt w = 0) :
    ∀ op ∈ [EOp.vadd, .vsub, .vadds, .vsubs, .vmul, .vmulh, .vmin, .vmax, .vand, .vor, .vxor], legal op w = true := by
  simp [legal, legalV, EOp.isVShift, hz, hm, ha]

theorem legal_vmac (hm : wM w = true ∨ wP w = 0) (ha : wAmt w = 0) : legal .vmac w = !wW w := by
  rw [Bool.eq_iff_iff]
  simp [legal, legalV, EOp.isVShift, hz, hm, ha]

theorem legal_vshift (hm : wM w = true ∨ wP w = 0) (hb : wVb w = 0) : ∀ op ∈ [EOp.vsra, .vsrl, .vsll], legal op w = true := by
  simp [legal, legalV, EOp.isVShift, hz, hm, hb]

theorem legal_vabs (hm : wM w = true ∨ wP w = 0) (hb : wVb w = 0) (ha : wAmt w = 0) : legal .vabs w = true := by
  simp [legal, legalV, EOp.isVShift, hz, hm, hb, ha]

theorem legal_vsel (ha : wAmt w = 0) : legal .vsel w = !wM w := by
  rw [Bool.eq_iff_iff]
  simp [legal, legalV, EOp.isVShift, hz, ha]

theorem legal_vcmp (hc : fld w 11 2 = 0) : legal .vcmp w = (!wM w && wVd w == 0) := by
  rw [Bool.eq_iff_iff]
  simp [legal, legalV, EOp.isVShift, hz, hc]

end LegalV

section LegalVs
variable {w : Word}

/-- Every instruction of the format names a lane, which may not be beyond the lane count. -/
theorem legal_vs_lane (hl : laneN (wVsW w) ≤ wLane w) : ∀ op ∈ vsOps, legal op w = false := by
  have h4 : 4 ≤ laneN (wVsW w) := by cases wVsW w <;> decide
  have hn : wLane w ≠ 0 := by omega
  simp [vsOps, legal, legalVs, hn, hl]

theorem legal_vsplat (hz : fld w 3 11 = 0) (hl : wLane w = 0) : ∀ op ∈ [EOp.vsplat, .vrsum], legal op w = true := by
  simp [legal, legalVs, hz, hl]

theorem legal_laneOps (hz : fld w 3 11 = 0) (hl : wLane w < laneN (wVsW w)) : ∀ op ∈ [EOp.vins, .vext, .vextu], legal op w = true := by
  simp [legal, legalVs, hz, hl]

theorem legal_extreme (hz : fld w 3 11 = 0) (hl : wLane w = 0) : ∀ op ∈ [EOp.vrmax, .vrmin], legal op w = (wRs w != 31) := by
  simp [legal, legalVs, hz, hl, bne]

end LegalVs

section WordsV
variable {vd va vb w m p : Nat} (hvd : vd < 8) (hva : va < 8) (hvb : vb < 8) (hw : w < 2) (hm : m < 2) (hp : p < 4)
include hvd hva hvb hw hm hp

/-- The tables of lane-wise instructions on va and vb. -/
theorem spells_lanes (hmask : m = 1 ∨ p = 0) :
    Spells [.vadd, .vsub, .vadds, .vsubs, .vmul, .vmulh] 0x00 (fun fn => wordV vd va vb w m p 0 fn) ∧
      Spells [.vmin, .vmax, .vand, .vor, .vxor] 0x07 (fun fn => wordV vd va vb w m p 0 fn) := by
  have hop : ∀ {fn}, fn < 64 → opOf (wordV vd va vb w m p 0 fn) = vecOps[fn]? := fun hf =>
    opOf_wordV hvd hva hvb hw hm hp (by decide) hf
  have hl : ∀ {fn}, fn < 64 → ∀ op ∈ [EOp.vadd, .vsub, .vadds, .vsubs, .vmul, .vmulh, .vmin, .vmax, .vand, .vor, .vxor],
      legal op (wordV vd va vb w m p 0 fn) = true := fun hf => by
    obtain ⟨-, -, -, hwM, hwP, hwA, -, hz⟩ := fields_wordV hvd hva hvb hw hm hp (amt := 0) (by decide) hf
    exact legal_lanes hz (by simpa only [hwM, hwP, decide_eq_true_eq] using hmask) hwA
  refine ⟨spells_table (t := vecOps) (j := 0) (by decide) (fun n (hn : n < 6) => ?_) (fun n (hn : n < 6) op hmem => ?_),
    spells_table (t := vecOps) (j := 7) (by decide) (fun n (hn : n < 5) => ?_) (fun n (hn : n < 5) op hmem => ?_)⟩
  · rw [hop (by omega)]
  · exact hl (by omega) op (List.mem_append_left [EOp.vmin, .vmax, .vand, .vor, .vxor] hmem)
  · rw [hop (by omega)]
  · exact hl (by omega) op (List.mem_append_right [EOp.vadd, .vsub, .vadds, .vsubs, .vmul, .vmulh] hmem)

theorem decode_vmac (hmask : m = 1 ∨ p = 0) : engDecode (wordV vd va vb w m p 0 0x06) = if w = 0 then some .vmac else none := by
  have hop : opOf (wordV vd va vb w m p 0 0x06) = some .vmac := opOf_wordV hvd hva hvb hw hm hp (by decide) (by decide)
  obtain ⟨-, -, hwW, hwM, hwP, hwA, -, hz⟩ := fields_wordV hvd hva hvb hw hm hp (amt := 0) (fn := 0x06) (by decide) (by decide)
  have hl := legal_vmac hz (by simpa only [hwM, hwP, decide_eq_true_eq] using hmask) hwA
  rw [hwW] at hl
  split <;> rename_i h0
  · exact engDecode_of hop (by rw [hl, h0]; rfl)
  · exact engDecode_none_of hop (by rw [hl, show w = 1 by omega]; rfl)

theorem decode_vsel : engDecode (wordV vd va vb w m p 0 0x0F) = if m = 0 then some .vsel else none := by
  have hop : opOf (wordV vd va vb w m p 0 0x0F) = some .vsel := opOf_wordV hvd hva hvb hw hm hp (by decide) (by decide)
  obtain ⟨-, -, -, hwM, -, hwA, -, hz⟩ := fields_wordV hvd hva hvb hw hm hp (amt := 0) (fn := 0x0F) (by decide) (by decide)
  have hl := legal_vsel hz hwA
  rw [hwM] at hl
  split <;> rename_i h0
  · exact engDecode_of hop (by rw [hl, h0]; rfl)
  · exact engDecode_none_of hop (by rw [hl, show m = 1 by omega]; rfl)

theorem decode_vcmp {c : Nat} (hc : c < 8) :
    engDecode (wordV vd va vb w m p c 0x10) = if m = 0 ∧ vd = 0 then some .vcmp else none := by
  have hop : opOf (wordV vd va vb w m p c 0x10) = some .vcmp := opOf_wordV hvd hva hvb hw hm hp (by omega) (by decide)
  obtain ⟨hwD, -, -, hwM, -, -, hwC, hz⟩ := fields_wordV hvd hva hvb hw hm hp (amt := c) (fn := 0x10) (by omega) (by decide)
  have hl := legal_vcmp hz (hwC.trans (Nat.div_eq_of_lt hc))
  rw [hwM, hwD] at hl
  split <;> rename_i h0
  · exact engDecode_of hop (by rw [hl, h0.1, h0.2]; rfl)
  · refine engDecode_none_of hop (hl.trans ?_)
    simp only [Bool.and_eq_false_iff, Bool.not_eq_false', decide_eq_true_eq, beq_eq_false_iff_ne]
    omega

end WordsV

section WordsShift
variable {vd va w m p : Nat} (hvd : vd < 8) (hva : va < 8) (hw : w < 2) (hm : m < 2) (hp : p < 4) (hmask : m = 1 ∨ p = 0)
include hvd hva hw hm hp hmask

/-- The shifts and the absolute value name no vb. -/
theorem spells_vshift {amt : Nat} (hamt : amt < 32) : Spells [.vsra, .vsrl, .vsll] 0x0C (fun fn => wordV vd va 0 w m p amt fn) := by
  refine spells_table (t := vecOps) (j := 0x0C) (by decide) (fun n (hn : n < 3) => ?_) (fun n (hn : n < 3) => ?_)
  · rw [opOf_wordV hvd hva (by decide) hw hm hp hamt (by omega)]
  · obtain ⟨-, hwB, -, hwM, hwP, -, -, hz⟩ := fields_wordV hvd hva (vb := 0) (by decide) hw hm hp hamt (fn := 0x0C + n) (by omega)
    exact legal_vshift hz (by simpa only [hwM, hwP, decide_eq_true_eq] using hmask) hwB

theorem decode_vabs : engDecode (wordV vd va 0 w m p 0 0x11) = some .vabs := by
  obtain ⟨-, hwB, -, hwM, hwP, hwA, -, hz⟩ :=
    fields_wordV hvd hva (vb := 0) (by decide) hw hm hp (amt := 0) (by decide) (fn := 0x11) (by decide)
  exact engDecode_of (opOf_wordV hvd hva (by decide) hw hm hp (by decide) (by decide))
    (legal_vabs hz (by simpa only [hwM, hwP, decide_eq_true_eq] using hmask) hwB hwA)

end WordsShift

/-- The extremes need a register after rs for their index. -/
theorem legal_extreme_wordVs {vd rs w fn : Nat} (hrs : rs < 32) (hw : w < 2) (hf : fn < 8) :
    ∀ op ∈ [EOp.vrmax, .vrmin], legal op (wordVs vd rs 0 w fn) = (rs != 31) := by
  obtain ⟨hR, hL, -, hz⟩ := fields_wordVs hrs (lane := 0) (by decide) hw hf (vd := vd)
  intro op hop
  rw [legal_extreme hz hL op hop, hR]

section WordsVs
variable {vd rs lane w : Nat} (hvd : vd < 8) (hrs : rs < 32) (hw : w < 2)
include hvd hrs hw

theorem spells_vsplat : Spells [.vsplat] 0 (fun fn => wordVs vd rs 0 w fn) ∧ engDecode (wordVs vd rs 0 w 4) = some .vrsum := by
  have hlegal : ∀ {fn}, fn < 8 → ∀ op ∈ [EOp.vsplat, .vrsum], legal op (wordVs vd rs 0 w fn) = true := fun hf => by
    obtain ⟨-, hL, -, hz⟩ := fields_wordVs hrs (lane := 0) (by decide) hw hf
    exact legal_vsplat hz hL
  refine ⟨spells_table (t := vsOps) (j := 0) (by decide) (fun n (hn : n < 1) => ?_) (fun n (hn : n < 1) op hmem => ?_), ?_⟩
  · rw [opOf_wordVs hrs (by decide) hw (by omega) hvd]
  · exact hlegal (by omega) op (List.mem_append_left [EOp.vrsum] hmem)
  · exact engDecode_of (opOf_wordVs hrs (by decide) hw (by decide) hvd) (hlegal (by decide) _ (by simp))

theorem spells_laneOps (hl : lane < 8) (hin : lane < if w = 1 then 4 else 8) :
    Spells [.vins, .vext, .vextu] 1 (fun fn => wordVs vd rs lane w fn) := by
  refine spells_table (t := vsOps) (j := 1) (by decide) (fun n (hn : n < 3) => ?_) (fun n (hn : n < 3) => ?_)
  · rw [opOf_wordVs hrs hl hw (by omega) hvd]
  · obtain ⟨-, hL, hW, hz⟩ := fields_wordVs hrs hl hw (fn := 1 + n) (vd := vd) (by omega)
    exact legal_laneOps hz (by simpa only [hL, hW, laneN, decide_eq_true_eq] using hin)

/-- A lane beyond the lane count spells nothing. -/
theorem decode_lane_beyond (hl : lane < 8) (hout : (if w = 1 then 4 else 8) ≤ lane) {fn : Nat} (hfn : fn < 7) :
    engDecode (wordVs vd rs lane w fn) = none := by
  have hlen : fn < vsOps.length := hfn
  obtain ⟨-, hL, hW, -⟩ := fields_wordVs hrs hl hw (fn := fn) (vd := vd) (by omega)
  refine engDecode_none_of ((opOf_wordVs hrs hl hw (by omega) hvd).trans (List.getElem?_eq_getElem hlen)) ?_
  exact legal_vs_lane (by simpa only [hL, hW, laneN, decide_eq_true_eq] using hout) _ (List.getElem_mem hlen)

theorem spells_extreme (h31 : rs ≠ 31) : Spells [.vrmax, .vrmin] 5 (fun fn => wordVs vd rs 0 w fn) := by
  refine spells_table (t := vsOps) (j := 5) (by decide) (fun n (hn : n < 2) => ?_) (fun n (hn : n < 2) op hop => ?_)
  · rw [opOf_wordVs hrs (by decide) hw (by omega) hvd]
  · exact (legal_extreme_wordVs hrs hw (by omega) op hop).trans (bne_iff_ne.mpr h31)

end WordsVs

theorem decode_extreme_31 {vd w : Nat} (hvd : vd < 8) (hw : w < 2) :
    engDecode (wordVs vd 31 0 w 5) = none ∧ engDecode (wordVs vd 31 0 w 6) = none :=
  ⟨engDecode_none_of (op := .vrmax) (opOf_wordVs (by decide) (by decide) hw (by decide) hvd)
      (legal_extreme_wordVs (by decide) hw (by decide) _ (by simp)),
    engDecode_none_of (op := .vrmin) (opOf_wordVs (by decide) (by decide) hw (by decide) hvd)
      (legal_extreme_wordVs (by decide) hw (by decide) _ (by simp))⟩

theorem engineVectorWords : ClaimEngineVectorWords := by
  unfold ClaimEngineVectorWords
  intro vd va vb w m p c amt rs lane hvd hva hvb hw hm hp hc hamt hrs hlane
  obtain ⟨hsplat, hsum⟩ := spells_vsplat hvd hrs hw
  obtain ⟨h5, h6⟩ := decode_extreme_31 hvd hw
  refine ⟨fun hmask => ?_, decode_vsel hvd hva hvb hw hm hp, decode_vcmp hvd hva hvb hw hm hp hc, hsplat,
    spells_laneOps hvd hrs hw hlane, fun hout fn hfn => decode_lane_beyond hvd hrs hw hlane hout hfn, hsum,
    spells_extreme hvd hrs hw, h5, h6⟩
  obtain ⟨hlow, hhigh⟩ := spells_lanes hvd hva hvb hw hm hp hmask
  exact ⟨hlow, decode_vmac hvd hva hvb hw hm hp hmask, hhigh, spells_vshift hvd hva hw hm hp hmask hamt,
    decode_vabs hvd hva hw hm hp hmask⟩

end Sys2Proof
end

section
/-! PROOF. An engine instruction in issue: the state in which it takes effect, and an engine that changes alone (09 R314, R319 to R321). -/

namespace Sys2Proof

open Machine

/-! ## Engines under the shared operations -/

theorem Only.engine_eq {l : List Part} {s t : State} (h : Only l s t) (he : Part.eng ∉ l) (k : Nat) : t.engine k = s.engine k := by
  rw [State.engine, State.engine, show t.eng = s.eng from h.2 .eng he]

theorem perf_engine (s : State) (cls ev idx n k : Nat) : (s.perf_ cls ev idx n).engine k = s.engine k :=
  (perf_only s cls ev idx n).engine_eq (by decide) k

theorem cnt_engine (s : State) (a k : Nat) : (s.cnt a).engine k = s.engine k := (cnt_only s a).engine_eq (by decide) k

theorem evt_engine (s : State) (a flags k : Nat) : (s.evt a flags).engine k = s.engine k := (evt_only s a flags).engine_eq (by decide) k

/-! ## Registers -/

/-- Setting no STICKY bit leaves the registers. -/
@[simp] theorem stick_zero (r : EngRegs) : r.stick 0 = r := by simp [EngRegs.stick, word]

/-- A scalar register other than s0 reads what was written to it. -/
theorem sreg_setS {r : Nat} (h : r ≠ 0) (x : EngRegs) (v : Word) : (x.setS r v).sreg r = v := by
  rw [EngRegs.setS, if_neg h, EngRegs.sreg, if_neg h]
  exact mget_mput_same _ _ _ _

/-! ## The state after issue -/

/-- An instruction in issue has legal fields (09 R320). -/
theorem Issues.isLegal {s : State} {e : Nat} {op : EOp} {w : Word} (h : Issues s e op w) : legal op w = true := by
  obtain ⟨-, -, hdec, -⟩ := h
  exact (Option.filter_eq_some_iff.mp hdec).2

/-- An engine with an instruction in issue is in RUN. -/
theorem Issues.run {s : State} {e : Nat} {op : EOp} {w : Word} (h : Issues s e op w) : (s.engine e).st = .run := by
  refine Decidable.byContradiction fun hst => ?_
  have hfetch := h.1
  rw [State.engFetch, if_neg fun hc => hst hc.1] at hfetch
  exact Option.some_ne_none w hfetch.symm

/-- The state in which an instruction in issue takes effect: its engine's issue state has moved on (09 R321). -/
def afterIssue (s : State) (e : Nat) (op : EOp) (w : Word) : State := s.updEngine e (fun x => x.issue op w (s.engCyc (e / 16)))

/-- An instruction in issue takes effect in the state after its issue. -/
theorem engStep_afterIssue {s : State} {e : Nat} {op : EOp} {w : Word} (h : Issues s e op w) (f : State → Word → State) :
    s.engStep e op f = f (afterIssue s e op w) w := engStep_issues h f

@[simp] theorem afterIssue_engine (s : State) (e : Nat) (op : EOp) (w : Word) :
    (afterIssue s e op w).engine e = (s.engine e).issue op w (s.engCyc (e / 16)) := State.engine_updEngine _ _ _

theorem afterIssue_engine_other (s : State) {e k : Nat} (op : EOp) (w : Word) (h : k ≠ e) :
    (afterIssue s e op w).engine k = s.engine k := State.engine_updEngine_other _ _ h

/-! ## An engine that changes alone -/

theorem OnlyEngine.refl (s : State) (e : Nat) : OnlyEngine s s e := ⟨rfl, fun _ _ => rfl⟩

theorem OnlyEngine.updEngine {s t : State} {e : Nat} (h : OnlyEngine s t e) (f : Machine.Eng → Machine.Eng) :
    OnlyEngine s (t.updEngine e f) e := by
  obtain ⟨hst, hother⟩ := h
  refine ⟨?_, fun k hk => (State.engine_updEngine_other t f hk).trans (hother k hk)⟩
  conv => lhs; rw [hst]
  rfl

/-- State `u` differs from `s` in engine `e` alone, whose issue state has moved on past the instruction, with registers `r`. -/
def IssuedWith (s : State) (e : Nat) (op : EOp) (w : Word) (r : EngRegs) (u : State) : Prop :=
  OnlyEngine s u e ∧ u.engine e = { (s.engine e).issue op w (s.engCyc (e / 16)) with r := r }

section IssuedWith
variable {s u : State} {e : Nat} {op : EOp} {w : Word} {r : EngRegs}

theorem afterIssue_issuedWith (s : State) (e : Nat) (op : EOp) (w : Word) : IssuedWith s e op w (pastIssue s e) (afterIssue s e op w) :=
  ⟨(OnlyEngine.refl s e).updEngine _, afterIssue_engine s e op w⟩

theorem IssuedWith.updRegs (hu : IssuedWith s e op w r u) (g : EngRegs → EngRegs) : IssuedWith s e op w (g r) (u.updRegs e g) := by
  obtain ⟨honly, hx⟩ := hu
  exact ⟨honly.updEngine _, by rw [State.updRegs, State.engine_updEngine, hx]⟩

theorem IssuedWith.regs (hu : IssuedWith s e op w r u) : (u.engine e).r = r := by rw [hu.2]

end IssuedWith

/-- The instruction in issue runs in the state after its issue. -/
theorem exec_issues {c : Instr} {s : State} {e : Nat} {op : EOp} {w : Word} {f : State → Word → State} (h : Issues s e op w)
    (hc : exec c s = .next (s.engStep e op f)) : exec c s = .next (f (afterIssue s e op w) w) :=
  hc.trans (congrArg _ (engStep_afterIssue h f))

end Sys2Proof
end

section
/-! PROOF. Scalar instructions of an engine: integer, multiply and divide, compares, predicate logic and special registers (09 R316,
R322 to R324). -/

namespace Sys2Proof

open Machine

/-- A register-immediate integer instruction. -/
theorem imm_result {c : Instr} {s : State} {e : Nat} {op : EOp} {w : Word} (h : Issues s e op w) (f : Word → Word → Word)
    (v : Word) (hc : exec c s = .next (s.intI e op f)) (hr : f (sOf s e (wRa w)) w = v) : ScalarResult c s e op w v 0 := by
  refine engRegs_result h _ _ hc ?_
  rw [pastIssue_sreg, hr, stick_zero]

/-! ## Values of the integer, multiply and divide instructions -/

theorem fld_zero_five (w : Word) : fld w 0 5 = w.toNat % 32 := fld_zero w 5

theorem sshiftRight_eq_div (a : Word) (n : Nat) : a.sshiftRight n = BitVec.ofInt 32 (a.toInt / 2 ^ n) := by
  rw [BitVec.sshiftRight, Int.shiftRight_eq_div_pow, Int.natCast_pow, Int.cast_ofNat_Int]

theorem ushiftRight_eq_div (a : Word) (n : Nat) : a >>> n = BitVec.ofNat 32 (a.toNat / 2 ^ n) := by
  rw [← Nat.shiftRight_eq_div_pow, ← BitVec.toNat_ushiftRight, BitVec.ofNat_toNat, BitVec.setWidth_eq]

theorem shiftLeft_eq_mul (a : Word) (n : Nat) : a <<< n = BitVec.ofNat 32 (a.toNat * 2 ^ n) := by
  rw [← Nat.shiftLeft_eq]
  exact BitVec.eq_of_toNat_eq (by rw [BitVec.toNat_shiftLeft, BitVec.toNat_ofNat])

theorem word_b2n (b : Bool) : word (b2n b) = if b then 1 else 0 := by cases b <;> rfl

theorem slt_word (a b : Word) : word (b2n (a.slt b)) = if a.toInt < b.toInt then 1 else 0 := by
  simp only [word_b2n, BitVec.slt_iff_toInt_lt]

theorem ult_word (a b : Word) : word (b2n (a.ult b)) = if a.toNat < b.toNat then 1 else 0 := by
  simp only [word_b2n, BitVec.ult_iff_lt, BitVec.lt_def]

theorem smin_eq (a b : Word) : (if a.slt b then a else b) = BitVec.ofInt 32 (min a.toInt b.toInt) := by
  simp only [BitVec.slt_iff_toInt_lt]
  split <;> rename_i h
  · rw [Int.min_eq_left (Int.le_of_lt h), BitVec.ofInt_toInt]
  · rw [Int.min_eq_right (Int.not_lt.mp h), BitVec.ofInt_toInt]

theorem smax_eq (a b : Word) : (if a.slt b then b else a) = BitVec.ofInt 32 (max a.toInt b.toInt) := by
  simp only [BitVec.slt_iff_toInt_lt]
  split <;> rename_i h
  · rw [Int.max_eq_right (Int.le_of_lt h), BitVec.ofInt_toInt]
  · rw [Int.max_eq_left (Int.not_lt.mp h), BitVec.ofInt_toInt]

theorem umin_eq (a b : Word) : (if a.ult b then a else b) = BitVec.ofNat 32 (min a.toNat b.toNat) := by
  simp only [BitVec.ult_iff_lt, BitVec.lt_def]
  split <;> rename_i h
  · rw [Nat.min_eq_left (Nat.le_of_lt h), BitVec.ofNat_toNat, BitVec.setWidth_eq]
  · rw [Nat.min_eq_right (Nat.not_lt.mp h), BitVec.ofNat_toNat, BitVec.setWidth_eq]

theorem umax_eq (a b : Word) : (if a.ult b then b else a) = BitVec.ofNat 32 (max a.toNat b.toNat) := by
  simp only [BitVec.ult_iff_lt, BitVec.lt_def]
  split <;> rename_i h
  · rw [Nat.max_eq_right (Nat.le_of_lt h), BitVec.ofNat_toNat, BitVec.setWidth_eq]
  · rw [Nat.max_eq_left (Nat.not_lt.mp h), BitVec.ofNat_toNat, BitVec.setWidth_eq]

/-- A run of `k` leading successes among the numbers below `n`. -/
theorem length_takeWhile_range {p : Nat → Bool} {k n : Nat} (hk : k ≤ n) (hp : ∀ i, i < k → p i = true)
    (hn : k < n → p k = false) : ((List.range n).takeWhile p).length = k := by
  obtain ⟨m, rfl⟩ := Nat.exists_eq_add_of_le hk
  rw [List.range_add, List.takeWhile_append_of_pos fun i hi => hp i (List.mem_range.mp hi), List.length_append, List.length_range]
  cases m with
  | zero => simp
  | succ m => simp [List.range_succ_eq_map, hn (by omega)]

/-- The leading zeros of a word are those above its highest one. -/
theorem clz_eq (a : Word) : (if a = 0 then 32 else 31 - a.toNat.log2) = ((List.range 32).takeWhile (fun i => !a.getMsbD i)).length := by
  split <;> rename_i ha
  · subst ha; exact (length_takeWhile_range (Nat.le_refl 32) (by simp) (by omega)).symm
  · have h0 : a.toNat ≠ 0 := fun h => ha (BitVec.eq_of_toNat_eq h)
    have hl : a.toNat.log2 < 32 := (Nat.log2_lt h0).mpr a.isLt
    refine (length_takeWhile_range (by omega) (fun i hi => ?_) (fun _ => ?_)).symm
    · have hi' : a.toNat.log2 + 1 ≤ 31 - i := by omega
      have hz : a.toNat.testBit (31 - i) = false :=
        Nat.testBit_lt_two_pow (Nat.lt_of_lt_of_le Nat.lt_log2_self (Nat.pow_le_pow_right (by decide) hi'))
      simp [BitVec.getMsbD_eq_getLsbD, BitVec.getLsbD, hz]
    · have hi : 31 - (31 - a.toNat.log2) = a.toNat.log2 := by omega
      simp [BitVec.getMsbD_eq_getLsbD, BitVec.getLsbD, hi, Nat.testBit_log2 h0]
      omega

theorem mul_eq_ofNat (a b : Word) : a * b = BitVec.ofNat 32 (a.toNat * b.toNat) := by
  rw [BitVec.ofNat_mul, BitVec.ofNat_toNat, BitVec.ofNat_toNat, BitVec.setWidth_eq, BitVec.setWidth_eq]

/-- A divide by 0 gives its own result and sets STICKY.div0. -/
theorem ite_div0 (b x y : Word) : (if b = 0 then (x, skDIV0) else (y, 0)) = (if b = 0 then x else y, if b = 0 then 2 else 0) := by
  split <;> rfl

theorem signedOf_16 {n : Nat} (h : n < 2 ^ 16) : signedOf 16 n = if n < 2 ^ 15 then (n : Int) else n - 2 ^ 16 := by
  rw [signedOf, Nat.mod_eq_of_lt h]; rfl

theorem wImm_lt (w : Word) : wImm w < 2 ^ 16 := Nat.mod_lt _ (by decide)

theorem engineIntegerRegister : ClaimEngineIntegerRegister := by
  unfold ClaimEngineIntegerRegister
  intro e s w a b
  simp only [List.forall_mem_cons, List.not_mem_nil, false_implies, implies_true, and_true]
  refine ⟨fun h => int_result h _ _ _ rfl rfl, fun h => int_result h _ _ _ rfl rfl, fun h => int_result h _ _ _ rfl rfl,
    fun h => int_result h _ _ _ rfl rfl, fun h => int_result h _ _ _ rfl rfl, fun h => int_result h _ _ _ rfl ?_,
    fun h => int_result h _ _ _ rfl ?_, fun h => int_result h _ _ _ rfl ?_, fun h => int_result h _ _ _ rfl ?_,
    fun h => int_result h _ _ _ rfl ?_, fun h => int_result h _ _ _ rfl ?_, fun h => int_result h _ _ _ rfl ?_,
    fun h => int_result h _ _ _ rfl ?_, fun h => int_result h _ _ _ rfl ?_, fun h => int_result h _ _ _ rfl (satWord_clamp _),
    fun h => int_result h _ _ _ rfl (satWord_clamp _), fun h => int_result h _ _ _ rfl (satWord_clamp _),
    fun h => int_result h _ _ _ rfl ?_⟩
  · rw [fld_zero_five]
  · rw [fld_zero_five]
  · rw [fld_zero_five, sshiftRight_eq_div]
  · rw [slt_word]
  · rw [ult_word]
  · rw [smin_eq]
  · rw [smax_eq]
  · rw [umin_eq]
  · rw [umax_eq]
  · rw [clz_eq]; rfl

theorem engineIntegerImmediate : ClaimEngineIntegerImmediate := by
  unfold ClaimEngineIntegerImmediate
  intro e s w a imm n
  simp only [List.forall_mem_cons, List.not_mem_nil, false_implies, implies_true, and_true]
  refine ⟨fun h => imm_result h _ _ rfl ?_, fun h => imm_result h _ _ rfl ?_, fun h => imm_result h _ _ rfl ?_,
    fun h => imm_result h _ _ rfl ?_, fun h => imm_result h _ _ rfl ?_, fun h => imm_result h _ _ rfl ?_,
    fun h => imm_result h _ _ rfl ?_, fun h => imm_result h _ _ rfl rfl⟩
  · rw [signedOf_16 (wImm_lt w)]
  · rw [BitVec.ofNat_and, BitVec.ofNat_toNat, BitVec.setWidth_eq]; rfl
  · rw [BitVec.ofNat_or, BitVec.ofNat_toNat, BitVec.setWidth_eq]; rfl
  · rw [BitVec.ofNat_xor, BitVec.ofNat_toNat, BitVec.setWidth_eq]; rfl
  · rw [fld_zero_five, shiftLeft_eq_mul]
  · rw [fld_zero_five, ushiftRight_eq_div]
  · rw [fld_zero_five, sshiftRight_eq_div]

theorem engineMultiplyDivide : ClaimEngineMultiplyDivide := by
  unfold ClaimEngineMultiplyDivide
  intro e s w a b d z
  simp only [List.forall_mem_cons, List.not_mem_nil, false_implies, implies_true, and_true]
  refine ⟨fun h => int_result h _ _ _ rfl ?_, fun h => int_result h _ _ _ rfl rfl, fun h => int_result h _ _ _ rfl rfl,
    fun h => engRegs_result h _ _ rfl ?_, fun h => int_result h _ _ _ rfl (ite_div0 _ _ _),
    fun h => int_result h _ _ _ rfl (ite_div0 _ _ _), fun h => int_result h _ _ _ rfl (ite_div0 _ _ _),
    fun h => int_result h _ _ _ rfl (ite_div0 _ _ _)⟩
  · rw [mul_eq_ofNat]
  · simp only [pastIssue_sreg, stick_zero, mul_eq_ofNat, a, b, d]

/-- Settles O2: the words by the decoder's tables, and each result by the law of its operation on 32-bit words. -/
theorem engineInteger : Obligations.EngineInteger := by
  unfold Obligations.EngineInteger
  exact ⟨engineIntegerWords, engineIntegerRegister, engineIntegerImmediate, engineMultiplyDivide⟩

/-! ## Compares, predicate logic and special registers -/

theorem lt_eight_cases {c : Nat} (h : c < 8) : c = 0 ∨ c = 1 ∨ c = 2 ∨ c = 3 ∨ c = 4 ∨ c = 5 ∨ c = 6 ∨ c = 7 := by omega

/-- The code of a compare names its condition (09 R324). -/
theorem condOf_iff {c : Nat} (hc : c < 8) (a b : Word) : condOf c a.toInt b.toInt a.toNat b.toNat = true ↔ condition c a b := by
  rcases lt_eight_cases hc with rfl | rfl | rfl | rfl | rfl | rfl | rfl | rfl <;> simp [condOf, condition, BitVec.toNat_inj]

/-- All bits of a predicate hold the result of the compare. -/
theorem pbits_condOf {c : Nat} (hc : c < 8) (a b : Word) :
    let v := pbits (condOf c a.toInt b.toInt a.toNat b.toNat)
    (condition c a b → v = 0xFF) ∧ (¬condition c a b → v = 0) := by
  rw [← condOf_iff hc]
  cases condOf c a.toInt b.toInt a.toNat b.toNat <;> simp [pbits]

theorem engineCompare : ClaimEngineCompare := by
  unfold ClaimEngineCompare
  intro e s w a imm
  have himm : imm = BitVec.ofInt 32 (signedOf 16 (wImm w)) := by rw [signedOf_16 (wImm_lt w)]
  refine ⟨fun h => ⟨_, engRegs_result h _ _ rfl rfl, pbits_condOf (Nat.mod_lt _ (by decide)) _ _⟩,
    fun h => ⟨_, engRegs_result h _ _ rfl rfl, ?_⟩⟩
  rw [himm]
  exact pbits_condOf (Nat.mod_lt _ (by decide)) _ _

/-- GETSR reads the same before and after its issue. -/
theorem specialReg_afterIssue (s : State) (e : Nat) (op : EOp) (w : Word) (n : Nat) :
    (afterIssue s e op w).specialReg e n = s.specialReg e n := by
  have hdepth : (afterIssue s e op w).engDepth e = s.engDepth e := by
    rw [State.engDepth, State.engDepth, afterIssue, State.engine_updEngine]; rfl
  rw [State.specialReg, hdepth, afterIssue, State.engine_updEngine]; rfl

/-- Index 3 is the high part of the period's start. -/
theorem specialReg_three (s : State) (e : Nat) : s.specialReg e 3 = ((s.island (e / 16)).startTs >>> 32).setWidth 32 := by
  rw [← BitVec.ofNat_toNat, BitVec.toNat_ushiftRight, Nat.shiftRight_eq_div_pow]; rfl

/-- An index that names no special register reads 0. -/
theorem specialReg_beyond (s : State) (e : Nat) {n : Nat} (h : 8 ≤ n) : s.specialReg e n = 0 := by
  simp only [State.specialReg]
  rw [if_neg (by omega), if_neg (by omega), if_neg (by omega), if_neg (by omega), if_neg (by omega), if_neg (by omega),
    if_neg (by omega), if_neg (by omega)]

theorem getsr_result {e : Fin 192} {s : State} {w : Word} (h : Issues s e.val .getsr w) :
    ScalarResult (.getsr e) s e.val .getsr w (s.specialReg e.val (wRb w)) 0 := by
  rw [ScalarResult, stick_zero, ← specialReg_afterIssue s e.val .getsr w]
  exact ⟨_, exec_issues h rfl, (afterIssue_issuedWith s e.val .getsr w).updRegs _⟩

theorem enginePredicateAndSpecial : ClaimEnginePredicateAndSpecial := by
  unfold ClaimEnginePredicateAndSpecial
  intro e s w p q
  refine ⟨?_, fun h => ⟨_, getsr_result h, ?_⟩, fun h => engRegs_result h _ _ rfl rfl⟩
  · simp only [List.forall_mem_cons, List.not_mem_nil, false_implies, implies_true, and_true]
    exact ⟨fun h => engRegs_result h _ _ rfl rfl, fun h => engRegs_result h _ _ rfl rfl, fun h => engRegs_result h _ _ rfl rfl,
      fun h => engRegs_result h _ _ rfl rfl⟩
  · refine ⟨fun hn => by rw [hn]; rfl, fun hn => by rw [hn]; rfl, fun hn => ?_, fun hn => ?_, fun hn => by rw [hn]; rfl,
      fun hn => by rw [hn]; rfl, fun hn => by rw [hn]; rfl, fun hn => by rw [hn]; rfl, fun hn => specialReg_beyond _ _ hn⟩
    · rw [hn]
      exact BitVec.ofNat_toNat 32 _
    · rw [hn, specialReg_three]

/-- Settles O3: a compare's code names its condition, and what GETSR reads does not depend on its own issue. -/
theorem engineCompareAndPredicate : Obligations.EngineCompareAndPredicate := by
  unfold Obligations.EngineCompareAndPredicate
  exact ⟨engineCompareWords, engineCompare, enginePredicateAndSpecial⟩

end Sys2Proof
end

section
/-! PROOF. Vector and vector-scalar instructions of an engine (09 R314, R326, R327). -/

namespace Sys2Proof

open Machine

/-! ## Digits: the lanes and predicate bits of a number -/

/-- A number written in base `b` by its digits: it has no more of them, and each is read back. -/
theorem digits_sum {b : Nat} {g : Nat → Nat} (hb : 0 < b) (hg : ∀ i, g i < b) (n : Nat) :
    ((List.range n).map (fun i => g i * b ^ i)).sum < b ^ n ∧
      ∀ i, i < n → ((List.range n).map (fun i => g i * b ^ i)).sum / b ^ i % b = g i := by
  induction n with
  | zero => exact ⟨Nat.one_pos, fun i hi => absurd hi (Nat.not_lt_zero i)⟩
  | succ n ih =>
    obtain ⟨hlt, hdig⟩ := ih
    rw [List.range_succ, List.map_append, List.sum_append, List.map_singleton, List.sum_singleton]
    generalize ((List.range n).map (fun i => g i * b ^ i)).sum = t at hlt hdig
    refine ⟨?_, fun i hi => ?_⟩
    · calc t + g n * b ^ n < (g n + 1) * b ^ n := by rw [Nat.add_mul, Nat.one_mul, Nat.add_comm]; exact Nat.add_lt_add_left hlt _
        _ ≤ b * b ^ n := Nat.mul_le_mul_right _ (hg n)
        _ = b ^ (n + 1) := by rw [Nat.pow_succ, Nat.mul_comm]
    · rcases Nat.lt_succ_iff_lt_or_eq.mp hi with hi | rfl
      · obtain ⟨k, rfl⟩ := Nat.exists_eq_add_of_lt hi
        have hpow : g (i + k + 1) * b ^ (i + k + 1) = b ^ i * (b * (g (i + k + 1) * b ^ k)) := by
          rw [Nat.pow_succ, Nat.pow_add]; ac_rfl
        rw [hpow, Nat.add_mul_div_left _ _ (Nat.pow_pos hb), Nat.add_mul_mod_self_left, hdig i (by omega)]
      · rw [Nat.mul_comm, Nat.add_mul_div_left _ _ (Nat.pow_pos hb), Nat.div_eq_of_lt hlt, Nat.zero_add, Nat.mod_eq_of_lt (hg i)]

/-- The lanes fill the vector: each lane reads what it was given, cut to its width. -/
theorem vlane_ofLanes (w32 : Bool) (f : Nat → Nat) {i : Nat} (h : i < laneN w32) : vlane w32 (ofLanes w32 f) i = f i % 2 ^ laneW w32 := by
  obtain ⟨hlt, hdig⟩ := digits_sum (b := 2 ^ laneW w32) (g := fun i => f i % 2 ^ laneW w32) (Nat.two_pow_pos _)
    (fun i => Nat.mod_lt _ (Nat.two_pow_pos _)) (laneN w32)
  have hfull : (2 ^ laneW w32) ^ laneN w32 = 2 ^ 128 := by cases w32 <;> decide
  rw [hfull] at hlt
  simp only [← Nat.pow_mul] at hlt hdig
  rw [vlane, ofLanes, BitVec.toNat_ofNat, Nat.mod_eq_of_lt hlt, hdig i h]

/-- The predicate bits that lane results write. -/
theorem getLsbD_ofPlanes (w32 : Bool) (f : Nat → Bool) {k : Nat} (h : k < 8) :
    (ofPlanes w32 f).getLsbD k = f (if w32 then k / 2 else k) := by
  obtain ⟨hlt, hdig⟩ := digits_sum (b := 2) (g := fun i => b2n (f (if w32 then i / 2 else i))) (by decide)
    (fun i => by cases f (if w32 then i / 2 else i) <;> decide) 8
  rw [ofPlanes, BitVec.getLsbD_ofNat, Nat.testBit_eq_decide_div_mod_eq, hdig k h, decide_eq_true h, Bool.true_and]
  cases f (if w32 then k / 2 else k) <;> rfl

theorem vlane_lt (w32 : Bool) (v : Vec) (i : Nat) : vlane w32 v i < 2 ^ laneW w32 := Nat.mod_lt _ (Nat.two_pow_pos _)

theorem vlane_and (w32 : Bool) (a b : Vec) (i : Nat) : vlane w32 (a &&& b) i = vlane w32 a i &&& vlane w32 b i := by
  rw [vlane, BitVec.toNat_and, Nat.and_div_two_pow, Nat.and_mod_two_pow]; rfl
theorem vlane_or (w32 : Bool) (a b : Vec) (i : Nat) : vlane w32 (a ||| b) i = vlane w32 a i ||| vlane w32 b i := by
  rw [vlane, BitVec.toNat_or, Nat.or_div_two_pow, Nat.or_mod_two_pow]; rfl
theorem vlane_xor (w32 : Bool) (a b : Vec) (i : Nat) : vlane w32 (a ^^^ b) i = vlane w32 a i ^^^ vlane w32 b i := by
  rw [vlane, BitVec.toNat_xor, Nat.xor_div_two_pow, Nat.xor_mod_two_pow]; rfl

/-! ## Signed lanes -/

theorem unsignedOf_cast (n : Nat) (v : Int) : (unsignedOf n v : Int) = v % 2 ^ n := by
  have hpos : (0 : Int) < 2 ^ n := Int.pow_pos (by decide)
  rw [unsignedOf, Int.natCast_pow, Int.cast_ofNat_Int, Int.toNat_of_nonneg (Int.emod_nonneg _ (Int.ne_of_gt hpos))]

/-- Saturation is the clamp, and tells whether it acted. -/
theorem satSigned_eq (n : Nat) (v : Int) : satSigned n v = (clamp n v, clamped n v) := by
  simp only [satSigned, clamped, clamp]
  have hp : (1 : Int) ≤ 2 ^ (n - 1) := by exact_mod_cast Nat.one_le_two_pow
  generalize (2 : Int) ^ (n - 1) = p at hp
  split <;> rename_i hlo
  · have hc : max (-p) (min (p - 1) v) = -p := by omega
    rw [hc, Prod.mk.injEq]; exact ⟨rfl, (bne_iff_ne.mpr (by omega)).symm⟩
  · split <;> rename_i hhi
    · have hc : max (-p) (min (p - 1) v) = p - 1 := by omega
      rw [hc, Prod.mk.injEq]; exact ⟨rfl, (bne_iff_ne.mpr (by omega)).symm⟩
    · have hc : max (-p) (min (p - 1) v) = v := by omega
      rw [hc, bne_self_eq_false]

/-- What a saturating lane is written with. -/
theorem satSigned_lane (n : Nat) (v : Int) : (unsignedOf n (satSigned n v).1 : Int) % 2 ^ n = clamp n v % 2 ^ n := by
  rw [satSigned_eq, unsignedOf_cast, Int.emod_emod]

/-- A signed lane lies within its width. -/
theorem slane_bounds (w32 : Bool) (v : Vec) (i : Nat) : -(2 : Int) ^ laneW w32 ≤ slane w32 v i ∧ slane w32 v i < 2 ^ laneW w32 := by
  have hlt : (vlane w32 v i % 2 ^ laneW w32 : Nat) < 2 ^ laneW w32 := Nat.mod_lt _ (Nat.two_pow_pos _)
  have hc : ((vlane w32 v i % 2 ^ laneW w32 : Nat) : Int) < 2 ^ laneW w32 := by exact_mod_cast hlt
  rw [slane, signedOf]
  split <;> push_cast at * <;> constructor <;> omega

/-- An arithmetic shift by more than the width gives the sign, as one by the width does. -/
theorem ediv_pow_min {x : Int} {n : Nat} (hlo : -(2 : Int) ^ n ≤ x) (hhi : x < 2 ^ n) (k : Nat) : x / 2 ^ min n k = x / 2 ^ k := by
  rcases Nat.le_total k n with hk | hk
  · rw [Nat.min_eq_right hk]
  · have hpow : (2 : Int) ^ n ≤ 2 ^ k := by exact_mod_cast Nat.pow_le_pow_right (n := 2) (by decide) hk
    rw [Nat.min_eq_left hk]
    rcases Int.lt_or_le x 0 with hx | hx
    · rw [Int.ediv_eq_neg_one_of_neg_of_le hx (by omega), Int.ediv_eq_neg_one_of_neg_of_le hx (by omega)]
    · rw [Int.ediv_eq_zero_of_lt hx hhi, Int.ediv_eq_zero_of_lt hx (by omega)]

/-! ## Lane-wise instructions -/

/-- A lane-wise instruction gives the lanes written, keeps the others, and sets STICKY.sat for a lane written that saturated. -/
theorem vecV_result {c : Instr} {s : State} {e : Nat} {op : EOp} {w : Word} (h : Issues s e op w)
    (F : EngRegs → Word → Nat → Nat × Bool) (hc : exec c s = .next (s.vecV e op F)) {w32 : Bool} (hw : (wW w || op == .vmac) = w32) :
    ∃ v : Vec, EngineResult c s e op w (((pastIssue s e).setV (wVd w) v).stick
        (if (List.range (laneN w32)).any (fun i => (!wM w || plane w32 (pOf s e (wP w)) i) && (F (pastIssue s e) w i).2) then 1 else 0)) ∧
      ∀ i, i < laneN w32 → vlane w32 v i =
        if !wM w || plane w32 (pOf s e (wP w)) i then (F (pastIssue s e) w i).1 % 2 ^ laneW w32 else vlane w32 (vOf s e (wVd w)) i := by
  subst hw
  refine ⟨_, engRegs_result h _ _ hc rfl, fun i hi => ?_⟩
  rw [vlane_ofLanes _ _ hi, pastIssue_preg, pastIssue_vreg]
  split
  · rfl
  · exact Nat.mod_eq_of_lt (vlane_lt _ _ _)

/-- A lane-wise instruction whose lanes are `f` modulo their width, and saturate as `sat` says. -/
theorem lane_result {c : Instr} {s : State} {e : Nat} {op : EOp} {w : Word} (h : Issues s e op w)
    (F : EngRegs → Word → Nat → Nat × Bool) (hc : exec c s = .next (s.vecV e op F)) {w32 : Bool} (hw : (wW w || op == .vmac) = w32)
    {f : Nat → Int} {sat : Nat → Bool} (hf : ∀ i, ((F (pastIssue s e) w i).1 : Int) % 2 ^ laneW w32 = f i % 2 ^ laneW w32)
    (hs : ∀ i, (F (pastIssue s e) w i).2 = sat i) : LaneResult c s e op w w32 f sat := by
  obtain ⟨v, hres, hv⟩ := vecV_result h F hc hw
  simp only [hs] at hres
  refine ⟨v, hres, fun i hi => ?_⟩
  rw [hv i hi]
  split
  · rw [← hf i]; push_cast; rfl
  · rfl

/-- Lanes of the width that w gives, but for VMAC. -/
theorem wW_or_vmac {op : EOp} (hop : op ≠ .vmac) (w : Word) : (wW w || op == .vmac) = wW w := by
  rw [beq_false_of_ne hop, Bool.or_false]

section Lanes
variable {c : Instr} {s : State} {e : Nat} {op : EOp} {w : Word} (h : Issues s e op w) (hop : op ≠ .vmac)
include h hop

/-- An instruction on the signed lanes of va and vb. -/
theorem vec2_result (F : Nat → Int → Int → Int × Bool) (hc : exec c s = .next (s.vec2 e op F)) {f : Nat → Int} {sat : Nat → Bool}
    (hF : ∀ i, F (laneW (wW w)) (slane (wW w) (vOf s e (wVa w)) i) (slane (wW w) (vOf s e (wVb w)) i) = (f i, sat i)) :
    LaneResult c s e op w (wW w) f sat := by
  refine lane_result h _ hc (wW_or_vmac hop w) (fun i => ?_) (fun i => ?_)
  · rw [pastIssue_vreg, pastIssue_vreg, hF, unsignedOf_cast, Int.emod_emod]
  · rw [pastIssue_vreg, pastIssue_vreg, hF]

/-- A bitwise instruction on va and vb. -/
theorem vecB_result (F : Vec → Vec → Vec) (hc : exec c s = .next (s.vecB e op F)) {f : Nat → Nat}
    (hF : ∀ i, vlane (wW w) (F (vOf s e (wVa w)) (vOf s e (wVb w))) i = f i) :
    LaneResult c s e op w (wW w) (fun i => (f i : Int)) (fun _ => false) :=
  lane_result h _ hc (wW_or_vmac hop w) (fun i => by rw [pastIssue_vreg, pastIssue_vreg, hF]) (fun _ => rfl)

end Lanes

theorem engineVectorLanes : ClaimEngineVectorLanes := by
  unfold ClaimEngineVectorLanes
  intro e s w w32 n a b ua ub half mac none
  simp only [List.forall_mem_cons, List.not_mem_nil, false_implies, implies_true, and_true]
  refine ⟨⟨?_, ?_, ?_, ?_, ?_, ?_, ?_, ?_, ?_, ?_, ?_, ?_, ?_, ?_, ?_⟩, fun h => ?_⟩
  · exact fun h => vec2_result h (by decide) _ rfl (fun i => rfl)
  · exact fun h => vec2_result h (by decide) _ rfl (fun i => rfl)
  · exact fun h => vec2_result h (by decide) _ rfl (fun i => satSigned_eq _ _)
  · exact fun h => vec2_result h (by decide) _ rfl (fun i => satSigned_eq _ _)
  · exact fun h => vec2_result h (by decide) _ rfl (fun i => rfl)
  · exact fun h => vec2_result h (by decide) _ rfl (fun i => by rw [Int.natCast_pow, Int.cast_ofNat_Int])
  · exact fun h => vec2_result h (by decide) _ rfl (fun i => rfl)
  · exact fun h => vec2_result h (by decide) _ rfl (fun i => rfl)
  · exact fun h => vecB_result h (by decide) _ rfl (fun i => vlane_and _ _ _ i)
  · exact fun h => vecB_result h (by decide) _ rfl (fun i => vlane_or _ _ _ i)
  · exact fun h => vecB_result h (by decide) _ rfl (fun i => vlane_xor _ _ _ i)
  · refine fun h => lane_result h _ rfl (wW_or_vmac (by decide) w) (fun i => ?_) (fun i => rfl)
    obtain ⟨hlo, hhi⟩ := slane_bounds w32 (vOf s e.val (wVa w)) i
    rw [unsignedOf_cast, Int.emod_emod, Int.natCast_pow, Int.cast_ofNat_Int, pastIssue_vreg, ediv_pow_min hlo hhi]
  · exact fun h => lane_result h _ rfl (wW_or_vmac (by decide) w) (fun i => rfl) (fun i => rfl)
  · exact fun h => lane_result h _ rfl (wW_or_vmac (by decide) w) (fun i => rfl) (fun i => rfl)
  · exact fun h => lane_result h _ rfl (wW_or_vmac (by decide) w) (fun i => satSigned_lane n _)
      (fun i => congrArg Prod.snd (satSigned_eq n _))
  · exact lane_result h _ rfl (Bool.or_true _) (fun i => satSigned_lane 32 (mac i)) (fun i => congrArg Prod.snd (satSigned_eq 32 (mac i)))

/-! ## Selections and compares by lane -/

/-- VSEL has no mask. -/
theorem wM_of_vsel {w : Word} (h : legal .vsel w = true) : wM w = false := by
  refine Bool.eq_false_iff.mpr fun hm => ?_
  simp [legal, legalV, hm] at h

theorem engineVectorSelectCompare : ClaimEngineVectorSelectCompare := by
  unfold ClaimEngineVectorSelectCompare
  intro e s w w32 lane sl
  refine ⟨fun h => ?_, fun h => ⟨_, engRegs_result h _ _ rfl rfl, fun k hk => ?_⟩⟩
  · have hm : wM w = false := wM_of_vsel h.isLegal
    obtain ⟨v, hres, hv⟩ := vecV_result (c := .vsel e) h _ rfl (wW_or_vmac (by decide) w)
    have hsat : ((List.range (laneN (wW w))).any fun i => (!wM w || plane (wW w) (pOf s e.val (wP w)) i) && false) = false := by
      simp only [Bool.and_false, List.any_eq_false, Bool.false_eq_true, not_false_eq_true, implies_true]
    rw [hsat, if_neg Bool.false_ne_true, stick_zero] at hres
    refine ⟨v, hres, fun i hi => ?_⟩
    rw [hv i hi, hm, Bool.not_false, Bool.true_or, if_pos rfl, Nat.mod_eq_of_lt (vlane_lt _ _ _)]
    exact apply_ite (fun x => vlane w32 x i) _ _ _
  · rw [getLsbD_ofPlanes _ _ hk]
    have hc : wCond w < 8 := Nat.mod_lt _ (by decide)
    rcases lt_eight_cases hc with hc | hc | hc | hc | hc | hc | hc | hc <;> rw [hc] <;> rfl

/-! ## Vector and scalar -/

/-- An order by which a search takes the better of two values: strict, and with nothing between two values of which neither is
better. -/
structure Betters (better : Int → Int → Prop) : Prop where
  asymm : ∀ {a b}, better a b → ¬better b a
  trans : ∀ {a b c}, better a b → ¬better c b → better a c

theorem betters_gt : Betters (fun p q => q < p) := ⟨fun h => by omega, fun h h' => by omega⟩
theorem betters_lt : Betters (fun p q => p < q) := ⟨fun h => by omega, fun h h' => by omega⟩

/-- Place `k` holds the extreme of the first `n` values, and no earlier place holds it. -/
def FirstExtreme (better : Int → Int → Prop) (f : Nat → Int) (n k : Nat) : Prop :=
  k < n ∧ (∀ i, i < n → ¬better (f i) (f k)) ∧ ∀ i, i < k → better (f k) (f i)

theorem firstExtreme_one {better : Int → Int → Prop} (hb : Betters better) (f : Nat → Int) : FirstExtreme better f 1 0 := by
  refine ⟨Nat.one_pos, fun i hi => ?_, fun i hi => absurd hi (Nat.not_lt_zero i)⟩
  obtain rfl : i = 0 := by omega
  exact fun h => hb.asymm h h

section Extreme
variable {better : Int → Int → Prop} [DecidableRel better] (hb : Betters better) {f : Nat → Int}
include hb

/-- One more value: it is the extreme when it is better, and the one before stays otherwise. -/
theorem FirstExtreme.succ {n k : Nat} (h : FirstExtreme better f n k) :
    FirstExtreme better f (n + 1) (if better (f n) (f k) then n else k) := by
  obtain ⟨hk, hnone, hfirst⟩ := h
  split <;> rename_i hn
  · have hbest : ∀ i, i < n → better (f n) (f i) := fun i hi => hb.trans hn (hnone i hi)
    refine ⟨Nat.lt_succ_self n, fun i hi => ?_, hbest⟩
    rcases Nat.lt_succ_iff_lt_or_eq.mp hi with hi | rfl
    · exact hb.asymm (hbest i hi)
    · exact fun h => hb.asymm h h
  · refine ⟨Nat.lt_succ_of_lt hk, fun i hi => ?_, hfirst⟩
    rcases Nat.lt_succ_iff_lt_or_eq.mp hi with hi | rfl
    · exact hnone i hi
    · exact hn

/-- The search goes on through the values from place `n` on with the extreme of those before. -/
theorem extremeOf_first (m : Nat) : ∀ {n k : Nat}, FirstExtreme better f n k → ∃ j,
    extremeOf (fun a b => decide (better a b)) n (f k, k) ((List.range' n m).map f) = (f j, j) ∧ FirstExtreme better f (n + m) j := by
  induction m with
  | zero => exact fun h => ⟨_, rfl, h⟩
  | succ m ih =>
    intro n k h
    have hstep := ih (FirstExtreme.succ hb h)
    rw [List.range'_succ, List.map_cons, extremeOf, Nat.add_comm m 1, ← Nat.add_assoc]
    by_cases hn : better (f n) (f k)
    · simpa only [hn, decide_true, if_true] using hstep
    · simpa only [hn, decide_false, Bool.false_eq_true, if_false] using hstep

/-- The extreme of the lanes of vd goes to s[rs], with its lowest place in s[rs + 1]. -/
theorem extreme_result {c : Instr} {s : State} {e : Nat} {op : EOp} {w : Word} (h : Issues s e op w)
    (hc : exec c s = .next (s.engRegs e op (fun x w => x.extreme w (fun a b => decide (better a b))))) :
    let sl := fun i => slane (wVsW w) (vOf s e (wVd w)) i
    ∃ k, FirstExtreme better sl (laneN (wVsW w)) k ∧
      EngineResult c s e op w (((pastIssue s e).setS (wRs w) (BitVec.ofInt 32 (sl k))).setS (wRs w + 1) (BitVec.ofNat 32 k)) := by
  intro sl
  obtain ⟨n, hn⟩ : ∃ n, laneN (wVsW w) = n + 1 := by cases wVsW w <;> exact ⟨_, rfl⟩
  obtain ⟨k, hk, hext⟩ := extremeOf_first (f := sl) hb n (firstExtreme_one hb sl)
  rw [Nat.add_comm 1 n, ← hn] at hext
  have hl : slanes (wVsW w) (vOf s e (wVd w)) = sl 0 :: (List.range' 1 n).map sl := by
    rw [slanes, hn, List.range_eq_range', List.range'_succ]; rfl
  refine ⟨k, hext, engRegs_result h _ _ hc ?_⟩
  simp only [EngRegs.extreme, pastIssue_vreg, hl, List.headD_cons, List.tail_cons, hk]
  rfl

end Extreme

theorem engineVectorScalar : ClaimEngineVectorScalar := by
  unfold ClaimEngineVectorScalar
  intro e s w w32 x lane sl scalar extreme
  refine ⟨fun h => ⟨_, engRegs_result h _ _ rfl rfl, fun i hi => vlane_ofLanes _ _ hi⟩,
    fun h => ⟨_, engRegs_result h _ _ rfl rfl, fun i hi => ?_⟩, fun h => engRegs_result h _ _ rfl rfl,
    fun h => engRegs_result h _ _ rfl rfl, fun h => engRegs_result h _ _ rfl rfl, fun h => ?_, fun h => ?_⟩
  · rw [vlane_ofLanes _ _ hi]
    split
    · rfl
    · exact Nat.mod_eq_of_lt (vlane_lt _ _ _)
  · obtain ⟨k, ⟨hk, hnone, hfirst⟩, hres⟩ := extreme_result (c := .vrmax e) betters_gt h rfl
    exact ⟨k, hk, hnone, hfirst, hres⟩
  · obtain ⟨k, ⟨hk, hnone, hfirst⟩, hres⟩ := extreme_result (c := .vrmin e) betters_lt h rfl
    exact ⟨k, hk, hnone, hfirst, hres⟩

/-- Settles O7: lanes are the digits of the vector, saturation is the clamp, and the search for an extreme keeps the first place that
holds it. -/
theorem engineVector : Obligations.EngineVector := by
  unfold Obligations.EngineVector
  exact ⟨engineVectorWords, engineVectorLanes, engineVectorSelectCompare, engineVectorScalar⟩

end Sys2Proof
end

section
/-! PROOF. Control instructions of an engine: branches, LOOP, YIELD, EOP and EVT (09 R308, R332, R333). -/

namespace Sys2Proof

open Machine

/-! ## Branches -/

/-- Where a displacement of `n` bits leads from the instruction in issue (09 R333). -/
def branchDest (s : State) (e n : Nat) (w : Word) : Int :=
  ((s.engine e).r.pc : Int) + (w.toNat % 2 ^ n : Nat) - (if w.toNat % 2 ^ n < 2 ^ (n - 1) then 0 else 2 ^ n)

/-- A destination in the code of engine `e`. -/
def InCode (s : State) (e : Nat) (d : Int) : Prop := 0 ≤ d ∧ d < (s.engine e).img.codeWords

/-- Engine `e` goes on in RUN at place `d` with registers `r`, and nothing else changes. -/
def JumpsTo (s : State) (e : Nat) (r : EngRegs) (d : Int) (t : State) : Prop :=
  OnlyEngine s t e ∧ (t.engine e).r = r.jump d.toNat ∧ (t.engine e).st = .run

/-- A branch out of the code faults. -/
theorem branchTo_outside {u : State} {e : Nat} {d : Int} (h : d < 0 ∨ (u.engine e).img.codeWords ≤ d) :
    u.branchTo e d = u.engFault e fPC := by
  rw [State.branchTo, if_pos (by omega)]

section Branch
variable {s u : State} {e : Nat} {op : EOp} {w : Word} {r : EngRegs}

/-- A displacement counts from the instruction in issue. -/
theorem IssuedWith.engTarget (hu : IssuedWith s e op w r u) (n : Nat) : u.engTarget e n w = branchDest s e n w := by
  rw [State.engTarget, hu.2, Eng.issue, signedOf, fld_zero, Nat.mod_mod, branchDest]
  split
  · rw [Int.sub_zero]
  · push_cast; omega

/-- A branch into the code sets the PC and leaves the other registers. -/
theorem branchTo_jumps {d : Int} (honly : OnlyEngine s u e) (hst : (u.engine e).st = .run) (hin : InCode u e d) :
    JumpsTo s e (u.engine e).r d (u.branchTo e d) := by
  obtain ⟨h0, h1⟩ := hin
  rw [State.branchTo, if_neg (by omega), State.updRegs]
  exact ⟨honly.updEngine _, by rw [State.engine_updEngine], by rw [State.engine_updEngine]; exact hst⟩

variable (h : Issues s e op w) (hu : IssuedWith s e op w r u) {d : Int} (hin : InCode s e d)
include h hu hin

theorem IssuedWith.branchTo : JumpsTo s e r d (u.branchTo e d) := by
  obtain ⟨honly, hx⟩ := hu
  have hj := branchTo_jumps (d := d) honly (by rw [hx]; exact h.run) (by rw [InCode, hx]; exact hin)
  rwa [hx] at hj

theorem IssuedWith.takenBranch : JumpsTo s e r d (u.takenBranch e d) := by
  obtain ⟨honly, hx⟩ := hu
  have hj := branchTo_jumps (d := d) (honly.updEngine (fun x => { x with busy := x.busy + 1 }))
    (by rw [State.engine_updEngine, hx]; exact h.run) (by rw [InCode, State.engine_updEngine, hx]; exact hin)
  rwa [State.engine_updEngine, hx] at hj

end Branch

/-- The condition code of BP names a test of the predicate (09 R333). -/
theorem pcond_iff {c : Nat} (hc : c < 4) (p : Byte) : pcond c p = true ↔ [p ≠ 0, p = 0, p = 0xFF, p ≠ 0xFF].getD c False := by
  obtain rfl | rfl | rfl | rfl : c = 0 ∨ c = 1 ∨ c = 2 ∨ c = 3 := by omega
  all_goals simp [pcond]

/-! ## The end of an invocation -/

/-- What leaving RUN does: the period's cycles are kept, and the event counters count them. -/
theorem leaveRun_engine (s : State) (e : Nat) :
    (∃ p, (s.leaveRun e).engine e = { s.engine e with per := p }) ∧ ∀ k, k ≠ e → (s.leaveRun e).engine k = s.engine k := by
  unfold State.leaveRun
  split
  · refine ⟨⟨_, (State.engine_updEngine _ _ _).trans (by rw [perf_engine])⟩, fun k hk => ?_⟩
    exact (State.engine_updEngine_other _ _ hk).trans (perf_engine _ _ _ _ _ k)
  · exact ⟨⟨_, rfl⟩, fun _ _ => rfl⟩

/-- An invocation ends in the state that `f` gives, without a current record and with its registers kept. -/
theorem leaveRun_ends {s : State} {e : Nat} {op : EOp} {w : Word} {st : EngState} {f : Machine.Eng → Machine.Eng}
    (hf : ∀ x, (f x).st = st ∧ (f x).r = { x.r with cur := none } ∧ (f x).dmem = x.dmem) :
    let t := ((afterIssue s e op w).leaveRun e).updEngine e f
    (t.engine e).st = st ∧ (t.engine e).r = { pastIssue s e with cur := none } ∧ (t.engine e).dmem = (s.engine e).dmem ∧
      ∀ k, k ≠ e → t.engine k = s.engine k := by
  obtain ⟨⟨p, hp⟩, hother⟩ := leaveRun_engine (afterIssue s e op w) e
  intro t
  have ht : t.engine e = f { (s.engine e).issue op w (s.engCyc (e / 16)) with per := p } := by
    rw [State.engine_updEngine, hp, afterIssue_engine]
  obtain ⟨hst, hr, hd⟩ := hf { (s.engine e).issue op w (s.engCyc (e / 16)) with per := p }
  refine ⟨ht ▸ hst, (congrArg (·.r) ht).trans hr, (congrArg (·.dmem) ht).trans hd, fun k hk => ?_⟩
  exact (State.engine_updEngine_other _ _ hk).trans ((hother k hk).trans (afterIssue_engine_other s op w hk))

/-! ## EVT -/

/-- An event of a line that has none in the current tick is shown as it comes. -/
theorem evLine_new {s : State} {l : Nat} (h : s.fl.events.all (fun v => v.c.line != l || v.tick != s.now) = true) (ts : TS48) :
    s.evLine l ts = s.linePulse l ts false := by
  have hnone : s.fl.events.find? (fun v => v.c.line == l && v.tick == s.now) = none := by
    refine List.find?_eq_none.mpr fun v hv => ?_
    have hne := List.all_eq_true.mp h v hv
    simp only [Bool.or_eq_true, bne_iff_ne] at hne
    simp only [Bool.and_eq_true, beq_iff_eq]
    omega
  rw [State.evLine, hnone]

theorem linePulse_shown (s : State) (l : Nat) (ts : TS48) (coarse : Bool) :
    ⟨⟨l, ts, coarse, none⟩, s.now⟩ ∈ (s.linePulse l ts coarse).fl.events :=
  List.mem_append_right _ List.mem_cons_self

/-! ## The control instructions -/

section Control
variable {e : Fin 192} {s : State} {w : Word}

theorem br_jumps (h : Issues s e.val .br w) (hin : InCode s e.val (branchDest s e.val 26 w)) :
    Completes (.br e) s (JumpsTo s e.val (pastIssue s e.val) (branchDest s e.val 26 w)) := by
  have hu := afterIssue_issuedWith s e.val .br w
  exact ⟨_, exec_issues h rfl, by rw [hu.engTarget]; exact hu.takenBranch h hin⟩

/-- BP with its condition met branches. -/
theorem bp_jumps (h : Issues s e.val .bp w) (hm : pcond (fld w 22 2) (pOf s e.val (wPd w)) = true)
    (hin : InCode s e.val (branchDest s e.val 22 w)) :
    Completes (.bp e) s (JumpsTo s e.val (pastIssue s e.val) (branchDest s e.val 22 w)) := by
  have hu := afterIssue_issuedWith s e.val .bp w
  refine ⟨_, exec_issues h rfl, ?_⟩
  rw [hu.regs, pastIssue_preg, hm, if_pos rfl, hu.engTarget]
  exact hu.takenBranch h hin

/-- BP with its condition not met goes on. -/
theorem bp_passes (h : Issues s e.val .bp w) (hm : ¬pcond (fld w 22 2) (pOf s e.val (wPd w)) = true) :
    EngineResult (.bp e) s e.val .bp w (pastIssue s e.val) := by
  have hu := afterIssue_issuedWith s e.val .bp w
  refine ⟨_, exec_issues h rfl, ?_⟩
  rw [hu.regs, pastIssue_preg, if_neg hm]
  exact hu

theorem jal_jumps (h : Issues s e.val .jal w) (hin : InCode s e.val (branchDest s e.val 21 w)) :
    Completes (.jal e) s (JumpsTo s e.val ((pastIssue s e.val).setS (wRd w) (BitVec.ofNat 32 ((s.engine e.val).r.pc + 1)))
      (branchDest s e.val 21 w)) := by
  have hu := afterIssue_issuedWith s e.val .jal w
  refine ⟨_, exec_issues h rfl, ?_⟩
  rw [hu.engTarget, afterIssue_engine]
  exact (hu.updRegs _).takenBranch h hin

theorem jr_jumps (h : Issues s e.val .jr w) (hin : (sOf s e.val (wRa w)).toNat < (s.engine e.val).img.codeWords) :
    Completes (.jr e) s (JumpsTo s e.val (pastIssue s e.val) (sOf s e.val (wRa w)).toNat) := by
  have hu := afterIssue_issuedWith s e.val .jr w
  refine ⟨_, exec_issues h rfl, ?_⟩
  rw [hu.regs, pastIssue_sreg]
  exact hu.takenBranch h ⟨Int.natCast_nonneg _, Int.ofNat_lt.mpr hin⟩

/-- The registers after LOOP has counted. -/
def loopCount (s : State) (e : Nat) (w : Word) : EngRegs := (pastIssue s e).setS (wRd w) (sOf s e (wRd w) - 1)

theorem exec_loop (h : Issues s e.val .loop w) : ∃ u, IssuedWith s e.val .loop w (loopCount s e.val w) u ∧
    exec (.loop e) s = .next (if (loopCount s e.val w).sreg (wRd w) ≠ 0 then u.branchTo e.val (branchDest s e.val 21 w) else u) := by
  have hu := (afterIssue_issuedWith s e.val .loop w).updRegs (fun x => x.setS (wRd w) (x.sreg (wRd w) - 1))
  rw [pastIssue_sreg] at hu
  refine ⟨_, hu, (exec_issues h rfl).trans ?_⟩
  dsimp only
  rw [hu.regs, hu.engTarget]; rfl

/-- EVT shows an event of its line with the time that s[ra] and s[ra + 1] give (08 R274). -/
theorem exec_evt (h : Issues s e.val .evt w)
    (hev : s.fl.events.all (fun v => v.c.line != 84 + fld w 4 6 || v.tick != s.now) = true) :
    exec (.evt e) s = .next ((afterIssue s e.val .evt w).linePulse (84 + fld w 4 6)
      (BitVec.ofNat 48 ((sOf s e.val (wRa w)).toNat + (sOf s e.val (wRa w + 1)).toNat % 2 ^ 16 * 2 ^ 32)) false) := by
  refine (exec_issues h rfl).trans ?_
  dsimp only
  rw [(afterIssue_issuedWith s e.val .evt w).regs, pastIssue_sreg, pastIssue_sreg, fld_zero, wN, Nat.add_comm (_ * _)]
  exact congrArg _ (evLine_new (s := afterIssue s e.val .evt w) hev _)

end Control

/-- Settles O9: in the state after issue, a control instruction either branches into the code, or ends the invocation, or shows an
event. -/
theorem engineControl : Obligations.EngineControl := by
  unfold Obligations.EngineControl
  intro e s w x disp inCode next jumps ends p meets count
  have hmeets : pcond (fld w 22 2) p = true ↔ meets := pcond_iff (Nat.mod_lt _ (by decide)) p
  refine ⟨br_jumps,
    fun h => ⟨fun hm => bp_passes h (fun hp => hm (hmeets.mp hp)), fun hm hin => bp_jumps h (hmeets.mpr hm) hin⟩,
    jal_jumps, jr_jumps, fun h h0 => ?_, fun h h0 => ⟨fun hc => ?_, fun hc hin => ?_⟩, fun h => ?_, fun h => ?_, fun h hev => ?_⟩
  · obtain ⟨u, hu, hex⟩ := exec_loop h
    rw [loopCount, h0, setS_zero] at hu hex
    exact ⟨u, hex, hu⟩
  · obtain ⟨u, hu, hex⟩ := exec_loop h
    rw [loopCount, sreg_setS h0, if_neg (fun hne => hne hc)] at hex
    exact ⟨u, hex, hu⟩
  · obtain ⟨u, hu, hex⟩ := exec_loop h
    rw [loopCount, sreg_setS h0, if_pos hc] at hex
    exact ⟨_, hex, hu.branchTo h hin⟩
  · exact ⟨_, exec_issues h rfl, leaveRun_ends fun x => ⟨rfl, rfl, rfl⟩⟩
  · exact ⟨_, exec_issues h rfl, leaveRun_ends fun x => ⟨rfl, rfl, rfl⟩⟩
  · exact ⟨_, exec_evt h hev, (afterIssue_issuedWith s e.val .evt w).regs, linePulse_shown (afterIssue s e.val .evt w) _ _ _⟩

end Sys2Proof
end

section
/-! PROOF. Faults of an engine: what a fault leaves, and what faults with which cause (09 R302, R312, R315, R334, R335). -/

namespace Sys2Proof

open Machine

/-! ## Registers that an operation leaves alone -/

theorem Only.rget_eq {l : List Part} {s t : State} (h : Only l s t) (hr : Part.regs ∉ l) (a : Nat) : t.rget a = s.rget a := by
  rw [State.rget, State.rget, (h.2 .regs hr).1]

theorem perfCell_cnt {k : Nat} (hk : k < 1024) : perfCell (Reg.PERF_CNT_LO k) ∧ perfCell (Reg.PERF_CNT_HI k) := by
  unfold perfCell Reg.PERF_CNT_LO Reg.PERF_CNT_HI
  omega

theorem perfAdd_rget (s : State) {k a : Nat} (n : Nat) (hk : k < 1024) (ha : ¬perfCell a) : (s.perfAdd k n).rget a = s.rget a := by
  obtain ⟨hlo, hhi⟩ := perfCell_cnt hk
  have h1 : a ≠ Reg.PERF_CNT_LO k := fun h => ha (h ▸ hlo)
  have h2 : a ≠ Reg.PERF_CNT_HI k := fun h => ha (h ▸ hhi)
  have h3 : a ≠ Reg.PERF_EVT := fun h => ha (h ▸ by unfold perfCell; decide)
  unfold State.perfAdd
  dsimp only
  split
  · rw [evt_rget_other _ _ h3, State.rget_updCyc, State.rget_rset_other _ _ h2, State.rget_rset_other _ _ h1]
  · rw [State.rget_updCyc, State.rget_rset_other _ _ h2, State.rget_rset_other _ _ h1]

/-- A selected counter is one of the 1,024. -/
theorem perfSel_lt {s : State} {cls ev : Nat} {idx : Option Nat} {k : Nat} (hk : k ∈ s.perfSel cls ev idx) : k < 1024 := by
  obtain ⟨p, hp, rfl⟩ := List.mem_map.mp hk
  have hrange := (List.mem_filter.mp hp).2
  simp only [Bool.and_eq_true, decide_eq_true_eq] at hrange
  omega

/-- Counting an event changes the event counters' cells alone (21 R653). -/
theorem perf_rget (s : State) (cls ev idx n : Nat) {a : Nat} (ha : ¬perfCell a) : (s.perf_ cls ev idx n).rget a = s.rget a := by
  unfold State.perf_
  split
  · rfl
  · exact forEach_keeps (P := fun t => t.rget a = s.rget a) _ _ rfl
      (fun t k hk ht => (perfAdd_rget t n (perfSel_lt hk) ha).trans ht)

/-! ## The event register of an Island -/

theorem islEvt_not_perfCell (i : Nat) : ¬perfCell (Reg.ISL_EVT i) := by unfold perfCell Reg.ISL_EVT; omega

theorem islEvt_ne_aborts (i e : Nat) : Reg.ISL_EVT i ≠ Reg.ISL_ENG_ABORTS i (e % 16) := by unfold Reg.ISL_EVT Reg.ISL_ENG_ABORTS; omega

theorem islEvt_ne_ingap (i e : Nat) : Reg.ISL_EVT i ≠ Reg.ISL_ENG_INGAP i (e % 16) := by unfold Reg.ISL_EVT Reg.ISL_ENG_INGAP; omega

/-- A flag that is set stays set when further events come. -/
theorem evt_keeps (s : State) (a flags i : Nat) (hi : i < 24) (h : EventSet s a i) : EventSet (s.evt a flags) a i := by
  by_cases hf : flags = 0
  · subst hf; exact h
  · have hbit : bit (s.rget a) i = true := h
    rw [EventSet, evt_rget s a flags hf, evtW_bit _ _ _ _ hi, hbit, Bool.true_or]

/-! ## An abort (09 R312) -/

theorem dropCurrent_engine (s : State) (e : Nat) :
    (∃ inp, (s.dropCurrent e).engine e = { s.engine e with input := inp }) ∧
      ∀ k, k ≠ e → (s.dropCurrent e).engine k = s.engine k :=
  ⟨⟨_, State.engine_updEngine _ _ _⟩, fun _ hk => State.engine_updEngine_other _ _ hk⟩

/-- What an abort with cause `cause` makes of engine state `x`: DONE, its invocation abandoned, its stores left to their banks; cause and
count of faults stay. -/
structure Abandoned (cause : Nat) (x y : Machine.Eng) : Prop where
  st : y.st = .done
  aborted : y.per.aborted = some cause
  sh : y.sh = x.sh.filter (fun a => a.1.isStore)
  cur : y.r.cur = none
  cause : y.cause = x.cause
  faultPc : y.faultPc = x.faultPc
  consec : y.consec = x.consec

theorem abandon_abandoned (x : Machine.Eng) (inp : Strait) (cause unread updates cycles : Nat) :
    Abandoned cause x (({ x with input := inp } : Machine.Eng).abandon cause unread updates cycles) :=
  ⟨rfl, rfl, rfl, rfl, rfl, rfl, rfl⟩

/-- The cycles of the invocation that an abort ends are counted, and nothing else of the engines or the Island's events changes. -/
theorem countRun_frame (s : State) (e n : Nat) :
    let v := if (s.engine e).st = .run then s.perf_ 8 2 e n else s
    (∀ k, v.engine k = s.engine k) ∧ v.rget (Reg.ISL_EVT (e / 16)) = s.rget (Reg.ISL_EVT (e / 16)) := by
  intro v
  dsimp only [v]
  split
  · exact ⟨perf_engine _ _ _ _ _, perf_rget _ _ _ _ _ (islEvt_not_perfCell _)⟩
  · exact ⟨fun _ => rfl, rfl⟩

/-- An abort abandons what the engine does, leaves the other engines, and sets ISL_EVT.abort beside the flags that are set. -/
theorem abortEng_spec (s : State) (e cause : Nat) :
    Abandoned cause (s.engine e) ((s.abortEng e cause).engine e) ∧ (∀ k, k ≠ e → (s.abortEng e cause).engine k = s.engine k) ∧
      EventSet (s.abortEng e cause) (Reg.ISL_EVT (e / 16)) 1 ∧
      ∀ b, b < 24 → EventSet s (Reg.ISL_EVT (e / 16)) b → EventSet (s.abortEng e cause) (Reg.ISL_EVT (e / 16)) b := by
  obtain ⟨hveng, hvreg⟩ := countRun_frame s e (s.engCyc (e / 16) - (s.engine e).runFrom)
  unfold State.abortEng
  dsimp only
  generalize (if (s.engine e).st = .run then s.perf_ 8 2 e (s.engCyc (e / 16) - (s.engine e).runFrom) else s) = v at hveng hvreg
  obtain ⟨⟨inp, hinp⟩, hother⟩ := dropCurrent_engine v e
  rw [hveng] at hinp
  have hrewind : ∀ k, ((v.dropCurrent e).rewindSeq e).engine k = (v.dropCurrent e).engine k := fun _ => rfl
  refine ⟨?_, fun k hk => ?_, evt_sets _ _ 2 1 (by decide) (by decide), fun b hb hset => evt_keeps _ _ _ b hb ?_⟩
  · rw [evt_engine, cnt_engine, State.engine_updIsland, State.engine_updEngine, hrewind, hinp]
    exact abandon_abandoned _ _ _ _ _ _
  · rw [evt_engine, cnt_engine, State.engine_updIsland, State.engine_updEngine_other _ _ hk, hrewind, hother k hk, hveng]
  · rw [EventSet, cnt_rget_other _ (islEvt_ne_aborts _ e)]
    exact (congrArg (bit · b) hvreg).trans hset

/-! ## Entry into FAULT (09 R335) -/

theorem toRouting_only (s : State) (i : Nat) (r : Rec) : Only [.lag, .seqs] s (s.toRouting i r) :=
  Only.ite _ (toPort_only s i r) ⟨rfl, fun q hq => by cases q <;> first | exact absurd (by decide) hq | rfl | exact ⟨rfl, rfl⟩⟩

/-- The same engines, and the same events of Island `i`. -/
def SameFor (i : Nat) (s t : State) : Prop := (∀ k, t.engine k = s.engine k) ∧ t.rget (Reg.ISL_EVT i) = s.rget (Reg.ISL_EVT i)

theorem SameFor.refl (i : Nat) (s : State) : SameFor i s s := ⟨fun _ => rfl, rfl⟩

theorem SameFor.trans {i : Nat} {s t u : State} (h : SameFor i s t) (h' : SameFor i t u) : SameFor i s u :=
  ⟨fun k => (h'.1 k).trans (h.1 k), h'.2.trans h.2⟩

theorem Only.sameFor {l : List Part} {s t : State} (h : Only l s t) (he : Part.eng ∉ l) (hr : Part.regs ∉ l) (i : Nat) :
    SameFor i s t :=
  ⟨h.engine_eq he, h.rget_eq hr _⟩

theorem toRouting_sameFor (s : State) (i j : Nat) (r : Rec) : SameFor i s (s.toRouting j r) :=
  (toRouting_only s j r).sameFor (by decide) (by decide) i

theorem cntN_ingap_sameFor (s : State) (i e n : Nat) : SameFor i s (s.cntN (Reg.ISL_ENG_INGAP i (e % 16)) n) := by
  unfold State.cntN
  split
  · exact ⟨fun _ => rfl, rfl⟩
  · exact ⟨fun _ => rfl, State.rget_rset_other _ _ (islEvt_ne_ingap i e)⟩

/-- What waited in the input FIFO goes to the routing table and touches no engine. -/
theorem drainInput_spec (s : State) (e : Nat) :
    (∃ inp, (s.drainInput e).engine e = { s.engine e with input := inp }) ∧
      (∀ k, k ≠ e → (s.drainInput e).engine k = s.engine k) ∧
      (s.drainInput e).rget (Reg.ISL_EVT (e / 16)) = s.rget (Reg.ISL_EVT (e / 16)) := by
  unfold State.drainInput
  dsimp only
  generalize hu : (s.crossing (s.island (e / 16)).freq).2.updEngine e _ = u
  have hx : ∃ inp, u.engine e = { s.engine e with input := inp } := ⟨_, hu ▸ State.engine_updEngine _ _ _⟩
  have hother : ∀ k, k ≠ e → u.engine k = s.engine k := fun k hk => hu ▸ State.engine_updEngine_other _ _ hk
  have hreg : u.rget (Reg.ISL_EVT (e / 16)) = s.rget (Reg.ISL_EVT (e / 16)) := hu ▸ rfl
  have hsame : ∀ t, SameFor (e / 16) u t → (∃ inp, t.engine e = { s.engine e with input := inp }) ∧
      (∀ k, k ≠ e → t.engine k = s.engine k) ∧ t.rget (Reg.ISL_EVT (e / 16)) = s.rget (Reg.ISL_EVT (e / 16)) :=
    fun t ⟨heng, hev⟩ => ⟨heng e ▸ hx, fun k hk => (heng k).trans (hother k hk), hev.trans hreg⟩
  refine hsame _ (forEach_keeps _ _ (SameFor.refl _ u) fun t h _ ht => ht.trans ?_)
  cases h with
  | item it => exact forEach_keeps it.recs _ (SameFor.refl _ t) fun v r _ hv => hv.trans (toRouting_sameFor v _ _ r)
  | gap r => exact (toRouting_sameFor t _ _ r).trans (cntN_ingap_sameFor _ _ e _)
  | token r => exact toRouting_sameFor t _ _ r

/-- Entering FAULT changes the engine's state and what waits in its input FIFO (09 R304, R335). -/
theorem enterFault_spec (s : State) (e : Nat) :
    (∃ inp, (s.enterFault e).engine e = { s.engine e with st := .fault, stopPend := false, input := inp }) ∧
      (∀ k, k ≠ e → (s.enterFault e).engine k = s.engine k) ∧
      (s.enterFault e).rget (Reg.ISL_EVT (e / 16)) = s.rget (Reg.ISL_EVT (e / 16)) := by
  obtain ⟨⟨inp, hx⟩, hother, hev⟩ := drainInput_spec (s.updEngine e (fun x => { x with st := .fault, stopPend := false })) e
  rw [State.engine_updEngine] at hx
  have halarm := fun (v : State) code sev d0 d1 => (alarm_only v code sev d0 d1).sameFor (by decide) (by decide) (e / 16)
  exact ⟨⟨inp, ((halarm _ _ _ _ _).1 e).trans hx⟩, fun k hk => ((halarm _ _ _ _ _).1 k).trans ((hother k hk).trans
    (State.engine_updEngine_other _ _ hk)), (halarm _ _ _ _ _).2.trans hev⟩

/-! ## A fault (09 R334, R335) -/

/-- What a fault with cause `cause` makes of engine state `x`. -/
structure Faulted (cause : Nat) (x y : Machine.Eng) : Prop where
  st : y.st = if cause = 8 ∨ 15 ≤ x.consec then .fault else .done
  aborted : y.per.aborted = some cause
  sh : y.sh = x.sh.filter (fun a => a.1.isStore)
  cur : y.r.cur = none
  cause : y.cause = cause
  faultPc : y.faultPc = x.issued
  consec : y.consec = min 16 (x.consec + 1)

/-- A fault records its cause and its place, aborts the period and sets ISL_EVT.fault and .abort; an uncorrectable word and the 16th
fault in a row lead to FAULT. -/
theorem engFault_spec (s : State) (e cause : Nat) :
    Faulted cause (s.engine e) ((s.engFault e cause).engine e) ∧ (∀ k, k ≠ e → (s.engFault e cause).engine k = s.engine k) ∧
      EventSet (s.engFault e cause) (Reg.ISL_EVT (e / 16)) 0 ∧ EventSet (s.engFault e cause) (Reg.ISL_EVT (e / 16)) 1 := by
  unfold State.engFault
  dsimp only
  generalize hu : s.updEngine e (fun x => { x with cause := cause, faultPc := x.issued, consec := min 16 (x.consec + 1) }) = u
  have hx : (u.evt (Reg.ISL_EVT (e / 16)) 1).engine e =
      { s.engine e with cause := cause, faultPc := (s.engine e).issued, consec := min 16 ((s.engine e).consec + 1) } := by
    rw [evt_engine, ← hu, State.engine_updEngine]
  have hother : ∀ k, k ≠ e → (u.evt (Reg.ISL_EVT (e / 16)) 1).engine k = s.engine k := fun k hk => by
    rw [evt_engine, ← hu, State.engine_updEngine_other _ _ hk]
  have hev0 : EventSet (u.evt (Reg.ISL_EVT (e / 16)) 1) (Reg.ISL_EVT (e / 16)) 0 := evt_sets _ _ _ _ (by decide) (by decide)
  obtain ⟨habort, hothers, hev1, hkeep⟩ := abortEng_spec (u.evt (Reg.ISL_EVT (e / 16)) 1) e cause
  rw [hx] at habort
  obtain ⟨hst, haborted, hsh, hcur, hcause, hpc, hconsec⟩ := habort
  replace hconsec : _ = min 16 ((s.engine e).consec + 1) := hconsec
  rw [hconsec]
  split <;> rename_i hc
  · obtain ⟨⟨inp, hy⟩, hfothers, hfev⟩ := enterFault_spec ((u.evt (Reg.ISL_EVT (e / 16)) 1).abortEng e cause) e
    refine ⟨?_, fun k hk => (hfothers k hk).trans ((hothers k hk).trans (hother k hk)), ?_, ?_⟩
    · rw [hy]
      exact ⟨(if_pos (by omega)).symm, haborted, hsh, hcur, hcause, hpc, hconsec⟩
    · exact (congrArg (bit · 0) hfev).trans (hkeep 0 (by decide) hev0)
    · exact (congrArg (bit · 1) hfev).trans hev1
  · refine ⟨⟨?_, haborted, hsh, hcur, hcause, hpc, hconsec⟩, fun k hk => (hothers k hk).trans (hother k hk),
      hkeep 0 (by decide) hev0, hev1⟩
    rw [hst, if_neg (by omega)]

/-- State `u` differs from `s` in engine `e` alone of the engines, where the instruction at the PC has issued and no fault has counted:
a fault there is a fault of that instruction. -/
structure FaultsAt (s : State) (e : Nat) (u : State) : Prop where
  issued : (u.engine e).issued = (s.engine e).r.pc
  consec : (u.engine e).consec = (s.engine e).consec
  sh : (u.engine e).sh = (s.engine e).sh
  others : ∀ k, k ≠ e → u.engine k = s.engine k

theorem FaultsAt.faults {c : Instr} {s u : State} {e cause : Nat} (hu : FaultsAt s e u) (h8 : cause ≠ 8)
    (hc : exec c s = .next (u.engFault e cause)) : EngineFaults c s e cause := by
  obtain ⟨hissued, hcons, hush, hoth⟩ := hu
  obtain ⟨⟨hst, haborted, hsh, hcur, hcause, hpc, hconsec⟩, hothers, hev0, hev1⟩ := engFault_spec u e cause
  rw [hcons] at hst hconsec
  refine ⟨_, hc, hcause, hpc.trans hissued, hconsec, haborted, hsh.trans (by rw [hush]), hcur, hev0, hev1, fun hlt => ?_, fun hge => ?_,
    fun k hk => (hothers k hk).trans (hoth k hk)⟩
  · rw [hst, if_neg (by omega)]
  · rw [hst, if_pos (Or.inr hge)]

theorem IssuedWith.faultsAt {s u : State} {e : Nat} {op : EOp} {w : Word} {r : EngRegs} (hu : IssuedWith s e op w r u) :
    FaultsAt s e u := by
  obtain ⟨honly, hx⟩ := hu
  exact ⟨by rw [hx]; rfl, by rw [hx]; rfl, by rw [hx]; rfl, honly.2⟩

/-- A fault of the instruction in issue, before any effect of its own. -/
theorem faults_afterIssue {c : Instr} {s : State} {e cause : Nat} {op : EOp} {w : Word} (h8 : cause ≠ 8)
    (hc : exec c s = .next ((afterIssue s e op w).engFault e cause)) : EngineFaults c s e cause :=
  (afterIssue_issuedWith s e op w).faultsAt.faults h8 hc

/-! ## Accesses to memory (09 R302, R315, R325) -/

/-- The effective address of format M, read from the registers past the instruction in issue. -/
theorem memAddr_pastIssue (s : State) (e : Nat) (w : Word) (n : Nat) : memAddr (pastIssue s e) w n = effAddr s e w n := by
  have hoff : wOff w = if fld w 0 13 < 2 ^ 12 then (fld w 0 13 : Int) else fld w 0 13 - 2 ^ 13 := by
    rw [wOff, signedOf, fld_zero, Nat.mod_mod]; rfl
  rw [memAddr, effAddr, unsignedOf, pastIssue_sreg, hoff]
  generalize (if fld w 0 13 < 2 ^ 12 then (fld w 0 13 : Int) else fld w 0 13 - 2 ^ 13) * n = d
  omega

/-- The fault of an access of `n` bytes at address `a` of space `sp`: by its address, or by the owner of the shared bank. -/
def AccessFault (s : State) (e sp a n cause : Nat) : Prop :=
  addrFault sp a n = some cause ∨ (addrFault sp a n = none ∧ sp = 5 ∧ s.mayBank e a = false ∧ cause = fBANK)

theorem AccessFault.ne_eight {s : State} {e sp a n cause : Nat} (h : AccessFault s e sp a n cause) : cause ≠ 8 := by
  rcases h with h | ⟨-, -, -, rfl⟩
  · unfold addrFault fALIGN fRANGE at h
    split at h
    · obtain rfl := Option.some.inj h; decide
    · split at h
      · obtain rfl := Option.some.inj h; decide
      · exact absurd h.symm (Option.some_ne_none cause)
  · decide

theorem addrFault_none {sp a n : Nat} (ha : a % n = 0) (hs : a + n ≤ spaceSize sp) : addrFault sp a n = none := by
  rw [addrFault, if_neg (by omega), if_neg (by omega)]

/-- The order of the checks of an access: alignment, range, bank. -/
theorem access_faults {c : Instr} {s : State} {e sp a n size : Nat} (hsize : spaceSize sp = size)
    (hex : ∀ cause, AccessFault s e sp a n cause → EngineFaults c s e cause) :
    (a % n ≠ 0 → EngineFaults c s e 2) ∧ (a % n = 0 → size < a + n → EngineFaults c s e 3) ∧
      (a % n = 0 → a + n ≤ size → sp = 5 → s.mayBank e a = false → EngineFaults c s e 5) := by
  subst hsize
  refine ⟨fun hal => hex 2 (.inl ?_), fun hal hr => hex 3 (.inl ?_),
    fun hal hr h5 hb => hex 5 (.inr ⟨addrFault_none hal hr, h5, hb, rfl⟩)⟩
  · rw [addrFault, if_pos hal]; rfl
  · rw [addrFault, if_neg (fun h => h hal), if_pos hr]; rfl

/-- A shared access to a bank of another owner faults. -/
theorem shQueue_faults {u : State} {e a : Nat} (op : ShOp) (h : u.mayBank e a = false) : u.shQueue e a op = u.engFault e fBANK := by
  rw [State.shQueue, h, if_neg Bool.false_ne_true]

end Sys2Proof
end

section
/-! PROOF. Which instructions fault, and with which cause (09 R302, R315, R329, R333, R334). -/

namespace Sys2Proof

open Machine

/-! ## Loads, stores and atomics -/

/-- The sizes of the six spaces of format M (09 R315). -/
theorem spaceSize_getD {sp : Nat} (h : sp ≤ 5) : spaceSize sp = [0x8000, 0x4000, 0x800, 128, 128, 0x200000].getD sp 0 := by
  obtain rfl | rfl | rfl | rfl | rfl | rfl : sp = 0 ∨ sp = 1 ∨ sp = 2 ∨ sp = 3 ∨ sp = 4 ∨ sp = 5 := by omega
  all_goals rfl

/-! An access that its address or its bank refuses is a fault in the state after issue, whatever the instruction does otherwise. -/

section Access
variable {s : State} {e cause : Nat} {op : EOp} {w : Word} (h : Issues s e op w)
include h

theorem engLoad_faults (n : Nat) (sgn : Bool) (hf : AccessFault s e (wSp w) (effAddr s e w n) n cause) :
    s.engLoad e op n sgn = (afterIssue s e op w).engFault e cause := by
  rw [State.engLoad, engStep_afterIssue h]
  dsimp only
  rw [(afterIssue_issuedWith s e op w).regs, memAddr_pastIssue]
  rcases hf with hf | ⟨hf, h5, hb, rfl⟩
  · rw [hf]
  · simp only [hf]
    rw [if_pos h5]
    exact shQueue_faults _ hb

theorem engStore_faults (n : Nat) (f : EngRegs → Word → List Byte) (hf : AccessFault s e (wSp w) (effAddr s e w n) n cause) :
    s.engStore e op n f = (afterIssue s e op w).engFault e cause := by
  rw [State.engStore, engStep_afterIssue h]
  dsimp only
  rw [(afterIssue_issuedWith s e op w).regs, memAddr_pastIssue]
  rcases hf with hf | ⟨hf, h5, hb, rfl⟩
  · rw [hf]
  · simp only [hf]
    rw [if_neg (by rw [h5]; exact Bool.false_ne_true), if_pos h5]
    exact shQueue_faults _ hb

theorem engAtomic_faults (f : Nat → Word → ShOp) (hf : AccessFault s e 5 (sOf s e (wRa w)).toNat 4 cause) :
    s.engAtomic e op f = (afterIssue s e op w).engFault e cause := by
  rw [State.engAtomic, engStep_afterIssue h]
  dsimp only
  rw [(afterIssue_issuedWith s e op w).regs, pastIssue_sreg]
  rcases hf with hf | ⟨hf, -, hb, rfl⟩
  · rw [hf]
  · simp only [hf]
    exact shQueue_faults _ hb

/-- A store of a place that the engine may not write. -/
theorem engStore_readOnly (n : Nat) (f : EngRegs → Word → List Byte) (hf : addrFault (wSp w) (effAddr s e w n) n = none)
    (hw : (s.engine e).writable (wSp w) (effAddr s e w n) n = false) :
    s.engStore e op n f = (afterIssue s e op w).engFault e fWRITE_RO := by
  have hw' : ((afterIssue s e op w).engine e).writable (wSp w) (effAddr s e w n) n = false := by
    rw [afterIssue_engine]; exact hw
  rw [State.engStore, engStep_afterIssue h]
  dsimp only
  rw [(afterIssue_issuedWith s e op w).regs, memAddr_pastIssue]
  simp only [hf, hw']
  rw [if_pos (by rfl)]

end Access

theorem execLdv_faults {e : Fin 192} {s : State} {w : Word} {cause : Nat} (h : Issues s e.val .ldv w)
    (hf : AccessFault s e.val (wSp w) (effAddr s e.val w 16) 16 cause) :
    execLdv e s = .next ((afterIssue s e.val .ldv w).engFault e.val cause) := by
  rw [execLdv, engStep_afterIssue h]
  dsimp only
  rw [(afterIssue_issuedWith s e.val .ldv w).regs, memAddr_pastIssue]
  rcases hf with hf | ⟨hf, h5, hb, rfl⟩
  · rw [hf]
  · simp only [hf]
    rw [if_pos h5]
    exact congrArg _ (shQueue_faults _ hb)

/-- A legal load or store names a space of format M. -/
theorem legal_space {w : Word} :
    ∀ op ∈ [EOp.ldb, .ldbu, .ldh, .ldhu, .ldw, .ldv, .stb, .sth, .stw, .stv], legal op w = true → wSp w ≤ 5 := by
  simp +contextual [legal]

theorem le_four_cases {sp : Nat} (h : sp ≤ 4) : sp = 0 ∨ sp = 1 ∨ sp = 2 ∨ sp = 3 ∨ sp = 4 := by omega

/-- Places that a store may not write: IN, the header of a context, LOC outside the scratch range (09 R315). -/
theorem not_writable {x : Machine.Eng} {sp a n : Nat} (hsp : sp ≤ 4)
    (h : sp = 1 ∨ (3 ≤ sp ∧ a < 16) ∨ (sp = 0 ∧ ¬(x.img.scratchBase ≤ a ∧ a + n ≤ x.img.scratchBase + x.img.scratchLen))) :
    x.writable sp a n = false := by
  unfold Eng.writable
  rcases le_four_cases hsp with rfl | rfl | rfl | rfl | rfl <;> simp at h ⊢ <;> omega

/-- What an access in issue that its address or its bank refuses does (09 R302, R315). -/
theorem access_claim {c : Instr} {s : State} {e n : Nat} {op : EOp} {w : Word} (h : Issues s e op w)
    (hop : op ∈ [EOp.ldb, .ldbu, .ldh, .ldhu, .ldw, .ldv, .stb, .sth, .stw, .stv])
    (hex : ∀ cause, AccessFault s e (wSp w) (effAddr s e w n) n cause → exec c s = .next ((afterIssue s e op w).engFault e cause)) :
    let a := effAddr s e w n
    let size := [0x8000, 0x4000, 0x800, 128, 128, 0x200000].getD (wSp w) 0
    (a % n ≠ 0 → EngineFaults c s e 2) ∧ (a % n = 0 → size < a + n → EngineFaults c s e 3) ∧
      (a % n = 0 → a + n ≤ size → wSp w = 5 → s.mayBank e a = false → EngineFaults c s e 5) :=
  access_faults (spaceSize_getD (legal_space op hop h.isLegal))
    (fun cause hf => faults_afterIssue hf.ne_eight (hex cause hf))

/-- Aligned and within its space, an access has no fault of its address. -/
theorem addrFault_reachable {sp a n : Nat} (h : Reachable sp a n) : addrFault sp a n = none := by
  obtain ⟨hsp, hal, hr⟩ := h
  refine addrFault_none hal (Nat.le_trans hr (Nat.le_of_eq ?_))
  rcases le_four_cases hsp with rfl | rfl | rfl | rfl | rfl <;> rfl

theorem store_readOnly {c : Instr} {s : State} {e n : Nat} {op : EOp} {w : Word} (f : EngRegs → Word → List Byte)
    (hc : exec c s = .next (s.engStore e op n f)) (h : Issues s e op w) :
    let a := effAddr s e w n
    let x := s.engine e
    Reachable (wSp w) a n →
      (wSp w = 1 ∨ (3 ≤ wSp w ∧ a < 16) ∨
        (wSp w = 0 ∧ ¬(x.img.scratchBase ≤ a ∧ a + n ≤ x.img.scratchBase + x.img.scratchLen))) →
      EngineFaults c s e 4 := fun hr hro =>
  faults_afterIssue (by decide) (hc.trans (congrArg _ (engStore_readOnly h n f (addrFault_reachable hr) (not_writable hr.1 hro))))

theorem atomic_claim {c : Instr} {s : State} {e : Nat} {op : EOp} {w : Word} (f : Nat → Word → ShOp)
    (hc : exec c s = .next (s.engAtomic e op f)) (h : Issues s e op w) :
    let a := (sOf s e (wRa w)).toNat
    (a % 4 ≠ 0 → EngineFaults c s e 2) ∧ (a % 4 = 0 → 0x200000 < a + 4 → EngineFaults c s e 3) ∧
      (a % 4 = 0 → a + 4 ≤ 0x200000 → s.mayBank e a = false → EngineFaults c s e 5) := by
  obtain ⟨h2, h3, h5⟩ := access_faults (sp := 5) (a := (sOf s e (wRa w)).toNat) rfl
    (fun cause hf => faults_afterIssue hf.ne_eight (hc.trans (congrArg _ (engAtomic_faults h f hf))))
  exact ⟨h2, h3, fun hal hr => h5 hal hr rfl⟩

/-! ## PUSH (09 R329) -/

/-- PUSH admits FEATURE and CONTEXT records of 1 to 128 units. -/
theorem outOk_false {x : EngRegs} (h : (let byte := fun k => (mget 0 x.out k).toNat
      let len := byte 2 + 2 ^ 8 * byte 3
      (byte 0 ≠ tFEATURE ∧ byte 0 ≠ tCONTEXT) ∨ len = 0 ∨ 128 < len)) : x.outOk = false := by
  have htyp : fieldAt (bytesAt x.out 0 16) 0 1 = (mget 0 x.out 0).toNat := rfl
  have hlen : fieldAt (bytesAt x.out 0 16) 2 2 = (mget 0 x.out 2).toNat + 2 ^ 8 * (mget 0 x.out 3).toNat := rfl
  unfold EngRegs.outOk
  dsimp only at h ⊢
  rw [htyp, hlen]
  simp only [Bool.and_eq_false_iff, Bool.or_eq_false_iff, beq_eq_false_iff_ne, decide_eq_false_iff_not]
  omega

theorem push_faults {e : Fin 192} {s : State} {w : Word} (h : Issues s e.val .push w) (hbad : (pastIssue s e.val).outOk = false) :
    EngineFaults (.push e) s e.val 6 := by
  refine faults_afterIssue (op := .push) (w := w) (by decide) ((exec_issues h rfl).trans ?_)
  dsimp only
  rw [(afterIssue_issuedWith s e.val .push w).regs, hbad, if_pos (by rfl)]
  rfl

/-! ## Branches (09 R333) -/

/-- A destination outside the code. -/
def OutOfCode (s : State) (e : Nat) (d : Int) : Prop := d < 0 ∨ (s.engine e).img.codeWords ≤ d

section Branch
variable {c : Instr} {s u : State} {e : Nat} {op : EOp} {w : Word} {r : EngRegs} (hu : IssuedWith s e op w r u) {d : Int}
  (hout : OutOfCode s e d)
include hu hout

theorem IssuedWith.branchTo_faults (hc : exec c s = .next (u.branchTo e d)) : EngineFaults c s e 7 :=
  hu.faultsAt.faults (by decide) (hc.trans (congrArg _ (branchTo_outside (by rw [hu.2]; exact hout))))

theorem IssuedWith.takenBranch_faults (hc : exec c s = .next (u.takenBranch e d)) : EngineFaults c s e 7 := by
  have hv : FaultsAt s e (u.updEngine e (fun x => { x with busy := x.busy + 1 })) := by
    obtain ⟨hissued, hconsec, hsh, hothers⟩ := hu.faultsAt
    refine ⟨?_, ?_, ?_, fun k hk => (State.engine_updEngine_other _ _ hk).trans (hothers k hk)⟩ <;> rw [State.engine_updEngine]
    · exact hissued
    · exact hconsec
    · exact hsh
  exact hv.faults (by decide) (hc.trans (congrArg _ (branchTo_outside (by rw [State.engine_updEngine, hu.2]; exact hout))))

end Branch

section BranchFaults
variable {e : Fin 192} {s : State} {w : Word}

theorem br_faults (h : Issues s e.val .br w) (hout : OutOfCode s e.val (branchDest s e.val 26 w)) : EngineFaults (.br e) s e.val 7 := by
  have hu := afterIssue_issuedWith s e.val .br w
  exact hu.takenBranch_faults hout ((exec_issues h rfl).trans (by rw [hu.engTarget]))

theorem bp_faults (h : Issues s e.val .bp w) (hout : OutOfCode s e.val (branchDest s e.val 22 w))
    (hm : pcond (fld w 22 2) (pOf s e.val (wPd w)) = true) : EngineFaults (.bp e) s e.val 7 := by
  have hu := afterIssue_issuedWith s e.val .bp w
  exact hu.takenBranch_faults hout ((exec_issues h rfl).trans (by rw [hu.regs, pastIssue_preg, hm, if_pos rfl, hu.engTarget]))

theorem jal_faults (h : Issues s e.val .jal w) (hout : OutOfCode s e.val (branchDest s e.val 21 w)) : EngineFaults (.jal e) s e.val 7 := by
  have hu := afterIssue_issuedWith s e.val .jal w
  exact (hu.updRegs _).takenBranch_faults hout ((exec_issues h rfl).trans (by rw [hu.engTarget]))

theorem jr_faults (h : Issues s e.val .jr w) (hout : (s.engine e.val).img.codeWords ≤ (sOf s e.val (wRa w)).toNat) :
    EngineFaults (.jr e) s e.val 7 := by
  have hu := afterIssue_issuedWith s e.val .jr w
  exact hu.takenBranch_faults (.inr (Int.ofNat_le.mpr hout)) ((exec_issues h rfl).trans (by rw [hu.regs, pastIssue_sreg]))

/-- LOOP with a count other than 1 branches (09 R333). -/
theorem loop_faults (h : Issues s e.val .loop w) (hout : OutOfCode s e.val (branchDest s e.val 21 w)) (h0 : wRd w ≠ 0)
    (h1 : sOf s e.val (wRd w) ≠ 1) : EngineFaults (.loop e) s e.val 7 := by
  obtain ⟨u, hu, hex⟩ := exec_loop h
  have hcount : sOf s e.val (wRd w) - 1 ≠ 0 := fun hz => h1 (BitVec.sub_eq_iff_eq_add.mp hz)
  rw [loopCount, sreg_setS h0, if_pos hcount] at hex
  exact hu.branchTo_faults hout hex

end BranchFaults

/-! ## Words that spell nothing, and uncorrectable words (09 R320, R334) -/

theorem illegal_faults {e : Fin 192} {s : State} {w : Word} (hf : s.engFetch e.val = some w) (hb : s.imemBad e.val = none)
    (hd : engDecode w = none) (hbusy : (s.engine e.val).busy ≤ s.engCyc (e.val / 16)) :
    EngineFaults (.illegalInstruction e) s e.val 1 := by
  have hu : FaultsAt s e.val (s.updEngine e.val (fun x => { x with issued := x.r.pc })) :=
    ⟨by rw [State.engine_updEngine], by rw [State.engine_updEngine], by rw [State.engine_updEngine],
      fun k hk => State.engine_updEngine_other _ _ hk⟩
  refine hu.faults (by decide) (?_ : execIllegalInstruction e s = _)
  rw [execIllegalInstruction]
  simp only [hf, hb, hd, hbusy, and_self, if_true]
  rfl

theorem ueReport_only (s : State) (region unit off : Nat) (scrub : Bool) :
    Only [.regs, .host, .out] s (s.ueReport region unit off scrub) := by
  have hregs : ∀ (u : State) a₁ a₂ a₃ a₄ w₁ w₂ w₃ w₄,
      Only [.regs] s u → Only [.regs] s ((((u.rset a₁ w₁).rset a₂ w₂).rset a₃ w₃).rset a₄ w₄) :=
    fun u _ _ _ _ _ _ _ _ h => (((h.trans (rset_only u _ _)).trans (rset_only _ _ _)).trans (rset_only _ _ _)).trans (rset_only _ _ _)
  exact (((hregs _ _ _ _ _ _ _ _ _ (cnt_only s _)).trans (perf_only _ 9 1 region 1)).mono (by decide)).trans (evt_only _ _ _)

/-- An uncorrectable word stops the engine at once. -/
theorem imemFault_spec (s : State) (e off : Nat) :
    ((s.imemFault e off).engine e).cause = 8 ∧ ((s.imemFault e off).engine e).faultPc = (s.engine e).r.pc ∧
      ((s.imemFault e off).engine e).st = .fault ∧ EventSet (s.imemFault e off) (Reg.ISL_EVT (e / 16)) 0 ∧
      ∀ k, k ≠ e → (s.imemFault e off).engine k = s.engine k := by
  unfold State.imemFault fIMEM_ECC
  dsimp only
  obtain ⟨⟨hst, -, -, -, hcause, hpc, -⟩, hothers, hev0, -⟩ :=
    engFault_spec ((s.ueReport 0 e off false).updEngine e (fun x => { x with issued := x.r.pc })) e 8
  refine ⟨hcause, hpc.trans ?_, hst.trans (if_pos (.inl rfl)), hev0, fun k hk => (hothers k hk).trans ?_⟩
  · rw [State.engine_updEngine, (ueReport_only s 0 e off false).engine_eq (by decide)]
  · rw [State.engine_updEngine_other _ _ hk, (ueReport_only s 0 e off false).engine_eq (by decide)]

/-- Whatever instruction an uncorrectable word is taken for. -/
theorem engStep_imemBad {s : State} {e off : Nat} {w : Word} (hf : s.engFetch e = some w) (hb : s.imemBad e = some off) (op : EOp)
    (f : State → Word → State) : s.engStep e op f = s.imemFault e off := by
  simp only [State.engStep, hf, hb]

theorem execIllegal_imemBad {e : Fin 192} {s : State} {off : Nat} {w : Word} (hf : s.engFetch e.val = some w)
    (hb : s.imemBad e.val = some off) : exec (.illegalInstruction e) s = .next (s.imemFault e.val off) := by
  change execIllegalInstruction e s = _
  simp only [execIllegalInstruction, hf, hb]

/-- Settles O6: each refused instruction is a fault in the state after its issue, and a fault leaves what R334 and R335 say. -/
theorem engineFaultCauses : Obligations.EngineFaultCauses := by
  unfold Obligations.EngineFaultCauses
  intro e s w
  refine ⟨?_, ?_, ?_, fun h hbad => push_faults h (outOk_false hbad), ?_, illegal_faults, fun hf hb => ?_⟩
  · simp only [List.forall_mem_cons, List.not_mem_nil, false_implies, implies_true, and_true]
    exact ⟨fun h => access_claim h (by simp) (fun _ hf => congrArg _ (engLoad_faults h 1 true hf)),
      fun h => access_claim h (by simp) (fun _ hf => congrArg _ (engLoad_faults h 1 false hf)),
      fun h => access_claim h (by simp) (fun _ hf => congrArg _ (engLoad_faults h 2 true hf)),
      fun h => access_claim h (by simp) (fun _ hf => congrArg _ (engLoad_faults h 2 false hf)),
      fun h => access_claim h (by simp) (fun _ hf => congrArg _ (engLoad_faults h 4 false hf)),
      fun h => access_claim h (by simp) (fun _ hf => execLdv_faults h hf),
      fun h => access_claim h (by simp) (fun _ hf => congrArg _ (engStore_faults h 1 _ hf)),
      fun h => access_claim h (by simp) (fun _ hf => congrArg _ (engStore_faults h 2 _ hf)),
      fun h => access_claim h (by simp) (fun _ hf => congrArg _ (engStore_faults h 4 _ hf)),
      fun h => access_claim h (by simp) (fun _ hf => congrArg _ (engStore_faults h 16 _ hf))⟩
  · simp only [List.forall_mem_cons, List.not_mem_nil, false_implies, implies_true, and_true]
    exact ⟨fun h => atomic_claim _ rfl h, fun h => atomic_claim _ rfl h⟩
  · simp only [List.forall_mem_cons, List.not_mem_nil, false_implies, implies_true, and_true]
    exact ⟨store_readOnly _ rfl, store_readOnly _ rfl, store_readOnly _ rfl, store_readOnly _ rfl⟩
  · have hmeets := pcond_iff (c := fld w 22 2) (Nat.mod_lt _ (by decide)) (pOf s e.val (fld w 24 2))
    exact ⟨br_faults, fun h hout hm => bp_faults h hout (hmeets.mpr hm), jal_faults, jr_faults, loop_faults⟩
  · obtain ⟨off, hoff⟩ := Option.ne_none_iff_exists'.mp hb
    have hex : ∀ op f, (Host.Outcome.next (s.engStep e.val op f) : Res) = .next (s.imemFault e.val off) := fun op f =>
      congrArg _ (engStep_imemBad hf hoff op f)
    have hexr : ∀ op f, (Host.Outcome.next (s.engRegs e.val op f) : Res) = .next (s.imemFault e.val off) := fun op f => hex op _
    have hspec := imemFault_spec s e.val off
    simp only [List.forall_mem_cons, List.not_mem_nil, false_implies, implies_true, and_true]
    exact ⟨⟨_, execIllegal_imemBad hf hoff, hspec⟩, ⟨_, hexr _ _, hspec⟩, ⟨_, hex _ _, hspec⟩, ⟨_, hexr _ _, hspec⟩,
      ⟨_, hex _ _, hspec⟩, ⟨_, hex _ _, hspec⟩⟩

end Sys2Proof
end

section
/-! PROOF. EMIT_CONFIGURE and the values that pend for a spread-period boundary (19 R615, R616, R625). -/

namespace Sys2Proof

open Machine

/-! ## A slot of 0 ticks under a tick count that begins later

With a slot of 0 ticks the spread period is 0 ticks long, and the latest boundary is the tick from which the device counts. When that tick
is still to come, so is the boundary: it takes a value that has just been written. -/

/-- M4's EMIT_CONFIGURE with its token, 77: emitter 0, level 5 and on-count 7, without SYNC. -/
def levelOnCountEntry : List Byte :=
  leBytes 2 0x0E01 ++ leBytes 1 1 ++ leBytes 1 6 ++ leBytes 2 9 ++ leBytes 2 0 ++ leBytes 8 77 ++
    (leBytes 1 1 ++ leBytes 2 6 ++ leBytes 1 0 ++ leBytes 4 0 ++ leBytes 4 0 ++ leBytes 4 5 ++ leBytes 4 7 ++ leBytes 28 0)

/-- At tick 2^20, one tick before the count begins, M4 owns the running device and its EMIT_CONFIGURE is in turn. A slot of 0 ticks
pends on emitter 0, whose slot in effect is 16. -/
def slotZeroPends : State :=
  { ((State.reset.updStart (fun x => { x with step := 0 })).updOwn (fun _ =>
        { Own.reset with owner := some 4, prio := 3, token := 77, leaseMs := 50, leaseEnd := 2000000, issued := [77] })).updEmitter 0
      (fun x => { x with slotPend := some 0 }) with
    qtz := { Quartz.reset with now := 0x100000, pll := 0x100001 }
    cmd := { Cmd.reset with
      q := mput CmdQ.reset [] 4 { CmdQ.reset with tail := 1 }
      sram := putBytes [] (slotAddr 4 0) levelOnCountEntry } }

theorem slotZeroPends_admitted : Admitted slotZeroPends 4 0x0E01 := by
  unfold Admitted
  decide +kernel

/-- The command has its length, its parameters are in range, and no posted write waits. -/
theorem slotZeroPends_params :
    let e := entryOf slotZeroPends 4
    e.len = 6 ∧ slotZeroPends.emitOk e = true ∧ mget none slotZeroPends.bus.posted 0x50000 = none := by decide +kernel

/-- It selects emitter 0 and the level 5, which EM_IMAX admits. -/
theorem slotZeroPends_level :
    let e := entryOf slotZeroPends 4
    (e.p 0 1).testBit 0 = true ∧ (e.p 1 2).testBit 1 = true ∧ e.p 12 4 = 5 := by decide +kernel

/-- No emitter has a ceiling below the level. -/
theorem slotZeroPends_no_excess :
    ∀ k, k < 8 → ¬ slotZeroPends.rf (Reg.EM_IMAX k) 0 10 < (entryOf slotZeroPends 4).p 12 4 := by decide +kernel

/-- The write of the level takes the boundary with the slot of 16 ticks, which puts the slot of 0 into effect; the write of the on-count
then takes a boundary that lies after the level was written, and with it the level. -/
theorem slotZeroPends_level_applied :
    ((slotZeroPends.runCmd cEmitConfigure 4).emitter 0).levelPend = none ∧
      ((slotZeroPends.runCmd cEmitConfigure 4).emitter 0).code = 5 := by decide +kernel

/-- Neither a reply nor the end of a turn touches an emitter. -/
theorem replyAt_keepTurn_emitter (u : State) (tk : Ticket) (st : Nat) (res : List Byte) (ts : TS48) (n : Nat) :
    ((u.replyAt tk st res ts).keepTurn tk).emitter n = u.emitter n :=
  congrArg (fun x : Emit => mget Emitter.reset x.ems n)
    (((keepTurn_only _ tk).2 .emit (by decide)).trans ((replyAt_only u tk st res ts).2 .emit (by decide)))

/-- Refutes O50: the clause on EMIT_CONFIGURE ranges over every state, so also over one whose tick count begins later than the current
tick and in which a slot of 0 ticks pends. There the write of EM_ONCOUNT takes a boundary that lies ahead and applies the level of the
same command, so that the level does not pend after it. EM_SLOT stores at least 16 (R623), and the device counts its ticks from one
that has passed; the statement excludes neither. -/
theorem not_emitters : ¬ Obligations.Emitters := by
  unfold Obligations.Emitters
  intro h
  obtain ⟨-, -, -, -, -, -, -, -, -, hconfigure⟩ := h 0 0 [] 4 slotZeroPends
  obtain ⟨hlen, hok, hidle⟩ := slotZeroPends_params
  obtain ⟨hmask, hselect, hlevel⟩ := slotZeroPends_level
  obtain ⟨-, haccepted⟩ := hconfigure slotZeroPends_admitted hlen hok
  obtain ⟨t, ht, u, res, ts, htu, -, -, -, heach⟩ :=
    haccepted (fun ⟨_, k, ⟨hk, _⟩, hlow⟩ => slotZeroPends_no_excess k hk hlow) hidle
  obtain ⟨-, hpend, -⟩ := heach 0 ⟨by decide, hmask⟩
  have hrun : slotZeroPends.runCmd cEmitConfigure 4 = t := Host.Outcome.next.inj ht
  have hpends : (t.emitter 0).levelPend = some 5 := by
    rw [htu, replyAt_keepTurn_emitter, hpend hselect]
    exact congrArg some hlevel
  obtain ⟨happlied, -⟩ := slotZeroPends_level_applied
  rw [hrun, hpends] at happlied
  exact absurd happlied (by decide)

end Sys2Proof
end

section
/-! PROOF. Byte strings: the fields of a string, and what a write over a string leaves (00 R11). -/

namespace Sys2Proof

open Machine

@[simp] theorem length_leBytes (n v : Nat) : (leBytes n v).length = n := by
  induction n generalizing v with
  | zero => rfl
  | succ n ih => rw [leBytes, List.length_cons, ih]

@[simp] theorem length_fitBytes (n : Nat) (l : List Byte) : (fitBytes n l).length = n := by
  simp only [fitBytes, List.length_append, List.length_take, List.length_replicate]
  omega

theorem leNat_leBytes (n v : Nat) : leNat (leBytes n v) = v % 256 ^ n := by
  induction n generalizing v with
  | zero => rw [Nat.pow_zero, Nat.mod_one]; rfl
  | succ n ih => rw [leBytes, leNat, ih, BitVec.toNat_ofNat, Nat.pow_succ' (m := 256), Nat.mod_mul]

section
variable {l a b v : List Byte} {off i n x : Nat}

theorem window_append_left (h : i + n ≤ a.length) : ((a ++ b).drop i).take n = (a.drop i).take n := by
  rw [List.drop_append_of_le_length (by omega), List.take_append_of_le_length (by rw [List.length_drop]; omega)]

theorem window_append_right (h : a.length = i) : ((a ++ b).drop i).take n = b.take n := by rw [← h, List.drop_left]

theorem window_fitBytes (hn : i + n ≤ off) (hl : i + n ≤ l.length) :
    ((fitBytes off l).drop i).take n = (l.drop i).take n := by
  rw [fitBytes, window_append_left (by rw [List.length_take]; omega), List.drop_take, List.take_take, Nat.min_eq_left (by omega)]

theorem length_overBytes (h : off + v.length ≤ l.length) : (overBytes l off v).length = l.length := by
  simp only [overBytes, List.length_append, length_fitBytes, List.length_drop]
  omega

theorem window_overBytes_same (h : v.length = n) : ((overBytes l off v).drop off).take n = v := by
  rw [overBytes, List.append_assoc, window_append_right (length_fitBytes off l), List.take_left' h]

theorem window_overBytes_before (h : i + n ≤ off) (hl : off ≤ l.length) :
    ((overBytes l off v).drop i).take n = (l.drop i).take n := by
  rw [overBytes, List.append_assoc, window_append_left (by rw [length_fitBytes]; omega), window_fitBytes h (by omega)]

theorem fieldAt_overBytes_same (h : x < 256 ^ n) : fieldAt (overBytes l off (leBytes n x)) off n = x := by
  rw [fieldAt, window_overBytes_same (length_leBytes n x), leNat_leBytes, Nat.mod_eq_of_lt h]

theorem fieldAt_overBytes_before (h : i + n ≤ off) (hl : off ≤ l.length) :
    fieldAt (overBytes l off v) i n = fieldAt l i n := congrArg leNat (window_overBytes_before h hl)

theorem fieldAt_append_left (h : i + n ≤ a.length) : fieldAt (a ++ b) i n = fieldAt a i n :=
  congrArg leNat (window_append_left h)

end

end Sys2Proof
end

section
/-! PROOF. The boot flash: what is read after an area has been erased and programmed (20 R635). -/

namespace Sys2Proof

open Machine

section
variable {m m' : SMap Byte} {a b c n : Nat} {l : List Byte}

@[simp] theorem length_flashBytes (m : SMap Byte) (a n : Nat) : (flashBytes m a n).length = n := by
  induction n generalizing a with
  | zero => rfl
  | succ n ih => rw [flashBytes, List.length_cons, ih]

/-- A read depends on the bytes of its range alone. -/
theorem flashBytes_congr (h : ∀ j, a ≤ j → j < a + n → mget erased m j = mget erased m' j) : flashBytes m a n = flashBytes m' a n := by
  induction n generalizing a with
  | zero => rfl
  | succ n ih =>
    rw [flashBytes, flashBytes, h a (Nat.le_refl a) (by omega), ih (fun j h1 h2 => h j (by omega) (by omega))]

theorem mget_flashPut_other {j : Nat} (h : j < a ∨ a + l.length ≤ j) : mget erased (flashPut m a l) j = mget erased m j := by
  induction l generalizing m a with
  | nil => rfl
  | cons x l ih =>
    rw [List.length_cons] at h
    rw [flashPut, ih (by omega), mget_mput_other erased m x (by omega)]

/-- Bytes programmed are read back. -/
theorem flashBytes_flashPut_same (m : SMap Byte) (a : Nat) (l : List Byte) : flashBytes (flashPut m a l) a l.length = l := by
  induction l generalizing m a with
  | nil => rfl
  | cons x l ih =>
    rw [List.length_cons, flashBytes, flashPut, ih, mget_flashPut_other (.inl (Nat.lt_succ_self a)), mget_mput_same]

theorem mget_flashErase_other {j : Nat} (h : j < a ∨ a + n ≤ j) : mget erased (flashErase m a n) j = mget erased m j := by
  induction m with
  | nil => rfl
  | cons e m ih =>
    obtain ⟨k, x⟩ := e
    rw [flashErase, List.filter_cons]
    by_cases hk : j = k
    · subst hk
      simp [h, mget]
    · split <;> simp only [mget, if_neg hk] <;> exact ih

/-- Erasing an area and programming into it leaves what lies outside it. -/
theorem flashBytes_reprogrammed_other (hl : l.length ≤ n) (h : b + c ≤ a ∨ a + n ≤ b) :
    flashBytes (flashPut (flashErase m a n) a l) b c = flashBytes m b c :=
  flashBytes_congr fun j _ _ => by rw [mget_flashPut_other (by omega), mget_flashErase_other (by omega)]

end

end Sys2Proof
end

section
/-! PROOF. Commands with parameters out of range, and the time while a reply is written (03 R84, R90). -/

namespace Sys2Proof

open Machine

/-! ## Checks of a command -/

theorem taken_mode (s : State) (m : Nat) : (taken s m).triad.mode = s.triad.mode := by
  rw [taken_eq, (selfChecked_only _).2 .triad (by decide)]
  split
  · rw [(renewLease_only _).2 .triad (by decide)]; rfl
  · rfl

/-- An admitted command with a right length comes to steps 5 to 8 on this device (03 R90). -/
theorem runCmd_execCmd {s : State} {m : Nat} {c : CmdSpec} (h : Admitted s m c.op) (hl : c.lenOk (entryOf s m) = true) :
    s.runCmd c m = ((s.takeCmd m).execCmd c m (ticketOf s m) (entryOf s m)).keepTurn (ticketOf s m) := by
  obtain ⟨hturn, htarget, -⟩ := h
  have hjudge : (s.takeCmd m).judgeCmd c m (ticketOf s m) (entryOf s m) (s.entryBytes m (entryOf s m)) =
      (s.takeCmd m).execCmd c m (ticketOf s m) (entryOf s m) := by
    unfold State.judgeCmd
    rw [hl, if_neg (by decide), if_pos (Or.inl htarget)]
  unfold State.runCmd
  rw [if_pos hturn]
  exact congrArg (State.keepTurn · (ticketOf s m)) hjudge

/-- An admitted command with a right length and parameters out of range is answered BAD_PARAM (03 R90, step 6). -/
theorem runCmd_badParam {s : State} {m : Nat} {c : CmdSpec} (h : Admitted s m c.op) (hl : c.lenOk (entryOf s m) = true)
    (hp : c.paramOk (taken s m) (entryOf s m) = false) :
    s.runCmd c m = ((taken s m).reply (ticketOf s m) stBAD_PARAM []).keepTurn (ticketOf s m) := by
  rw [runCmd_execCmd h hl]
  obtain ⟨-, -, -, -, howner⟩ := h
  have htoken : (s.takeCmd m).ownerToken m (entryOf s m).token = s.ownerToken m (entryOf s m).token :=
    ownerToken_congr ((takeCmd_only s m).2 .own (by decide)) ((takeCmd_only s m).2 .qtz (by decide)) m _
  have hadmits : ¬(!(observerOps.contains c.op) && !(s.takeCmd m).ownerToken m (entryOf s m).token) = true := by
    rw [htoken]
    cases hb : observerOps.contains c.op with
    | true => exact Bool.false_ne_true
    | false => rw [howner hb]; exact Bool.false_ne_true
  unfold State.execCmd
  rw [if_neg hadmits, ← taken_eq]
  dsimp only
  rw [hp, if_pos (by decide)]

/-! ## Time -/

theorem Only.now_eq {l : List Part} {s t : State} (h : Only l s t) (hq : Part.qtz ∉ l) : t.now = s.now :=
  congrArg Quartz.now (h.2 .qtz hq)

/-- A departing message leaves its stamps in Quartz, not the time. -/
theorem stampOut_now (s : State) (p : Nat) (f : Frame) : (s.stampOut p f).now = s.now := by
  unfold State.stampOut
  split
  · rfl
  · split
    · split
      · rfl
      · exact (evt_only s _ _).now_eq (by decide)
    · rfl

theorem laneTick_now (u : State) (p : Nat) :
    (match u.timingLane p with
      | some l => u.updLane l (fun x => { x with frameTick := u.now })
      | none => u).now = u.now := by
  split <;> rfl

theorem depart_now (v : State) (p : Nat) (g : Frame) (b : List Byte) :
    (((((v.stampOut p g).emitOut (.frame p b)).cnt (Reg.LINK_FRAMES_TX p)).perf_ 5 0 (4 * p + g.vc) b.length).meter (8 + p) b.length).now =
      v.now :=
  calc _ = (((v.stampOut p g).emitOut (.frame p b)).cnt (Reg.LINK_FRAMES_TX p)).now := (perf_only _ 5 0 _ _).now_eq (by decide)
    _ = (v.stampOut p g).now := (cnt_only _ _).now_eq (by decide)
    _ = v.now := stampOut_now v p g

theorem transmit_now (s : State) (p : Nat) (f : Frame) : (s.transmit p f).now = s.now := by
  unfold State.transmit
  exact (depart_now _ p _ _).trans (laneTick_now _ p)

theorem pumpN_now (n : Nat) (s : State) (p : Nat) : (State.pumpN n s p).now = s.now := by
  induction n generalizing s with
  | zero => rfl
  | succ n ih =>
    unfold State.pumpN
    split
    · rfl
    · exact (ih _).trans (transmit_now s p _)

theorem sendMsg_now (s : State) (p vc kind : Nat) (l : List Byte) : (s.sendMsg p vc kind l).now = s.now := by
  unfold State.sendMsg State.pump
  dsimp only
  split
  · exact pumpN_now _ _ p
  · rfl

theorem rpAdvance_now (s : State) (m : Nat) : (s.rpAdvance m).now = s.now := (evt_only _ _ _).now_eq (by decide)

theorem ringReply_now (u : State) (m a wb : Nat) (b l : List Byte) :
    (((u.hostWrite m a b).rpAdvance m).hostWrite m wb l).now = u.now :=
  calc _ = ((u.hostWrite m a b).rpAdvance m).now := (hostWrite_only _ m wb l).now_eq (by decide)
    _ = (u.hostWrite m a b).now := rpAdvance_now _ m
    _ = u.now := (hostWrite_only u m a b).now_eq (by decide)

theorem putReply_now (s : State) (r : Reply) : (s.putReply r).now = s.now := by
  unfold State.putReply
  refine Eq.trans ?_ ((perfM_only s 3 (if r.status = stOK then 1 else 2) none r.tk.m none 1).now_eq (by decide))
  generalize hu : s.perfM 3 (if r.status = stOK then 1 else 2) none r.tk.m none 1 = u
  dsimp only
  rw [hu]
  split
  · split
    · exact ((msix_only _ _ _).now_eq (by decide)).trans (ringReply_now u _ _ _ _ _)
    · exact ringReply_now u _ _ _ _ _
  · split
    · exact rpAdvance_now _ _
    · split
      · split
        · exact sendMsg_now _ _ _ _ _
        · rfl
      · rfl

theorem reply_now (s : State) (tk : Ticket) (st : Nat) (res : List Byte) : (s.reply tk st res).now = s.now := by
  unfold State.reply State.writeReply
  split
  · rfl
  · split
    · exact putReply_now s _
    · rfl

@[simp] theorem reply_sec (s : State) (tk : Ticket) (st : Nat) (res : List Byte) : (s.reply tk st res).sec = s.sec :=
  (reply_only s tk st res).2 .sec (by decide)

@[simp] theorem keepTurn_sec (s : State) (tk : Ticket) : (s.keepTurn tk).sec = s.sec := (keepTurn_only s tk).2 .sec (by decide)

end Sys2Proof
end

section
/-! PROOF. The boot flash's directory: what a new copy holds, and what writing one leaves (20 R636, R648). -/

namespace Sys2Proof

open Machine

/-- A directory copy but for its CRC-32: its length and its magic (20 R636). -/
def HasDirectoryForm (d : List Byte) : Prop := d.length = 4096 ∧ fieldAt d 0 4 = 0x52494452

theorem HasDirectoryForm.overBytes {d v : List Byte} {off : Nat} (h : HasDirectoryForm d) (h4 : 4 ≤ off) (hv : off + v.length ≤ 4096) :
    HasDirectoryForm (overBytes d off v) := by
  obtain ⟨hlen, hmagic⟩ := h
  exact ⟨(length_overBytes (by omega)).trans hlen, (fieldAt_overBytes_before h4 (by omega)).trans hmagic⟩

theorem dirCopy_form {s : State} {k : Nat} {d : List Byte} (h : s.dirCopy k = some d) : HasDirectoryForm d := by
  unfold State.dirCopy at h
  dsimp only at h
  split at h
  next hgood =>
    obtain ⟨hmagic, -⟩ := hgood
    rw [← Option.some.inj h]
    exact ⟨length_flashBytes _ _ _, hmagic⟩
  next => exact absurd h nofun

theorem directory_form {s : State} {k : Nat} {d : List Byte} (h : s.directory = some (k, d)) : HasDirectoryForm d := by
  unfold State.directory at h
  split at h
  next => exact absurd h nofun
  next a ha hb => cases h; exact dirCopy_form ha
  next b ha hb => cases h; exact dirCopy_form hb
  next a b ha hb =>
    split at h
    · cases h; exact dirCopy_form hb
    · cases h; exact dirCopy_form ha

/-- The directory that a new copy goes on from: the valid one, or one without a slot. -/
def oldDirectory (s : State) : List Byte :=
  match s.directory with
  | some (_, d) => d
  | none => overBytes (List.replicate 4096 0) 0 (leBytes 4 0x52494452)

theorem oldDirectory_form (s : State) : HasDirectoryForm (oldDirectory s) := by
  unfold oldDirectory
  split
  next h => exact directory_form h
  next =>
    have hzeros : (List.replicate 4096 (0 : Byte)).length = 4096 := List.length_replicate
    exact ⟨(length_overBytes (by rw [hzeros, length_leBytes]; omega)).trans hzeros, fieldAt_overBytes_same (by decide)⟩

/-- A directory with the next sequence number, the slot's valid bit and, when asked, the active slot. -/
def directoryHead (d : List Byte) (slot : Nat) (activate : Bool) : List Byte :=
  let numbered := overBytes d 4 (leBytes 4 (fieldAt d 4 4 + 1))
  let active := overBytes numbered 8 (leBytes 1 (if activate then slot else fieldAt numbered 8 1))
  overBytes active 9 (leBytes 1 (fieldAt active 9 1 ||| 2 ^ slot))

/-- A directory with a slot's measurement, and the CRC-32 of what comes before it. -/
def sealDirectory (d : List Byte) (slot : Nat) (meas : List Byte) : List Byte :=
  let measured := overBytes d (16 + 32 * slot) (fitBytes 32 meas)
  overBytes measured 4092 (leBytes 4 (crc32 (measured.take 4092)))

theorem newDirectory_eq (s : State) (slot : Nat) (meas : List Byte) (activate : Bool) :
    s.newDirectory slot meas activate = sealDirectory (directoryHead (oldDirectory s) slot activate) slot meas := by
  unfold State.newDirectory oldDirectory sealDirectory directoryHead
  generalize overBytes (List.replicate 4096 0) 0 _ = empty
  cases s.directory <;> rfl

section
variable {d meas : List Byte} {slot : Nat} (hd : HasDirectoryForm d) (hslot : slot < 2)

include hd in
theorem directoryHead_form (slot : Nat) (activate : Bool) : HasDirectoryForm (directoryHead d slot activate) :=
  ((hd.overBytes (by decide) (by rw [length_leBytes]; decide)).overBytes (by decide) (by rw [length_leBytes]; decide)).overBytes
    (by decide) (by rw [length_leBytes]; decide)

include hslot in
theorem directoryHead_valid (activate : Bool) : slotValid (directoryHead d slot activate) slot = true := by
  unfold slotValid directoryHead
  dsimp only
  generalize fieldAt (overBytes _ 8 _) 9 1 = valid
  rw [fieldAt, window_overBytes_same (length_leBytes 1 _), leNat_leBytes, Nat.pow_one, show 256 = 2 ^ 8 from rfl,
    Nat.testBit_mod_two_pow, Nat.testBit_or, Nat.testBit_two_pow_self, Bool.or_true, Bool.and_true]
  exact decide_eq_true (by omega)

include hd hslot in
theorem directoryHead_active : fieldAt (directoryHead d slot true) 8 1 = slot := by
  obtain ⟨hlen, -⟩ := (hd.overBytes (v := leBytes 4 (fieldAt d 4 4 + 1)) (off := 4) (by decide) (by rw [length_leBytes]; decide)).overBytes
    (v := leBytes 1 slot) (off := 8) (by decide) (by rw [length_leBytes]; decide)
  unfold directoryHead
  dsimp only
  rw [if_pos rfl, fieldAt_overBytes_before (by decide) (by rw [hlen]; decide), fieldAt_overBytes_same (by omega)]

theorem crc32_lt (l : List Byte) : crc32 l < 256 ^ 4 := Nat.lt_of_le_of_lt (Nat.sub_le _ _) (by decide)

include hd hslot

theorem measured_form : HasDirectoryForm (overBytes d (16 + 32 * slot) (fitBytes 32 meas)) :=
  hd.overBytes (by omega) (by rw [length_fitBytes]; omega)

theorem sealDirectory_form : HasDirectoryForm (sealDirectory d slot meas) :=
  (measured_form hd hslot).overBytes (by decide) (Nat.le_of_eq (congrArg (4092 + ·) (length_leBytes 4 _)))

theorem sealDirectory_crc : crc32 ((sealDirectory d slot meas).take 4092) = fieldAt (sealDirectory d slot meas) 4092 4 := by
  obtain ⟨hlen, -⟩ := measured_form (meas := meas) hd hslot
  have hkept := window_overBytes_before (l := overBytes d (16 + 32 * slot) (fitBytes 32 meas)) (i := 0) (n := 4092) (off := 4092)
    (v := leBytes 4 (crc32 ((overBytes d (16 + 32 * slot) (fitBytes 32 meas)).take 4092))) (by decide) (by rw [hlen]; decide)
  rw [List.drop_zero, List.drop_zero] at hkept
  unfold sealDirectory
  dsimp only
  rw [hkept, fieldAt_overBytes_same (crc32_lt _)]

/-- The measurement stands in the slot's entry. -/
theorem sealDirectory_meas : ((sealDirectory d slot meas).drop (16 + 32 * slot)).take 32 = fitBytes 32 meas := by
  obtain ⟨hlen, -⟩ := measured_form (meas := meas) hd hslot
  unfold sealDirectory
  dsimp only
  rw [window_overBytes_before (by omega) (by rw [hlen]; decide), window_overBytes_same (length_fitBytes 32 meas)]

/-- The fields before the slots' entries stay. -/
theorem sealDirectory_head {i n : Nat} (h : i + n ≤ 16) : fieldAt (sealDirectory d slot meas) i n = fieldAt d i n := by
  obtain ⟨hlen, -⟩ := measured_form (meas := meas) hd hslot
  obtain ⟨hlen', -⟩ := hd
  unfold sealDirectory
  dsimp only
  rw [fieldAt_overBytes_before (by omega) (by rw [hlen]; decide), fieldAt_overBytes_before (by omega) (by omega)]

end

/-- A directory copy that stands whole in the flash, with its magic and CRC-32, is that copy. -/
theorem dirCopy_of_flash {s : State} {k : Nat} {d : List Byte} (hflash : flashBytes s.sec.flash (0x1000 * k) 4096 = d)
    (hform : HasDirectoryForm d) (hcrc : crc32 (d.take 4092) = fieldAt d 4092 4) : s.dirCopy k = some d := by
  unfold State.dirCopy
  dsimp only
  rw [hflash]
  exact if_pos ⟨hform.2, hcrc⟩

/-- What a directory says after a slot has been programmed with an image of the measurement `meas` (20 R648). -/
def Directs (d : List Byte) (slot : Nat) (meas : List Byte) (activate : Bool) : Prop :=
  slotValid d slot = true ∧ (d.drop (16 + 32 * slot)).take 32 = fitBytes 32 meas ∧ (activate = true → fieldAt d 8 1 = slot)

theorem newDirectory_directs (s : State) {slot : Nat} (meas : List Byte) (activate : Bool) (hslot : slot < 2) :
    Directs (s.newDirectory slot meas activate) slot meas activate := by
  have hhead := directoryHead_form (oldDirectory_form s) slot activate
  rw [newDirectory_eq]
  refine ⟨?_, sealDirectory_meas hhead hslot, fun ha => ?_⟩
  · rw [slotValid, sealDirectory_head hhead hslot (by decide)]
    exact directoryHead_valid hslot activate
  · rw [sealDirectory_head hhead hslot (by decide), ha, directoryHead_active (oldDirectory_form s) hslot]

/-- The place of the directory copy that a new one replaces. -/
def olderCopy (s : State) : Nat :=
  match s.directory with
  | some (k, _) => 1 - k
  | none => 0

theorem olderCopy_le (s : State) : olderCopy s ≤ 1 := by
  unfold olderCopy
  split <;> omega

theorem writeDirectory_flash (s : State) (slot : Nat) (meas : List Byte) (activate : Bool) :
    (s.writeDirectory slot meas activate).sec.flash =
      flashPut (flashErase s.sec.flash (0x1000 * olderCopy s) 0x1000) (0x1000 * olderCopy s) (s.newDirectory slot meas activate) := by
  unfold State.writeDirectory olderCopy
  cases s.directory <;> rfl

section
variable (s : State) {slot : Nat} (meas : List Byte) (activate : Bool) (hslot : slot < 2)
include hslot

theorem newDirectory_form : HasDirectoryForm (s.newDirectory slot meas activate) :=
  newDirectory_eq s slot meas activate ▸ sealDirectory_form (directoryHead_form (oldDirectory_form s) slot activate) hslot

theorem writeDirectory_dirCopy :
    (s.writeDirectory slot meas activate).dirCopy (olderCopy s) = some (s.newDirectory slot meas activate) := by
  have hform := newDirectory_form s meas activate hslot
  refine dirCopy_of_flash ?_ hform ?_
  · rw [writeDirectory_flash, ← hform.1]
    exact flashBytes_flashPut_same _ _ _
  · rw [newDirectory_eq]
    exact sealDirectory_crc (directoryHead_form (oldDirectory_form s) slot activate) hslot

/-- Writing the directory leaves the flash beyond its two copies. -/
theorem writeDirectory_beyond {a : Nat} (n : Nat) (ha : 0x2000 ≤ a) :
    flashBytes (s.writeDirectory slot meas activate).sec.flash a n = flashBytes s.sec.flash a n := by
  have hk := olderCopy_le s
  rw [writeDirectory_flash]
  exact flashBytes_reprogrammed_other (Nat.le_of_eq (newDirectory_form s meas activate hslot).1) (.inr (by omega))

end

end Sys2Proof
end

section
/-! PROOF. FW_UPDATE: which image and slot it takes, and what its end leaves in flash and fuses (20 R648). -/

namespace Sys2Proof

open Machine

/-! ## The command -/

/-- The target is the slot that runs, or a bank of the source is not the command's to read (20 R648). -/
def UpdateBarred (s : State) (e : Entry) : Prop :=
  s.fwTarget (e.p 2 1) = s.sec.start.fw.slot ∨ ∃ b ∈ srcBanks e,
    ((s.bank (8 * e.p 0 1 + b)).owner ≠ 4 ∧ (s.bank (8 * e.p 0 1 + b)).owner ≠ 5) ∨ (s.bank (8 * e.p 0 1 + b)).hand ≠ none

/-- The image that FW_UPDATE takes: the slot itself with ACTIVATE_ONLY, else the source, decompressed when asked. -/
def updateImage (s : State) (e : Entry) : Option (List Byte) :=
  if (e.p 3 1).testBit 3 then some (s.imageBytes (s.fwTarget (e.p 2 1)))
  else s.loadSource ((e.p 3 1).testBit 1) (bytesAt (s.island (e.p 0 1)).shmem (e.p 1 1 * 0x40000 + e.p 4 4) (e.p 8 4))

theorem bankHeld_false (s : State) (n : Nat) :
    (!s.bankHeld n [4, 5]) = true ↔ ((s.bank n).owner ≠ 4 ∧ (s.bank n).owner ≠ 5) ∨ (s.bank n).hand ≠ none := by
  cases hh : (s.bank n).hand <;> simp [State.bankHeld, hh]

section
variable {s : State} {e : Entry} {tk : Ticket}

theorem fwUpdate_guard : (!(e.p 3 1).testBit 3 && (s.fwTarget (e.p 2 1) == s.sec.start.fw.slot ||
    (srcBanks e).any (fun b => !s.bankHeld (8 * e.p 0 1 + b) [4, 5]))) = true ↔ ¬(e.p 3 1).testBit 3 = true ∧ UpdateBarred s e := by
  simp only [Bool.and_eq_true, Bool.not_eq_true', Bool.not_eq_true, Bool.or_eq_true, beq_iff_eq, List.any_eq_true, UpdateBarred, ← bankHeld_false]

theorem fwUpdate_barred (hall : ¬(e.p 3 1).testBit 3 = true) (hbar : UpdateBarred s e) : s.fwUpdate tk e = s.reply tk stWRONG_STATE [] :=
  if_pos (fwUpdate_guard.mpr ⟨hall, hbar⟩)

variable (hmay : (e.p 3 1).testBit 3 = true ∨ ¬UpdateBarred s e) (hlc : s.lifecycle ≠ 3)
include hmay hlc

theorem fwUpdate_admitted : s.fwUpdate tk e =
    if s.triad.mode = 3 then s.reply tk stDEGRADED []
    else if s.sec.fwJob.isSome then s.reply tk stBUSY []
    else ((if (e.p 3 1).testBit 3 then s else s.srcChecks (8 * e.p 0 1) (srcBanks e) (e.p 1 1 * 0x40000 + e.p 4 4) (e.p 8 4)).replyPending
      tk).updSec (fun x => { x with fwJob := some ⟨tk, s.fwTarget (e.p 2 1), e.p 3 1, updateImage s e⟩ }) := by
  have hguard : ¬(¬(e.p 3 1).testBit 3 = true ∧ UpdateBarred s e) := fun ⟨hall, hbar⟩ => hmay.elim hall (· hbar)
  exact (if_neg (mt fwUpdate_guard.mp hguard)).trans (if_neg hlc)

theorem fwUpdate_degraded (hmode : s.triad.mode = 3) : s.fwUpdate tk e = s.reply tk stDEGRADED [] :=
  (fwUpdate_admitted hmay hlc).trans (if_pos hmode)

theorem fwUpdate_busy (hmode : s.triad.mode ≠ 3) (hjob : s.sec.fwJob ≠ none) : s.fwUpdate tk e = s.reply tk stBUSY [] :=
  ((fwUpdate_admitted hmay hlc).trans (if_neg hmode)).trans (if_pos (Option.isSome_iff_ne_none.mpr hjob))

theorem fwUpdate_job (hmode : s.triad.mode ≠ 3) (hjob : s.sec.fwJob = none) :
    (s.fwUpdate tk e).sec.fwJob = some ⟨tk, s.fwTarget (e.p 2 1), e.p 3 1, updateImage s e⟩ := by
  rw [fwUpdate_admitted hmay hlc, if_neg hmode, hjob, if_neg (by decide)]
  rfl

end

theorem taken_fwTarget (s : State) (m c : Nat) : (taken s m).fwTarget c = s.fwTarget c := by rw [State.fwTarget, taken_sec]; rfl

theorem taken_imageBytes (s : State) (m slot : Nat) : (taken s m).imageBytes slot = s.imageBytes slot := by
  unfold State.imageBytes State.rf State.rget
  rw [taken_sec, taken_regs]

theorem taken_bank (s : State) (m n : Nat) : (taken s m).bank n = s.bank n := by rw [State.bank, taken_mem]; rfl

theorem taken_updateBarred (s : State) (m : Nat) (e : Entry) : UpdateBarred (taken s m) e ↔ UpdateBarred s e := by
  simp only [UpdateBarred, taken_fwTarget, taken_sec, taken_bank]

theorem taken_updateImage (s : State) (m : Nat) (e : Entry) : updateImage (taken s m) e = updateImage s e := by
  unfold updateImage State.loadSource State.island State.rf State.rget
  rw [taken_fwTarget, taken_imageBytes, taken_isl, taken_regs]

theorem updateImage_plain {s : State} {e : Entry} (hall : ¬(e.p 3 1).testBit 3 = true) (hplain : (e.p 3 1).testBit 1 = false) :
    updateImage s e = some (bytesAt (s.island (e.p 0 1)).shmem (e.p 1 1 * 0x40000 + e.p 4 4) (e.p 8 4)) := by
  rw [updateImage, if_neg hall, hplain]
  rfl

/-! ## Its end -/

/-- The state in which an update's job has ended. -/
def jobEnded (s : State) : State := s.updSec (fun x => { x with fwJob := none })

section
variable {s : State} {j : FwJob} {l : List Byte} {good : Bool} (hj : s.sec.fwJob = some j)
include hj

theorem fwDone_noImage (hi : j.image = none) : s.fwDone good = (jobEnded s).reply j.tk stSIG_INVALID [] := by
  simp only [State.fwDone, hj, hi]; rfl

theorem fwDone_image (hi : j.image = some l) : s.fwDone good =
    if !(fwFormat l && s.fwSignedOk l) then ((jobEnded s).sigReport l).reply j.tk stSIG_INVALID []
    else if !s.fwFloorOk l then (jobEnded s).reply j.tk stREFUSED []
    else (jobEnded s).fwProgram j l good := by
  simp only [State.fwDone, hj, hi]; rfl

theorem fwDone_unsigned (hi : j.image = some l) (hbad : (fwFormat l && s.fwSignedOk l) = false) :
    s.fwDone good = ((jobEnded s).sigReport l).reply j.tk stSIG_INVALID [] := by
  rw [fwDone_image hj hi, hbad]; rfl

theorem fwDone_belowFloor (hi : j.image = some l) (hok : (fwFormat l && s.fwSignedOk l) = true)
    (hlow : fieldAt l 12 2 < s.sec.fuses.svnFloor) : s.fwDone good = (jobEnded s).reply j.tk stREFUSED [] := by
  have hfloor : s.fwFloorOk l = false := decide_eq_false (Nat.not_le.mpr hlow)
  rw [fwDone_image hj hi, hok, hfloor]; rfl

theorem fwDone_verified (hi : j.image = some l) (hok : (fwFormat l && s.fwSignedOk l) = true)
    (hfloor : s.sec.fuses.svnFloor ≤ fieldAt l 12 2) : s.fwDone good = (jobEnded s).fwProgram j l good := by
  have hfloorOk : s.fwFloorOk l = true := decide_eq_true hfloor
  rw [fwDone_image hj hi, hok, hfloorOk]; rfl

end

theorem sigReport_sec (s : State) (l : List Byte) : (s.sigReport l).sec = s.sec := by
  unfold State.sigReport
  split
  · exact (evt_only s _ _).2 .sec (by decide)
  · rfl

/-! ## Programming -/

theorem slotBase_beyond (k : Nat) : 0x10000 ≤ slotBase k := by
  unfold slotBase
  split <;> decide

theorem programSlot_reads (s : State) (slot : Nat) {l : List Byte} (hl : l.length ≤ 2097152) :
    flashBytes (s.programSlot slot l).sec.flash (slotBase slot) l.length = l := by
  unfold State.programSlot
  rw [List.take_of_length_le hl]
  exact flashBytes_flashPut_same _ _ _

/-- Programming a slot leaves the directory copies. -/
theorem programSlot_before (s : State) (slot : Nat) (l : List Byte) {n : Nat} (hn : n ≤ 0x10000) :
    flashBytes (s.programSlot slot l).sec.flash 0 n = flashBytes s.sec.flash 0 n :=
  flashBytes_reprogrammed_other (List.length_take_le _ _) (.inl (by have := slotBase_beyond slot; omega))

theorem raiseFloor_flash (s : State) (flags : Nat) (l : List Byte) : (s.raiseFloor flags l).sec.flash = s.sec.flash := by
  unfold State.raiseFloor
  split <;> rfl

theorem raiseFloor_fwJob (s : State) (flags : Nat) (l : List Byte) : (s.raiseFloor flags l).sec.fwJob = s.sec.fwJob := by
  unfold State.raiseFloor
  split <;> rfl

theorem raiseFloor_fuses (s : State) (flags : Nat) (l : List Byte) : (s.raiseFloor flags l).sec.fuses =
    { s.sec.fuses with
      svnFloor := if flags.testBit 2 then max s.sec.fuses.svnFloor (fieldAt l 12 2) else s.sec.fuses.svnFloor } := by
  unfold State.raiseFloor
  split <;> rfl

theorem dirCopy_congr {s t : State} (h : t.sec.flash = s.sec.flash) (k : Nat) : t.dirCopy k = s.dirCopy k := by
  unfold State.dirCopy
  rw [h]

section
variable {s : State} {j : FwJob} {l : List Byte} (hflag : j.flags.testBit 3 = false)

/-- The state after an image that verifies has been programmed, its slot entered in the directory and the floor raised. -/
def updated (s : State) (j : FwJob) (l : List Byte) : State :=
  ((s.programSlot j.target l).writeDirectory j.target (Config.shake256 (fwSigned l) 32) (j.flags.testBit 0)).raiseFloor j.flags l

include hflag

theorem fwProgram_good : s.fwProgram j l true = (updated s j l).finish j.tk stOK [] := by
  unfold State.fwProgram
  rw [hflag]; rfl

theorem fwProgram_bad : s.fwProgram j l false = (s.programSlot j.target l).reply j.tk stHW_FAULT [] := by
  unfold State.fwProgram
  rw [hflag]; rfl

end

section
variable (s : State) {j : FwJob} {l : List Byte} (ht : j.target < 2)
include ht

theorem updated_reads (hl : l.length ≤ 2097152) : flashBytes (updated s j l).sec.flash (slotBase j.target) l.length = l := by
  rw [updated, raiseFloor_flash, writeDirectory_beyond _ _ _ ht _ (Nat.le_trans (by decide) (slotBase_beyond _)), programSlot_reads s _ hl]

theorem updated_directs : ∃ k d, (updated s j l).dirCopy k = some d ∧
    Directs d j.target (Config.shake256 (fwSigned l) 32) (j.flags.testBit 0) :=
  ⟨_, _, (dirCopy_congr (raiseFloor_flash _ _ _) _).trans (writeDirectory_dirCopy _ _ _ ht), newDirectory_directs _ _ _ ht⟩

end

theorem updated_fwJob (s : State) (j : FwJob) (l : List Byte) : (updated s j l).sec.fwJob = s.sec.fwJob := raiseFloor_fwJob _ _ _

theorem updated_fuses (s : State) (j : FwJob) (l : List Byte) : (updated s j l).sec.fuses =
    { s.sec.fuses with
      svnFloor := if j.flags.testBit 2 then max s.sec.fuses.svnFloor (fieldAt l 12 2) else s.sec.fuses.svnFloor } := raiseFloor_fuses _ _ _

end Sys2Proof
end

section
/-! PROOF. The attestation report and its reply (20 R643, R644, R649). -/

namespace Sys2Proof

open Machine

/-! ## The report -/

/-- The report's first 48 bytes: challenge, part, revision, lifecycle, slot, keys and serial number (20 R644). -/
def reportHead (s : State) (ch : List Byte) : List Byte :=
  fitBytes 32 ch ++ leBytes 4 0x0192E1B0 ++ [s.sec.fuses.revision] ++ leBytes 1 s.sec.fuses.state ++ leBytes 1 s.sec.start.fw.slot
    ++ leBytes 1 (s.sec.fuses.programmed.toNat + 16 * s.sec.fuses.revoked.toNat) ++ leBytes 8 s.sec.fuses.serial.toNat

theorem length_reportHead (s : State) (ch : List Byte) : (reportHead s ch).length = 48 := by simp [reportHead]

/-- The rest of its fields: the firmware's measurement and versions, the kernels' measurement and the start (20 R644). -/
def reportTail (s : State) : List Byte :=
  fitBytes 32 s.sec.start.fw.meas ++ (leBytes 4 s.sec.start.fw.ver.toNat ++ (leBytes 2 s.sec.start.fw.svn ++
    (leBytes 2 s.sec.fuses.svnFloor ++ (fitBytes 32 s.kernMeas ++ (leBytes 1 s.sec.start.cause ++ (leBytes 1 0 ++
      (leBytes 2 (s.rf Reg.DEV_START 0 10) ++ leBytes 2 (s.rf Reg.DEV_START 16 16))))))))

theorem attestReport_eq (s : State) (ch : List Byte) : s.attestReport ch = fitBytes 256 (reportHead s ch ++ reportTail s) := by
  simp only [State.attestReport, reportHead, reportTail, List.append_assoc]

theorem window_attestReport (s : State) (ch : List Byte) {i n : Nat} (h : i + n ≤ 48) :
    ((s.attestReport ch).drop i).take n = ((reportHead s ch).drop i).take n := by
  have hlen := length_reportHead s ch
  rw [attestReport_eq, window_fitBytes (by omega) (by rw [List.length_append]; omega), window_append_left (by omega)]

theorem fieldAt_append_leBytes {a : List Byte} {i : Nat} (h : a.length = i) (n v : Nat) : fieldAt (a ++ leBytes n v) i n = v % 256 ^ n := by
  rw [fieldAt, window_append_right h, List.take_of_length_le (Nat.le_of_eq (length_leBytes n v)), leNat_leBytes]

section
variable (s : State) (ch : List Byte)

theorem attestReport_challenge : (s.attestReport ch).take 32 = fitBytes 32 ch := by
  refine (window_attestReport s ch (i := 0) (n := 32) (by decide)).trans ?_
  simp [reportHead]

theorem attestReport_part : fieldAt (s.attestReport ch) 32 4 = 0x0192E1B0 := by
  rw [fieldAt, window_attestReport s ch (by decide), ← fieldAt, reportHead, fieldAt_append_left (by simp), fieldAt_append_left (by simp),
    fieldAt_append_left (by simp), fieldAt_append_left (by simp), fieldAt_append_left (by simp), fieldAt_append_leBytes (by simp),
    Nat.mod_eq_of_lt (by decide)]

theorem attestReport_lifecycle : fieldAt (s.attestReport ch) 37 1 = s.sec.fuses.state % 256 := by
  rw [fieldAt, window_attestReport s ch (by decide), ← fieldAt, reportHead, fieldAt_append_left (by simp), fieldAt_append_left (by simp),
    fieldAt_append_left (by simp), fieldAt_append_leBytes (by simp), Nat.pow_one]

theorem attestReport_serial : fieldAt (s.attestReport ch) 40 8 = s.sec.fuses.serial.toNat := by
  rw [fieldAt, window_attestReport s ch (by decide), ← fieldAt, reportHead, fieldAt_append_leBytes (by simp),
    show 256 ^ 8 = 2 ^ 64 from rfl,
    Nat.mod_eq_of_lt s.sec.fuses.serial.isLt]

theorem length_attestReport : (s.attestReport ch).length = 256 := length_fitBytes _ _

theorem length_identityPublic (k : List Byte) : (identityPublic k).length = 64 := by simp [identityPublic]

/-! ## The result of ATTEST -/

/-- Report, identity public key and signature (20 R649). -/
def attestation : List Byte :=
  s.attestReport ch ++ identityPublic s.sec.idKey ++
    fitBytes 49856 (Config.slhSign s.sec.idKey "ryngo-attest" (s.attestReport ch))

theorem length_attestation : (attestation s ch).length = 50176 := by
  rw [attestation, List.length_append, List.length_append, length_attestReport, length_identityPublic, length_fitBytes]

/-- What stands in the report stands there in the result. -/
theorem window_attestation {i n : Nat} (h : i + n ≤ 256) : ((attestation s ch).drop i).take n = ((s.attestReport ch).drop i).take n := by
  rw [attestation, List.append_assoc, window_append_left (by rw [length_attestReport]; exact h)]

theorem attestation_report : (attestation s ch).take 256 = s.attestReport ch := by
  rw [attestation, List.append_assoc, List.take_left' (length_attestReport s ch)]

theorem attestation_key : ((attestation s ch).drop 256).take 64 = identityPublic s.sec.idKey := by
  rw [attestation, List.append_assoc, window_append_right (length_attestReport s ch), List.take_left' (length_identityPublic _)]

theorem attestation_signature : (attestation s ch).drop 320 =
    fitBytes 49856 (Config.slhSign s.sec.idKey "ryngo-attest" ((attestation s ch).take 256)) := by
  rw [attestation_report, attestation, List.drop_left' (by rw [List.length_append, length_attestReport, length_identityPublic])]

end

/-- The state in which the result of an ATTEST is sent. -/
def attestEnded (s : State) : State := (s.updSec (fun x => { x with attest := none })).evt Reg.SEC_EVT seATTEST_DONE

theorem attestDone_sends {s : State} {tk : Ticket} {ch : List Byte} (h : s.sec.attest = some (tk, ch)) :
    s.attestDone = State.replyParts 24 (attestEnded s) tk (attestation s ch) := by
  simp only [State.attestDone, h]; rfl

theorem attestEnded_attest (s : State) : (attestEnded s).sec.attest = none := by
  rw [attestEnded, (evt_only _ _ _).2 .sec (by decide)]; rfl

theorem attestEnded_event (s : State) : EventSet (attestEnded s) Reg.SEC_EVT 0 := evt_sets _ _ _ 0 (by decide) (by decide)

theorem attest_busy {s : State} {tk : Ticket} {e : Entry} (h : s.sec.attest ≠ none) : s.attest tk e = s.reply tk stBUSY [] :=
  if_pos (Option.isSome_iff_ne_none.mpr h)

theorem attest_begins {s : State} {tk : Ticket} {e : Entry} (h : s.sec.attest = none) :
    (s.attest tk e).sec.attest = some (tk, leBytes 32 (e.p 0 32)) := by
  rw [State.attest, h, if_neg (by decide)]; rfl

end Sys2Proof
end

section
/-! PROOF. Keys: revocation, burns and the signatures of a revoked slot (20 R640, R641, R650). -/

namespace Sys2Proof

open Machine

/-! ## KEY_REVOKE -/

section
variable {s : State} {tk : Ticket} {e : Entry}

theorem revokeOk_iff : s.revokeOk e = true ↔
    e.p 0 1 ≤ 3 ∧ e.p 1 1 + e.p 0 1 = 255 ∧ e.p 2 6 = 0 ∧ leBytes 8 (e.p 8 8) = (s.keyHash (e.p 0 1)).take 8 := by
  simp [State.revokeOk, Entry.zero, and_assoc]

theorem taken_revokeOk (s : State) (m : Nat) (e : Entry) : (taken s m).revokeOk e = s.revokeOk e := by
  unfold State.revokeOk State.keyHash
  rw [taken_sec]

theorem revoke_unprogrammed (h : s.sec.fuses.programmed.getLsbD (e.p 0 1) = false) : s.revoke tk e = s.reply tk stWRONG_STATE [] :=
  if_pos h

variable (hp : s.sec.fuses.programmed.getLsbD (e.p 0 1) = true)
include hp

theorem revoke_running (hk : s.sec.start.fw.keySlot = e.p 0 1) : s.revoke tk e = s.reply tk stREFUSED [] :=
  (if_neg (by rw [hp]; decide)).trans (if_pos hk)

variable (hk : s.sec.start.fw.keySlot ≠ e.p 0 1)
include hk

theorem revoke_degraded (hm : s.triad.mode = 3) : s.revoke tk e = s.reply tk stDEGRADED [] :=
  ((if_neg (by rw [hp]; decide)).trans (if_neg hk)).trans (if_pos hm)

variable (hm : s.triad.mode ≠ 3)
include hm

theorem revoke_again (hr : s.sec.fuses.revoked.getLsbD (e.p 0 1) = true) : s.revoke tk e = s.reply tk stOK [] :=
  (((if_neg (by rw [hp]; decide)).trans (if_neg hk)).trans (if_neg hm)).trans (if_pos hr)

theorem revoke_burns (hr : s.sec.fuses.revoked.getLsbD (e.p 0 1) = false) :
    (s.revoke tk e).sec.burns = s.sec.burns ++ [⟨.revoke (e.p 0 1), s.now + 30000000, some tk⟩] := by
  have hrevoke : s.revoke tk e = (s.replyPending tk).burn (.revoke (e.p 0 1)) (some tk) :=
    (((if_neg (by rw [hp]; decide)).trans (if_neg hk)).trans (if_neg hm)).trans (if_neg (by rw [hr]; decide))
  have hsec : (s.replyPending tk).sec = s.sec := reply_sec s tk _ _
  have hnow : (s.replyPending tk).now = s.now := reply_now s tk _ _
  rw [hrevoke, ← hsec, ← hnow]
  rfl

end

/-! ## The end of a burn -/

/-- The fuses and the burns that wait after the oldest burn has ended. -/
def burnEnded (s : State) (b : Burn) (rest : List Burn) : State :=
  (s.updSec (fun x => { x with burns := rest, fuses := x.fuses.burnt b.what })).evt Reg.SEC_EVT
    (seFUSE_DONE ||| (match b.what with | .revoke _ => seREVOKED | .slot _ _ => 0))

section
variable {s : State} {b : Burn} {rest : List Burn}

theorem burnEnded_sec : (burnEnded s b rest).sec = { s.sec with burns := rest, fuses := s.sec.fuses.burnt b.what } :=
  (evt_only _ _ _).2 .sec (by decide)

theorem burnEnded_eng : (burnEnded s b rest).eng = s.eng := (evt_only _ _ _).2 .eng (by decide)

theorem burnEnded_done : EventSet (burnEnded s b rest) Reg.SEC_EVT 1 :=
  evt_sets _ _ _ 1 (by decide) (by rw [Nat.testBit_or, show seFUSE_DONE.testBit 1 = true from rfl, Bool.true_or])

theorem burnEnded_revoked {k : Nat} (hw : b.what = .revoke k) : EventSet (burnEnded s b rest) Reg.SEC_EVT 4 :=
  evt_sets _ _ _ 4 (by decide) (by rw [hw, Nat.testBit_or, show seREVOKED.testBit 4 = true from rfl, Bool.or_true])

variable (hb : s.sec.burns = b :: rest) (hdue : b.due ≤ s.now)
include hb hdue

theorem burnDone_command {tk : Ticket} (htk : b.tk = some tk) : s.burnDone = (burnEnded s b rest).finish tk stOK [] := by
  simp only [State.burnDone, hb, if_neg (Nat.not_lt.mpr hdue), htk]
  rfl

theorem burnDone_register (htk : b.tk = none) : s.burnDone = burnEnded s b rest := by
  simp only [State.burnDone, hb, if_neg (Nat.not_lt.mpr hdue), htk]
  rfl

end

/-! ## Key slots -/

theorem burnt_slot_same (f : Fuses) (k : Nat) (h : List Byte) :
    mget (List.replicate 32 0) (f.burnt (.slot k h)).slots k = h := mget_mput_same _ _ _ _

theorem burnt_slot_other (f : Fuses) {j k : Nat} (h : List Byte) (hj : j ≠ k) :
    mget (List.replicate 32 0) (f.burnt (.slot k h)).slots j = mget (List.replicate 32 0) f.slots j := mget_mput_other _ _ _ hj

theorem keyHash_fused (s : State) {k : Nat} (hk : k < 4) : s.keyHash k = mget (List.replicate 32 0) s.sec.fuses.slots k :=
  if_neg (by omega)

/-- A revoked slot may not sign (20 R639). -/
theorem keyUsable_revoked {s : State} {k : Nat} (hk : k < 4) (hr : s.sec.fuses.revoked.getLsbD k = true) : s.keyUsable k = false := by
  have hroot : (k == 0xFF) = false := beq_false_of_ne (by omega)
  rw [State.keyUsable, hroot, hr, Bool.not_true, Bool.and_false, Bool.or_false]

theorem verifies_revoked {s : State} {k : Nat} (hk : k < 4) (hr : s.sec.fuses.revoked.getLsbD k = true) (ctx : String)
    (key msg sig : List Byte) : s.verifies ctx k key msg sig = false := by
  rw [State.verifies, keyUsable_revoked hk hr, Bool.false_and, Bool.false_and]

end Sys2Proof
end

section
/-! PROOF. Firmware, keys and fuses together (20 R638 to R650). -/

namespace Sys2Proof

open Machine

/-! ## Commands in turn -/

theorem Admitted.taken_lifecycle_ne {s : State} {m op : Nat} (h : Admitted s m op) : (taken s m).lifecycle ≠ 3 := by
  obtain ⟨-, -, hlc, -⟩ := h
  rwa [taken_lifecycle]

section
variable {s : State} {m : Master}

theorem exec_fwUpdate (h : Admitted s m.val 0x0D01) (hl : (entryOf s m.val).len = 2) (hok : s.fwUpdateOk (entryOf s m.val) = true) :
    exec (.fwUpdate m) s =
      .next (((taken s m.val).fwUpdate (ticketOf s m.val) (entryOf s m.val)).keepTurn (ticketOf s m.val)) :=
  congrArg Host.Outcome.next (runCmd_admitted (c := cFwUpdate) h (beq_iff_eq.mpr hl) hok)

theorem exec_attest (h : Admitted s m.val 0x0D02) (hl : (entryOf s m.val).len = 4) :
    exec (.attest m) s = .next (((taken s m.val).attest (ticketOf s m.val) (entryOf s m.val)).keepTurn (ticketOf s m.val)) :=
  congrArg Host.Outcome.next (runCmd_admitted (c := cAttest) h (beq_iff_eq.mpr hl) rfl)

theorem exec_keyRevoke (h : Admitted s m.val 0x0D03) (hl : (entryOf s m.val).len = 2) (hok : s.revokeOk (entryOf s m.val) = true) :
    exec (.keyRevoke m) s = .next (((taken s m.val).revoke (ticketOf s m.val) (entryOf s m.val)).keepTurn (ticketOf s m.val)) :=
  congrArg Host.Outcome.next
    (runCmd_admitted (c := cKeyRevoke) h (beq_iff_eq.mpr hl) ((taken_revokeOk s m.val _).trans hok))

theorem exec_keyRevoke_badParam (h : Admitted s m.val 0x0D03) (hl : (entryOf s m.val).len = 2)
    (hbad : s.revokeOk (entryOf s m.val) = false) :
    exec (.keyRevoke m) s = .next (((taken s m.val).reply (ticketOf s m.val) stBAD_PARAM []).keepTurn (ticketOf s m.val)) :=
  congrArg Host.Outcome.next
    (runCmd_badParam (c := cKeyRevoke) h (beq_iff_eq.mpr hl) ((taken_revokeOk s m.val _).trans hbad))

/-- A command whose effect on the state in which it is taken is its reply leaves keys, flash and fuses. -/
theorem answersNow_reply {i : Instr} {t : State} {st : Nat} (hexec : exec i s = .next (t.keepTurn (ticketOf s m.val)))
    (ht : t = (taken s m.val).reply (ticketOf s m.val) st []) :
    AnswersNow i s m.val st (fun u res => res = [] ∧ u.sec = s.sec) :=
  ⟨_, hexec, taken s m.val, [], congrArg (State.keepTurn · (ticketOf s m.val)) ht, rfl, taken_sec s m.val⟩

end

/-! ## FW_UPDATE -/

section
variable {s : State} {m : Master} (h : Admitted s m.val 0x0D01) (hl : (entryOf s m.val).len = 2)
  (hok : s.fwUpdateOk (entryOf s m.val) = true)
include h hl hok

theorem fwUpdate_answersWrongState (hall : ¬((entryOf s m.val).p 3 1).testBit 3 = true) (hbar : UpdateBarred s (entryOf s m.val)) :
    AnswersNow (.fwUpdate m) s m.val stWRONG_STATE (fun u res => res = [] ∧ u.sec = s.sec) :=
  answersNow_reply (exec_fwUpdate h hl hok) (fwUpdate_barred hall ((taken_updateBarred s _ _).mpr hbar))

variable (hmay : ((entryOf s m.val).p 3 1).testBit 3 = true ∨ ¬UpdateBarred s (entryOf s m.val))
include hmay

theorem fwUpdate_answersDegraded (hmode : s.triad.mode = 3) :
    AnswersNow (.fwUpdate m) s m.val stDEGRADED (fun u res => res = [] ∧ u.sec = s.sec) := by
  have hfree := hmay.imp_right (mt (taken_updateBarred s m.val _).mp)
  exact answersNow_reply (exec_fwUpdate h hl hok)
    (fwUpdate_degraded hfree h.taken_lifecycle_ne ((taken_mode s _).trans hmode))

theorem fwUpdate_answersBusy (hmode : s.triad.mode ≠ 3) (hjob : s.sec.fwJob ≠ none) :
    AnswersNow (.fwUpdate m) s m.val stBUSY (fun u res => res = [] ∧ u.sec = s.sec) := by
  have hfree := hmay.imp_right (mt (taken_updateBarred s m.val _).mp)
  exact answersNow_reply (exec_fwUpdate h hl hok)
    (fwUpdate_busy hfree h.taken_lifecycle_ne (by rwa [taken_mode]) (by rwa [taken_sec]))

/-- The job that FW_UPDATE begins: its ticket, target and flags, and the image as it stands when the command is executed. -/
theorem fwUpdate_begins (hmode : s.triad.mode ≠ 3) (hjob : s.sec.fwJob = none) :
    Completes (.fwUpdate m) s (fun t => t.sec.fwJob = some
      ⟨ticketOf s m.val, s.fwTarget ((entryOf s m.val).p 2 1), (entryOf s m.val).p 3 1, updateImage s (entryOf s m.val)⟩) := by
  have hfree := hmay.imp_right (mt (taken_updateBarred s m.val _).mp)
  refine ⟨_, exec_fwUpdate h hl hok, ?_⟩
  dsimp only
  rw [keepTurn_sec, fwUpdate_job hfree h.taken_lifecycle_ne (by rwa [taken_mode])
    (by rwa [taken_sec]), taken_fwTarget, taken_updateImage]

end

/-! ## FW_UPDATE's end -/

section
variable {s : State} {j : FwJob} {l : List Byte} {good : Bool}

/-- An update that changes neither flash nor fuses ends with a reply of its status. -/
theorem fwUpdateDone_unchanged {u : State} {st : Nat} (hdone : s.fwDone good = u.reply j.tk st []) (hu : u.sec = (jobEnded s).sec) :
    Completes (.fwUpdateDone good) s (fun t => ∃ u : State, t = u.reply j.tk st [] ∧ u.sec.fwJob = none ∧
      u.sec.flash = s.sec.flash ∧ u.sec.fuses = s.sec.fuses) :=
  ⟨_, rfl, u, hdone, by rw [hu]; exact ⟨rfl, rfl, rfl⟩⟩

variable (hj : s.sec.fwJob = some j) (hi : j.image = some l) (hok : (fwFormat l && s.fwSignedOk l) = true)
  (hfloor : s.sec.fuses.svnFloor ≤ fieldAt l 12 2) (hflag : j.flags.testBit 3 = false)
include hj hi hok hfloor hflag

theorem fwUpdateDone_good (ht : j.target < 2) (hl : l.length ≤ 2097152) :
    Finishes (.fwUpdateDone true) s j.tk stOK (fun u res => res = [] ∧ u.sec.fwJob = none ∧
      flashBytes u.sec.flash (slotBase j.target) l.length = l ∧
      u.sec.fuses = { s.sec.fuses with
        svnFloor := if j.flags.testBit 2 then max s.sec.fuses.svnFloor (fieldAt l 12 2) else s.sec.fuses.svnFloor } ∧
      ∃ k d, u.dirCopy k = some d ∧ Directs d j.target (Config.shake256 (fwSigned l) 32) (j.flags.testBit 0)) :=
  ⟨_, rfl, updated (jobEnded s) j l, [], (fwDone_verified hj hi hok hfloor).trans (fwProgram_good hflag), rfl,
    updated_fwJob _ _ _, updated_reads _ ht hl, updated_fuses _ _ _, updated_directs _ ht⟩

theorem fwUpdateDone_bad : Completes (.fwUpdateDone false) s (fun t => ∃ u : State, t = u.reply j.tk stHW_FAULT [] ∧
    u.sec.fuses = s.sec.fuses ∧ flashBytes u.sec.flash 0 8192 = flashBytes s.sec.flash 0 8192) :=
  ⟨_, rfl, (jobEnded s).programSlot j.target l, (fwDone_verified hj hi hok hfloor).trans (fwProgram_bad hflag), rfl,
    programSlot_before _ _ _ (by decide)⟩

end

/-! ## KEY_REVOKE -/

section
variable {s : State} {m : Master} (h : Admitted s m.val 0x0D03) (hl : (entryOf s m.val).len = 2)
include h hl

theorem keyRevoke_answersBadParam (hbad : s.revokeOk (entryOf s m.val) = false) :
    AnswersNow (.keyRevoke m) s m.val stBAD_PARAM (fun u res => res = [] ∧ u.sec = s.sec) :=
  answersNow_reply (exec_keyRevoke_badParam h hl hbad) rfl

variable (hok : s.revokeOk (entryOf s m.val) = true)
include hok

theorem keyRevoke_answersWrongState (hp : s.sec.fuses.programmed.getLsbD ((entryOf s m.val).p 0 1) = false) :
    AnswersNow (.keyRevoke m) s m.val stWRONG_STATE (fun u res => res = [] ∧ u.sec = s.sec) :=
  answersNow_reply (exec_keyRevoke h hl hok) (revoke_unprogrammed (by rwa [taken_sec]))

variable (hp : s.sec.fuses.programmed.getLsbD ((entryOf s m.val).p 0 1) = true)
include hp

theorem keyRevoke_answersRefused (hk : s.sec.start.fw.keySlot = (entryOf s m.val).p 0 1) :
    AnswersNow (.keyRevoke m) s m.val stREFUSED (fun u res => res = [] ∧ u.sec = s.sec) :=
  answersNow_reply (exec_keyRevoke h hl hok) (revoke_running (by rwa [taken_sec]) (by rwa [taken_sec]))

variable (hk : s.sec.start.fw.keySlot ≠ (entryOf s m.val).p 0 1)
include hk

theorem keyRevoke_answersDegraded (hmode : s.triad.mode = 3) :
    AnswersNow (.keyRevoke m) s m.val stDEGRADED (fun u res => res = [] ∧ u.sec = s.sec) :=
  answersNow_reply (exec_keyRevoke h hl hok)
    (revoke_degraded (by rwa [taken_sec]) (by rwa [taken_sec]) ((taken_mode s _).trans hmode))

variable (hmode : s.triad.mode ≠ 3)
include hmode

/-- A slot that is revoked already stays as it is (20 R650). -/
theorem keyRevoke_answersOk (hr : s.sec.fuses.revoked.getLsbD ((entryOf s m.val).p 0 1) = true) :
    AnswersNow (.keyRevoke m) s m.val stOK (fun u res => res = [] ∧ u.sec = s.sec) :=
  answersNow_reply (exec_keyRevoke h hl hok) (revoke_again (by rwa [taken_sec]) (by rwa [taken_sec])
    (by rwa [taken_mode]) (by rwa [taken_sec]))

theorem keyRevoke_burns (hr : s.sec.fuses.revoked.getLsbD ((entryOf s m.val).p 0 1) = false) :
    Completes (.keyRevoke m) s (fun t => t.sec.burns =
      s.sec.burns ++ [⟨.revoke ((entryOf s m.val).p 0 1), s.now + 30000000, some (ticketOf s m.val)⟩]) := by
  refine ⟨_, exec_keyRevoke h hl hok, ?_⟩
  dsimp only
  rw [keepTurn_sec, revoke_burns (by rwa [taken_sec]) (by rwa [taken_sec]) (by rwa [taken_mode])
    (by rwa [taken_sec]), taken_sec, (taken_only s m.val).now_eq (by decide)]

end

/-! ## FUSE_BURN_DONE -/

section
variable {s : State} {b : Burn} {rest : List Burn} (hb : s.sec.burns = b :: rest) (hdue : b.due ≤ s.now) {k : Nat}
include hb hdue

theorem fuseBurnDone_revokes {tk : Ticket} (hw : b.what = .revoke k) (htk : b.tk = some tk) :
    Finishes .fuseBurnDone s tk stOK (fun u res => res = [] ∧ u.sec.burns = rest ∧
      u.sec.fuses.revoked = s.sec.fuses.revoked ||| BitVec.ofNat 4 (2 ^ k) ∧ u.eng = s.eng ∧
      EventSet u Reg.SEC_EVT 1 ∧ EventSet u Reg.SEC_EVT 4) := by
  refine ⟨_, rfl, burnEnded s b rest, [], burnDone_command hb hdue htk, rfl, ?_, ?_, burnEnded_eng, burnEnded_done, burnEnded_revoked hw⟩
  · rw [burnEnded_sec]
  · rw [burnEnded_sec, hw]; rfl

theorem fuseBurnDone_programs {hash : List Byte} (hk : k < 4) (hw : b.what = .slot k hash) (htk : b.tk = none) :
    Completes .fuseBurnDone s (fun t => t.sec.burns = rest ∧
      t.sec.fuses.programmed = s.sec.fuses.programmed ||| BitVec.ofNat 4 (2 ^ k) ∧ t.keyHash k = hash ∧
      (∀ j, j < 4 → j ≠ k → t.keyHash j = s.keyHash j) ∧ t.sec.fuses.revoked = s.sec.fuses.revoked ∧ EventSet t Reg.SEC_EVT 1) := by
  refine ⟨burnEnded s b rest, congrArg Host.Outcome.next (burnDone_register hb hdue htk), ?_, ?_, ?_, fun j hj hjk => ?_, ?_, burnEnded_done⟩
  · rw [burnEnded_sec]
  · rw [burnEnded_sec, hw]; rfl
  · rw [keyHash_fused _ hk, burnEnded_sec, hw]
    exact burnt_slot_same _ _ _
  · rw [keyHash_fused _ hj, keyHash_fused _ hj, burnEnded_sec, hw]
    exact burnt_slot_other _ _ hjk
  · rw [burnEnded_sec, hw]; rfl

end

/-! ## The statement -/

/-- Settles O56: each answer is a branch of the command's own checks, and an image that has been programmed is read back because the write
of the directory lies outside its slot. -/
theorem firmwareAndKeys : Obligations.FirmwareAndKeys := by
  unfold Obligations.FirmwareAndKeys
  intro m good s
  refine ⟨fun h hl hok => ?update, fun j hj => ?updateDone, fun h hl => ?attest, fun tk ch ha => ?attestDone,
    fun h hl hk hz hbad => ?badParam, fun h hl hk hz hsum hhash => ?revoke, fun b rest hb hdue => ?burn, fun k l hk hr => ?revoked⟩
  case update =>
    refine ⟨fwUpdate_answersWrongState h hl hok, fwUpdate_answersDegraded h hl hok, fwUpdate_answersBusy h hl hok,
      fun hmay hmode hjob => ?_⟩
    obtain ⟨t, ht, hstarted⟩ := fwUpdate_begins h hl hok hmay hmode hjob
    exact ⟨t, ht, _, hstarted, rfl, rfl, rfl, fun honly => if_pos honly, fun hall hplain => updateImage_plain hall hplain⟩
  case updateDone =>
    refine ⟨fun hi => fwUpdateDone_unchanged (fwDone_noImage hj hi) rfl,
      fun l hi hbad => fwUpdateDone_unchanged (fwDone_unsigned hj hi hbad) (sigReport_sec _ _),
      fun l hi hok => ⟨fun hlow => fwUpdateDone_unchanged (fwDone_belowFloor hj hi hok hlow) rfl,
        fun hfloor hflag ht hl => ⟨fun hgood => ?_, fun hbad => ?_⟩⟩⟩
    · subst hgood
      exact fwUpdateDone_good hj hi hok hfloor hflag ht hl
    · subst hbad
      exact fwUpdateDone_bad hj hi hok hfloor hflag
  case attest =>
    refine ⟨fun hbusy => answersNow_reply (exec_attest h hl) (attest_busy (by rwa [taken_sec])),
      fun hfree => ⟨_, exec_attest h hl, ?_⟩⟩
    dsimp only
    rw [keepTurn_sec, attest_begins (by rwa [taken_sec])]
  case attestDone =>
    refine ⟨_, rfl, attestEnded s, attestation s ch, attestEnded_attest s, attestEnded_event s, attestDone_sends ha,
      length_attestation s ch, ?_, ?_, ?_, ?_, attestation_key s ch, attestation_signature s ch⟩
    · exact (window_attestation s ch (i := 0) (by decide)).trans (attestReport_challenge s ch)
    · exact (congrArg leNat (window_attestation s ch (by decide))).trans (attestReport_part s ch)
    · exact (congrArg leNat (window_attestation s ch (by decide))).trans (attestReport_lifecycle s ch)
    · exact (congrArg leNat (window_attestation s ch (by decide))).trans (attestReport_serial s ch)
  case badParam =>
    refine keyRevoke_answersBadParam h hl (Bool.eq_false_iff.mpr fun hok => ?_)
    obtain ⟨-, hsum, -, hhash⟩ := revokeOk_iff.mp hok
    exact hbad.elim (· hsum) (· hhash)
  case revoke =>
    have hok := revokeOk_iff.mpr ⟨hk, hsum, hz, hhash⟩
    exact ⟨keyRevoke_answersWrongState h hl hok, keyRevoke_answersRefused h hl hok, keyRevoke_answersDegraded h hl hok,
      fun hp hslot hmode => ⟨keyRevoke_answersOk h hl hok hp hslot hmode, keyRevoke_burns h hl hok hp hslot hmode⟩⟩
  case burn =>
    exact ⟨fun k tk _ hw htk => fuseBurnDone_revokes hb hdue hw htk, fun k hash hk hw htk => fuseBurnDone_programs hb hdue hk hw htk⟩
  case revoked =>
    refine ⟨fun hfw => ?_, fun hkern => ?_⟩
    · rw [State.fwSignedOk, hfw, verifies_revoked hk hr]
    · rw [State.kernelVerifies, hkern, verifies_revoked hk hr]

end Sys2Proof
end
